-- ==== Sys2Proof/Word.lean ====
section
/-!
DEFINITION. The words of the machine and the shape of its register map: a 32-bit register word, a byte, the place of a
field in a register, the access classes of R9, and a register family (one register, or an indexed run of them).
-/

namespace Sys2Proof

/-- A 32-bit device register. -/
abbrev Word := BitVec 32

/-- One byte of the Serai, of a Drover's local RAM or of the flash. -/
abbrev Byte := BitVec 8

/-- A field of a register: the register's place in the block address map, the field's lowest bit and its width. -/
structure Field where
  off : Nat
  lo : Nat
  w : Nat
  deriving DecidableEq, Repr

/-- The access classes of R9 (00_scope.md). -/
inductive Access where
  /-- read only -/
  | ro
  /-- live -/
  | rwl
  /-- staged to the next slot tick -/
  | rwt
  /-- staged to the next superframe start -/
  | rws
  /-- frozen while the block runs -/
  | rwf
  /-- write 1 to clear -/
  | w1c
  /-- command: reads 0 -/
  | wc
  deriving DecidableEq, Repr

/-- One field of a register as the tables of the spec give it: bits, class and reset value. -/
structure FieldSpec where
  lo : Nat
  w : Nat
  acc : Access
  reset : Nat
  deriving DecidableEq, Repr

/-- A register, or a run of them indexed once or twice: base, then stride and count of the outer and inner index. -/
structure RegFam where
  base : Nat
  s1 : Nat
  c1 : Nat
  s2 : Nat
  c2 : Nat
  fields : List FieldSpec
  deriving DecidableEq, Repr

end Sys2Proof
end

