-- ==== Sys2Proof/Syntax.lean ====
section
/-!
DEFINITION. The commands of the CN812 block, one constructor per row of spec/opcode_table.json, with their operands: what
the host, a Drover, another chip, a pin or the air brings to the block. Operand `dt` of a command is the time in quarter
grains of the timebase (31.25 ns) that has passed since the command before it.
-/

namespace Sys2Proof

/-- Who makes a register access: host software, Drover `n`, or another chip of the Caravan (an RWR packet). -/
inductive Writer where
  | host
  | drover (n : Fin 12)
  | remote
  deriving DecidableEq, Repr

/-- The space a host access names (R327): this chip's own space, the Caravan window, the MSI-X and doorbell BAR, or the
MSI-X message control word of configuration space. -/
inductive Space where
  | bar0
  | bar2
  | bar4
  | cfg
  deriving DecidableEq, Repr

/-- The strap pins as they stand when latched (R443). -/
structure Straps where
  host : Fin 4
  boot : Bool
  tandem : Bool
  deriving DecidableEq, Repr

/-- The body of a Caravan broadcast (16_caravan.md: Manifest arming, GO, CANCEL and the like). -/
inductive Bcast where
  /-- arm a Manifest switch to superframe T -/
  | arm (t : Nat)
  | go
  /-- cancel, with the cause of MAN_SWITCH_STAT and the lowest chip missing -/
  | cancel (cause missing : Nat)
  deriving DecidableEq, Repr

/-- A Caravan packet (16_caravan.md), by what it carries. -/
inductive Packet where
  /-- TICK: TTT in ns, then the ASN, SFN and slot index of the slot that the tick begins, and the lead's SF_SLOTLEN and SF_SFLEN -/
  | tick (ttt asn sfn slot slotlen sflen : Nat)
  /-- ENUM: the next index and the count -/
  | enum (next count : Nat)
  | ping
  | rwr (addr : Nat) (v : Word)
  | rrd (addr : Nat)
  | rcpl (v : Word)
  | bcast (b : Bcast)
  | barq
  | bara (ready : Bool)
  | snap (asn : Nat)
  | reset
  | hbeat
  | link (port : Nat) (up : Bool)
  /-- SDATA: an aperture read of `len` bytes, or a write -/
  | sread (addr len : Nat)
  | swrite (addr : Nat) (bytes : List Byte)
  | image (off : Nat) (bytes : List Byte)
  deriving DecidableEq, Repr

/-- The header of a ring packet as it arrives (16_caravan.md): the port it comes in at (0 east, 1 west), ORIGIN, DEST, HOPS and
SEQ; `fails` is the number of copies before it whose CRC failed. -/
structure PktHead where
  port : Fin 2
  origin : Nat
  dest : Nat
  hops : Nat
  seq : Nat
  fails : Nat
  deriving DecidableEq, Repr

/-- The coming of a ring packet: the time since the command before it, and its header. -/
structure Arrival where
  dt : Nat
  head : PktHead
  deriving DecidableEq, Repr

/-- What a receive port measured in the slot that a tick ends: samples at full scale and mean power in quarter dB relative
to full scale, without and with the samples taken while an output of its band was busy (R122), and its mean power over
the last 16 slots. -/
structure PortIn where
  clip : Nat
  power : Int
  clipAll : Nat
  powerAll : Int
  mean16 : Int
  deriving DecidableEq, Repr

/-- What the chip senses at a tick: ports 0 to 15, mean and peak power of channels 0 to 79 in quarter dBm (R107), and
whether TDM_OWN is low. -/
structure TickIn where
  ports : List PortIn
  chpwr : List (Int × Int)
  ownLow : Bool
  deriving DecidableEq, Repr

/-- A JTAG instruction, by what it reaches (R351, R352). -/
inductive Jtag where
  | idcode
  | bypass
  | sample
  | extest
  /-- register and Serai access -/
  | access
  /-- the production scan -/
  | scan
  deriving DecidableEq, Repr

/-- The commands. -/
inductive Instr where
  /-- REGISTER_WRITE (R9): A host or Drover write to a register that has no row of its own, applied to each field by its access class. -/
  | registerWrite (dt : Nat) (who : Writer) (sp : Space) (addr : Nat) (v : Word)
  /-- RING_INDEX_WRITE (R454): A write of a ring WR or RD index; a value of LEN or above is discarded whole and sets SYS_ERR.RINGIDX. -/
  | ringIndexWrite (dt : Nat) (who : Writer) (addr : Nat) (v : Word)
  /-- UNSUPPORTED_REQUEST (R325): A register access that is not an aligned 32-bit access completes with Unsupported Request and is counted in HST_CNT_3. -/
  | unsupportedRequest (dt : Nat) (addr len : Nat)
  /-- SLOT_TICK (R22): The grain count wraps to 0; the Tally advances, staged writes are applied and seals are judged. -/
  | slotTick (inp : TickIn)
  /-- TICK_SEAL (R18): A Drover seal closes preparation or retirement work if it is in time and carries the right ASN8. -/
  | tickSeal (dt : Nat) (d : Fin 12) (v : Word)
  /-- REFERENCE_LOSS (R14): REFCLK stops or departs from 40 MHz by more than 200 ppm, which is detected within 10 µs. -/
  | referenceLoss (dt : Nat)
  /-- PPS_EDGE (R16): A rising edge on PPS_IN captures the Tally into bank 14, measures the phase error and steers the timebase. -/
  | ppsEdge (dt : Nat)
  /-- PPS_MISSING (R16): Three consecutive expected PPS edges are missing, so the lock state enters HOLDOVER and PPSLOST is set. -/
  | ppsMissing (dt : Nat)
  /-- TICK_TRIM_WRITE (R17): A write of TICK_TRIM sets the timebase trim while SRC is 0 and is ignored otherwise. -/
  | tickTrimWrite (dt : Nat) (who : Writer) (v : Word)
  /-- TICK_SLEW_REQUEST (R16): A write of TICK_SLEW.REQ adds a phase change, which is slewed at no more than 2 ppm. -/
  | tickSlewRequest (dt : Nat) (who : Writer) (v : Word)
  /-- TICK_CAPTURE (R26): TICK_CAPTURE.GO latches the whole Tally into the writer's capture bank. -/
  | tickCapture (dt : Nat) (who : Writer)
  /-- TICK_LOAD (R25): TICK_LOAD.GO loads the Tally for the next slot, or is refused with LOADREF. -/
  | tickLoad (dt : Nat)
  /-- TICK_CLRCNT (R9): TICK_CTL.CLRCNT clears TICK_MISS_n, TICK_CANCEL and the PPS outlier count. -/
  | tickClrcnt (dt : Nat)
  /-- MODE_REQUEST (R32): A host mode request through SYS_MODE_REQ.GO is accepted or refused as BADMODE or BUSY. -/
  | modeRequest (dt : Nat) (who : Writer) (v : Word)
  /-- MODE_CHANGE (R31): A mode change takes effect, at a tick or as soon as its condition is met. -/
  | modeChange (dt : Nat) (low : Bool)
  /-- EMERGENCY_STOP (R83): An emergency stop takes effect at a tick: field transmission is cut and items staged for that slot are cancelled. -/
  | emergencyStop (dt : Nat) (low : Bool)
  /-- SURVEY_END (R32): The LISTEN survey duration elapses and the chip returns to STANDBY. -/
  | surveyEnd (dt : Nat)
  /-- POWER_ON_RESET (R34): A core, SRAM or analogue rail falls below its power-on threshold and resets the whole chip, the LOG bay included. -/
  | powerOnReset (dt : Nat)
  /-- PIN_RESET (R34): RSTN held low for at least 1 µs resets the whole chip and keeps the LOG bay. -/
  | pinReset (dt : Nat)
  /-- SOFT_RESET (R34): A write of SYS_RESET with KEY 0x6A3C resets the whole chip. -/
  | softReset (dt : Nat) (who : Writer) (v : Word)
  /-- CARAVAN_RESET (R295): A RESET packet of a reset wave resets the chip and records CARAVAN. -/
  | caravanReset (a : Arrival)
  /-- PERSTN (R343): PERSTN resets the PCIe endpoint and the HST link state only, clearing the MSI-X table and the pending array. -/
  | perstn (dt : Nat) (speed width : Nat)
  /-- FUNCTION_LEVEL_RESET (R326): A Function Level Reset acts as PERSTN does. -/
  | functionLevelReset (dt : Nat) (speed width : Nat)
  /-- RESET_RELEASE (R34): The last reset source is released and the reset sequence begins. -/
  | resetRelease (dt : Nat) (pins : Straps)
  /-- RESET_SEQUENCE_COMPLETE (R34): Once the PLLs have locked and the sequence is done, Drover 0 is released and the mode becomes BOOT. -/
  | resetSequenceComplete (dt : Nat)
  /-- HANDLER_TMO (R40): The active fault is not acknowledged in time, or no Drover holds the fault role, so fault 0x11 is raised. -/
  | handlerTmo (dt : Nat)
  /-- FAULT_ACK (R38): SYS_FAULT_ACK.GO clears the active fault and promotes the pending one. -/
  | faultAck (dt : Nat)
  /-- SAFE_ENTRY (R42): Transmitters, COEX and TDM_OWN are turned off, Serai writes are blocked and every Drover enters its fault vector. -/
  | safeEntry (dt : Nat)
  /-- SYS_CLRLOST (R9): SYS_FAULT_CFG.CLRLOST clears SYS_FAULT_LOST. -/
  | sysClrlost (dt : Nat)
  /-- MAN_CHECK (R45): MAN_LOAD.CHECK starts the check of the shadow Manifest. -/
  | manCheck (dt : Nat)
  /-- MAN_CHECK_DONE (R45): The shadow check ends as VERIFIED or REFUSED, after waiting at SCOPE for an index if it must. -/
  | manCheckDone (dt : Nat)
  /-- MAN_ACTIVATE (R49): MAN_LOAD.ACTIVATE exchanges the slots in CONFIGURE and sets up the bays. -/
  | manActivate (dt : Nat)
  /-- MAN_DISCARD (R48): MAN_LOAD.DISCARD returns the shadow to EMPTY unless it is CHECKING or a switch is armed. -/
  | manDiscard (dt : Nat)
  /-- MAN_SWITCH_ARM (R50): On the lead, arms a Manifest switch to SFN T and broadcasts the arming. -/
  | manSwitchArm (dt : Nat)
  /-- MAN_SWITCH_CANCEL (R53): On the lead, cancels an armed switch before superframe T − 2. -/
  | manSwitchCancel (dt : Nat)
  /-- SUBGHZ_RETUNE_END (R93): At grain 320 sub-GHz acquisition resumes. -/
  | subghzRetuneEnd (dt : Nat)
  /-- SF_CHANGE_ARM (R75): SF_CHANGE.ARM arms an announced air-format change, or refuses it for too little notice. -/
  | sfChangeArm (dt : Nat) (who : Writer) (v : Word)
  /-- SHR_DETECT (R94): A receive stream acquires a frame's SHR on a channel. -/
  | shrDetect (dt : Nat) (src : Fin 2) (chan : Fin 64) (lag : Nat) (chest : List Byte)
  /-- PHR_RECEIVED (R108): At the PHR a buffer is taken from the pool the frame needs. -/
  | phrReceived (dt : Nat) (src : Fin 2) (chan : Fin 64) (stream : Fin 2) (phr : BitVec 16) (rssi cfo : Int)
  /-- FRAME_END (R110): After a frame's last symbol its descriptor is written, WR is advanced and the frame event is fired within 80 grains. -/
  | frameEnd (dt : Nat) (src : Fin 2) (chan : Fin 64) (stream : Fin 2) (lag : Nat) (psdu : List Byte) (sinr : Int)
  /-- EARLY_DESCRIPTOR (R111): When the 32nd PSDU byte reaches the buffer an early descriptor is written and its event fired. -/
  | earlyDescriptor (dt : Nat) (src : Fin 2) (chan : Fin 64) (stream : Fin 2) (psdu : List Byte)
  /-- AGC_FAST_STEP (R88): A port clipping more than 4 × CLIPMAX within 256 grains steps down 6 dB at once. -/
  | agcFastStep (dt : Nat) (port : Fin 16)
  /-- FRX_CLRCNT (R9): FRX_CTL.CLRCNT clears all FRX counters. -/
  | frxClrcnt (dt : Nat)
  /-- LIST_FRAME_START (R460): A list frame's carrier ramps up so that its first symbol reaches the antenna at TXOFF. -/
  | listFrameStart (dt : Nat) (out : Fin 4) (grant : Bool)
  /-- CARRIER_END (R119): A carrier's last symbol ends and it ramps down, after which the FEM pins follow. -/
  | carrierEnd (dt : Nat) (out : Fin 4) (chan : Fin 64)
  /-- GRANT_WITHDRAWN (R128): A grant withdrawn while carriers are on cuts nothing and blocks new carriers. -/
  | grantWithdrawn (dt : Nat)
  /-- ACK_RING_WR_WRITE (R125): Drover code advances the WR of an acknowledgement ring. -/
  | ackRingWrWrite (dt : Nat) (who : Writer) (ring : Fin 2) (v : Word)
  /-- ACK_WR_EFFECT (R163): A held WR write takes effect once the partner has confirmed, or the Tandem has left sync. -/
  | ackWrEffect (dt : Nat) (ring : Fin 2)
  /-- ACK_SEND (R125): An acknowledgement is started so that it reaches the antenna at TS_END + ACKDLY. -/
  | ackSend (dt : Nat) (out : Fin 4) (chan : Fin 64) (grant : Bool)
  /-- DPD_UPDATE_DONE (R123): New predistortion coefficients are computed during the following slot. -/
  | dpdUpdateDone (dt : Nat) (out : Fin 4) (err : Nat)
  /-- DPD_RESEED (R124): FTX_DPD.RESEED returns every output to its seed at its next idle tick. -/
  | dpdReseed (dt : Nat)
  /-- FTX_CLRCNT (R9): FTX_CTL.CLRCNT clears FTX_CNT_k and FTX_AIR_o. -/
  | ftxClrcnt (dt : Nat)
  /-- NT_INIT (R144): Loads a new node's drift model in LEARN, anchored at the observation. -/
  | ntInit (dt : Nat)
  /-- NT_UPDATE (R136): Learns from an accepted observation and ends with or without a correction. -/
  | ntUpdate (dt : Nat)
  /-- NT_PREDICT (R134): Places the receive window for a cell. -/
  | ntPredict (dt : Nat)
  /-- NT_MISS (R142): Raises MISS by 1, which doubles the guard. -/
  | ntMiss (dt : Nat)
  /-- NT_CLEAR (R144): Zeroes the drift model granules in one locked sequence. -/
  | ntClear (dt : Nat)
  /-- NT_CLRCNT (R9): NT_CTL.CLRCNT clears NT_CNT_k. -/
  | ntClrcnt (dt : Nat)
  /-- SEC_CHECK (R157): Classes a frame counter without changing anything. -/
  | secCheck (dt : Nat)
  /-- SEC_COMMIT (R158): Reclasses the frame and updates the replay state when MICOK is 1. -/
  | secCommit (dt : Nat)
  /-- TAKE (R164): Returns the node's outbound counter and raises it, or returns NOLEASE or SPENT. -/
  | take (dt : Nat)
  /-- TAKECELL (R164): Returns the cell counter and raises it. -/
  | takecell (dt : Nat)
  /-- LEASE_RAISE (R165): After flash read-back and the partner's persistence, the lease end is raised. -/
  | leaseRaise (dt : Nat) (bad : List (Nat × Byte))
  /-- SEC_INIT (R151): Draws a fresh session key and clears a node's counters. -/
  | secInit (dt : Nat)
  /-- ROTATE (R153): Draws a new key into the non-outbound slot with the next KEYIDX. -/
  | rotate (dt : Nat)
  /-- FREE (R168): Zeroes the security group of a Ledger entry. -/
  | free (dt : Nat)
  /-- SEC_CLRCNT (R9): SEC_CTL.CLRCNT clears SEC_CNT_k. -/
  | secClrcnt (dt : Nat)
  /-- LANE_SLOT_START (R170): A lane slot begins on the lane grid and the staged lane entry applies. -/
  | laneSlotStart (dt : Nat) (l : Fin 2)
  /-- LANE_CALIBRATION_END (R172): Channel-change calibration completes, within 320 grains. -/
  | laneCalibrationEnd (dt : Nat) (l : Fin 2)
  /-- LANE_TX_START (R174): A TX or BCN lane frame starts so that it reaches the antenna at TXOFF. -/
  | laneTxStart (dt : Nat) (l : Fin 2) (grant : Bool)
  /-- LANE_SEND_ENTRY (R177): A send-ring entry is sent at its antenna moment, or abandoned as TX_LATE. -/
  | laneSendEntry (dt : Nat) (l : Fin 2) (grant : Bool)
  /-- LANE_WINDOW_CLOSE (R179): A lane receive window closes with no SHR: the status is NOFRAME or NOACK. -/
  | laneWindowClose (dt : Nat) (l : Fin 2)
  /-- LANE_FRAME_RECEIVED (R180): A lane frame is delivered into the backbone Drover's ring. -/
  | laneFrameReceived (dt : Nat) (l : Fin 2) (lagS lagE phr : Nat) (psdu : List Byte) (rssi sinr cfo : Int)
  /-- REACQ_END (R185): REACQ beacon periods pass without a beacon and the lane enters SEARCH. -/
  | reacqEnd (dt : Nat) (l : Fin 2)
  /-- SEARCH_DWELL_END (R186): A search dwell ends and the lane moves to the next search channel. -/
  | searchDwellEnd (dt : Nat) (l : Fin 2)
  /-- RESEARCH (R187): BBL_l_CMD.RESEARCH returns a member lane to SEARCH. -/
  | research (dt : Nat) (who : Writer) (l : Fin 2)
  /-- BACKGROUND_CALIBRATION_STEP (R172): A background calibration step runs during lane idle time. -/
  | backgroundCalibrationStep (dt : Nat) (l : Fin 2) (kind : Fin 4) (abort : Bool)
  /-- CALIBRATION_OVERDUE (R173): A background calibration falls overdue and is counted in CNT_7. -/
  | calibrationOverdue (dt : Nat) (l : Fin 2) (kind : Fin 4)
  /-- BBL_CLRCNT (R9): BBL_CTL.CLRCNT clears every BBL_l_CNT_k. -/
  | bblClrcnt (dt : Nat)
  /-- SCRUB_READ (R201): The scrub walk reads and decodes the next granule. -/
  | scrubRead (dt : Nat) (upset : Option (Nat × Nat))
  /-- ROW_SPARE_DONE (R202): The row copy completes within 10 µs and the remap entry is set. -/
  | rowSpareDone (dt : Nat)
  /-- SER_SPARECMD (R203): SER_SPARECMD.GO spares a row, or is refused with SPAREBAD. -/
  | serSparecmd (dt : Nat) (who : Writer) (v : Word)
  /-- HOST_APERTURE_ACCESS (R207): A host access through the aperture reaches the Serai under every protection. -/
  | hostApertureAccess (dt : Nat) (sp : Space) (addr len : Nat) (data : Option (List Byte))
  /-- SER_CLRCNT (R9): SER_CTL.CLRCNT clears SER_CNT_k. -/
  | serClrcnt (dt : Nat)
  /-- MOV (R229): Moves one byte. -/
  | mov (d : Fin 12) (x y z : BitVec 19) (rest : List (BitVec 64))
  /-- MOV2 (R229): Moves two bytes. -/
  | mov2 (d : Fin 12) (x y z : BitVec 19) (rest : List (BitVec 64))
  /-- MOV4 (R229): Moves four bytes. -/
  | mov4 (d : Fin 12) (x y z : BitVec 19) (rest : List (BitVec 64))
  /-- MOVG (R229): Moves one aligned 16-byte granule. -/
  | movg (d : Fin 12) (x y z : BitVec 19) (rest : List (BitVec 64))
  /-- LEA (R229): Writes the effective address of X. -/
  | lea (d : Fin 12) (x y z : BitVec 19) (rest : List (BitVec 64))
  /-- XCH (R229): Exchanges two bytes. -/
  | xch (d : Fin 12) (x y z : BitVec 19) (rest : List (BitVec 64))
  /-- XCH2 (R229): Exchanges two 2-byte values. -/
  | xch2 (d : Fin 12) (x y z : BitVec 19) (rest : List (BitVec 64))
  /-- MOVZ (R229): Moves a byte, zero-extended. -/
  | movz (d : Fin 12) (x y z : BitVec 19) (rest : List (BitVec 64))
  /-- MOVS (R229): Moves a byte, sign-extended. -/
  | movs (d : Fin 12) (x y z : BitVec 19) (rest : List (BitVec 64))
  /-- SMOV (R229): String byte move. -/
  | smov (d : Fin 12) (x y z : BitVec 19) (rest : List (BitVec 64))
  /-- SMOVG (R229): String granule move. -/
  | smovg (d : Fin 12) (x y z : BitVec 19) (rest : List (BitVec 64))
  /-- SFILLG (R229): String granule fill. -/
  | sfillg (d : Fin 12) (x y z : BitVec 19) (rest : List (BitVec 64))
  /-- SCMP (R229): String compare that sets HIT on a difference. -/
  | scmp (d : Fin 12) (x y z : BitVec 19) (rest : List (BitVec 64))
  /-- SCAN (R229): String scan that sets HIT on a match. -/
  | scan (d : Fin 12) (x y z : BitVec 19) (rest : List (BitVec 64))
  /-- SCANN (R229): String scan that sets HIT on a mismatch. -/
  | scann (d : Fin 12) (x y z : BitVec 19) (rest : List (BitVec 64))
  /-- ADD (R238): Byte add, with carry under repeat. -/
  | add (d : Fin 12) (x y z : BitVec 19) (rest : List (BitVec 64))
  /-- SUB (R238): Byte subtract, with borrow under repeat. -/
  | sub (d : Fin 12) (x y z : BitVec 19) (rest : List (BitVec 64))
  /-- AND (R230): Bitwise and. -/
  | and (d : Fin 12) (x y z : BitVec 19) (rest : List (BitVec 64))
  /-- OR (R230): Bitwise or. -/
  | or (d : Fin 12) (x y z : BitVec 19) (rest : List (BitVec 64))
  /-- XOR (R230): Bitwise exclusive or. -/
  | xor (d : Fin 12) (x y z : BitVec 19) (rest : List (BitVec 64))
  /-- ADDSS (R230): Signed saturating add. -/
  | addss (d : Fin 12) (x y z : BitVec 19) (rest : List (BitVec 64))
  /-- SHL (R238): Shift left, with spill under repeat. -/
  | shl (d : Fin 12) (x y z : BitVec 19) (rest : List (BitVec 64))
  /-- SHR (R238): Shift right, with spill under repeat. -/
  | shr (d : Fin 12) (x y z : BitVec 19) (rest : List (BitVec 64))
  /-- SAR (R230): Arithmetic shift right. -/
  | sar (d : Fin 12) (x y z : BitVec 19) (rest : List (BitVec 64))
  /-- ROL (R230): Rotate left. -/
  | rol (d : Fin 12) (x y z : BitVec 19) (rest : List (BitVec 64))
  /-- ROR (R230): Rotate right. -/
  | ror (d : Fin 12) (x y z : BitVec 19) (rest : List (BitVec 64))
  /-- MIN (R230): Unsigned minimum. -/
  | min (d : Fin 12) (x y z : BitVec 19) (rest : List (BitVec 64))
  /-- MAX (R230): Unsigned maximum. -/
  | max (d : Fin 12) (x y z : BitVec 19) (rest : List (BitVec 64))
  /-- MINS (R230): Signed minimum. -/
  | mins (d : Fin 12) (x y z : BitVec 19) (rest : List (BitVec 64))
  /-- MAXS (R230): Signed maximum. -/
  | maxs (d : Fin 12) (x y z : BitVec 19) (rest : List (BitVec 64))
  /-- ADDSU (R230): Unsigned saturating add. -/
  | addsu (d : Fin 12) (x y z : BitVec 19) (rest : List (BitVec 64))
  /-- CRC16 (R232): Steps one byte into a 16-bit reflected CRC with polynomial 0x8408. -/
  | crc16 (d : Fin 12) (x y z : BitVec 19) (rest : List (BitVec 64))
  /-- CRC32 (R232): Steps one byte into a 32-bit reflected CRC. -/
  | crc32 (d : Fin 12) (x y z : BitVec 19) (rest : List (BitVec 64))
  /-- CRCP (R232): Steps one byte with a given polynomial. -/
  | crcp (d : Fin 12) (x y z : BitVec 19) (rest : List (BitVec 64))
  /-- PAR (R231): Parity of a byte. -/
  | par (d : Fin 12) (x y z : BitVec 19) (rest : List (BitVec 64))
  /-- BREV (R231): Bit reverse of a byte. -/
  | brev (d : Fin 12) (x y z : BitVec 19) (rest : List (BitVec 64))
  /-- BREVN (R231): Reverses the low n bits. -/
  | brevn (d : Fin 12) (x y z : BitVec 19) (rest : List (BitVec 64))
  /-- POPC (R231): Population count. -/
  | popc (d : Fin 12) (x y z : BitVec 19) (rest : List (BitVec 64))
  /-- CLZ (R231): Count of leading zeros. -/
  | clz (d : Fin 12) (x y z : BitVec 19) (rest : List (BitVec 64))
  /-- BSET (R231): Sets a bit. -/
  | bset (d : Fin 12) (x y z : BitVec 19) (rest : List (BitVec 64))
  /-- BCLR (R231): Clears a bit. -/
  | bclr (d : Fin 12) (x y z : BitVec 19) (rest : List (BitVec 64))
  /-- BTST (R231): Tests a bit. -/
  | btst (d : Fin 12) (x y z : BitVec 19) (rest : List (BitVec 64))
  /-- BTOG (R231): Toggles a bit. -/
  | btog (d : Fin 12) (x y z : BitVec 19) (rest : List (BitVec 64))
  /-- BEXT (R231): Extracts a bit field. -/
  | bext (d : Fin 12) (x y z : BitVec 19) (rest : List (BitVec 64))
  /-- BINS (R231): Inserts a bit field. -/
  | bins (d : Fin 12) (x y z : BitVec 19) (rest : List (BitVec 64))
  /-- CTZ (R231): Count of trailing zeros. -/
  | ctz (d : Fin 12) (x y z : BitVec 19) (rest : List (BitVec 64))
  /-- CBEQ (R233): Service decode: branches when X equals Y. -/
  | cbeq (d : Fin 12) (x y z : BitVec 19) (rest : List (BitVec 64))
  /-- CBNE (R233): Service decode: branches when X differs from Y. -/
  | cbne (d : Fin 12) (x y z : BitVec 19) (rest : List (BitVec 64))
  /-- CBLT (R233): Service decode: branches when X is less than Y, signed. -/
  | cblt (d : Fin 12) (x y z : BitVec 19) (rest : List (BitVec 64))
  /-- CBGE (R233): Service decode: branches when X is at least Y, signed. -/
  | cbge (d : Fin 12) (x y z : BitVec 19) (rest : List (BitVec 64))
  /-- CBLTU (R233): Service decode: branches when X is less than Y, unsigned. -/
  | cbltu (d : Fin 12) (x y z : BitVec 19) (rest : List (BitVec 64))
  /-- CBGEU (R233): Service decode: branches when X is at least Y, unsigned. -/
  | cbgeu (d : Fin 12) (x y z : BitVec 19) (rest : List (BitVec 64))
  /-- SEQ (R235): Recovery decode: writes 1 to Z when X equals Y, else 0. -/
  | seq (d : Fin 12) (x y z : BitVec 19) (rest : List (BitVec 64))
  /-- SNE (R235): Recovery decode: writes 1 to Z when X differs from Y, else 0. -/
  | sne (d : Fin 12) (x y z : BitVec 19) (rest : List (BitVec 64))
  /-- SLT (R235): Recovery decode: writes 1 to Z when X is less than Y, signed, else 0. -/
  | slt (d : Fin 12) (x y z : BitVec 19) (rest : List (BitVec 64))
  /-- SGE (R235): Recovery decode: writes 1 to Z when X is at least Y, signed, else 0. -/
  | sge (d : Fin 12) (x y z : BitVec 19) (rest : List (BitVec 64))
  /-- SLTU (R235): Recovery decode: writes 1 to Z when X is less than Y, unsigned, else 0. -/
  | sltu (d : Fin 12) (x y z : BitVec 19) (rest : List (BitVec 64))
  /-- SGEU (R235): Recovery decode: writes 1 to Z when X is at least Y, unsigned, else 0. -/
  | sgeu (d : Fin 12) (x y z : BitVec 19) (rest : List (BitVec 64))
  /-- BZ (R233): Branches when X is 0. -/
  | bz (d : Fin 12) (x y z : BitVec 19) (rest : List (BitVec 64))
  /-- BNZ (R233): Branches when X is not 0. -/
  | bnz (d : Fin 12) (x y z : BitVec 19) (rest : List (BitVec 64))
  /-- JMP (R234): Jumps to the target. -/
  | jmp (d : Fin 12) (x y z : BitVec 19) (rest : List (BitVec 64))
  /-- CALL (R233): Pushes the return address and jumps. -/
  | call (d : Fin 12) (x y z : BitVec 19) (rest : List (BitVec 64))
  /-- RET (R233): Pops the PC from the return stack. -/
  | ret (d : Fin 12) (x y z : BitVec 19) (rest : List (BitVec 64))
  /-- INTERRUPT_RETURN (R215): RET #1 restores the PC, IE, the latch and the staging, and clears INH. -/
  | interruptReturn (d : Fin 12) (rest : List (BitVec 64))
  /-- REP (R237): Starts a block repeat. -/
  | rep (d : Fin 12) (x y z : BitVec 19) (rest : List (BitVec 64))
  /-- WAIT (R236): Stops issuing until an input in the mask is pending. -/
  | wait (d : Fin 12) (x y z : BitVec 19) (rest : List (BitVec 64))
  /-- WAIT_RELEASE (R236): A waiting Drover resumes once an input in its mask is pending. -/
  | waitRelease (dt : Nat) (d : Fin 12)
  /-- FIRE (R233): Fires an event fabric channel from a Drover. -/
  | fire (d : Fin 12) (x y z : BitVec 19) (rest : List (BitVec 64))
  /-- TRAP (R217): Raises a SOFT trap. -/
  | trap (d : Fin 12) (x y z : BitVec 19) (rest : List (BitVec 64))
  /-- HALT (R236): Enters HALTED after the bundle, or traps SOFT in LOCKED and RETIRED. -/
  | halt (d : Fin 12) (x y z : BitVec 19) (rest : List (BitVec 64))
  /-- INTERRUPT_ENTRY (R214): At a bundle boundary a pending enabled input enters the INTR vector. -/
  | interruptEntry (dt : Nat) (d : Fin 12)
  /-- BREAKPOINT_HALT (R222): The Drover halts before the bundle at BRK.ADDR. -/
  | breakpointHalt (dt : Nat) (d : Fin 12)
  /-- DRV_HALT (R222): DRV_n_CTL.HALT stops the Drover at its next bundle boundary. -/
  | drvHalt (dt : Nat) (who : Writer) (d : Fin 12)
  /-- DRV_RESUME (R222): Restarts a HALTED Drover at its PC. -/
  | drvResume (dt : Nat) (who : Writer) (d : Fin 12)
  /-- DRV_STEP (R222): Issues one bundle, or one vector entry, then halts. -/
  | drvStep (dt : Nat) (who : Writer) (d : Fin 12)
  /-- DRV_SWITCH_ARM (R220): Arms an image switch at a tick, or refuses it with BADCMD. -/
  | drvSwitchArm (dt : Nat) (who : Writer) (d : Fin 12)
  /-- DRV_SWITCH_CANCEL (R220): Cancels an armed image switch. -/
  | drvSwitchCancel (dt : Nat) (who : Writer) (d : Fin 12)
  /-- DRV_LDATA_ACCESS (R223): Host access to the local window through LDATA, with writes discarded while the Drover runs. -/
  | drvLdataAccess (dt : Nat) (who : Writer) (d : Fin 12) (v : Option Word)
  /-- EVOUT_WRITE (R423): A Drover write of EVOUT fires a channel. -/
  | evoutWrite (dt : Nat) (d : Fin 12) (c : Fin 64)
  /-- CIPH_CLAIM (R240): A Drover claims a free cipher unit that its OWNERS mask allows. -/
  | ciphClaim (dt : Nat) (d : Fin 12) (u : Fin 4)
  /-- CIPH_DROP (R240): The owner ends its claim, wiping the unit. -/
  | ciphDrop (dt : Nat) (d : Fin 12) (u : Fin 4)
  /-- SEL (R244): Selects and unwraps a key, reserving its budget. -/
  | sel (dt : Nat) (u : Fin 4)
  /-- NONCE (R242): Loads the nonce register. -/
  | nonce (dt : Nat) (u : Fin 4)
  /-- B0 (R242): Starts the accumulator from the B0 block. -/
  | b0 (dt : Nat) (u : Fin 4)
  /-- MAC (R242): Folds fed blocks into the accumulator. -/
  | mac (dt : Nat) (u : Fin 4)
  /-- CIPH_STARVED (R253): A stall longer than STALLMAX ends the command with STARVED. -/
  | ciphStarved (dt : Nat) (u : Fin 4)
  /-- CTR (R249): Counter-mode encryption or decryption into the Serai or the release buffer. -/
  | ctr (dt : Nat) (u : Fin 4)
  /-- FINAL (R250): Computes the tag, then checks it and releases, or writes it. -/
  | finalTag (dt : Nat) (u : Fin 4)
  /-- KEYIN (R252): Inserts a Ledger key into later messages. -/
  | keyin (dt : Nat) (u : Fin 4)
  /-- OPEN (R251): Copies the release buffer out without a tag. -/
  | openCopy (dt : Nat) (u : Fin 4)
  /-- RAW (R249): Raw AES block encryption or inverse cipher. -/
  | raw (dt : Nat) (u : Fin 4)
  /-- RELEASE (R242): Wipes the unit and ends the claim. -/
  | release (dt : Nat) (u : Fin 4)
  /-- CIPH_CLRCNT (R9): CIPH_CTL.CLRCNT clears CIPH_CNT_k. -/
  | ciphClrcnt (dt : Nat)
  /-- ENQ (R264): Appends a queue entry to a node's class queue. -/
  | enq (dt : Nat)
  /-- ADMIT (R265): Tests the head of a class queue for hold, fit, gate and tokens. -/
  | shpAdmit (dt : Nat)
  /-- SHP_DONE (R266): Removes the head of a class queue. -/
  | shpDone (dt : Nat)
  /-- POLICE (R261): Checks an uplink frame against the node policer and its class bucket. -/
  | police (dt : Nat)
  /-- SHP_CLRCNT (R9): SHP_CTL.CLRCNT clears SHP_CNT_k. -/
  | shpClrcnt (dt : Nat)
  /-- DMA_GO (R273): Starts a channel's chain at HEAD. -/
  | dmaGo (dt : Nat) (who : Writer) (n : Fin 16)
  /-- DMA_RESUME (R279): Reruns the Waybill at CUR from its first byte. -/
  | dmaResume (dt : Nat) (who : Writer) (n : Fin 16)
  /-- DMA_STOP (R280): Ends fetching, drains held lines and leaves the channel STOPPED. -/
  | dmaStop (dt : Nat) (who : Writer) (n : Fin 16)
  /-- COPY (R273): A Waybill copies LEN bytes from SRC to DST. -/
  | copy (dt : Nat) (n : Fin 16) (hsrc hdst : List Byte)
  /-- FILL (R273): A Waybill fills LEN bytes with a pattern. -/
  | fill (dt : Nat) (n : Fin 16)
  /-- COMPARE (R273): A Waybill compares two ranges. -/
  | compare (dt : Nat) (n : Fin 16) (hsrc hdst : List Byte)
  /-- WAYBILL_COMPLETE (R276): A Waybill's writes are visible, its status is written and the owner is signalled. -/
  | waybillComplete (dt : Nat) (n : Fin 16)
  /-- BUS_ERROR (R278): A failed host read stops every channel and raises DMA_BUSERR. -/
  | busError (dt : Nat) (cause addr : Nat)
  /-- BUSERR_CLEAR (R279): Writing DMA_STAT.BUSERR while IDLE ends the stopped state. -/
  | buserrClear (dt : Nat) (who : Writer)
  /-- DMA_CLRCNT (R9): DMA_CTL.CLRCNT clears every DMA_n_CNT. -/
  | dmaClrcnt (dt : Nat)
  /-- CAR_ENUM (R283): The lead enumerates the ring. -/
  | carEnum (dt : Nat) (who : Writer)
  /-- ENUM (R283): An ENUM packet gives the chip its index and is forwarded. -/
  | enum (a : Arrival) (next count size : Nat)
  /-- ENUM_TIMEOUT (R283): No ENUM returns within 1 ms, so the lead enumerates westwards. -/
  | enumTimeout (dt : Nat) (east west : Nat)
  /-- PING (R287): Each port sends a PING every 1 ms. -/
  | ping (dt : Nat)
  /-- PING_RECEIVE (R287): A PING answer gives the link delay. -/
  | pingReceive (dt : Nat) (port : Fin 2) (rtt : Nat)
  /-- TICK_PACKET_SEND (R288): At grain L − 64 the lead sends TICK packets. -/
  | tickPacketSend (dt : Nat)
  /-- TICK_PACKET (R288): A received TICK packet predicts the tick and corrects the timebase. It came `late` ns after the quarter grain at which the row stands. -/
  | tickPacket (dt late : Nat) (h : PktHead) (ttt asn sfn slot slotlen sflen res : Nat)
  /-- RWR (R285): A remote register write packet is applied in order. -/
  | rwr (a : Arrival) (addr : Nat) (v : Word)
  /-- RRD (R285): A remote register read packet is answered with RCPL. -/
  | rrd (dt : Nat) (h : PktHead) (addr : Nat)
  /-- RCPL (R285): A read completion returns to the lead. -/
  | rcpl (a : Arrival) (v : Word)
  /-- SDATA (R285): An aperture read or write packet is applied. -/
  | sdata (dt : Nat) (h : PktHead) (addr len : Nat) (data : Option (List Byte))
  /-- REMOTE_TIMEOUT (R286): A remote read with no completion in 100 µs completes with all ones. -/
  | remoteTimeout (dt : Nat)
  /-- BCAST (R293): A broadcast packet such as ARM, GO or CANCEL arrives at a chip. -/
  | bcast (a : Arrival) (b : Bcast)
  /-- BARQ (R293): A barrier question is answered with BARA. -/
  | barq (dt : Nat) (h : PktHead)
  /-- BARA (R293): A barrier answer reaches the lead. -/
  | bara (dt : Nat) (h : PktHead) (ready : Bool)
  /-- BARRIER_TIMEOUT (R293): A chip not answering by BARTMO fails the barrier. -/
  | barrierTimeout (dt : Nat)
  /-- CAR_SNAP (R294): The lead arms a snapshot at a target ASN. -/
  | carSnap (dt : Nat) (who : Writer)
  /-- SNAP (R294): A SNAP packet sets the target on a chip. -/
  | snap (a : Arrival) (asn : Nat)
  /-- CAR_RESET (R295): Starts a two-wave reset programme. -/
  | carReset (dt : Nat) (who : Writer)
  /-- CAR_ABORT (R295): Ends the reset programme before wave 2. -/
  | carAbort (dt : Nat) (who : Writer)
  /-- RESET_WAVE_2 (R295): Wave 2 begins once every wave 1 chip has returned. -/
  | resetWave2 (dt : Nat)
  /-- CAR_IMAGE (R300): Broadcasts the staged image to the target chips. -/
  | carImage (dt : Nat) (who : Writer)
  /-- IMAGE (R300): An IMAGE packet is written to the staging area. -/
  | image (a : Arrival) (off : Nat) (bytes : List Byte) (last : Bool) (bad : List (Nat × Byte))
  /-- IMAGE_SECTOR_CONFIRM (R300): A sector's read-back confirms it or drops the chip. -/
  | imageSectorConfirm (dt : Nat) (chip : Nat) (ok : Bool)
  /-- PORT_DOWN (R296): A port loses block lock or PINGs and goes DOWN. -/
  | portDown (dt : Nat) (p : Fin 2)
  /-- LINK (R296): A LINK packet reports a port up or down and routing adapts. -/
  | link (dt : Nat) (h : PktHead) (port : Nat) (up : Bool)
  /-- ISOLATION (R297): Three ticks without a TICK packet make the chip ISOLATED. -/
  | isolation (dt : Nat)
  /-- LINK_UP (R298): A link comes up, the chip rejoins and slews back or sets FARSKEW. -/
  | linkUp (dt : Nat) (p : Fin 2) (err : Int) (sameAsn : Bool)
  /-- CAR_CLRCNT (R9): CAR_CTL.CLRCNT clears CAR_CNT_k. -/
  | carClrcnt (dt : Nat)
  /-- HEARTBEAT_SEND (R313): At grain 8 a heartbeat is sent on both paths, unless it is withheld. -/
  | heartbeatSend (dt : Nat)
  /-- HEARTBEAT_RECEIVE (R314): A heartbeat arrives and restores its path: the Tandem link, or the Caravan under a packet header. -/
  | heartbeatReceive (dt : Nat) (path : Option PktHead) (asn mode : Nat) (own roledef insync : Bool)
  /-- HEARTBEAT_MISS (R314): No heartbeat has arrived by HBWIN on a path. -/
  | heartbeatMiss (dt : Nat) (low : Bool)
  /-- TAKEOVER_ENTRY (R318): At entry to TAKEOVER the journal tail is checked and the MODE vectors are entered. -/
  | takeoverEntry (dt : Nat) (low : Bool)
  /-- REPLAYDONE (R319): Requests SERVE or DRAIN after replay. -/
  | replaydone (dt : Nat)
  /-- REPLAY_TIMEOUT (R319): REPLAYMAX slots pass without REPLAYDONE, so REPLAY_BAD is raised. -/
  | replayTimeout (dt : Nat)
  /-- JOURNAL_RECORD (R309): A received journal record is applied in JSEQ order and confirmed. -/
  | journalRecord (dt : Nat) (bytes : List Byte) (low : Bool)
  /-- JOURNAL_CONFIRMATION (R309): A cumulative confirmation from the partner arrives. -/
  | journalConfirmation (dt : Nat) (j : Nat) (persisted : Bool)
  /-- TAN_JOIN (R320): Starts resynchronisation with the ACTIVE partner. -/
  | tanJoin (dt : Nat) (partner same : Bool)
  /-- JOIN_COPY_STEP (R320): The JOIN walk sends the next COPY record at COPYRATE. -/
  | joinCopyStep (dt : Nat)
  /-- TAN_HANDOVER (R321): Schedules a planned handover at a chosen tick. -/
  | tanHandover (dt : Nat)
  /-- HANDOVER_DEADLINE (R321): The handover TICK record is unconfirmed by L − 3, so the handover is cancelled. -/
  | handoverDeadline (dt : Nat)
  /-- TAN_FETCH (R322): Requests a granule from the partner. -/
  | tanFetch (dt : Nat)
  /-- FETCH_ANSWER (R322): The partner's granule is written whole and journalled. -/
  | fetchAnswer (dt : Nat) (addr : Nat) (bytes : List Byte) (poison : Bool)
  /-- TANDEM_LINK_DOWN (R305): The Tandem link goes down. -/
  | tandemLinkDown (dt : Nat)
  /-- TAN_CLRCNT (R9): TAN_CTL.CLRCNT clears TAN_CNT_k and RTT.MAX. -/
  | tanClrcnt (dt : Nat)
  /-- DOORBELL (R335): A host doorbell sets the HOST index and fires Drover input 8. -/
  | doorbell (dt : Nat) (who : Writer) (ring : Fin 16) (v : Word)
  /-- DEV_WRITE (R336): A Drover write of DEV takes effect and raises vector 32 + r. -/
  | devWrite (dt : Nat) (d : Fin 12) (ring : Fin 16) (v : Word)
  /-- SPI_READ (R338): An SPI host READ frame returns words. -/
  | spiRead (dt : Nat) (frame : List Byte)
  /-- SPI_WRITE (R339): An SPI host WRITE frame is applied at the rise of CSN when it is exact. -/
  | spiWrite (dt : Nat) (frame : List Byte)
  /-- SPI_STATUS (R338): An SPI host STATUS frame returns HST_VPEND. -/
  | spiStatus (dt : Nat) (frame : List Byte)
  /-- HST_CLRCNT (R9): HST_CTL.CLRCNT clears HST_CNT_k. -/
  | hstClrcnt (dt : Nat)
  /-- NOISE_HEALTH_FAIL (R346): An entropy health test fails and the DRBG stops. -/
  | noiseHealthFail (dt : Nat)
  /-- DRBG_RESEED (R347): The DRBG reseeds every RESEED ms. -/
  | drbgReseed (dt : Nat)
  /-- SECURE_BOOT (R354): The boot ROM verifies and starts the boot image. -/
  | secureBoot (dt : Nat) (noise : Bool) (host : List Byte)
  /-- TRU_CLAIM (R351): Burns the owner hash and moves BLANK to OWNED. -/
  | truClaim (dt : Nat)
  /-- SETPUB (R350): Restores OWNERPUB when its hash matches. -/
  | setpub (dt : Nat)
  /-- RBUMP (R356): Starts burning rollback fuses up to TARGET. -/
  | rbump (dt : Nat)
  /-- RBUMP_COMPLETE (R356): COUNT reaches TARGET after the fuse burns. -/
  | rbumpComplete (dt : Nat)
  /-- IMPORT (R359): Owner command installing wrapped keys. -/
  | importKeys (dt : Nat)
  /-- LOCK (R351): Owner command moving OWNED to LOCKED. -/
  | lock (dt : Nat)
  /-- RETIRE (R353): Owner command retiring the chip. -/
  | retire (dt : Nat)
  /-- UNLOCK (R362): Owner command clearing locks until reset. -/
  | unlock (dt : Nat)
  /-- LOCKDEF (R362): Owner command rewriting the lock defaults. -/
  | lockdef (dt : Nat)
  /-- OWNER_COMMAND_DONE (R357): An owner command completes and TRU_CMDSTAT is written. -/
  | ownerCommandDone (dt : Nat)
  /-- TRU_LOCKSET (R362): Sets locks until the next reset. -/
  | truLockset (dt : Nat) (who : Writer) (v : Word)
  /-- TRU_RAND_READ (R347): A read of TRU_RAND returns fresh DRBG output. -/
  | truRandRead (dt : Nat) (who : Writer)
  /-- JTAG_INSTRUCTION (R352): A JTAG instruction is executed or treated as BYPASS by lifecycle and mode. -/
  | jtagInstruction (dt : Nat) (j : Jtag)
  /-- HEADER (R371): Checks an image header and enters state BODY. -/
  | header (dt : Nat)
  /-- CHUNK (R372): Appends body bytes to the standby banks. -/
  | chunk (dt : Nat)
  /-- CHUNK_DONE (R372): A chunk completes and BUSY clears. -/
  | chunkDone (dt : Nat)
  /-- FINISH (R373): Checks the hash and marks the standby banks VALID. -/
  | finish (dt : Nat)
  /-- UPD_ABORT (R374): Host abort of an update in progress. -/
  | updAbort (dt : Nat)
  /-- UPD_CLRCNT (R9): UPD_CTL.CLRCNT clears UPD_CNT_k. -/
  | updClrcnt (dt : Nat)
  /-- FLS_READ (R383): Starts a flash read into the Serai. -/
  | flsRead (dt : Nat)
  /-- MARGIN_READ (R384): A read against a moved reference that counts weak bits. -/
  | marginRead (dt : Nat)
  /-- READ_DONE (R384): A flash read completes with words decoded. -/
  | readDone (dt : Nat) (errs : List (Nat × Nat)) (weak : Nat)
  /-- FLS_PROGRAM (R385): Starts programming a page. -/
  | flsProgram (dt : Nat)
  /-- PROGRAM_DONE (R385): A program completes and the done event fires. -/
  | programDone (dt : Nat)
  /-- FLS_ERASE (R386): Starts erasing a sector under the journal. -/
  | flsErase (dt : Nat)
  /-- ERASE_PULSE_DONE (R386): An erase pulse and verify complete. -/
  | erasePulseDone (dt : Nat) (verify : Bool)
  /-- FLS_SUSPEND (R388): Suspends an erase. -/
  | flsSuspend (dt : Nat)
  /-- FLS_RESUME (R388): Resumes a suspended erase. -/
  | flsResume (dt : Nat)
  /-- OPTWRITE (R396): Rewrites the option area's strap part. -/
  | optwrite (dt : Nat)
  /-- OPTWRITE_DONE (R396): The option sector's read-back completes with DONE or MISMATCH. -/
  | optwriteDone (dt : Nat) (bad : List (Nat × Byte))
  /-- FLS_CLRCNT (R9): FLS_CTL.CLRCNT clears FLS_CNT_k. -/
  | flsClrcnt (dt : Nat)
  /-- PFAILN_FALL (R394): PFAILN falls and the flash closing begins. -/
  | pfailnFall (dt : Nat)
  /-- FLASH_CLOSE_DONE (R394): The flash is closed, after which SAFE entry follows. -/
  | flashCloseDone (dt : Nat)
  /-- CAL_RUN (R400): Starts a calibration run. -/
  | calRun (dt : Nat)
  /-- CAL_RUN_DONE (R400): The run writes a set to the Serai, or fails. -/
  | calRunDone (dt : Nat) (meas : List Byte) (pps : Bool) (fail : Option (Fin 7))
  /-- CAL_ABORT (R400): Ends a run as FAILED. -/
  | calAbort (dt : Nat)
  /-- CAL_COMMIT (R401): Starts writing a checked set to the calibration area. -/
  | calCommit (dt : Nat)
  /-- CAL_COMMIT_DONE (R401): The committed set has been programmed and read back. -/
  | calCommitDone (dt : Nat) (bad : List (Nat × Byte))
  /-- TMR_START (R408): Starts timer channels, at once or at the next tick. -/
  | tmrStart (dt : Nat) (who : Writer) (mask : Nat) (atTick : Bool)
  /-- TMR_STOP (R408): Stops timer channels. -/
  | tmrStop (dt : Nat) (who : Writer) (mask : Nat)
  /-- TMR_CAPTURE (R409): Latches COUNT into CAP. -/
  | tmrCapture (dt : Nat) (who : Writer) (n : Fin 16)
  /-- TMR_CMP_WRITE (R406): A CMP write that fires at once if the point has already passed. -/
  | tmrCmpWrite (dt : Nat) (who : Writer) (n : Fin 16) (v : Word)
  /-- TMR_PERIOD_WRITE (R407): A PERIOD write that wraps at once if the period has already passed. -/
  | tmrPeriodWrite (dt : Nat) (who : Writer) (n : Fin 16) (v : Word)
  /-- COMPARE_MATCH (R405): COUNT reaches CMP and the compare event fires. -/
  | compareMatch (dt : Nat) (n : Fin 16)
  /-- TIMER_WRAP (R405): COUNT returns to 0 and the wrap event fires. -/
  | timerWrap (dt : Nat) (n : Fin 16)
  /-- RTC_CAPTURE (R412): Starts latching the calendar. -/
  | rtcCapture (dt : Nat)
  /-- RTC_CAPTURE_DONE (R412): The capture registers hold one coherent instant. -/
  | rtcCaptureDone (dt : Nat) (sub : Fin 256)
  /-- RTC_COMMIT (R413): The RTC_STG_SEC write commits the staged time, or refuses it with BADDATE. -/
  | rtcCommit (dt : Nat) (who : Writer) (v : Word)
  /-- RTC_COMMIT_DONE (R413): The new time takes effect within 62 µs. -/
  | rtcCommitDone (dt : Nat)
  /-- RTC_SECOND (R410): The calendar advances by one second. -/
  | rtcSecond (dt : Nat)
  /-- RTC_WAKE (R416): The wake count reaches PERIOD and the wake event fires. -/
  | rtcWake (dt : Nat)
  /-- RTC_ALARM_WRITE (R414): An alarm register write sets the watermark to the present instant. -/
  | rtcAlarmWrite (dt : Nat) (who : Writer) (addr : Nat) (v : Word)
  /-- RTC_WAKE_WRITE (R416): A PERIOD write restarts the wake count. -/
  | rtcWakeWrite (dt : Nat) (who : Writer) (v : Word)
  /-- BACKUP_LOSS (R417): VBAK or the crystal fails, so the clock resets and LOST is set. -/
  | backupLoss (dt : Nat)
  /-- BATTERY_LOW (R417): VBAK falls below 1.9 V and BATLOW is set. -/
  | batteryLow (dt : Nat)
  /-- PENDING_DELIVERY (R425): A remembered event is delivered when its consumer ceases to be busy. -/
  | pendingDelivery (dt : Nat) (c : Fin 64)
  /-- EVT_FIRE (R423): A host software fire of a channel. -/
  | evtFire (dt : Nat) (who : Writer) (c : Fin 64)
  /-- EVT_LOCK (R427): Locks a channel's route. -/
  | evtLock (dt : Nat) (who : Writer) (c : Fin 64)
  /-- EVT_CLRCNT (R9): EVT_CTL.CLRCNT clears the channel and loop counts. -/
  | evtClrcnt (dt : Nat)
  /-- SPI_GO (R432): A master starts a frame. -/
  | spiGo (dt : Nat) (i : Fin 2) (miso : List Nat)
  /-- MASTER_FRAME_END (R432): A master frame ends and CSN rises. -/
  | masterFrameEnd (dt : Nat) (i : Fin 2)
  /-- SPI_FLUSH (R431): Empties both FIFOs. -/
  | spiFlush (dt : Nat) (who : Writer) (i : Fin 2)
  /-- SPI_TXD_WRITE (R431): Pushes a transmit FIFO entry, or sets TXFULLWR. -/
  | spiTxdWrite (dt : Nat) (who : Writer) (i : Fin 2) (v : Word)
  /-- SPI_RXD_READ (R431): Pops a receive FIFO entry, or sets RXEMPTYRD. -/
  | spiRxdRead (dt : Nat) (who : Writer) (i : Fin 2)
  /-- CSN_FALL (R433): A slave's select falls and a frame begins at bit 0. -/
  | csnFall (dt : Nat) (i : Fin 2)
  /-- CSN_RISE (R435): The select rises, ending the frame, and the frame-end producer fires. -/
  | csnRise (dt : Nat) (i : Fin 2) (edges : Nat)
  /-- MW_DATA_READ (R436): A window read is served from the line buffer or starts a fetch. -/
  | mwDataRead (dt : Nat) (who : Writer)
  /-- MW_FETCH_DONE (R436): A line fetch completes and the read returns. -/
  | mwFetchDone (dt : Nat) (bytes : List Byte)
  /-- MW_INVAL (R437): Empties the window's line buffer. -/
  | mwInval (dt : Nat)
  /-- SPI_CLRCNT (R9): SPI_CTL.CLRCNT clears the SPI counts. -/
  | spiClrcnt (dt : Nat)
  /-- SUPPLY_OUT_OF_RANGE (R440): A main rail leaves its range for more than 5 µs. -/
  | supplyOutOfRange (dt : Nat)
  /-- TEMPERATURE_UPDATE (R451): CAL_TEMP is updated every 1 ms and compared with the thermal thresholds. -/
  | temperatureUpdate (dt : Nat) (t : Int)
  /-- TANDEM_LINK_UP (R305): The Tandem link comes up, setting TAN_STAT.TLUP and allowing JOIN again. -/
  | tandemLinkUp (dt : Nat)
  /-- FETCH_REQUEST (R322): The partner receives a FETCH request and answers with the granule as it holds it. -/
  | fetchRequest (dt : Nat) (addr : Nat)
  /-- LEASE_PERSISTED (R309): The partner's flash read-back of a journalled LEASE record succeeds and it sends the persistence confirmation: the partner of this chip, or this chip, with the bytes of the record that it reads back wrong. -/
  | leasePersisted (dt : Nat) (j : Nat) (own : Option (List (Nat × Byte)))
  /-- DRBG_RESTART (R346): After a health-test failure, a fresh start-up test passes and a reseed completes, so the DRBG produces again and DRBGOK returns to 1. -/
  | drbgRestart (dt : Nat)
  /-- CIPH_POOL_REFILL (R253): A stalled cipher unit's randomness pool reaches 8 bytes again and the stalled command resumes. -/
  | ciphPoolRefill (dt : Nat) (u : Fin 4)
  /-- HOLDUP_SAMPLE (R374): VHOLD_SENSE is measured every 100 µs, updating UPD_HOLDUP and NOWCODE, and aborting an update when it falls below UPD_HOLDUP_MIN. -/
  | holdupSample (dt : Nat) (mv : Nat)
  /-- BACKUP_SUPPLY_RETURN (R417): VBAK rises to 1.9 V or above, or first comes up, clearing BATLOW. -/
  | backupSupplyReturn (dt : Nat)
  /-- SPI_SLAVE_WORD (R433): A slave completes a word on SCLK edges, pushing it to the receive FIFO or setting OVER, and starts the next word, sending all ones and setting UNDER when the transmit FIFO is empty. -/
  | spiSlaveWord (dt : Nat) (i : Fin 2) (mosi : Nat)
  /-- MSIX_UNMASK (R332): The host unmasks an MSI-X entry or the function, and a message marked pending is sent. -/
  | msixUnmask (dt : Nat) (e : Option (Fin 64))
  /-- LANE_TX_END (R174): A lane frame's transmission ends: STATUS is written for a TX without ACKREQ, and the ACKREQ receive window is placed from its TS_END. -/
  | laneTxEnd (dt : Nat) (l : Fin 2)
  /-- DMA_DRAIN_DONE (R280): A stopped channel finishes draining its held lines, becomes STOPPED with status STOPPED at CUR, and its owner is signalled. -/
  | dmaDrainDone (dt : Nat) (n : Fin 16)
  deriving DecidableEq, Repr

end Sys2Proof
end

