-- ==== Sys2Proof/Config.lean ====
section
/-!
DEFINITION. What an implementation fixes and the spec does not, and the free values: opaque constants that nothing in
Lean can evaluate. A free value is applied to `State.free`, a counter that each use advances, or to the operands it
depends on, so a statement that holds of the model holds for every value.
-/

namespace Sys2Proof.Config

/-- A free natural number: a value the spec leaves open, taken modulo the width of the place it is stored in. -/
opaque freeNat : Nat → Nat

/-- A free signed number. -/
opaque freeInt : Nat → Int

/-- The vendor identifier of HST_PCIID ("fixed", 18_host.md): its number is not in the spec. -/
opaque vendorId : Nat

/-- ECDSA P-256: does a signature (r then s, 64 bytes) verify over a SHA-256 digest under a public key (X then Y)? The
arithmetic of the curve is not part of the spec's text. DESIGN CHOICE, log entry 19. -/
opaque ecdsaOk : (key digest sig : List Byte) → Bool

/-- ECDH P-256: the X coordinate, 32 bytes, of a private key times a public point (R359). DESIGN CHOICE, log entry 19. -/
opaque ecdhX : (priv : Nat) → (point : List Byte) → List Byte

/-- The public key, X then Y, of a P-256 private key (R348). DESIGN CHOICE, log entry 19. -/
opaque pubKey : (priv : Nat) → List Byte

/-- Byte `i` of the 16 bytes by which a fault record stands in the LOG bay (R36): the spec names what a record holds and
not how it is laid out. DESIGN CHOICE, log entry 111. -/
opaque faultByte : (code sev src stamp i : Nat) → Byte

/-- Random bytes of the DRBG (R347): the n-th byte drawn. -/
opaque drbgByte : Nat → Byte

end Sys2Proof.Config
end

