-- ==== Sys2Proof/Machine/Fields.lean ====
section
/-!
DEFINITION. Every field of every register, by its name in the spec: which register it lies in (its place in the
block address map of 18_host.md), its lowest bit and its width, from the register tables that end the chapters of
spec/. A field of a register family takes the indices the spec writes as lower-case letters. The register words
themselves are named in namespace R.
-/

namespace Sys2Proof.Machine.F

def TICK_CTL_SRC : Field := ⟨0x10000, 0, 2⟩
def TICK_CTL_CLRCNT : Field := ⟨0x10000, 2, 1⟩
def TICK_STAT_LOCK : Field := ⟨0x10004, 0, 2⟩
def TICK_STAT_PPSLOST : Field := ⟨0x10004, 2, 1⟩
def TICK_STAT_STALESEAL : Field := ⟨0x10004, 3, 1⟩
def TICK_STAT_RETIRE_LATE : Field := ⟨0x10004, 4, 1⟩
def TICK_STAT_LOADREF : Field := ⟨0x10004, 5, 1⟩
def TICK_STAT_ASNWRAP : Field := ⟨0x10004, 6, 1⟩
def TICK_STAT_SFNWRAP : Field := ⟨0x10004, 7, 1⟩
def TICK_TRIM_TRIM : Field := ⟨0x10008, 0, 24⟩
def TICK_SLEW_REQ : Field := ⟨0x1000c, 0, 24⟩
def TICK_SLEWREM_REM : Field := ⟨0x10010, 0, 24⟩
def TICK_PPS_OFFSET_OFFSET : Field := ⟨0x10014, 0, 25⟩
def TICK_PPS_ERR_ERR : Field := ⟨0x10018, 0, 16⟩
def TICK_PPS_ERR_OUTLIERS : Field := ⟨0x10018, 16, 16⟩
def TICK_LIVE_QUARTER : Field := ⟨0x1001c, 0, 2⟩
def TICK_LIVE_GRAIN : Field := ⟨0x1001c, 2, 18⟩
def TICK_CAPTURE_GO : Field := ⟨0x10020, 0, 1⟩
def TICK_SEAL_ASN8 : Field := ⟨0x10024, 0, 8⟩
def TICK_SEAL_KIND : Field := ⟨0x10024, 8, 1⟩
def TICK_NEEDSEAL_PREP : Field := ⟨0x10028, 0, 12⟩
def TICK_NEEDSEAL_RETIRE : Field := ⟨0x10028, 16, 12⟩
def TICK_SEALED_PREP : Field := ⟨0x1002c, 0, 12⟩
def TICK_SEALED_RETIRE : Field := ⟨0x1002c, 16, 12⟩
def TICK_MISS_n_PREP (n : Nat) : Field := ⟨0x10040 + 4 * n, 0, 16⟩
def TICK_MISS_n_RETIRE (n : Nat) : Field := ⟨0x10040 + 4 * n, 16, 16⟩
def TICK_CANCEL_COUNT : Field := ⟨0x10070, 0, 32⟩
def TICK_LOAD_ASNL_ASN : Field := ⟨0x10080, 0, 32⟩
def TICK_LOAD_ASNH_ASN : Field := ⟨0x10084, 0, 8⟩
def TICK_LOAD_ASNH_SLOT : Field := ⟨0x10084, 8, 12⟩
def TICK_LOAD_SFN_SFN : Field := ⟨0x10088, 0, 32⟩
def TICK_LOAD_GO : Field := ⟨0x1008c, 0, 1⟩
def TICK_CAP_b_ASNL (b : Nat) : Field := ⟨0x10100 + 16 * b, 0, 32⟩
def TICK_CAP_b_ASNH (b : Nat) : Field := ⟨0x10104 + 16 * b, 0, 8⟩
def TICK_CAP_b_SLOT (b : Nat) : Field := ⟨0x10104 + 16 * b, 8, 12⟩
def TICK_CAP_b_SEQ (b : Nat) : Field := ⟨0x10104 + 16 * b, 20, 12⟩
def TICK_CAP_b_SFN (b : Nat) : Field := ⟨0x10108 + 16 * b, 0, 32⟩
def TICK_CAP_b_QUARTER (b : Nat) : Field := ⟨0x1010c + 16 * b, 0, 2⟩
def TICK_CAP_b_GRAIN (b : Nat) : Field := ⟨0x1010c + 16 * b, 2, 18⟩
def TICK_CAP_b_VALID (b : Nat) : Field := ⟨0x1010c + 16 * b, 31, 1⟩
def SYS_ID_PART : Field := ⟨0x0, 0, 16⟩
def SYS_ID_REV : Field := ⟨0x0, 16, 8⟩
def SYS_MODE_MODE_CUR : Field := ⟨0x4, 0, 4⟩
def SYS_MODE_MODE_PREV : Field := ⟨0x4, 4, 4⟩
def SYS_MODE_TRANS : Field := ⟨0x4, 8, 1⟩
def SYS_MODE_PERS : Field := ⟨0x4, 9, 1⟩
def SYS_MODE_REQ_TARGET : Field := ⟨0x8, 0, 4⟩
def SYS_MODE_REQ_ESTOP : Field := ⟨0x8, 4, 1⟩
def SYS_MODE_REQ_GO : Field := ⟨0x8, 5, 1⟩
def SYS_ERR_FROZENWR : Field := ⟨0xc, 0, 1⟩
def SYS_ERR_BADMODE : Field := ⟨0xc, 1, 1⟩
def SYS_ERR_BUSY : Field := ⟨0xc, 2, 1⟩
def SYS_ERR_BADKEY : Field := ⟨0xc, 3, 1⟩
def SYS_ERR_RINGIDX : Field := ⟨0xc, 4, 1⟩
def SYS_RSTCAUSE_POR : Field := ⟨0x10, 0, 1⟩
def SYS_RSTCAUSE_PIN : Field := ⟨0x10, 1, 1⟩
def SYS_RSTCAUSE_SOFT : Field := ⟨0x10, 2, 1⟩
def SYS_RSTCAUSE_CARAVAN : Field := ⟨0x10, 3, 1⟩
def SYS_RSTCAUSE_FROMSAFE : Field := ⟨0x10, 4, 1⟩
def SYS_RSTCAUSE_SAFECODE : Field := ⟨0x10, 8, 8⟩
def SYS_RESET_KEY : Field := ⟨0x14, 0, 16⟩
def SYS_STRAP_HOST : Field := ⟨0x18, 0, 2⟩
def SYS_STRAP_BOOT : Field := ⟨0x18, 2, 1⟩
def SYS_STRAP_TANDEM : Field := ⟨0x18, 3, 1⟩
def SYS_STRAP_PIN_HOST : Field := ⟨0x18, 4, 2⟩
def SYS_STRAP_PIN_BOOT : Field := ⟨0x18, 6, 1⟩
def SYS_STRAP_PIN_TANDEM : Field := ⟨0x18, 7, 1⟩
def SYS_STRAP_OVR : Field := ⟨0x18, 8, 3⟩
def SYS_FAULT_CUR_CODE : Field := ⟨0x20, 0, 8⟩
def SYS_FAULT_CUR_SEV : Field := ⟨0x20, 8, 2⟩
def SYS_FAULT_CUR_SRC : Field := ⟨0x20, 10, 6⟩
def SYS_FAULT_CUR_ASN8 : Field := ⟨0x20, 16, 8⟩
def SYS_FAULT_CUR_VALID : Field := ⟨0x20, 31, 1⟩
def SYS_FAULT_PEND_CODE : Field := ⟨0x24, 0, 8⟩
def SYS_FAULT_PEND_SEV : Field := ⟨0x24, 8, 2⟩
def SYS_FAULT_PEND_SRC : Field := ⟨0x24, 10, 6⟩
def SYS_FAULT_PEND_ASN8 : Field := ⟨0x24, 16, 8⟩
def SYS_FAULT_PEND_VALID : Field := ⟨0x24, 31, 1⟩
def SYS_FAULT_ACK_GO : Field := ⟨0x28, 0, 1⟩
def SYS_FAULT_LOST_COUNT : Field := ⟨0x2c, 0, 16⟩
def SYS_FAULT_LOST_NOTES : Field := ⟨0x2c, 16, 16⟩
def SYS_FAULT_CFG_TMO : Field := ⟨0x30, 0, 8⟩
def SYS_FAULT_CFG_ESCAL : Field := ⟨0x30, 8, 8⟩
def SYS_FAULT_CFG_CLRLOST : Field := ⟨0x30, 16, 1⟩
def MAN_STAT_ACTIVE_SLOT : Field := ⟨0x20000, 0, 1⟩
def MAN_STAT_ACTIVE_VALID : Field := ⟨0x20000, 1, 1⟩
def MAN_STAT_SHADOW : Field := ⟨0x20000, 2, 2⟩
def MAN_STAT_ARMED : Field := ⟨0x20000, 4, 1⟩
def MAN_STAT_READY : Field := ⟨0x20000, 5, 1⟩
def MAN_STAT_GO : Field := ⟨0x20000, 6, 1⟩
def MAN_STAT_NEXT : Field := ⟨0x20000, 7, 1⟩
def MAN_STAT_SWITCHED : Field := ⟨0x20000, 8, 1⟩
def MAN_STAT_CANCELLED : Field := ⟨0x20000, 9, 1⟩
def MAN_ERR_CODE : Field := ⟨0x20004, 0, 8⟩
def MAN_ERR_SECTION : Field := ⟨0x20004, 8, 8⟩
def MAN_ERR_ACTWR : Field := ⟨0x20004, 16, 1⟩
def MAN_ERR_BUSY : Field := ⟨0x20004, 17, 1⟩
def MAN_ERR_BADSTATE : Field := ⟨0x20004, 18, 1⟩
def MAN_ERR_TOOSOON : Field := ⟨0x20004, 19, 1⟩
def MAN_ERR_COMMITTED : Field := ⟨0x20004, 20, 1⟩
def MAN_LOAD_CHECK : Field := ⟨0x20008, 0, 1⟩
def MAN_LOAD_ACTIVATE : Field := ⟨0x20008, 1, 1⟩
def MAN_LOAD_DISCARD : Field := ⟨0x20008, 2, 1⟩
def MAN_ACTIVE_ID_MID : Field := ⟨0x2000c, 0, 32⟩
def MAN_SHADOW_ID_MID : Field := ⟨0x20010, 0, 32⟩
def MAN_SWITCH_SFN_SFN : Field := ⟨0x20014, 0, 32⟩
def MAN_SWITCH_ARM : Field := ⟨0x20018, 0, 1⟩
def MAN_SWITCH_CANCEL : Field := ⟨0x20018, 1, 1⟩
def MAN_SWITCH_STAT_CAUSE : Field := ⟨0x2001c, 0, 3⟩
def MAN_SWITCH_STAT_MISSING : Field := ⟨0x2001c, 8, 6⟩
def MAN_READY_LO_READY : Field := ⟨0x20020, 0, 32⟩
def MAN_READY_HI_READY : Field := ⟨0x20024, 0, 32⟩
def MAN_SLOT_n_BASE (n : Nat) : Field := ⟨0x20028 + 4 * n, 0, 25⟩
def MAN_DRV_n_ROLE (n : Nat) : Field := ⟨0x20040 + 4 * n, 0, 4⟩
def MAN_DRV_n_ORD (n : Nat) : Field := ⟨0x20040 + 4 * n, 4, 4⟩
def MAN_DRV_n_SEAL (n : Nat) : Field := ⟨0x20040 + 4 * n, 8, 2⟩
def MAN_DRV_n_IMAGE (n : Nat) : Field := ⟨0x20040 + 4 * n, 16, 16⟩
def MAN_BAY_n_BASE (n : Nat) : Field := ⟨0x20080 + 4 * n, 0, 9⟩
def MAN_BAY_n_SIZE (n : Nat) : Field := ⟨0x20080 + 4 * n, 16, 9⟩
def MAN_BAY_n_SCRUB (n : Nat) : Field := ⟨0x20080 + 4 * n, 31, 1⟩
def SF_SLOTLEN_LEN : Field := ⟨0x30000, 0, 18⟩
def SF_SFLEN_LEN : Field := ⟨0x30004, 0, 13⟩
def SF_TMPL0_TXOFF : Field := ⟨0x30008, 0, 16⟩
def SF_TMPL0_RXGMAX : Field := ⟨0x30008, 16, 16⟩
def SF_TMPL1_ACKDLY : Field := ⟨0x3000c, 0, 16⟩
def SF_MASK24_MASK : Field := ⟨0x30010, 0, 16⟩
def SF_MASKSG_LO_MASK : Field := ⟨0x30014, 0, 32⟩
def SF_MASKSG_HI_MASK : Field := ⟨0x30018, 0, 32⟩
def SF_PLANID_PLANID : Field := ⟨0x3001c, 0, 16⟩
def SF_BCN_NBCN24 : Field := ⟨0x30020, 0, 4⟩
def SF_BCN_NBCNSG : Field := ⟨0x30020, 4, 4⟩
def SF_BCN_SECLVL : Field := ⟨0x30020, 8, 2⟩
def SF_JOIN_FIRST : Field := ⟨0x30024, 0, 12⟩
def SF_JOIN_N : Field := ⟨0x30024, 12, 8⟩
def SF_JOIN_MINBE : Field := ⟨0x30024, 20, 4⟩
def SF_JOIN_MAXBE : Field := ⟨0x30024, 24, 4⟩
def SF_PANID_PANID : Field := ⟨0x30028, 0, 16⟩
def SF_SLEEPMAX_SF : Field := ⟨0x3002c, 0, 16⟩
def SF_DRAIN_SFN_SFN : Field := ⟨0x30030, 0, 32⟩
def SF_VIE_OUI : Field := ⟨0x30034, 0, 24⟩
def SF_CHANGE_SFN_SFN : Field := ⟨0x30060, 0, 32⟩
def SF_CHANGE_ARM : Field := ⟨0x30064, 0, 1⟩
def SF_CHANGE_WAITGO : Field := ⟨0x30064, 1, 1⟩
def SF_STAT_ARMED : Field := ⟨0x30068, 0, 1⟩
def SF_STAT_APPLIED : Field := ⟨0x30068, 1, 1⟩
def SF_STAT_DRAINING : Field := ⟨0x30068, 2, 1⟩
def SF_STAT_DROPPED : Field := ⟨0x30068, 3, 1⟩
def SF_STAT_BSPAN24 : Field := ⟨0x30068, 4, 4⟩
def SF_STAT_BSPANSG : Field := ⟨0x30068, 8, 4⟩
def SF_ERR_BADVAL : Field := ⟨0x3006c, 0, 1⟩
def SF_ERR_NOTICE : Field := ⟨0x3006c, 1, 1⟩
def SF_ERR_WAITGO : Field := ⟨0x3006c, 2, 1⟩
def SF_ERR_DRAINWR : Field := ⟨0x3006c, 3, 1⟩
def SF_ERR_BADSTATE : Field := ⟨0x3006c, 4, 1⟩
def SF_CNT_JOINREQ : Field := ⟨0x30070, 0, 16⟩
def SF_CNT_JOINREJ : Field := ⟨0x30070, 16, 16⟩
def SF_CNT_OVERLONG_COUNT : Field := ⟨0x30074, 0, 32⟩
def SF_BCNVAL_JOINFIRST : Field := ⟨0x30078, 0, 12⟩
def SF_BCNVAL_JOINN : Field := ⟨0x30078, 12, 8⟩
def SF_BCNVAL_NBCN24 : Field := ⟨0x30078, 20, 4⟩
def SF_BCNVAL_NBCNSG : Field := ⟨0x30078, 24, 4⟩
def SF_BCNVAL_PEND : Field := ⟨0x30078, 28, 1⟩
def SF_BCNVAL_DRAIN : Field := ⟨0x30078, 29, 1⟩
def FRX_CTL_EN24 : Field := ⟨0x40000, 0, 1⟩
def FRX_CTL_ENSG : Field := ⟨0x40000, 1, 1⟩
def FRX_CTL_KEEPBAD : Field := ⟨0x40000, 2, 1⟩
def FRX_CTL_EARLY : Field := ⟨0x40000, 3, 1⟩
def FRX_CTL_LATE : Field := ⟨0x40000, 4, 1⟩
def FRX_CTL_CLRCNT : Field := ⟨0x40000, 5, 1⟩
def FRX_STAT_LNA24 : Field := ⟨0x40004, 0, 2⟩
def FRX_STAT_LNASG : Field := ⟨0x40004, 2, 2⟩
def FRX_STAT_PROGBAD : Field := ⟨0x40004, 4, 1⟩
def FRX_STAT_EXCL24 : Field := ⟨0x40004, 8, 8⟩
def FRX_STAT_EXCLSG : Field := ⟨0x40004, 16, 8⟩
def FRX_PORTEN_EN24 : Field := ⟨0x40008, 0, 8⟩
def FRX_PORTEN_ENSG : Field := ⟨0x40008, 8, 8⟩
def FRX_AGC24_AUTO : Field := ⟨0x4000c, 0, 1⟩
def FRX_AGC24_FIXGAIN : Field := ⟨0x4000c, 1, 4⟩
def FRX_AGC24_FIXLNA : Field := ⟨0x4000c, 5, 1⟩
def FRX_AGC24_TARGET : Field := ⟨0x4000c, 8, 8⟩
def FRX_AGC24_CLIPMAX : Field := ⟨0x4000c, 16, 16⟩
def FRX_AGCSG_AUTO : Field := ⟨0x40010, 0, 1⟩
def FRX_AGCSG_FIXGAIN : Field := ⟨0x40010, 1, 4⟩
def FRX_AGCSG_FIXLNA : Field := ⟨0x40010, 5, 1⟩
def FRX_AGCSG_TARGET : Field := ⟨0x40010, 8, 8⟩
def FRX_AGCSG_CLIPMAX : Field := ⟨0x40010, 16, 16⟩
def FRX_EXT24_DLY : Field := ⟨0x40014, 0, 12⟩
def FRX_EXT24_GAINHI : Field := ⟨0x40014, 12, 10⟩
def FRX_EXT24_GAINLO : Field := ⟨0x40014, 22, 10⟩
def FRX_EXTSG_DLY : Field := ⟨0x40018, 0, 12⟩
def FRX_EXTSG_GAINHI : Field := ⟨0x40018, 12, 10⟩
def FRX_EXTSG_GAINLO : Field := ⟨0x40018, 22, 10⟩
def FRX_PAIR_RHOMAX : Field := ⟨0x4001c, 0, 8⟩
def FRX_PAIR_DPMAX : Field := ⟨0x4001c, 8, 6⟩
def FRX_PAIR_AGEMAX : Field := ⟨0x4001c, 16, 12⟩
def FRX_PAIR_MINPORTS : Field := ⟨0x4001c, 28, 4⟩
def FRX_RXP_BASE : Field := ⟨0x40020, 0, 25⟩
def FRX_RXP_COUNT : Field := ⟨0x40020, 25, 7⟩
def FRX_FEM_MAP_m_FUNC (m : Nat) : Field := ⟨0x40030 + 4 * m, 0, 32⟩
def FRX_FEM_PAT_s_LEVEL (s : Nat) : Field := ⟨0x40040 + 4 * s, 0, 32⟩
def FRX_FEM_STATIC_LEVEL : Field := ⟨0x40050, 0, 32⟩
def FRX_GAIN_p_GAIN (p : Nat) : Field := ⟨0x40060 + 4 * p, 0, 4⟩
def FRX_POOL_k_BASE (k : Nat) : Field := ⟨0x40100 + 16 * k, 0, 25⟩
def FRX_POOL_k_LEN (k : Nat) : Field := ⟨0x40104 + 16 * k, 0, 16⟩
def FRX_POOL_k_WR (k : Nat) : Field := ⟨0x40108 + 16 * k, 0, 16⟩
def FRX_POOL_k_RD (k : Nat) : Field := ⟨0x4010c + 16 * k, 0, 16⟩
def FRX_RING_n_BASE (n : Nat) : Field := ⟨0x40200 + 16 * n, 0, 25⟩
def FRX_RING_n_LEN (n : Nat) : Field := ⟨0x40204 + 16 * n, 0, 16⟩
def FRX_RING_n_WR (n : Nat) : Field := ⟨0x40208 + 16 * n, 0, 16⟩
def FRX_RING_n_RD (n : Nat) : Field := ⟨0x4020c + 16 * n, 0, 16⟩
def FRX_CNT_RX24_COUNT : Field := ⟨0x40300, 0, 32⟩
def FRX_CNT_RXSG_COUNT : Field := ⟨0x40304, 0, 32⟩
def FRX_CNT_DROP_k_COUNT (k : Nat) : Field := ⟨0x40310 + 4 * k, 0, 32⟩
def FRX_CNT_PAIR_PAIRED : Field := ⟨0x40330, 0, 16⟩
def FRX_CNT_PAIR_REFUSED : Field := ⟨0x40330, 16, 16⟩
def FRX_CNT_PAIRREF_r_COUNT (r : Nat) : Field := ⟨0x40340 + 4 * r, 0, 32⟩
def FRX_CHPWR_c_MEAN (c : Nat) : Field := ⟨0x40400 + 4 * c, 0, 16⟩
def FRX_CHPWR_c_PEAK (c : Nat) : Field := ⟨0x40400 + 4 * c, 16, 16⟩
def FTX_CTL_CLRCNT : Field := ⟨0x50000, 0, 1⟩
def FTX_CTL_AGCMASK : Field := ⟨0x50000, 1, 1⟩
def FTX_STAT_PEND : Field := ⟨0x50004, 0, 4⟩
def FTX_STAT_BADVAL : Field := ⟨0x50004, 4, 1⟩
def FTX_STAT_ITEMBAD : Field := ⟨0x50004, 5, 1⟩
def FTX_STAT_BCNCLIP : Field := ⟨0x50004, 6, 1⟩
def FTX_STAT_DPDERR : Field := ⟨0x50004, 8, 4⟩
def FTX_STAT_BUSY : Field := ⟨0x50004, 12, 4⟩
def FTX_OUT_o_PMAX (o : Nat) : Field := ⟨0x50010 + 4 * o, 0, 9⟩
def FTX_OUT_o_NCMAX (o : Nat) : Field := ⟨0x50010 + 4 * o, 9, 5⟩
def FTX_OUT_o_ACKRES (o : Nat) : Field := ⟨0x50010 + 4 * o, 14, 4⟩
def FTX_OUT_o_RAMP (o : Nat) : Field := ⟨0x50010 + 4 * o, 18, 5⟩
def FTX_OUT_o_FEMLEAD (o : Nat) : Field := ⟨0x50010 + 4 * o, 23, 6⟩
def FTX_OUT_o_BCN (o : Nat) : Field := ⟨0x50010 + 4 * o, 29, 1⟩
def FTX_OUT_o_EN (o : Nat) : Field := ⟨0x50010 + 4 * o, 30, 1⟩
def FTX_EXT_o_DLY (o : Nat) : Field := ⟨0x50020 + 4 * o, 0, 12⟩
def FTX_EXT_o_FEMLAG (o : Nat) : Field := ⟨0x50020 + 4 * o, 12, 6⟩
def FTX_FEM_PAT_o_s_LEVEL (o s : Nat) : Field := ⟨0x50030 + 8 * o + 4 * s, 0, 32⟩
def FTX_TXL_BASE : Field := ⟨0x50050, 0, 25⟩
def FTX_TXL_COUNT : Field := ⟨0x50050, 25, 7⟩
def FTX_ACKRING_j_BASE (j : Nat) : Field := ⟨0x50060 + 16 * j, 0, 25⟩
def FTX_ACKRING_j_LEN (j : Nat) : Field := ⟨0x50064 + 16 * j, 0, 16⟩
def FTX_ACKRING_j_WR (j : Nat) : Field := ⟨0x50068 + 16 * j, 0, 16⟩
def FTX_ACKRING_j_RD (j : Nat) : Field := ⟨0x5006c + 16 * j, 0, 16⟩
def FTX_DPD_EN24 : Field := ⟨0x50080, 0, 1⟩
def FTX_DPD_ENSG : Field := ⟨0x50080, 1, 1⟩
def FTX_DPD_RESEED : Field := ⟨0x50080, 2, 1⟩
def FTX_DPD_ERRMAX : Field := ⟨0x50080, 8, 8⟩
def FTX_DPDSTAT_o_ERR (o : Nat) : Field := ⟨0x50090 + 4 * o, 0, 8⟩
def FTX_DPDSTAT_o_UPDATES (o : Nat) : Field := ⟨0x50090 + 4 * o, 8, 8⟩
def FTX_DPDSTAT_o_SEED (o : Nat) : Field := ⟨0x50090 + 4 * o, 16, 1⟩
def FTX_COEX_EN : Field := ⟨0x500a0, 0, 1⟩
def FTX_COEX_POL_GNT : Field := ⟨0x500a0, 1, 1⟩
def FTX_COEX_PRI_ACK : Field := ⟨0x500a0, 2, 1⟩
def FTX_COEX_PRI_BCN : Field := ⟨0x500a0, 3, 1⟩
def FTX_COEX_PRI_DATA : Field := ⟨0x500a0, 4, 1⟩
def FTX_COEX_LEAD : Field := ⟨0x500a0, 5, 9⟩
def FTX_CNT_k_COUNT (k : Nat) : Field := ⟨0x500b0 + 4 * k, 0, 32⟩
def FTX_AIR_o_US (o : Nat) : Field := ⟨0x500d0 + 4 * o, 0, 32⟩
def NT_CTL_CLRCNT : Field := ⟨0x60000, 0, 1⟩
def NT_STAT_BUSY : Field := ⟨0x60004, 0, 1⟩
def NT_STAT_BADOP : Field := ⟨0x60004, 1, 1⟩
def NT_STAT_STALE : Field := ⟨0x60004, 2, 1⟩
def NT_CFG_LOSTN : Field := ⟨0x60008, 0, 4⟩
def NT_CFG_LEARN : Field := ⟨0x60008, 4, 4⟩
def NT_CFG_JUMPMAX : Field := ⟨0x60008, 8, 4⟩
def NT_GAIN_KA : Field := ⟨0x6000c, 0, 8⟩
def NT_GAIN_KB : Field := ⟨0x6000c, 8, 8⟩
def NT_GAIN_KG : Field := ⟨0x6000c, 16, 8⟩
def NT_GUARD_GMIN : Field := ⟨0x60010, 0, 13⟩
def NT_GUARD_RUNC : Field := ⟨0x60010, 16, 16⟩
def NT_EPOCH_OLDLEN : Field := ⟨0x60014, 0, 18⟩
def NT_EPOCH_ASN_ASN : Field := ⟨0x60018, 0, 32⟩
def NT_LOST_COUNT : Field := ⟨0x6001c, 0, 15⟩
def NT_RING_j_BASE (j : Nat) : Field := ⟨0x60020 + 16 * j, 0, 25⟩
def NT_RING_j_LEN (j : Nat) : Field := ⟨0x60024 + 16 * j, 0, 16⟩
def NT_RING_j_WR (j : Nat) : Field := ⟨0x60028 + 16 * j, 0, 16⟩
def NT_RING_j_RD (j : Nat) : Field := ⟨0x6002c + 16 * j, 0, 16⟩
def NT_CNT_k_COUNT (k : Nat) : Field := ⟨0x60040 + 4 * k, 0, 32⟩
def SEC_CTL_CLRCNT : Field := ⟨0x70000, 0, 1⟩
def SEC_CTL_ALLOW4 : Field := ⟨0x70000, 1, 1⟩
def SEC_STAT_BUSY : Field := ⟨0x70004, 0, 1⟩
def SEC_STAT_BADOP : Field := ⟨0x70004, 1, 1⟩
def SEC_STAT_NOLEASE : Field := ⟨0x70004, 2, 1⟩
def SEC_STAT_LEASEFAIL : Field := ⟨0x70004, 3, 1⟩
def SEC_STAT_FORGERY : Field := ⟨0x70004, 4, 1⟩
def SEC_STAT_GATEHELD : Field := ⟨0x70004, 5, 1⟩
def SEC_CELLEUI_LO_EUI : Field := ⟨0x70008, 0, 32⟩
def SEC_CELLEUI_HI_EUI : Field := ⟨0x7000c, 0, 32⟩
def SEC_CFG_LEVELMIN : Field := ⟨0x70010, 0, 3⟩
def SEC_CFG_KEYLVL : Field := ⟨0x70010, 4, 3⟩
def SEC_CFG_ROTWARN : Field := ⟨0x70010, 8, 8⟩
def SEC_BCNKEY_KEYIDX : Field := ⟨0x70014, 0, 8⟩
def SEC_BCNKEY_VALID : Field := ⟨0x70014, 8, 1⟩
def SEC_CELLCTR_VALUE : Field := ⟨0x70018, 0, 32⟩
def SEC_CELLLEASE_VALUE : Field := ⟨0x7001c, 0, 32⟩
def SEC_JSEQ_SENT : Field := ⟨0x70020, 0, 16⟩
def SEC_JSEQ_CONF : Field := ⟨0x70020, 16, 16⟩
def SEC_RING_j_BASE (j : Nat) : Field := ⟨0x70030 + 16 * j, 0, 25⟩
def SEC_RING_j_LEN (j : Nat) : Field := ⟨0x70034 + 16 * j, 0, 16⟩
def SEC_RING_j_WR (j : Nat) : Field := ⟨0x70038 + 16 * j, 0, 16⟩
def SEC_RING_j_RD (j : Nat) : Field := ⟨0x7003c + 16 * j, 0, 16⟩
def SEC_CNT_k_COUNT (k : Nat) : Field := ⟨0x70060 + 4 * k, 0, 32⟩
def BBL_CTL_CLRCNT : Field := ⟨0x80000, 0, 1⟩
def BBL_STAT_BADVAL : Field := ⟨0x80004, 0, 1⟩
def BBL_STAT_BADENTRY : Field := ⟨0x80004, 1, 1⟩
def BBL_l_CFG_ROLE (l : Nat) : Field := ⟨0x80100 + 256 * l, 0, 2⟩
def BBL_l_CFG_SYNC (l : Nat) : Field := ⟨0x80100 + 256 * l, 2, 1⟩
def BBL_l_CFG_FIXPH (l : Nat) : Field := ⟨0x80100 + 256 * l, 4, 12⟩
def BBL_l_TMPL_TXOFF (l : Nat) : Field := ⟨0x80104 + 256 * l, 0, 16⟩
def BBL_l_TMPL_ACKDLY (l : Nat) : Field := ⟨0x80104 + 256 * l, 16, 16⟩
def BBL_l_GUARD_GMIN (l : Nat) : Field := ⟨0x80108 + 256 * l, 0, 11⟩
def BBL_l_GUARD_GMAX (l : Nat) : Field := ⟨0x80108 + 256 * l, 11, 11⟩
def BBL_l_GUARD_TXLATE (l : Nat) : Field := ⟨0x80108 + 256 * l, 22, 8⟩
def BBL_l_TX_PWR (l : Nat) : Field := ⟨0x8010c + 256 * l, 0, 8⟩
def BBL_l_TX_RAMP (l : Nat) : Field := ⟨0x8010c + 256 * l, 8, 5⟩
def BBL_l_TX_FEMLEAD (l : Nat) : Field := ⟨0x8010c + 256 * l, 13, 6⟩
def BBL_l_TX_FEMLAG (l : Nat) : Field := ⟨0x8010c + 256 * l, 19, 6⟩
def BBL_l_HOP_MASK (l : Nat) : Field := ⟨0x80110 + 256 * l, 0, 32⟩
def BBL_l_LINK_BCNPER (l : Nat) : Field := ⟨0x80114 + 256 * l, 0, 8⟩
def BBL_l_LINK_LOSTN (l : Nat) : Field := ⟨0x80114 + 256 * l, 8, 4⟩
def BBL_l_LINK_REACQ (l : Nat) : Field := ⟨0x80114 + 256 * l, 12, 4⟩
def BBL_l_LINK_KP (l : Nat) : Field := ⟨0x80114 + 256 * l, 16, 8⟩
def BBL_l_LINK_KR (l : Nat) : Field := ⟨0x80114 + 256 * l, 24, 8⟩
def BBL_l_SRCH_MASK (l : Nat) : Field := ⟨0x80118 + 256 * l, 0, 32⟩
def BBL_l_DWELL_DWELL (l : Nat) : Field := ⟨0x8011c + 256 * l, 0, 16⟩
def BBL_l_PARENT_LO_EUI (l : Nat) : Field := ⟨0x80120 + 256 * l, 0, 32⟩
def BBL_l_PARENT_HI_EUI (l : Nat) : Field := ⟨0x80124 + 256 * l, 0, 32⟩
def BBL_l_PROG_BASE (l : Nat) : Field := ⟨0x80128 + 256 * l, 0, 25⟩
def BBL_l_CMD_RESEARCH (l : Nat) : Field := ⟨0x8012c + 256 * l, 0, 1⟩
def BBL_l_SEND_BASE (l : Nat) : Field := ⟨0x80130 + 256 * l, 0, 25⟩
def BBL_l_SEND_LEN (l : Nat) : Field := ⟨0x80134 + 256 * l, 0, 16⟩
def BBL_l_SEND_WR (l : Nat) : Field := ⟨0x80138 + 256 * l, 0, 16⟩
def BBL_l_SEND_RD (l : Nat) : Field := ⟨0x8013c + 256 * l, 0, 16⟩
def BBL_l_STATE_STATE (l : Nat) : Field := ⟨0x80140 + 256 * l, 0, 3⟩
def BBL_l_STATE_MISS (l : Nat) : Field := ⟨0x80140 + 256 * l, 4, 4⟩
def BBL_l_STATE_CHAN (l : Nat) : Field := ⟨0x80140 + 256 * l, 8, 5⟩
def BBL_l_STATE_CAL (l : Nat) : Field := ⟨0x80140 + 256 * l, 13, 2⟩
def BBL_l_STATE_BUSY (l : Nat) : Field := ⟨0x80140 + 256 * l, 15, 1⟩
def BBL_l_PHASE_VALUE (l : Nat) : Field := ⟨0x80144 + 256 * l, 0, 24⟩
def BBL_l_RATE_VALUE (l : Nat) : Field := ⟨0x80148 + 256 * l, 0, 24⟩
def BBL_l_LASNOFF_LO_OFF (l : Nat) : Field := ⟨0x8014c + 256 * l, 0, 32⟩
def BBL_l_LASNOFF_HI_OFF (l : Nat) : Field := ⟨0x80150 + 256 * l, 0, 32⟩
def BBL_l_COEX_EN (l : Nat) : Field := ⟨0x80154 + 256 * l, 0, 1⟩
def BBL_l_COEX_POL_GNT (l : Nat) : Field := ⟨0x80154 + 256 * l, 1, 1⟩
def BBL_l_COEX_REQRX (l : Nat) : Field := ⟨0x80154 + 256 * l, 2, 1⟩
def BBL_l_COEX_PRI_ACK (l : Nat) : Field := ⟨0x80154 + 256 * l, 3, 1⟩
def BBL_l_COEX_PRI_BCN (l : Nat) : Field := ⟨0x80154 + 256 * l, 4, 1⟩
def BBL_l_COEX_PRI_DATA (l : Nat) : Field := ⟨0x80154 + 256 * l, 5, 1⟩
def BBL_l_COEX_LEAD (l : Nat) : Field := ⟨0x80154 + 256 * l, 6, 9⟩
def BBL_l_EXT_DLY (l : Nat) : Field := ⟨0x80158 + 256 * l, 0, 12⟩
def BBL_l_EXT_GAIN (l : Nat) : Field := ⟨0x80158 + 256 * l, 12, 10⟩
def BBL_l_BGCAL_EN (l : Nat) : Field := ⟨0x8015c + 256 * l, 0, 4⟩
def BBL_l_BGCAL_BGPER (l : Nat) : Field := ⟨0x8015c + 256 * l, 8, 8⟩
def BBL_l_CNT_k_COUNT (l k : Nat) : Field := ⟨0x80160 + 256 * l + 4 * k, 0, 32⟩
def BBL_l_CHAN_c_FREQ (l c : Nat) : Field := ⟨0x80180 + 256 * l + 4 * c, 0, 22⟩
def BBL_l_CHAN_c_PHY (l c : Nat) : Field := ⟨0x80180 + 256 * l + 4 * c, 22, 2⟩
def SER_CTL_SCRUBEN : Field := ⟨0x90000, 0, 1⟩
def SER_CTL_CLRCNT : Field := ⟨0x90000, 1, 1⟩
def SER_STAT_SPAREBUSY : Field := ⟨0x90004, 0, 1⟩
def SER_STAT_SPAREOUT : Field := ⟨0x90004, 1, 1⟩
def SER_STAT_SPAREBAD : Field := ⟨0x90004, 2, 1⟩
def SER_STAT_PARTPOISON : Field := ⟨0x90004, 3, 1⟩
def SER_SCRUB_PERIOD : Field := ⟨0x90008, 0, 12⟩
def SER_SCRUBPOS_ADDR : Field := ⟨0x9000c, 0, 21⟩
def SER_SCRUBPASS_COUNT : Field := ⟨0x90010, 0, 32⟩
def SER_SPARECFG_THRESH : Field := ⟨0x90014, 0, 4⟩
def SER_SPARECFG_AUTO : Field := ⟨0x90014, 4, 1⟩
def SER_SPARECMD_ROW : Field := ⟨0x90018, 0, 11⟩
def SER_SPARECMD_BANK : Field := ⟨0x90018, 11, 4⟩
def SER_SPARECMD_GO : Field := ⟨0x90018, 15, 1⟩
def SER_LASTCE_ADDR : Field := ⟨0x90020, 0, 21⟩
def SER_LASTCE_BITS : Field := ⟨0x90020, 21, 2⟩
def SER_LASTUE_ADDR : Field := ⟨0x90024, 0, 21⟩
def SER_LASTUE_CAUSE : Field := ⟨0x90024, 21, 2⟩
def SER_LASTUE_MASTER : Field := ⟨0x90024, 23, 4⟩
def SER_APER_BASE : Field := ⟨0x90030, 0, 9⟩
def SER_ARB_PROMOTE : Field := ⟨0x90034, 0, 8⟩
def SER_CNT_k_COUNT (k : Nat) : Field := ⟨0x90040 + 4 * k, 0, 32⟩
def SER_REMAP_b_k_ROW (b k : Nat) : Field := ⟨0x90100 + 32 * b + 4 * k, 0, 11⟩
def SER_REMAP_b_k_VALID (b k : Nat) : Field := ⟨0x90100 + 32 * b + 4 * k, 31, 1⟩
def DRV_STAT_RUNWR : Field := ⟨0xa0000, 0, 1⟩
def DRV_STAT_DBGLOCK : Field := ⟨0xa0000, 1, 1⟩
def DRV_STAT_BADCMD : Field := ⟨0xa0000, 2, 1⟩
def DRV_n_CTL_HALT (n : Nat) : Field := ⟨0xa0100 + 64 * n, 0, 1⟩
def DRV_n_CTL_RESUME (n : Nat) : Field := ⟨0xa0100 + 64 * n, 1, 1⟩
def DRV_n_CTL_STEP (n : Nat) : Field := ⟨0xa0100 + 64 * n, 2, 1⟩
def DRV_n_CTL_BRKEN (n : Nat) : Field := ⟨0xa0100 + 64 * n, 3, 1⟩
def DRV_n_STAT_STATE (n : Nat) : Field := ⟨0xa0104 + 64 * n, 0, 3⟩
def DRV_n_STAT_PERS (n : Nat) : Field := ⟨0xa0104 + 64 * n, 3, 1⟩
def DRV_n_STAT_BANK (n : Nat) : Field := ⟨0xa0104 + 64 * n, 4, 1⟩
def DRV_n_STAT_INH (n : Nat) : Field := ⟨0xa0104 + 64 * n, 5, 1⟩
def DRV_n_STAT_SWARMED (n : Nat) : Field := ⟨0xa0104 + 64 * n, 6, 1⟩
def DRV_n_STAT_SWTMO (n : Nat) : Field := ⟨0xa0104 + 64 * n, 7, 1⟩
def DRV_n_STAT_DBLTRAP (n : Nat) : Field := ⟨0xa0104 + 64 * n, 8, 1⟩
def DRV_n_STAT_LOSTCTX (n : Nat) : Field := ⟨0xa0104 + 64 * n, 9, 1⟩
def DRV_n_PC_PC (n : Nat) : Field := ⟨0xa0108 + 64 * n, 0, 13⟩
def DRV_n_BRK_ADDR (n : Nat) : Field := ⟨0xa010c + 64 * n, 0, 13⟩
def DRV_n_IMG_b_ID (n b : Nat) : Field := ⟨0xa0110 + 64 * n + 8 * b, 0, 16⟩
def DRV_n_IMG_b_VALID (n b : Nat) : Field := ⟨0xa0110 + 64 * n + 8 * b, 31, 1⟩
def DRV_n_IMG_b_VERSION (n b : Nat) : Field := ⟨0xa0114 + 64 * n + 8 * b, 0, 32⟩
def DRV_n_SWITCH_ARM (n : Nat) : Field := ⟨0xa0120 + 64 * n, 0, 1⟩
def DRV_n_SWITCH_CANCEL (n : Nat) : Field := ⟨0xa0120 + 64 * n, 1, 1⟩
def DRV_n_TRAP_CAUSE (n : Nat) : Field := ⟨0xa0124 + 64 * n, 0, 8⟩
def DRV_n_TRAP_PC (n : Nat) : Field := ⟨0xa0124 + 64 * n, 8, 13⟩
def DRV_n_TRAP_VALID (n : Nat) : Field := ⟨0xa0124 + 64 * n, 31, 1⟩
def DRV_n_LADDR_ADDR (n : Nat) : Field := ⟨0xa0128 + 64 * n, 0, 15⟩
def DRV_n_LADDR_INC (n : Nat) : Field := ⟨0xa0128 + 64 * n, 16, 1⟩
def DRV_n_LDATA_DATA (n : Nat) : Field := ⟨0xa012c + 64 * n, 0, 32⟩
def DRV_n_IADDR_ADDR (n : Nat) : Field := ⟨0xa0130 + 64 * n, 0, 13⟩
def DRV_n_IADDR_BANK (n : Nat) : Field := ⟨0xa0130 + 64 * n, 13, 1⟩
def DRV_n_IDATA_LO_DATA (n : Nat) : Field := ⟨0xa0134 + 64 * n, 0, 32⟩
def DRV_n_IDATA_HI_DATA (n : Nat) : Field := ⟨0xa0138 + 64 * n, 0, 32⟩
def DRV_n_EVPEND_PEND (n : Nat) : Field := ⟨0xa013c + 64 * n, 0, 32⟩
def CIPH_CTL_CLRCNT : Field := ⟨0xb0000, 0, 1⟩
def CIPH_STAT_BADVAL : Field := ⟨0xb0004, 0, 1⟩
def CIPH_STAT_BADOP : Field := ⟨0xb0004, 1, 1⟩
def CIPH_STAT_NOTOWNER : Field := ⟨0xb0004, 2, 1⟩
def CIPH_STAT_LEASEFAIL : Field := ⟨0xb0004, 3, 1⟩
def CIPH_CFG_STALLMAX : Field := ⟨0xb0008, 0, 8⟩
def CIPH_LIMIT_SESS_LIMIT : Field := ⟨0xb000c, 0, 32⟩
def CIPH_LIMIT_JOIN_LIMIT : Field := ⟨0xb0010, 0, 32⟩
def CIPH_u_CLAIM_OWNER (u : Nat) : Field := ⟨0xb0020 + 4 * u, 0, 4⟩
def CIPH_u_CLAIM_CLAIM (u : Nat) : Field := ⟨0xb0020 + 4 * u, 4, 1⟩
def CIPH_u_CLAIM_DROP (u : Nat) : Field := ⟨0xb0020 + 4 * u, 5, 1⟩
def CIPH_u_STAT_BUSY (u : Nat) : Field := ⟨0xb0030 + 4 * u, 0, 1⟩
def CIPH_u_STAT_SEL (u : Nat) : Field := ⟨0xb0030 + 4 * u, 1, 1⟩
def CIPH_u_STAT_KEYIN (u : Nat) : Field := ⟨0xb0030 + 4 * u, 2, 1⟩
def CIPH_u_STAT_STALL (u : Nat) : Field := ⟨0xb0030 + 4 * u, 3, 1⟩
def CIPH_u_STAT_AES256 (u : Nat) : Field := ⟨0xb0030 + 4 * u, 4, 1⟩
def CIPH_u_STAT_POOL (u : Nat) : Field := ⟨0xb0030 + 4 * u, 8, 10⟩
def CIPH_RING_u_BASE (u : Nat) : Field := ⟨0xb0040 + 16 * u, 0, 25⟩
def CIPH_RING_u_LEN (u : Nat) : Field := ⟨0xb0044 + 16 * u, 0, 16⟩
def CIPH_RING_u_WR (u : Nat) : Field := ⟨0xb0048 + 16 * u, 0, 16⟩
def CIPH_RING_u_RD (u : Nat) : Field := ⟨0xb004c + 16 * u, 0, 16⟩
def CIPH_CNT_k_COUNT (k : Nat) : Field := ⟨0xb0080 + 4 * k, 0, 32⟩
def CIPH_KR_k_VALID (k : Nat) : Field := ⟨0xb0400 + 16 * k, 0, 1⟩
def CIPH_KR_k_AES256 (k : Nat) : Field := ⟨0xb0400 + 16 * k, 1, 1⟩
def CIPH_KR_k_KEYIDX (k : Nat) : Field := ⟨0xb0400 + 16 * k, 8, 8⟩
def CIPH_KR_k_ROLES (k : Nat) : Field := ⟨0xb0400 + 16 * k, 16, 7⟩
def CIPH_KR_k_USED (k : Nat) : Field := ⟨0xb0404 + 16 * k, 0, 32⟩
def CIPH_KR_k_LIMIT (k : Nat) : Field := ⟨0xb0408 + 16 * k, 0, 32⟩
def CIPH_KR_k_FP (k : Nat) : Field := ⟨0xb040c + 16 * k, 0, 32⟩
def SHP_CTL_CLRCNT : Field := ⟨0xc0000, 0, 1⟩
def SHP_STAT_BUSY : Field := ⟨0xc0004, 0, 1⟩
def SHP_STAT_BADVAL : Field := ⟨0xc0004, 1, 1⟩
def SHP_STAT_BADOP : Field := ⟨0xc0004, 2, 1⟩
def SHP_NODEPOL_NRATE : Field := ⟨0xc0008, 0, 16⟩
def SHP_NODEPOL_NBURST : Field := ⟨0xc0008, 16, 16⟩
def SHP_RING_j_BASE (j : Nat) : Field := ⟨0xc0010 + 16 * j, 0, 25⟩
def SHP_RING_j_LEN (j : Nat) : Field := ⟨0xc0014 + 16 * j, 0, 16⟩
def SHP_RING_j_WR (j : Nat) : Field := ⟨0xc0018 + 16 * j, 0, 16⟩
def SHP_RING_j_RD (j : Nat) : Field := ⟨0xc001c + 16 * j, 0, 16⟩
def SHP_CLASS_n_RATE (n : Nat) : Field := ⟨0xc0040 + 16 * n, 0, 24⟩
def SHP_CLASS_n_EN (n : Nat) : Field := ⟨0xc0040 + 16 * n, 24, 1⟩
def SHP_CLASS_n_TRESET (n : Nat) : Field := ⟨0xc0040 + 16 * n, 25, 1⟩
def SHP_CLASS_n_BURST (n : Nat) : Field := ⟨0xc0044 + 16 * n, 0, 24⟩
def SHP_GOPEN (n : Nat) : Field := ⟨0xc0048 + 16 * n, 0, 16⟩
def SHP_GCLOSE (n : Nat) : Field := ⟨0xc0048 + 16 * n, 16, 16⟩
def SHP_NPOL (n : Nat) : Field := ⟨0xc0048 + 16 * n, 0, 1⟩
def SHP_QMAX (n : Nat) : Field := ⟨0xc004c + 16 * n, 0, 12⟩
def SHP_CNT_k_COUNT (k : Nat) : Field := ⟨0xc0140 + 4 * k, 0, 32⟩
def SHP_TOK_n_TOK (n : Nat) : Field := ⟨0xc0180 + 4 * n, 0, 24⟩
def DMA_CTL_CLRCNT : Field := ⟨0xd0000, 0, 1⟩
def DMA_STAT_BUSERR : Field := ⟨0xd0004, 0, 1⟩
def DMA_STAT_NOTOWNER : Field := ⟨0xd0004, 1, 1⟩
def DMA_STAT_BADCMD : Field := ⟨0xd0004, 2, 1⟩
def DMA_STAT_BADVAL : Field := ⟨0xd0004, 3, 1⟩
def DMA_STAT_IDLE : Field := ⟨0xd0004, 4, 1⟩
def DMA_ERRINFO_CAUSE : Field := ⟨0xd0008, 0, 3⟩
def DMA_ERRADDR_LO_ADDR : Field := ⟨0xd000c, 0, 32⟩
def DMA_ERRADDR_HI_ADDR : Field := ⟨0xd0010, 0, 32⟩
def DMA_n_CFG_PRIO (n : Nat) : Field := ⟨0xd0100 + 64 * n, 0, 2⟩
def DMA_n_CFG_LINES (n : Nat) : Field := ⟨0xd0100 + 64 * n, 2, 7⟩
def DMA_n_CFG_OWNER (n : Nat) : Field := ⟨0xd0100 + 64 * n, 16, 8⟩
def DMA_n_HEAD_OFFSET (n : Nat) : Field := ⟨0xd0104 + 64 * n, 0, 25⟩
def DMA_n_CMD_GO (n : Nat) : Field := ⟨0xd0108 + 64 * n, 0, 1⟩
def DMA_n_CMD_RESUME (n : Nat) : Field := ⟨0xd0108 + 64 * n, 1, 1⟩
def DMA_n_CMD_STOP (n : Nat) : Field := ⟨0xd0108 + 64 * n, 2, 1⟩
def DMA_n_STAT_STATE (n : Nat) : Field := ⟨0xd010c + 64 * n, 0, 2⟩
def DMA_n_STAT_LAST (n : Nat) : Field := ⟨0xd010c + 64 * n, 8, 8⟩
def DMA_n_STAT_HELD (n : Nat) : Field := ⟨0xd010c + 64 * n, 16, 7⟩
def DMA_n_CUR_OFFSET (n : Nat) : Field := ⟨0xd0110 + 64 * n, 0, 25⟩
def DMA_n_CNT_DONE (n : Nat) : Field := ⟨0xd0114 + 64 * n, 0, 16⟩
def DMA_n_CNT_HALTS (n : Nat) : Field := ⟨0xd0114 + 64 * n, 16, 16⟩
def CAR_CTL_CLRCNT : Field := ⟨0xe0000, 0, 1⟩
def CAR_STAT_ROLE : Field := ⟨0xe0004, 0, 2⟩
def CAR_STAT_EUP : Field := ⟨0xe0004, 2, 1⟩
def CAR_STAT_WUP : Field := ⟨0xe0004, 3, 1⟩
def CAR_STAT_ALIGNED : Field := ⟨0xe0004, 4, 1⟩
def CAR_STAT_ISOLATED : Field := ⟨0xe0004, 5, 1⟩
def CAR_STAT_FARSKEW : Field := ⟨0xe0004, 6, 1⟩
def CAR_STAT_FMTBAD : Field := ⟨0xe0004, 7, 1⟩
def CAR_STAT_RTMO : Field := ⟨0xe0004, 8, 1⟩
def CAR_STAT_NOTLEAD : Field := ⟨0xe0004, 9, 1⟩
def CAR_STAT_TWOLEADS : Field := ⟨0xe0004, 10, 1⟩
def CAR_STAT_BADVAL : Field := ⟨0xe0004, 11, 1⟩
def CAR_STAT_OVER : Field := ⟨0xe0004, 12, 1⟩
def CAR_STAT_RWAVE : Field := ⟨0xe0004, 13, 2⟩
def CAR_STAT_IMGBUSY : Field := ⟨0xe0004, 15, 1⟩
def CAR_STAT_INDEX : Field := ⟨0xe0004, 16, 6⟩
def CAR_STAT_SIZE : Field := ⟨0xe0004, 22, 7⟩
def CAR_CMD_ENUM : Field := ⟨0xe0008, 0, 1⟩
def CAR_CMD_SNAP : Field := ⟨0xe0008, 1, 1⟩
def CAR_CMD_RESET : Field := ⟨0xe0008, 2, 1⟩
def CAR_CMD_ABORT : Field := ⟨0xe0008, 3, 1⟩
def CAR_CMD_IMAGE : Field := ⟨0xe0008, 4, 1⟩
def CAR_CFG_BARTMO : Field := ⟨0xe000c, 0, 8⟩
def CAR_LINK_p_DLY (p : Nat) : Field := ⟨0xe0010 + 4 * p, 0, 16⟩
def CAR_LINK_p_RES (p : Nat) : Field := ⟨0xe0010 + 4 * p, 16, 8⟩
def CAR_LINK_p_UP (p : Nat) : Field := ⟨0xe0010 + 4 * p, 24, 1⟩
def CAR_PHASEERR_ERR : Field := ⟨0xe0018, 0, 24⟩
def CAR_PHASEERR_HOPS : Field := ⟨0xe0018, 24, 6⟩
def CAR_PHASEERR_PORT : Field := ⟨0xe0018, 30, 1⟩
def CAR_SNAP_ASNL_ASN : Field := ⟨0xe0020, 0, 32⟩
def CAR_SNAP_ASNH_ASN : Field := ⟨0xe0024, 0, 32⟩
def CAR_REJOIN_SLOTS : Field := ⟨0xe0030, 0, 24⟩
def CAR_REJOIN_NOGO : Field := ⟨0xe0030, 24, 1⟩
def CAR_SET_s_h_CHIPS (s h : Nat) : Field := ⟨0xe0040 + 8 * s + 4 * h, 0, 32⟩
def CAR_PROG_s_h_CHIPS (s h : Nat) : Field := ⟨0xe0080 + 8 * s + 4 * h, 0, 32⟩
def CAR_CNT_k_COUNT (k : Nat) : Field := ⟨0xe00a0 + 4 * k, 0, 32⟩
def CAR_SFPHASE_k_SLOTS (k : Nat) : Field := ⟨0xe0100 + 4 * k, 0, 12⟩
def TAN_CTL_CLRCNT : Field := ⟨0xf0000, 0, 1⟩
def TAN_STAT_ROLE : Field := ⟨0xf0004, 0, 2⟩
def TAN_STAT_SYNC : Field := ⟨0xf0004, 2, 2⟩
def TAN_STAT_OWN : Field := ⟨0xf0004, 4, 1⟩
def TAN_STAT_LINE : Field := ⟨0xf0004, 5, 1⟩
def TAN_STAT_TLUP : Field := ⟨0xf0004, 6, 1⟩
def TAN_STAT_HELD : Field := ⟨0xf0004, 7, 1⟩
def TAN_STAT_PARTNERLOST : Field := ⟨0xf0004, 8, 1⟩
def TAN_STAT_OWNBAD : Field := ⟨0xf0004, 9, 1⟩
def TAN_STAT_HOFAIL : Field := ⟨0xf0004, 10, 1⟩
def TAN_STAT_JOINBAD : Field := ⟨0xf0004, 11, 1⟩
def TAN_STAT_BADVAL : Field := ⟨0xf0004, 12, 1⟩
def TAN_STAT_BADCMD : Field := ⟨0xf0004, 13, 1⟩
def TAN_CFG_HBWIN : Field := ⟨0xf0008, 0, 12⟩
def TAN_CFG_ROLEDEF : Field := ⟨0xf0008, 12, 1⟩
def TAN_CFG_REPLAYMAX : Field := ⟨0xf0008, 16, 3⟩
def TAN_CFG_COPYRATE : Field := ⟨0xf0008, 24, 8⟩
def TAN_MIRROR_BAYS : Field := ⟨0xf000c, 0, 8⟩
def TAN_CMD_JOIN : Field := ⟨0xf0010, 0, 1⟩
def TAN_CMD_HANDOVER : Field := ⟨0xf0010, 1, 1⟩
def TAN_CMD_REPLAYDONE : Field := ⟨0xf0010, 2, 1⟩
def TAN_CMD_FETCH : Field := ⟨0xf0010, 3, 1⟩
def TAN_FETCH_ADDR : Field := ⟨0xf0014, 0, 21⟩
def TAN_FETCH_BUSY : Field := ⟨0xf0014, 31, 1⟩
def TAN_JSEQ_SENT_JSEQ : Field := ⟨0xf0018, 0, 32⟩
def TAN_JSEQ_CONF_JSEQ : Field := ⟨0xf001c, 0, 32⟩
def TAN_TAIL_COUNT : Field := ⟨0xf0020, 0, 16⟩
def TAN_TAILSEQ_JSEQ : Field := ⟨0xf0024, 0, 32⟩
def TAN_COPY_ADDR : Field := ⟨0xf0028, 0, 21⟩
def TAN_HB_p_MISS (p : Nat) : Field := ⟨0xf0030 + 4 * p, 0, 4⟩
def TAN_HB_p_LOST (p : Nat) : Field := ⟨0xf0030 + 4 * p, 4, 1⟩
def TAN_RTT_NS : Field := ⟨0xf0038, 0, 16⟩
def TAN_RTT_MAX : Field := ⟨0xf0038, 16, 16⟩
def TAN_HOASN_ASN : Field := ⟨0xf003c, 0, 32⟩
def TAN_CNT_k_COUNT (k : Nat) : Field := ⟨0xf0040 + 4 * k, 0, 32⟩
def HST_CTL_CLRCNT : Field := ⟨0x100000, 0, 1⟩
def HST_CTL_IRQEN : Field := ⟨0x100000, 1, 1⟩
def HST_STAT_BADVAL : Field := ⟨0x100004, 0, 1⟩
def HST_STAT_BADDB : Field := ⟨0x100004, 1, 1⟩
def HST_STAT_NOCHIP : Field := ⟨0x100004, 2, 1⟩
def HST_STAT_NOTLEAD : Field := ⟨0x100004, 3, 1⟩
def HST_STAT_SPIBAD : Field := ⟨0x100004, 4, 1⟩
def HST_LINK_SPEED : Field := ⟨0x100008, 0, 2⟩
def HST_LINK_WIDTH : Field := ⟨0x100008, 2, 3⟩
def HST_LINK_MSIXEN : Field := ⟨0x100008, 5, 1⟩
def HST_LINK_FMASK : Field := ⟨0x100008, 6, 1⟩
def HST_PCIID_VENDOR : Field := ⟨0x10000c, 0, 16⟩
def HST_PCIID_DEVICE : Field := ⟨0x10000c, 16, 16⟩
def HST_ALLOW_BASE : Field := ⟨0x100010, 0, 25⟩
def HST_ALLOWN_COUNT : Field := ⟨0x100014, 0, 14⟩
def HST_VPEND_h_BITS (h : Nat) : Field := ⟨0x100020 + 4 * h, 0, 32⟩
def HST_VMASK_h_BITS (h : Nat) : Field := ⟨0x100028 + 4 * h, 0, 32⟩
def HST_RPEND_h_BITS (h : Nat) : Field := ⟨0x100030 + 4 * h, 0, 32⟩
def HST_RING_r_BASE (r : Nat) : Field := ⟨0x100100 + 16 * r, 0, 25⟩
def HST_RING_r_LEN (r : Nat) : Field := ⟨0x100104 + 16 * r, 0, 16⟩
def HST_RING_r_DIR (r : Nat) : Field := ⟨0x100104 + 16 * r, 16, 1⟩
def HST_RING_r_DROVER (r : Nat) : Field := ⟨0x100104 + 16 * r, 17, 4⟩
def HST_RING_r_DEV (r : Nat) : Field := ⟨0x100108 + 16 * r, 0, 16⟩
def HST_RING_r_HOST (r : Nat) : Field := ⟨0x10010c + 16 * r, 0, 16⟩
def HST_DB_r_INDEX (r : Nat) : Field := ⟨0x100200 + 4 * r, 0, 16⟩
def HST_CNT_k_COUNT (k : Nat) : Field := ⟨0x100300 + 4 * k, 0, 32⟩
def TRU_STAT_LIFE : Field := ⟨0x110000, 0, 2⟩
def TRU_STAT_IDSET : Field := ⟨0x110000, 2, 1⟩
def TRU_STAT_IDFAIL : Field := ⟨0x110000, 3, 1⟩
def TRU_STAT_OWNPUBOK : Field := ⟨0x110000, 4, 1⟩
def TRU_STAT_STORE : Field := ⟨0x110000, 5, 1⟩
def TRU_STAT_DRBGOK : Field := ⟨0x110000, 6, 1⟩
def TRU_STAT_NOISEFAIL : Field := ⟨0x110000, 7, 1⟩
def TRU_STAT_OPTMISMATCH : Field := ⟨0x110000, 8, 1⟩
def TRU_STAT_BADVAL : Field := ⟨0x110000, 9, 1⟩
def TRU_CMD_GO : Field := ⟨0x110004, 0, 1⟩
def TRU_CMD_CLAIM : Field := ⟨0x110004, 1, 1⟩
def TRU_CMD_SETPUB : Field := ⟨0x110004, 2, 1⟩
def TRU_CMD_RBUMP : Field := ⟨0x110004, 3, 1⟩
def TRU_CMDBUF_BASE : Field := ⟨0x110008, 0, 25⟩
def TRU_CMDSTAT_STATUS : Field := ⟨0x11000c, 0, 4⟩
def TRU_CMDSTAT_ENTRY : Field := ⟨0x11000c, 4, 6⟩
def TRU_NONCE_w_VALUE (w : Nat) : Field := ⟨0x110010 + 4 * w, 0, 32⟩
def TRU_SERIAL_w_VALUE (w : Nat) : Field := ⟨0x110018 + 4 * w, 0, 32⟩
def TRU_LOCK_UPDATE : Field := ⟨0x110020, 0, 1⟩
def TRU_LOCK_CAL : Field := ⟨0x110020, 1, 1⟩
def TRU_LOCK_IMPORT : Field := ⟨0x110020, 2, 1⟩
def TRU_LOCKSET_UPDATE : Field := ⟨0x110024, 0, 1⟩
def TRU_LOCKSET_CAL : Field := ⟨0x110024, 1, 1⟩
def TRU_LOCKSET_IMPORT : Field := ⟨0x110024, 2, 1⟩
def TRU_RB_COUNT : Field := ⟨0x110028, 0, 8⟩
def TRU_RB_TARGET : Field := ⟨0x110028, 8, 8⟩
def TRU_DRBG_RESEED : Field := ⟨0x11002c, 0, 16⟩
def TRU_RAND_VALUE : Field := ⟨0x110030, 0, 32⟩
def TRU_IDPUB_w_VALUE (w : Nat) : Field := ⟨0x110040 + 4 * w, 0, 32⟩
def TRU_OWNPUB_w_VALUE (w : Nat) : Field := ⟨0x110080 + 4 * w, 0, 32⟩
def TRU_CNT_k_COUNT (k : Nat) : Field := ⟨0x1100c0 + 4 * k, 0, 32⟩
def UPD_CTL_CLRCNT : Field := ⟨0x120000, 0, 1⟩
def UPD_CTL_ABORT : Field := ⟨0x120000, 1, 1⟩
def UPD_STAT_STATE : Field := ⟨0x120004, 0, 2⟩
def UPD_STAT_BUSY : Field := ⟨0x120004, 2, 1⟩
def UPD_STAT_NEWER_SETTINGS : Field := ⟨0x120004, 3, 1⟩
def UPD_STAT_ABORTED : Field := ⟨0x120004, 4, 1⟩
def UPD_STAT_BADVAL : Field := ⟨0x120004, 5, 1⟩
def UPD_ERR_CODE : Field := ⟨0x120008, 0, 8⟩
def UPD_ERR_NOWCODE : Field := ⟨0x120008, 8, 8⟩
def UPD_SRC_BASE : Field := ⟨0x12000c, 0, 25⟩
def UPD_LEN_LEN : Field := ⟨0x120010, 0, 13⟩
def UPD_TARGET_MASK : Field := ⟨0x120014, 0, 12⟩
def UPD_CMD_HEADER : Field := ⟨0x120018, 0, 1⟩
def UPD_CMD_CHUNK : Field := ⟨0x120018, 1, 1⟩
def UPD_CMD_FINISH : Field := ⟨0x120018, 2, 1⟩
def UPD_TAKEN_BYTES : Field := ⟨0x12001c, 0, 17⟩
def UPD_HOLDUP_MV : Field := ⟨0x120020, 0, 11⟩
def UPD_HOLDUP_MIN_MV : Field := ⟨0x120024, 0, 11⟩
def UPD_BOOT_AREA : Field := ⟨0x120028, 0, 2⟩
def UPD_BOOT_FALLBACK : Field := ⟨0x120028, 2, 1⟩
def UPD_BOOT_STAGED : Field := ⟨0x120028, 3, 1⟩
def UPD_BOOT_STAGEBAD : Field := ⟨0x120028, 4, 1⟩
def UPD_BOOT_STAGEHELD : Field := ⟨0x120028, 5, 1⟩
def UPD_SETSEQ_SEQ : Field := ⟨0x12002c, 0, 32⟩
def UPD_SETVER_IMAGE : Field := ⟨0x120030, 0, 16⟩
def UPD_SETVER_RECORD : Field := ⟨0x120030, 16, 16⟩
def UPD_HOF_n_HOW (n : Nat) : Field := ⟨0x120040 + 4 * n, 0, 16⟩
def UPD_HOF_n_HOR (n : Nat) : Field := ⟨0x120040 + 4 * n, 16, 16⟩
def UPD_CNT_k_COUNT (k : Nat) : Field := ⟨0x120080 + 4 * k, 0, 32⟩
def FLS_CTL_CLRCNT : Field := ⟨0x130000, 0, 1⟩
def FLS_STAT_SWBUSY : Field := ⟨0x130004, 0, 1⟩
def FLS_STAT_HWBUSY : Field := ⟨0x130004, 1, 1⟩
def FLS_STAT_SUSP : Field := ⟨0x130004, 2, 1⟩
def FLS_STAT_WEAR : Field := ⟨0x130004, 3, 1⟩
def FLS_STAT_BADCMD : Field := ⟨0x130004, 4, 1⟩
def FLS_STAT_BADVAL : Field := ⟨0x130004, 5, 1⟩
def FLS_STAT_OPTBAD : Field := ⟨0x130004, 6, 1⟩
def FLS_STAT_PFAIL : Field := ⟨0x130004, 7, 1⟩
def FLS_ADDR_ADDR : Field := ⟨0x130008, 0, 23⟩
def FLS_SER_BASE : Field := ⟨0x13000c, 0, 25⟩
def FLS_LEN_LEN : Field := ⟨0x130010, 0, 13⟩
def FLS_CMD_READ : Field := ⟨0x130014, 0, 1⟩
def FLS_CMD_PROGRAM : Field := ⟨0x130014, 1, 1⟩
def FLS_CMD_ERASE : Field := ⟨0x130014, 2, 1⟩
def FLS_CMD_SUSPEND : Field := ⟨0x130014, 3, 1⟩
def FLS_CMD_RESUME : Field := ⟨0x130014, 4, 1⟩
def FLS_CMD_OPTWRITE : Field := ⟨0x130014, 5, 1⟩
def FLS_CMD_MARGIN : Field := ⟨0x130014, 6, 1⟩
def FLS_RES_STATUS : Field := ⟨0x130018, 0, 4⟩
def FLS_RES_CE : Field := ⟨0x130018, 4, 8⟩
def FLS_RES_WEAK : Field := ⟨0x130018, 12, 12⟩
def FLS_RES_PULSES : Field := ⟨0x130018, 24, 6⟩
def FLS_OPEN_k_SECTOR (k : Nat) : Field := ⟨0x130020 + 4 * k, 0, 11⟩
def FLS_OPEN_k_FAILED (k : Nat) : Field := ⟨0x130020 + 4 * k, 11, 1⟩
def FLS_OPEN_k_VALID (k : Nat) : Field := ⟨0x130020 + 4 * k, 31, 1⟩
def FLS_SUSP_SECTOR : Field := ⟨0x130040, 0, 11⟩
def FLS_SUSP_VALID : Field := ⟨0x130040, 31, 1⟩
def FLS_CNT_k_COUNT (k : Nat) : Field := ⟨0x130060 + 4 * k, 0, 32⟩
def CAL_CTL_SECTIONS : Field := ⟨0x140000, 0, 8⟩
def CAL_STAT_VALID : Field := ⟨0x140004, 0, 1⟩
def CAL_STAT_ORIGIN : Field := ⟨0x140004, 1, 1⟩
def CAL_STAT_RUNNING : Field := ⟨0x140004, 2, 1⟩
def CAL_STAT_RESULT : Field := ⟨0x140004, 3, 2⟩
def CAL_STAT_NOCAL : Field := ⟨0x140004, 5, 1⟩
def CAL_STAT_BADCMD : Field := ⟨0x140004, 6, 1⟩
def CAL_STAT_BADVAL : Field := ⟨0x140004, 7, 1⟩
def CAL_CMD_RUN : Field := ⟨0x140008, 0, 1⟩
def CAL_CMD_ABORT : Field := ⟨0x140008, 1, 1⟩
def CAL_CMD_COMMIT : Field := ⟨0x140008, 2, 1⟩
def CAL_SER_BASE : Field := ⟨0x14000c, 0, 25⟩
def CAL_FEMOFF_LEVEL : Field := ⟨0x140010, 0, 32⟩
def CAL_ERR_SECTION : Field := ⟨0x140014, 0, 3⟩
def CAL_TEMP_TEMP : Field := ⟨0x140018, 0, 12⟩
def CAL_CRC_CRC : Field := ⟨0x14001c, 0, 32⟩
def TMR_START_MASK : Field := ⟨0x150000, 0, 16⟩
def TMR_START_ATTICK : Field := ⟨0x150000, 16, 1⟩
def TMR_STOP_MASK : Field := ⟨0x150004, 0, 16⟩
def TMR_STAT_RUN : Field := ⟨0x150008, 0, 16⟩
def TMR_STAT_BADVAL : Field := ⟨0x150008, 16, 1⟩
def TMR_STAT_BADCMD : Field := ⟨0x150008, 17, 1⟩
def TMR_n_CFG_SRC (n : Nat) : Field := ⟨0x150100 + 32 * n, 0, 2⟩
def TMR_n_CFG_ONESHOT (n : Nat) : Field := ⟨0x150100 + 32 * n, 2, 1⟩
def TMR_n_CFG_PAIR (n : Nat) : Field := ⟨0x150100 + 32 * n, 3, 1⟩
def TMR_n_CFG_CAPEV (n : Nat) : Field := ⟨0x150100 + 32 * n, 4, 1⟩
def TMR_n_COUNT_VALUE (n : Nat) : Field := ⟨0x150104 + 32 * n, 0, 32⟩
def TMR_n_PERIOD_VALUE (n : Nat) : Field := ⟨0x150108 + 32 * n, 0, 32⟩
def TMR_n_CMP_VALUE (n : Nat) : Field := ⟨0x15010c + 32 * n, 0, 32⟩
def TMR_n_PHASE_VALUE (n : Nat) : Field := ⟨0x150110 + 32 * n, 0, 32⟩
def TMR_n_CAP_VALUE (n : Nat) : Field := ⟨0x150114 + 32 * n, 0, 32⟩
def TMR_n_CMD_CAPTURE (n : Nat) : Field := ⟨0x150118 + 32 * n, 0, 1⟩
def TMR_n_STAT_RUN (n : Nat) : Field := ⟨0x15011c + 32 * n, 0, 1⟩
def TMR_n_STAT_CMPF (n : Nat) : Field := ⟨0x15011c + 32 * n, 1, 1⟩
def TMR_n_STAT_WRAPF (n : Nat) : Field := ⟨0x15011c + 32 * n, 2, 1⟩
def TMR_n_STAT_CAPF (n : Nat) : Field := ⟨0x15011c + 32 * n, 3, 1⟩
def TMR_n_STAT_CAPOVR (n : Nat) : Field := ⟨0x15011c + 32 * n, 4, 1⟩
def RTC_CAP_TIME_SEC : Field := ⟨0x160000, 0, 7⟩
def RTC_CAP_TIME_MIN : Field := ⟨0x160000, 8, 7⟩
def RTC_CAP_TIME_HOUR : Field := ⟨0x160000, 16, 6⟩
def RTC_CAP_TIME_SUB : Field := ⟨0x160000, 24, 8⟩
def RTC_ALARM_TIME_SEC : Field := ⟨0x160024, 0, 7⟩
def RTC_ALARM_TIME_MIN : Field := ⟨0x160024, 8, 7⟩
def RTC_ALARM_TIME_HOUR : Field := ⟨0x160024, 16, 6⟩
def RTC_CAP_DATE_DAY : Field := ⟨0x160004, 0, 6⟩
def RTC_CAP_DATE_MONTH : Field := ⟨0x160004, 8, 5⟩
def RTC_CAP_DATE_DOW : Field := ⟨0x160004, 13, 3⟩
def RTC_CAP_DATE_YEAR : Field := ⟨0x160004, 16, 16⟩
def RTC_ALARM_DATE_DAY : Field := ⟨0x160020, 0, 6⟩
def RTC_ALARM_DATE_MONTH : Field := ⟨0x160020, 8, 5⟩
def RTC_ALARM_DATE_YEAR : Field := ⟨0x160020, 16, 16⟩
def RTC_CAPTURE_GO : Field := ⟨0x16000c, 0, 1⟩
def RTC_STG_DATE_DAY : Field := ⟨0x160010, 0, 6⟩
def RTC_STG_DATE_MONTH : Field := ⟨0x160010, 8, 5⟩
def RTC_STG_DATE_YEAR : Field := ⟨0x160010, 16, 16⟩
def RTC_STG_HM_MIN : Field := ⟨0x160014, 0, 7⟩
def RTC_STG_HM_HOUR : Field := ⟨0x160014, 8, 6⟩
def RTC_STG_SEC_SEC : Field := ⟨0x160018, 0, 7⟩
def RTC_ALARM_CTL_EN : Field := ⟨0x160028, 0, 1⟩
def RTC_ALARM_CTL_MASK : Field := ⟨0x160028, 1, 6⟩
def RTC_WAKE_PERIOD : Field := ⟨0x16002c, 0, 25⟩
def RTC_STAT_LOST : Field := ⟨0x160030, 0, 1⟩
def RTC_STAT_BATLOW : Field := ⟨0x160030, 1, 1⟩
def RTC_STAT_ALARMF : Field := ⟨0x160030, 2, 1⟩
def RTC_STAT_ALARM_SKIPPED : Field := ⟨0x160030, 3, 1⟩
def RTC_STAT_WAKEF : Field := ⟨0x160030, 4, 1⟩
def RTC_STAT_WRAP : Field := ⟨0x160030, 5, 1⟩
def RTC_STAT_BADDATE : Field := ⟨0x160030, 6, 1⟩
def RTC_STAT_CAPBUSY : Field := ⟨0x160030, 7, 1⟩
def RTC_STAT_SETBUSY : Field := ⟨0x160030, 8, 1⟩
def RTC_STAT_BUSYWR : Field := ⟨0x160030, 9, 1⟩
def RTC_STAT_BADVAL : Field := ⟨0x160030, 10, 1⟩
def RTC_STAT_WAKECNT : Field := ⟨0x160030, 16, 8⟩
def EVT_CTL_CLRCNT : Field := ⟨0x170000, 0, 1⟩
def EVT_CTL_CN404 : Field := ⟨0x170000, 1, 1⟩
def EVT_STAT_FIREREF : Field := ⟨0x170004, 0, 1⟩
def EVT_STAT_LOCKWR : Field := ⟨0x170004, 1, 1⟩
def EVT_STAT_LOOP : Field := ⟨0x170004, 2, 1⟩
def EVT_STAT_OWNWR : Field := ⟨0x170004, 3, 1⟩
def EVT_STAT_BADVAL : Field := ⟨0x170004, 4, 1⟩
def EVT_FIRE_CHANNEL : Field := ⟨0x170008, 0, 6⟩
def EVT_LOOP_CHANNEL : Field := ⟨0x17000c, 0, 6⟩
def EVT_LOOP_ORIGIN : Field := ⟨0x17000c, 8, 6⟩
def EVT_LOOP_HOPS : Field := ⟨0x17000c, 16, 4⟩
def EVT_LOOP_COUNT : Field := ⟨0x17000c, 20, 12⟩
def EVT_CH_c_PROD (c : Nat) : Field := ⟨0x170100 + 8 * c, 0, 16⟩
def EVT_CH_c_CONS (c : Nat) : Field := ⟨0x170100 + 8 * c, 16, 16⟩
def EVT_CH_c_EN (c : Nat) : Field := ⟨0x170104 + 8 * c, 0, 1⟩
def EVT_CH_c_SWEN (c : Nat) : Field := ⟨0x170104 + 8 * c, 1, 1⟩
def EVT_CH_c_LOCK (c : Nat) : Field := ⟨0x170104 + 8 * c, 2, 1⟩
def EVT_CH_c_LOCKED (c : Nat) : Field := ⟨0x170104 + 8 * c, 3, 1⟩
def EVT_CH_c_STANDING (c : Nat) : Field := ⟨0x170104 + 8 * c, 4, 1⟩
def EVT_CH_c_OWNER (c : Nat) : Field := ⟨0x170104 + 8 * c, 8, 4⟩
def EVT_CH_c_SECURE (c : Nat) : Field := ⟨0x170104 + 8 * c, 12, 1⟩
def EVT_CNT_c_DELIV (c : Nat) : Field := ⟨0x170400 + 4 * c, 0, 16⟩
def EVT_CNT_c_LOST (c : Nat) : Field := ⟨0x170400 + 4 * c, 16, 16⟩
def SPI_CTL_CLRCNT : Field := ⟨0x180000, 0, 1⟩
def SPI_MW_CFG_EN : Field := ⟨0x180040, 0, 1⟩
def SPI_MW_CFG_FAST : Field := ⟨0x180040, 1, 1⟩
def SPI_MW_CFG_INVAL : Field := ⟨0x180040, 2, 1⟩
def SPI_MW_ADDR_ADDR : Field := ⟨0x180044, 0, 24⟩
def SPI_MW_ADDR_INC : Field := ⟨0x180044, 24, 1⟩
def SPI_MW_DATA_DATA : Field := ⟨0x180048, 0, 32⟩
def SPI_MW_CNT_HITS : Field := ⟨0x18004c, 0, 16⟩
def SPI_MW_CNT_MISSES : Field := ⟨0x18004c, 16, 16⟩
def SPI_i_CFG_EN (i : Nat) : Field := ⟨0x180100 + 256 * i, 0, 1⟩
def SPI_i_CFG_MASTER (i : Nat) : Field := ⟨0x180100 + 256 * i, 1, 1⟩
def SPI_i_CFG_CPOL (i : Nat) : Field := ⟨0x180100 + 256 * i, 2, 1⟩
def SPI_i_CFG_CPHA (i : Nat) : Field := ⟨0x180100 + 256 * i, 3, 1⟩
def SPI_i_CFG_LSBF (i : Nat) : Field := ⟨0x180100 + 256 * i, 4, 1⟩
def SPI_i_CFG_WLEN (i : Nat) : Field := ⟨0x180100 + 256 * i, 5, 5⟩
def SPI_i_CFG_DIV (i : Nat) : Field := ⟨0x180100 + 256 * i, 10, 8⟩
def SPI_i_FRAME_FLEN (i : Nat) : Field := ⟨0x180104 + 256 * i, 0, 13⟩
def SPI_i_CMD_GO (i : Nat) : Field := ⟨0x180108 + 256 * i, 0, 1⟩
def SPI_i_CMD_FLUSH (i : Nat) : Field := ⟨0x180108 + 256 * i, 1, 1⟩
def SPI_i_STAT_TXLVL (i : Nat) : Field := ⟨0x18010c + 256 * i, 0, 6⟩
def SPI_i_STAT_RXLVL (i : Nat) : Field := ⟨0x18010c + 256 * i, 6, 6⟩
def SPI_i_STAT_ACTIVE (i : Nat) : Field := ⟨0x18010c + 256 * i, 12, 1⟩
def SPI_i_STAT_DONE (i : Nat) : Field := ⟨0x18010c + 256 * i, 13, 1⟩
def SPI_i_STAT_SHORT (i : Nat) : Field := ⟨0x18010c + 256 * i, 14, 1⟩
def SPI_i_STAT_LONG (i : Nat) : Field := ⟨0x18010c + 256 * i, 15, 1⟩
def SPI_i_STAT_UNDER (i : Nat) : Field := ⟨0x18010c + 256 * i, 16, 1⟩
def SPI_i_STAT_OVER (i : Nat) : Field := ⟨0x18010c + 256 * i, 17, 1⟩
def SPI_i_STAT_BADCMD (i : Nat) : Field := ⟨0x18010c + 256 * i, 18, 1⟩
def SPI_i_STAT_BADVAL (i : Nat) : Field := ⟨0x18010c + 256 * i, 19, 1⟩
def SPI_i_STAT_MWWR (i : Nat) : Field := ⟨0x18010c + 256 * i, 20, 1⟩
def SPI_i_STAT_TXFULLWR (i : Nat) : Field := ⟨0x18010c + 256 * i, 21, 1⟩
def SPI_i_STAT_RXEMPTYRD (i : Nat) : Field := ⟨0x18010c + 256 * i, 22, 1⟩
def SPI_i_TXD_WORD (i : Nat) : Field := ⟨0x180110 + 256 * i, 0, 32⟩
def SPI_i_RXD_WORD (i : Nat) : Field := ⟨0x180114 + 256 * i, 0, 32⟩
def SPI_i_LAST_BITS (i : Nat) : Field := ⟨0x180118 + 256 * i, 0, 13⟩
def SPI_i_LAST_SHORT (i : Nat) : Field := ⟨0x180118 + 256 * i, 13, 1⟩
def SPI_i_LAST_LONG (i : Nat) : Field := ⟨0x180118 + 256 * i, 14, 1⟩
def SPI_i_LAST_PARTIAL (i : Nat) : Field := ⟨0x180118 + 256 * i, 15, 1⟩
def SPI_i_CNT_FRAMES (i : Nat) : Field := ⟨0x18011c + 256 * i, 0, 16⟩
def SPI_i_CNT_ERRORS (i : Nat) : Field := ⟨0x18011c + 256 * i, 16, 16⟩

end Sys2Proof.Machine.F

namespace Sys2Proof.Machine.R

def TICK_CTL : Nat := 0x10000
def TICK_STAT : Nat := 0x10004
def TICK_TRIM : Nat := 0x10008
def TICK_SLEW : Nat := 0x1000c
def TICK_SLEWREM : Nat := 0x10010
def TICK_PPS_OFFSET : Nat := 0x10014
def TICK_PPS_ERR : Nat := 0x10018
def TICK_LIVE : Nat := 0x1001c
def TICK_CAPTURE : Nat := 0x10020
def TICK_SEAL : Nat := 0x10024
def TICK_NEEDSEAL : Nat := 0x10028
def TICK_SEALED : Nat := 0x1002c
def TICK_MISS_n (n : Nat) : Nat := 0x10040 + 4 * n
def TICK_CANCEL : Nat := 0x10070
def TICK_LOAD_ASNL : Nat := 0x10080
def TICK_LOAD_ASNH : Nat := 0x10084
def TICK_LOAD_SFN : Nat := 0x10088
def TICK_LOAD : Nat := 0x1008c
def TICK_CAP_b_0 (b : Nat) : Nat := 0x10100 + 16 * b
def TICK_CAP_b_1 (b : Nat) : Nat := 0x10104 + 16 * b
def TICK_CAP_b_2 (b : Nat) : Nat := 0x10108 + 16 * b
def TICK_CAP_b_3 (b : Nat) : Nat := 0x1010c + 16 * b
def SYS_ID : Nat := 0x0
def SYS_MODE : Nat := 0x4
def SYS_MODE_REQ : Nat := 0x8
def SYS_ERR : Nat := 0xc
def SYS_RSTCAUSE : Nat := 0x10
def SYS_RESET : Nat := 0x14
def SYS_STRAP : Nat := 0x18
def SYS_FAULT_CUR : Nat := 0x20
def SYS_FAULT_PEND : Nat := 0x24
def SYS_FAULT_ACK : Nat := 0x28
def SYS_FAULT_LOST : Nat := 0x2c
def SYS_FAULT_CFG : Nat := 0x30
def MAN_STAT : Nat := 0x20000
def MAN_ERR : Nat := 0x20004
def MAN_LOAD : Nat := 0x20008
def MAN_ACTIVE_ID : Nat := 0x2000c
def MAN_SHADOW_ID : Nat := 0x20010
def MAN_SWITCH_SFN : Nat := 0x20014
def MAN_SWITCH : Nat := 0x20018
def MAN_SWITCH_STAT : Nat := 0x2001c
def MAN_READY_LO : Nat := 0x20020
def MAN_READY_HI : Nat := 0x20024
def MAN_SLOT_n (n : Nat) : Nat := 0x20028 + 4 * n
def MAN_DRV_n (n : Nat) : Nat := 0x20040 + 4 * n
def MAN_BAY_n (n : Nat) : Nat := 0x20080 + 4 * n
def SF_SLOTLEN : Nat := 0x30000
def SF_SFLEN : Nat := 0x30004
def SF_TMPL0 : Nat := 0x30008
def SF_TMPL1 : Nat := 0x3000c
def SF_MASK24 : Nat := 0x30010
def SF_MASKSG_LO : Nat := 0x30014
def SF_MASKSG_HI : Nat := 0x30018
def SF_PLANID : Nat := 0x3001c
def SF_BCN : Nat := 0x30020
def SF_JOIN : Nat := 0x30024
def SF_PANID : Nat := 0x30028
def SF_SLEEPMAX : Nat := 0x3002c
def SF_DRAIN_SFN : Nat := 0x30030
def SF_VIE : Nat := 0x30034
def SF_CHANGE_SFN : Nat := 0x30060
def SF_CHANGE : Nat := 0x30064
def SF_STAT : Nat := 0x30068
def SF_ERR : Nat := 0x3006c
def SF_CNT : Nat := 0x30070
def SF_CNT_OVERLONG : Nat := 0x30074
def SF_BCNVAL : Nat := 0x30078
def FRX_CTL : Nat := 0x40000
def FRX_STAT : Nat := 0x40004
def FRX_PORTEN : Nat := 0x40008
def FRX_AGC24 : Nat := 0x4000c
def FRX_AGCSG : Nat := 0x40010
def FRX_EXT24 : Nat := 0x40014
def FRX_EXTSG : Nat := 0x40018
def FRX_PAIR : Nat := 0x4001c
def FRX_RXP : Nat := 0x40020
def FRX_FEM_MAP_m (m : Nat) : Nat := 0x40030 + 4 * m
def FRX_FEM_PAT_s (s : Nat) : Nat := 0x40040 + 4 * s
def FRX_FEM_STATIC : Nat := 0x40050
def FRX_GAIN_p (p : Nat) : Nat := 0x40060 + 4 * p
def FRX_POOL_k_0 (k : Nat) : Nat := 0x40100 + 16 * k
def FRX_POOL_k_1 (k : Nat) : Nat := 0x40104 + 16 * k
def FRX_POOL_k_2 (k : Nat) : Nat := 0x40108 + 16 * k
def FRX_POOL_k_3 (k : Nat) : Nat := 0x4010c + 16 * k
def FRX_RING_n_0 (n : Nat) : Nat := 0x40200 + 16 * n
def FRX_RING_n_1 (n : Nat) : Nat := 0x40204 + 16 * n
def FRX_RING_n_2 (n : Nat) : Nat := 0x40208 + 16 * n
def FRX_RING_n_3 (n : Nat) : Nat := 0x4020c + 16 * n
def FRX_CNT_RX24 : Nat := 0x40300
def FRX_CNT_RXSG : Nat := 0x40304
def FRX_CNT_DROP_k (k : Nat) : Nat := 0x40310 + 4 * k
def FRX_CNT_PAIR : Nat := 0x40330
def FRX_CNT_PAIRREF_r (r : Nat) : Nat := 0x40340 + 4 * r
def FRX_CHPWR_c (c : Nat) : Nat := 0x40400 + 4 * c
def FTX_CTL : Nat := 0x50000
def FTX_STAT : Nat := 0x50004
def FTX_OUT_o (o : Nat) : Nat := 0x50010 + 4 * o
def FTX_EXT_o (o : Nat) : Nat := 0x50020 + 4 * o
def FTX_FEM_PAT_o_s (o s : Nat) : Nat := 0x50030 + 8 * o + 4 * s
def FTX_TXL : Nat := 0x50050
def FTX_ACKRING_j_0 (j : Nat) : Nat := 0x50060 + 16 * j
def FTX_ACKRING_j_1 (j : Nat) : Nat := 0x50064 + 16 * j
def FTX_ACKRING_j_2 (j : Nat) : Nat := 0x50068 + 16 * j
def FTX_ACKRING_j_3 (j : Nat) : Nat := 0x5006c + 16 * j
def FTX_DPD : Nat := 0x50080
def FTX_DPDSTAT_o (o : Nat) : Nat := 0x50090 + 4 * o
def FTX_COEX : Nat := 0x500a0
def FTX_CNT_k (k : Nat) : Nat := 0x500b0 + 4 * k
def FTX_AIR_o (o : Nat) : Nat := 0x500d0 + 4 * o
def NT_CTL : Nat := 0x60000
def NT_STAT : Nat := 0x60004
def NT_CFG : Nat := 0x60008
def NT_GAIN : Nat := 0x6000c
def NT_GUARD : Nat := 0x60010
def NT_EPOCH : Nat := 0x60014
def NT_EPOCH_ASN : Nat := 0x60018
def NT_LOST : Nat := 0x6001c
def NT_RING_j_0 (j : Nat) : Nat := 0x60020 + 16 * j
def NT_RING_j_1 (j : Nat) : Nat := 0x60024 + 16 * j
def NT_RING_j_2 (j : Nat) : Nat := 0x60028 + 16 * j
def NT_RING_j_3 (j : Nat) : Nat := 0x6002c + 16 * j
def NT_CNT_k (k : Nat) : Nat := 0x60040 + 4 * k
def SEC_CTL : Nat := 0x70000
def SEC_STAT : Nat := 0x70004
def SEC_CELLEUI_LO : Nat := 0x70008
def SEC_CELLEUI_HI : Nat := 0x7000c
def SEC_CFG : Nat := 0x70010
def SEC_BCNKEY : Nat := 0x70014
def SEC_CELLCTR : Nat := 0x70018
def SEC_CELLLEASE : Nat := 0x7001c
def SEC_JSEQ : Nat := 0x70020
def SEC_RING_j_0 (j : Nat) : Nat := 0x70030 + 16 * j
def SEC_RING_j_1 (j : Nat) : Nat := 0x70034 + 16 * j
def SEC_RING_j_2 (j : Nat) : Nat := 0x70038 + 16 * j
def SEC_RING_j_3 (j : Nat) : Nat := 0x7003c + 16 * j
def SEC_CNT_k (k : Nat) : Nat := 0x70060 + 4 * k
def BBL_CTL : Nat := 0x80000
def BBL_STAT : Nat := 0x80004
def BBL_l_CFG (l : Nat) : Nat := 0x80100 + 256 * l
def BBL_l_TMPL (l : Nat) : Nat := 0x80104 + 256 * l
def BBL_l_GUARD (l : Nat) : Nat := 0x80108 + 256 * l
def BBL_l_TX (l : Nat) : Nat := 0x8010c + 256 * l
def BBL_l_HOP (l : Nat) : Nat := 0x80110 + 256 * l
def BBL_l_LINK (l : Nat) : Nat := 0x80114 + 256 * l
def BBL_l_SRCH (l : Nat) : Nat := 0x80118 + 256 * l
def BBL_l_DWELL (l : Nat) : Nat := 0x8011c + 256 * l
def BBL_l_PARENT_LO (l : Nat) : Nat := 0x80120 + 256 * l
def BBL_l_PARENT_HI (l : Nat) : Nat := 0x80124 + 256 * l
def BBL_l_PROG (l : Nat) : Nat := 0x80128 + 256 * l
def BBL_l_CMD (l : Nat) : Nat := 0x8012c + 256 * l
def BBL_l_SEND_0 (l : Nat) : Nat := 0x80130 + 256 * l
def BBL_l_SEND_1 (l : Nat) : Nat := 0x80134 + 256 * l
def BBL_l_SEND_2 (l : Nat) : Nat := 0x80138 + 256 * l
def BBL_l_SEND_3 (l : Nat) : Nat := 0x8013c + 256 * l
def BBL_l_STATE (l : Nat) : Nat := 0x80140 + 256 * l
def BBL_l_PHASE (l : Nat) : Nat := 0x80144 + 256 * l
def BBL_l_RATE (l : Nat) : Nat := 0x80148 + 256 * l
def BBL_l_LASNOFF_LO (l : Nat) : Nat := 0x8014c + 256 * l
def BBL_l_LASNOFF_HI (l : Nat) : Nat := 0x80150 + 256 * l
def BBL_l_COEX (l : Nat) : Nat := 0x80154 + 256 * l
def BBL_l_EXT (l : Nat) : Nat := 0x80158 + 256 * l
def BBL_l_BGCAL (l : Nat) : Nat := 0x8015c + 256 * l
def BBL_l_CNT_k (l k : Nat) : Nat := 0x80160 + 256 * l + 4 * k
def BBL_l_CHAN_c (l c : Nat) : Nat := 0x80180 + 256 * l + 4 * c
def SER_CTL : Nat := 0x90000
def SER_STAT : Nat := 0x90004
def SER_SCRUB : Nat := 0x90008
def SER_SCRUBPOS : Nat := 0x9000c
def SER_SCRUBPASS : Nat := 0x90010
def SER_SPARECFG : Nat := 0x90014
def SER_SPARECMD : Nat := 0x90018
def SER_LASTCE : Nat := 0x90020
def SER_LASTUE : Nat := 0x90024
def SER_APER : Nat := 0x90030
def SER_ARB : Nat := 0x90034
def SER_CNT_k (k : Nat) : Nat := 0x90040 + 4 * k
def SER_REMAP_b_k (b k : Nat) : Nat := 0x90100 + 32 * b + 4 * k
def DRV_STAT : Nat := 0xa0000
def DRV_n_CTL (n : Nat) : Nat := 0xa0100 + 64 * n
def DRV_n_STAT (n : Nat) : Nat := 0xa0104 + 64 * n
def DRV_n_PC (n : Nat) : Nat := 0xa0108 + 64 * n
def DRV_n_BRK (n : Nat) : Nat := 0xa010c + 64 * n
def DRV_n_IMG_b_0 (n b : Nat) : Nat := 0xa0110 + 64 * n + 8 * b
def DRV_n_IMG_b_1 (n b : Nat) : Nat := 0xa0114 + 64 * n + 8 * b
def DRV_n_SWITCH (n : Nat) : Nat := 0xa0120 + 64 * n
def DRV_n_TRAP (n : Nat) : Nat := 0xa0124 + 64 * n
def DRV_n_LADDR (n : Nat) : Nat := 0xa0128 + 64 * n
def DRV_n_LDATA (n : Nat) : Nat := 0xa012c + 64 * n
def DRV_n_IADDR (n : Nat) : Nat := 0xa0130 + 64 * n
def DRV_n_IDATA_LO (n : Nat) : Nat := 0xa0134 + 64 * n
def DRV_n_IDATA_HI (n : Nat) : Nat := 0xa0138 + 64 * n
def DRV_n_EVPEND (n : Nat) : Nat := 0xa013c + 64 * n
def CIPH_CTL : Nat := 0xb0000
def CIPH_STAT : Nat := 0xb0004
def CIPH_CFG : Nat := 0xb0008
def CIPH_LIMIT_SESS : Nat := 0xb000c
def CIPH_LIMIT_JOIN : Nat := 0xb0010
def CIPH_u_CLAIM (u : Nat) : Nat := 0xb0020 + 4 * u
def CIPH_u_STAT (u : Nat) : Nat := 0xb0030 + 4 * u
def CIPH_RING_u_0 (u : Nat) : Nat := 0xb0040 + 16 * u
def CIPH_RING_u_1 (u : Nat) : Nat := 0xb0044 + 16 * u
def CIPH_RING_u_2 (u : Nat) : Nat := 0xb0048 + 16 * u
def CIPH_RING_u_3 (u : Nat) : Nat := 0xb004c + 16 * u
def CIPH_CNT_k (k : Nat) : Nat := 0xb0080 + 4 * k
def CIPH_KR_k_0 (k : Nat) : Nat := 0xb0400 + 16 * k
def CIPH_KR_k_1 (k : Nat) : Nat := 0xb0404 + 16 * k
def CIPH_KR_k_2 (k : Nat) : Nat := 0xb0408 + 16 * k
def CIPH_KR_k_3 (k : Nat) : Nat := 0xb040c + 16 * k
def SHP_CTL : Nat := 0xc0000
def SHP_STAT : Nat := 0xc0004
def SHP_NODEPOL : Nat := 0xc0008
def SHP_RING_j_0 (j : Nat) : Nat := 0xc0010 + 16 * j
def SHP_RING_j_1 (j : Nat) : Nat := 0xc0014 + 16 * j
def SHP_RING_j_2 (j : Nat) : Nat := 0xc0018 + 16 * j
def SHP_RING_j_3 (j : Nat) : Nat := 0xc001c + 16 * j
def SHP_CLASS_n_0 (n : Nat) : Nat := 0xc0040 + 16 * n
def SHP_CLASS_n_1 (n : Nat) : Nat := 0xc0044 + 16 * n
def SHP_2 (n : Nat) : Nat := 0xc0048 + 16 * n
def SHP_3 (n : Nat) : Nat := 0xc004c + 16 * n
def SHP_CNT_k (k : Nat) : Nat := 0xc0140 + 4 * k
def SHP_TOK_n (n : Nat) : Nat := 0xc0180 + 4 * n
def DMA_CTL : Nat := 0xd0000
def DMA_STAT : Nat := 0xd0004
def DMA_ERRINFO : Nat := 0xd0008
def DMA_ERRADDR_LO : Nat := 0xd000c
def DMA_ERRADDR_HI : Nat := 0xd0010
def DMA_n_CFG (n : Nat) : Nat := 0xd0100 + 64 * n
def DMA_n_HEAD (n : Nat) : Nat := 0xd0104 + 64 * n
def DMA_n_CMD (n : Nat) : Nat := 0xd0108 + 64 * n
def DMA_n_STAT (n : Nat) : Nat := 0xd010c + 64 * n
def DMA_n_CUR (n : Nat) : Nat := 0xd0110 + 64 * n
def DMA_n_CNT (n : Nat) : Nat := 0xd0114 + 64 * n
def CAR_CTL : Nat := 0xe0000
def CAR_STAT : Nat := 0xe0004
def CAR_CMD : Nat := 0xe0008
def CAR_CFG : Nat := 0xe000c
def CAR_LINK_p (p : Nat) : Nat := 0xe0010 + 4 * p
def CAR_PHASEERR : Nat := 0xe0018
def CAR_SNAP_ASNL : Nat := 0xe0020
def CAR_SNAP_ASNH : Nat := 0xe0024
def CAR_REJOIN : Nat := 0xe0030
def CAR_SET_s_h (s h : Nat) : Nat := 0xe0040 + 8 * s + 4 * h
def CAR_PROG_s_h (s h : Nat) : Nat := 0xe0080 + 8 * s + 4 * h
def CAR_CNT_k (k : Nat) : Nat := 0xe00a0 + 4 * k
def CAR_SFPHASE_k (k : Nat) : Nat := 0xe0100 + 4 * k
def TAN_CTL : Nat := 0xf0000
def TAN_STAT : Nat := 0xf0004
def TAN_CFG : Nat := 0xf0008
def TAN_MIRROR : Nat := 0xf000c
def TAN_CMD : Nat := 0xf0010
def TAN_FETCH : Nat := 0xf0014
def TAN_JSEQ_SENT : Nat := 0xf0018
def TAN_JSEQ_CONF : Nat := 0xf001c
def TAN_TAIL : Nat := 0xf0020
def TAN_TAILSEQ : Nat := 0xf0024
def TAN_COPY : Nat := 0xf0028
def TAN_HB_p (p : Nat) : Nat := 0xf0030 + 4 * p
def TAN_RTT : Nat := 0xf0038
def TAN_HOASN : Nat := 0xf003c
def TAN_CNT_k (k : Nat) : Nat := 0xf0040 + 4 * k
def HST_CTL : Nat := 0x100000
def HST_STAT : Nat := 0x100004
def HST_LINK : Nat := 0x100008
def HST_PCIID : Nat := 0x10000c
def HST_ALLOW : Nat := 0x100010
def HST_ALLOWN : Nat := 0x100014
def HST_VPEND_h (h : Nat) : Nat := 0x100020 + 4 * h
def HST_VMASK_h (h : Nat) : Nat := 0x100028 + 4 * h
def HST_RPEND_h (h : Nat) : Nat := 0x100030 + 4 * h
def HST_RING_r_0 (r : Nat) : Nat := 0x100100 + 16 * r
def HST_RING_r_1 (r : Nat) : Nat := 0x100104 + 16 * r
def HST_RING_r_2 (r : Nat) : Nat := 0x100108 + 16 * r
def HST_RING_r_3 (r : Nat) : Nat := 0x10010c + 16 * r
def HST_DB_r (r : Nat) : Nat := 0x100200 + 4 * r
def HST_CNT_k (k : Nat) : Nat := 0x100300 + 4 * k
def TRU_STAT : Nat := 0x110000
def TRU_CMD : Nat := 0x110004
def TRU_CMDBUF : Nat := 0x110008
def TRU_CMDSTAT : Nat := 0x11000c
def TRU_NONCE_w (w : Nat) : Nat := 0x110010 + 4 * w
def TRU_SERIAL_w (w : Nat) : Nat := 0x110018 + 4 * w
def TRU_LOCK : Nat := 0x110020
def TRU_LOCKSET : Nat := 0x110024
def TRU_RB : Nat := 0x110028
def TRU_DRBG : Nat := 0x11002c
def TRU_RAND : Nat := 0x110030
def TRU_IDPUB_w (w : Nat) : Nat := 0x110040 + 4 * w
def TRU_OWNPUB_w (w : Nat) : Nat := 0x110080 + 4 * w
def TRU_CNT_k (k : Nat) : Nat := 0x1100c0 + 4 * k
def UPD_CTL : Nat := 0x120000
def UPD_STAT : Nat := 0x120004
def UPD_ERR : Nat := 0x120008
def UPD_SRC : Nat := 0x12000c
def UPD_LEN : Nat := 0x120010
def UPD_TARGET : Nat := 0x120014
def UPD_CMD : Nat := 0x120018
def UPD_TAKEN : Nat := 0x12001c
def UPD_HOLDUP : Nat := 0x120020
def UPD_HOLDUP_MIN : Nat := 0x120024
def UPD_BOOT : Nat := 0x120028
def UPD_SETSEQ : Nat := 0x12002c
def UPD_SETVER : Nat := 0x120030
def UPD_HOF_n (n : Nat) : Nat := 0x120040 + 4 * n
def UPD_CNT_k (k : Nat) : Nat := 0x120080 + 4 * k
def FLS_CTL : Nat := 0x130000
def FLS_STAT : Nat := 0x130004
def FLS_ADDR : Nat := 0x130008
def FLS_SER : Nat := 0x13000c
def FLS_LEN : Nat := 0x130010
def FLS_CMD : Nat := 0x130014
def FLS_RES : Nat := 0x130018
def FLS_OPEN_k (k : Nat) : Nat := 0x130020 + 4 * k
def FLS_SUSP : Nat := 0x130040
def FLS_CNT_k (k : Nat) : Nat := 0x130060 + 4 * k
def CAL_CTL : Nat := 0x140000
def CAL_STAT : Nat := 0x140004
def CAL_CMD : Nat := 0x140008
def CAL_SER : Nat := 0x14000c
def CAL_FEMOFF : Nat := 0x140010
def CAL_ERR : Nat := 0x140014
def CAL_TEMP : Nat := 0x140018
def CAL_CRC : Nat := 0x14001c
def TMR_START : Nat := 0x150000
def TMR_STOP : Nat := 0x150004
def TMR_STAT : Nat := 0x150008
def TMR_n_CFG (n : Nat) : Nat := 0x150100 + 32 * n
def TMR_n_COUNT (n : Nat) : Nat := 0x150104 + 32 * n
def TMR_n_PERIOD (n : Nat) : Nat := 0x150108 + 32 * n
def TMR_n_CMP (n : Nat) : Nat := 0x15010c + 32 * n
def TMR_n_PHASE (n : Nat) : Nat := 0x150110 + 32 * n
def TMR_n_CAP (n : Nat) : Nat := 0x150114 + 32 * n
def TMR_n_CMD (n : Nat) : Nat := 0x150118 + 32 * n
def TMR_n_STAT (n : Nat) : Nat := 0x15011c + 32 * n
def RTC_CAP_TIME : Nat := 0x160000
def RTC_ALARM_TIME : Nat := 0x160024
def RTC_CAP_DATE : Nat := 0x160004
def RTC_ALARM_DATE : Nat := 0x160020
def RTC_CAPTURE : Nat := 0x16000c
def RTC_STG_DATE : Nat := 0x160010
def RTC_STG_HM : Nat := 0x160014
def RTC_STG_SEC : Nat := 0x160018
def RTC_ALARM_CTL : Nat := 0x160028
def RTC_WAKE : Nat := 0x16002c
def RTC_STAT : Nat := 0x160030
def EVT_CTL : Nat := 0x170000
def EVT_STAT : Nat := 0x170004
def EVT_FIRE : Nat := 0x170008
def EVT_LOOP : Nat := 0x17000c
def EVT_CH_c_0 (c : Nat) : Nat := 0x170100 + 8 * c
def EVT_CH_c_1 (c : Nat) : Nat := 0x170104 + 8 * c
def EVT_CNT_c (c : Nat) : Nat := 0x170400 + 4 * c
def SPI_CTL : Nat := 0x180000
def SPI_MW_CFG : Nat := 0x180040
def SPI_MW_ADDR : Nat := 0x180044
def SPI_MW_DATA : Nat := 0x180048
def SPI_MW_CNT : Nat := 0x18004c
def SPI_i_CFG (i : Nat) : Nat := 0x180100 + 256 * i
def SPI_i_FRAME (i : Nat) : Nat := 0x180104 + 256 * i
def SPI_i_CMD (i : Nat) : Nat := 0x180108 + 256 * i
def SPI_i_STAT (i : Nat) : Nat := 0x18010c + 256 * i
def SPI_i_TXD (i : Nat) : Nat := 0x180110 + 256 * i
def SPI_i_RXD (i : Nat) : Nat := 0x180114 + 256 * i
def SPI_i_LAST (i : Nat) : Nat := 0x180118 + 256 * i
def SPI_i_CNT (i : Nat) : Nat := 0x18011c + 256 * i

end Sys2Proof.Machine.R
end

