-- ==== Sys2Proof/Machine/RegTable.lean ====
section
/-!
DEFINITION. The register map as data: for each block, its register families (place, index strides and counts) and
each field's access class (R9) and reset value, from the register tables of spec/. A field absent from a register's
list is RZ. Reset values the spec writes as pins, fuses, the option area or a set in force are 0 here: those fields
are computed when the register is read (Machine/RegRead.lean).
-/

namespace Sys2Proof.Machine

/-- The SYS block's registers. -/
def regsSYS : List RegFam := [
  .mk 0x0 4 1 4 1 [⟨0, 16, .ro, 0x812⟩, ⟨16, 8, .ro, 0x10⟩],
  .mk 0x4 4 1 4 1 [⟨0, 4, .ro, 0⟩, ⟨4, 4, .ro, 0⟩, ⟨8, 1, .ro, 0⟩, ⟨9, 1, .ro, 1⟩],
  .mk 0x8 4 1 4 1 [⟨0, 4, .rwl, 0⟩, ⟨4, 1, .rwl, 0⟩, ⟨5, 1, .wc, 0⟩],
  .mk 0xc 4 1 4 1 [⟨0, 1, .w1c, 0⟩, ⟨1, 1, .w1c, 0⟩, ⟨2, 1, .w1c, 0⟩, ⟨3, 1, .w1c, 0⟩, ⟨4, 1, .w1c, 0⟩],
  .mk 0x10 4 1 4 1 [⟨0, 1, .w1c, 1⟩, ⟨1, 1, .w1c, 0⟩, ⟨2, 1, .w1c, 0⟩, ⟨3, 1, .w1c, 0⟩, ⟨4, 1, .w1c, 0⟩, ⟨8, 8, .ro, 0⟩],
  .mk 0x14 4 1 4 1 [⟨0, 16, .wc, 0⟩],
  .mk 0x18 4 1 4 1 [⟨0, 2, .ro, 0⟩, ⟨2, 1, .ro, 0⟩, ⟨3, 1, .ro, 0⟩, ⟨4, 2, .ro, 0⟩, ⟨6, 1, .ro, 0⟩, ⟨7, 1, .ro, 0⟩, ⟨8, 3, .ro, 0⟩],
  .mk 0x20 4 1 4 1 [⟨0, 8, .ro, 0⟩, ⟨8, 2, .ro, 0⟩, ⟨10, 6, .ro, 0⟩, ⟨16, 8, .ro, 0⟩, ⟨31, 1, .ro, 0⟩],
  .mk 0x24 4 1 4 1 [⟨0, 8, .ro, 0⟩, ⟨8, 2, .ro, 0⟩, ⟨10, 6, .ro, 0⟩, ⟨16, 8, .ro, 0⟩, ⟨31, 1, .ro, 0⟩],
  .mk 0x28 4 1 4 1 [⟨0, 1, .wc, 0⟩],
  .mk 0x2c 4 1 4 1 [⟨0, 16, .ro, 0⟩, ⟨16, 16, .ro, 0⟩],
  .mk 0x30 4 1 4 1 [⟨0, 8, .rwl, 0x32⟩, ⟨8, 8, .rwl, 4⟩, ⟨16, 1, .wc, 0⟩]]

/-- The TICK block's registers. -/
def regsTICK : List RegFam := [
  .mk 0x10000 4 1 4 1 [⟨0, 2, .rwf, 0⟩, ⟨2, 1, .wc, 0⟩],
  .mk 0x10004 4 1 4 1 [⟨0, 2, .ro, 0⟩, ⟨2, 1, .w1c, 0⟩, ⟨3, 1, .w1c, 0⟩, ⟨4, 1, .w1c, 0⟩, ⟨5, 1, .w1c, 0⟩, ⟨6, 1, .w1c, 0⟩, ⟨7, 1, .w1c, 0⟩],
  .mk 0x10008 4 1 4 1 [⟨0, 24, .rwl, 0⟩],
  .mk 0x1000c 4 1 4 1 [⟨0, 24, .wc, 0⟩],
  .mk 0x10010 4 1 4 1 [⟨0, 24, .ro, 0⟩],
  .mk 0x10014 4 1 4 1 [⟨0, 25, .rwt, 0⟩],
  .mk 0x10018 4 1 4 1 [⟨0, 16, .ro, 0⟩, ⟨16, 16, .ro, 0⟩],
  .mk 0x1001c 4 1 4 1 [⟨0, 2, .ro, 0⟩, ⟨2, 18, .ro, 0⟩],
  .mk 0x10020 4 1 4 1 [⟨0, 1, .wc, 0⟩],
  .mk 0x10024 4 1 4 1 [⟨0, 8, .wc, 0⟩, ⟨8, 1, .wc, 0⟩],
  .mk 0x10028 4 1 4 1 [⟨0, 12, .ro, 0⟩, ⟨16, 12, .ro, 0⟩],
  .mk 0x1002c 4 1 4 1 [⟨0, 12, .ro, 0⟩, ⟨16, 12, .ro, 0⟩],
  .mk 0x10040 4 12 4 1 [⟨0, 16, .ro, 0⟩, ⟨16, 16, .ro, 0⟩],
  .mk 0x10070 4 1 4 1 [⟨0, 32, .ro, 0⟩]] ++ [
  .mk 0x10080 4 1 4 1 [⟨0, 32, .rwl, 0⟩],
  .mk 0x10084 4 1 4 1 [⟨0, 8, .rwl, 0⟩, ⟨8, 12, .rwl, 0⟩],
  .mk 0x10088 4 1 4 1 [⟨0, 32, .rwl, 0⟩],
  .mk 0x1008c 4 1 4 1 [⟨0, 1, .wc, 0⟩],
  .mk 0x10100 16 16 16 1 [⟨0, 32, .ro, 0⟩],
  .mk 0x10104 16 16 16 1 [⟨0, 8, .ro, 0⟩, ⟨8, 12, .ro, 0⟩, ⟨20, 12, .ro, 0⟩],
  .mk 0x10108 16 16 16 1 [⟨0, 32, .ro, 0⟩],
  .mk 0x1010c 16 16 16 1 [⟨0, 2, .ro, 0⟩, ⟨2, 18, .ro, 0⟩, ⟨31, 1, .ro, 0⟩]]

/-- The MAN block's registers. -/
def regsMAN : List RegFam := [
  .mk 0x20000 4 1 4 1 [⟨0, 1, .ro, 0⟩, ⟨1, 1, .ro, 0⟩, ⟨2, 2, .ro, 0⟩, ⟨4, 1, .ro, 0⟩, ⟨5, 1, .ro, 0⟩, ⟨6, 1, .ro, 0⟩, ⟨7, 1, .ro, 0⟩, ⟨8, 1, .w1c, 0⟩, ⟨9, 1, .w1c, 0⟩],
  .mk 0x20004 4 1 4 1 [⟨0, 8, .ro, 0⟩, ⟨8, 8, .ro, 0⟩, ⟨16, 1, .w1c, 0⟩, ⟨17, 1, .w1c, 0⟩, ⟨18, 1, .w1c, 0⟩, ⟨19, 1, .w1c, 0⟩, ⟨20, 1, .w1c, 0⟩],
  .mk 0x20008 4 1 4 1 [⟨0, 1, .wc, 0⟩, ⟨1, 1, .wc, 0⟩, ⟨2, 1, .wc, 0⟩],
  .mk 0x2000c 4 1 4 1 [⟨0, 32, .ro, 0⟩],
  .mk 0x20010 4 1 4 1 [⟨0, 32, .ro, 0⟩],
  .mk 0x20014 4 1 4 1 [⟨0, 32, .rwl, 0⟩],
  .mk 0x20018 4 1 4 1 [⟨0, 1, .wc, 0⟩, ⟨1, 1, .wc, 0⟩],
  .mk 0x2001c 4 1 4 1 [⟨0, 3, .ro, 0⟩, ⟨8, 6, .ro, 0⟩],
  .mk 0x20020 4 1 4 1 [⟨0, 32, .ro, 0⟩],
  .mk 0x20024 4 1 4 1 [⟨0, 32, .ro, 0⟩],
  .mk 0x20028 4 2 4 1 [⟨0, 25, .ro, 0⟩],
  .mk 0x20040 4 12 4 1 [⟨0, 4, .ro, 0⟩, ⟨4, 4, .ro, 0⟩, ⟨8, 2, .ro, 0⟩, ⟨16, 16, .ro, 0⟩],
  .mk 0x20080 4 8 4 1 [⟨0, 9, .ro, 0⟩, ⟨16, 9, .ro, 0⟩, ⟨31, 1, .ro, 0⟩]]

/-- The SF block's registers. The SF_NEXT registers at 0x30040 to 0x3005C have the layout of the live ones, and their reset
values too. DESIGN CHOICE, log entry 112. -/
def regsSF : List RegFam := [
  .mk 0x30000 4 1 4 1 [⟨0, 18, .rwf, 0x13880⟩],
  .mk 0x30004 4 1 4 1 [⟨0, 13, .rwf, 0x100⟩],
  .mk 0x30008 4 1 4 1 [⟨0, 16, .rwf, 0x7d0⟩, ⟨16, 16, .rwf, 0x640⟩],
  .mk 0x3000c 4 1 4 1 [⟨0, 16, .rwf, 0x4b0⟩],
  .mk 0x30010 4 1 4 1 [⟨0, 16, .rwf, 0⟩],
  .mk 0x30014 4 1 4 1 [⟨0, 32, .rwf, 0⟩],
  .mk 0x30018 4 1 4 1 [⟨0, 32, .rwf, 0⟩],
  .mk 0x3001c 4 1 4 1 [⟨0, 16, .rwf, 0⟩],
  .mk 0x30020 4 1 4 1 [⟨0, 4, .rws, 0⟩, ⟨4, 4, .rws, 0⟩, ⟨8, 2, .rwf, 0⟩],
  .mk 0x30024 4 1 4 1 [⟨0, 12, .rws, 0⟩, ⟨12, 8, .rws, 0⟩, ⟨20, 4, .rws, 2⟩, ⟨24, 4, .rws, 5⟩],
  .mk 0x30028 4 1 4 1 [⟨0, 16, .rwf, 0⟩],
  .mk 0x3002c 4 1 4 1 [⟨0, 16, .rwl, 1⟩],
  .mk 0x30030 4 1 4 1 [⟨0, 32, .rwl, 0⟩],
  .mk 0x30034 4 1 4 1 [⟨0, 24, .rwf, 0⟩]] ++ [
  .mk 0x30040 4 1 4 1 [⟨0, 18, .rwl, 0x13880⟩],
  .mk 0x30044 4 1 4 1 [⟨0, 13, .rwl, 0x100⟩],
  .mk 0x30048 4 1 4 1 [⟨0, 16, .rwl, 0x7d0⟩, ⟨16, 16, .rwl, 0x640⟩],
  .mk 0x3004c 4 1 4 1 [⟨0, 16, .rwl, 0x4b0⟩],
  .mk 0x30050 4 1 4 1 [⟨0, 16, .rwl, 0⟩],
  .mk 0x30054 4 1 4 1 [⟨0, 32, .rwl, 0⟩],
  .mk 0x30058 4 1 4 1 [⟨0, 32, .rwl, 0⟩],
  .mk 0x3005c 4 1 4 1 [⟨0, 16, .rwl, 0⟩]] ++ [
  .mk 0x30060 4 1 4 1 [⟨0, 32, .rwl, 0⟩],
  .mk 0x30064 4 1 4 1 [⟨0, 1, .wc, 0⟩, ⟨1, 1, .rwl, 0⟩],
  .mk 0x30068 4 1 4 1 [⟨0, 1, .ro, 0⟩, ⟨1, 1, .w1c, 0⟩, ⟨2, 1, .ro, 0⟩, ⟨3, 1, .w1c, 0⟩, ⟨4, 4, .ro, 0⟩, ⟨8, 4, .ro, 0⟩],
  .mk 0x3006c 4 1 4 1 [⟨0, 1, .w1c, 0⟩, ⟨1, 1, .w1c, 0⟩, ⟨2, 1, .w1c, 0⟩, ⟨3, 1, .w1c, 0⟩, ⟨4, 1, .w1c, 0⟩],
  .mk 0x30070 4 1 4 1 [⟨0, 16, .ro, 0⟩, ⟨16, 16, .ro, 0⟩],
  .mk 0x30074 4 1 4 1 [⟨0, 32, .ro, 0⟩],
  .mk 0x30078 4 1 4 1 [⟨0, 12, .ro, 0⟩, ⟨12, 8, .ro, 0⟩, ⟨20, 4, .ro, 0⟩, ⟨24, 4, .ro, 0⟩, ⟨28, 1, .ro, 0⟩, ⟨29, 1, .ro, 0⟩]]

/-- The FRX block's registers. -/
def regsFRX : List RegFam := [
  .mk 0x40000 4 1 4 1 [⟨0, 1, .rwf, 0⟩, ⟨1, 1, .rwf, 0⟩, ⟨2, 1, .rwl, 0⟩, ⟨3, 1, .rwl, 0⟩, ⟨4, 1, .rwl, 1⟩, ⟨5, 1, .wc, 0⟩],
  .mk 0x40004 4 1 4 1 [⟨0, 2, .ro, 0⟩, ⟨2, 2, .ro, 0⟩, ⟨4, 1, .w1c, 0⟩, ⟨8, 8, .w1c, 0⟩, ⟨16, 8, .w1c, 0⟩],
  .mk 0x40008 4 1 4 1 [⟨0, 8, .rwt, 0xff⟩, ⟨8, 8, .rwt, 0xff⟩],
  .mk 0x4000c 4 1 4 1 [⟨0, 1, .rwt, 1⟩, ⟨1, 4, .rwt, 8⟩, ⟨5, 1, .rwt, 0⟩, ⟨8, 8, .rwt, 0x18⟩, ⟨16, 16, .rwt, 0x10⟩],
  .mk 0x40010 4 1 4 1 [⟨0, 1, .rwt, 1⟩, ⟨1, 4, .rwt, 8⟩, ⟨5, 1, .rwt, 0⟩, ⟨8, 8, .rwt, 0x18⟩, ⟨16, 16, .rwt, 0x10⟩],
  .mk 0x40014 4 1 4 1 [⟨0, 12, .rwf, 0⟩, ⟨12, 10, .rwf, 0⟩, ⟨22, 10, .rwf, 0⟩],
  .mk 0x40018 4 1 4 1 [⟨0, 12, .rwf, 0⟩, ⟨12, 10, .rwf, 0⟩, ⟨22, 10, .rwf, 0⟩],
  .mk 0x4001c 4 1 4 1 [⟨0, 8, .rwt, 0x80⟩, ⟨8, 6, .rwt, 0xc⟩, ⟨16, 12, .rwt, 0x40⟩, ⟨28, 4, .rwt, 4⟩],
  .mk 0x40020 4 1 4 1 [⟨0, 25, .rwt, 0⟩, ⟨25, 7, .rwt, 0⟩],
  .mk 0x40030 4 4 4 1 [⟨0, 32, .rwf, 0⟩],
  .mk 0x40040 4 4 4 1 [⟨0, 32, .rwf, 0⟩],
  .mk 0x40050 4 1 4 1 [⟨0, 32, .rwl, 0⟩],
  .mk 0x40060 4 16 4 1 [⟨0, 4, .ro, 8⟩],
  .mk 0x40100 16 2 16 1 [⟨0, 25, .rwf, 0⟩]] ++ [
  .mk 0x40104 16 2 16 1 [⟨0, 16, .rwf, 0⟩],
  .mk 0x40108 16 2 16 1 [⟨0, 16, .rwl, 0⟩],
  .mk 0x4010c 16 2 16 1 [⟨0, 16, .ro, 0⟩],
  .mk 0x40200 16 12 16 1 [⟨0, 25, .rwf, 0⟩],
  .mk 0x40204 16 12 16 1 [⟨0, 16, .rwf, 0⟩],
  .mk 0x40208 16 12 16 1 [⟨0, 16, .ro, 0⟩],
  .mk 0x4020c 16 12 16 1 [⟨0, 16, .rwl, 0⟩],
  .mk 0x40300 4 1 4 1 [⟨0, 32, .ro, 0⟩],
  .mk 0x40304 4 1 4 1 [⟨0, 32, .ro, 0⟩],
  .mk 0x40310 4 7 4 1 [⟨0, 32, .ro, 0⟩],
  .mk 0x40330 4 1 4 1 [⟨0, 16, .ro, 0⟩, ⟨16, 16, .ro, 0⟩],
  .mk 0x40340 4 6 4 1 [⟨0, 32, .ro, 0⟩],
  .mk 0x40400 4 80 4 1 [⟨0, 16, .ro, 0x8000⟩, ⟨16, 16, .ro, 0x8000⟩]]

/-- The FTX block's registers. -/
def regsFTX : List RegFam := [
  .mk 0x50000 4 1 4 1 [⟨0, 1, .wc, 0⟩, ⟨1, 1, .rwl, 1⟩],
  .mk 0x50004 4 1 4 1 [⟨0, 4, .ro, 0⟩, ⟨4, 1, .w1c, 0⟩, ⟨5, 1, .w1c, 0⟩, ⟨6, 1, .w1c, 0⟩, ⟨8, 4, .w1c, 0⟩, ⟨12, 4, .ro, 0⟩],
  .mk 0x50010 4 4 4 1 [⟨0, 9, .rwt, 0x1d8⟩, ⟨9, 5, .rwt, 1⟩, ⟨14, 4, .rwt, 0⟩, ⟨18, 5, .rwf, 8⟩, ⟨23, 6, .rwf, 0x10⟩, ⟨29, 1, .rws, 0⟩, ⟨30, 1, .rwf, 0⟩],
  .mk 0x50020 4 4 4 1 [⟨0, 12, .rwf, 0⟩, ⟨12, 6, .rwf, 8⟩],
  .mk 0x50030 8 4 4 2 [⟨0, 32, .rwf, 0⟩],
  .mk 0x50050 4 1 4 1 [⟨0, 25, .rwt, 0⟩, ⟨25, 7, .rwt, 0⟩],
  .mk 0x50060 16 2 16 1 [⟨0, 25, .rwf, 0⟩],
  .mk 0x50064 16 2 16 1 [⟨0, 16, .rwf, 0⟩],
  .mk 0x50068 16 2 16 1 [⟨0, 16, .rwl, 0⟩],
  .mk 0x5006c 16 2 16 1 [⟨0, 16, .ro, 0⟩],
  .mk 0x50080 4 1 4 1 [⟨0, 1, .rwl, 1⟩, ⟨1, 1, .rwl, 1⟩, ⟨2, 1, .wc, 0⟩, ⟨8, 8, .rwl, 0x1e⟩],
  .mk 0x50090 4 4 4 1 [⟨0, 8, .ro, 0⟩, ⟨8, 8, .ro, 0⟩, ⟨16, 1, .ro, 1⟩],
  .mk 0x500a0 4 1 4 1 [⟨0, 1, .rwf, 0⟩, ⟨1, 1, .rwf, 0⟩, ⟨2, 1, .rwl, 1⟩, ⟨3, 1, .rwl, 1⟩, ⟨4, 1, .rwl, 0⟩, ⟨5, 9, .rwf, 0⟩],
  .mk 0x500b0 4 8 4 1 [⟨0, 32, .ro, 0⟩]] ++ [
  .mk 0x500d0 4 4 4 1 [⟨0, 32, .ro, 0⟩]]

/-- The NT block's registers. -/
def regsNT : List RegFam := [
  .mk 0x60000 4 1 4 1 [⟨0, 1, .wc, 0⟩],
  .mk 0x60004 4 1 4 1 [⟨0, 1, .ro, 0⟩, ⟨1, 1, .w1c, 0⟩, ⟨2, 1, .w1c, 0⟩],
  .mk 0x60008 4 1 4 1 [⟨0, 4, .rwt, 4⟩, ⟨4, 4, .rwt, 4⟩, ⟨8, 4, .rwt, 2⟩],
  .mk 0x6000c 4 1 4 1 [⟨0, 8, .rwt, 0xc0⟩, ⟨8, 8, .rwt, 0x20⟩, ⟨16, 8, .rwt, 4⟩],
  .mk 0x60010 4 1 4 1 [⟨0, 13, .rwt, 0x100⟩, ⟨16, 16, .rwt, 0x28⟩],
  .mk 0x60014 4 1 4 1 [⟨0, 18, .ro, 0⟩],
  .mk 0x60018 4 1 4 1 [⟨0, 32, .ro, 0⟩],
  .mk 0x6001c 4 1 4 1 [⟨0, 15, .ro, 0⟩],
  .mk 0x60020 16 2 16 1 [⟨0, 25, .rwf, 0⟩],
  .mk 0x60024 16 2 16 1 [⟨0, 16, .rwf, 0⟩],
  .mk 0x60028 16 2 16 1 [⟨0, 16, .rwl, 0⟩],
  .mk 0x6002c 16 2 16 1 [⟨0, 16, .ro, 0⟩],
  .mk 0x60040 4 6 4 1 [⟨0, 32, .ro, 0⟩]]

/-- The SEC block's registers. -/
def regsSEC : List RegFam := [
  .mk 0x70000 4 1 4 1 [⟨0, 1, .wc, 0⟩, ⟨1, 1, .rwl, 0⟩],
  .mk 0x70004 4 1 4 1 [⟨0, 1, .ro, 0⟩, ⟨1, 1, .w1c, 0⟩, ⟨2, 1, .w1c, 0⟩, ⟨3, 1, .w1c, 0⟩, ⟨4, 1, .w1c, 0⟩, ⟨5, 1, .ro, 0⟩],
  .mk 0x70008 4 1 4 1 [⟨0, 32, .rwf, 0⟩],
  .mk 0x7000c 4 1 4 1 [⟨0, 32, .rwf, 0⟩],
  .mk 0x70010 4 1 4 1 [⟨0, 3, .rwt, 5⟩, ⟨4, 3, .rwt, 7⟩, ⟨8, 8, .rwl, 0x10⟩],
  .mk 0x70014 4 1 4 1 [⟨0, 8, .ro, 0⟩, ⟨8, 1, .ro, 0⟩],
  .mk 0x70018 4 1 4 1 [⟨0, 32, .ro, 0⟩],
  .mk 0x7001c 4 1 4 1 [⟨0, 32, .ro, 0⟩],
  .mk 0x70020 4 1 4 1 [⟨0, 16, .ro, 0⟩, ⟨16, 16, .ro, 0⟩],
  .mk 0x70030 16 2 16 1 [⟨0, 25, .rwf, 0⟩],
  .mk 0x70034 16 2 16 1 [⟨0, 16, .rwf, 0⟩],
  .mk 0x70038 16 2 16 1 [⟨0, 16, .rwl, 0⟩],
  .mk 0x7003c 16 2 16 1 [⟨0, 16, .ro, 0⟩],
  .mk 0x70060 4 11 4 1 [⟨0, 32, .ro, 0⟩]]

/-- The BBL block's registers. -/
def regsBBL : List RegFam := [
  .mk 0x80000 4 1 4 1 [⟨0, 1, .wc, 0⟩],
  .mk 0x80004 4 1 4 1 [⟨0, 1, .w1c, 0⟩, ⟨1, 1, .w1c, 0⟩],
  .mk 0x80100 256 2 256 1 [⟨0, 2, .rwf, 0⟩, ⟨2, 1, .rwf, 0⟩, ⟨4, 12, .rwf, 0⟩],
  .mk 0x80104 256 2 256 1 [⟨0, 16, .rwf, 0x7d0⟩, ⟨16, 16, .rwf, 0x4b0⟩],
  .mk 0x80108 256 2 256 1 [⟨0, 11, .rwf, 0x80⟩, ⟨11, 11, .rwf, 0x640⟩, ⟨22, 8, .rwf, 0x20⟩],
  .mk 0x8010c 256 2 256 1 [⟨0, 8, .rwt, 0xd8⟩, ⟨8, 5, .rwf, 8⟩, ⟨13, 6, .rwf, 0x10⟩, ⟨19, 6, .rwf, 8⟩],
  .mk 0x80110 256 2 256 1 [⟨0, 32, .rwt, 0⟩],
  .mk 0x80114 256 2 256 1 [⟨0, 8, .rwf, 0x10⟩, ⟨8, 4, .rwf, 4⟩, ⟨12, 4, .rwf, 2⟩, ⟨16, 8, .rwt, 0x80⟩, ⟨24, 8, .rwt, 0x20⟩],
  .mk 0x80118 256 2 256 1 [⟨0, 32, .rwl, 0⟩],
  .mk 0x8011c 256 2 256 1 [⟨0, 16, .rwl, 0x51⟩],
  .mk 0x80120 256 2 256 1 [⟨0, 32, .rwf, 0⟩],
  .mk 0x80124 256 2 256 1 [⟨0, 32, .rwf, 0⟩],
  .mk 0x80128 256 2 256 1 [⟨0, 25, .rwt, 0⟩],
  .mk 0x8012c 256 2 256 1 [⟨0, 1, .wc, 0⟩]] ++ [
  .mk 0x80130 256 2 256 1 [⟨0, 25, .rwf, 0⟩],
  .mk 0x80134 256 2 256 1 [⟨0, 16, .rwf, 0⟩],
  .mk 0x80138 256 2 256 1 [⟨0, 16, .rwl, 0⟩],
  .mk 0x8013c 256 2 256 1 [⟨0, 16, .ro, 0⟩],
  .mk 0x80140 256 2 256 1 [⟨0, 3, .ro, 0⟩, ⟨4, 4, .ro, 0⟩, ⟨8, 5, .ro, 0⟩, ⟨13, 2, .ro, 0⟩, ⟨15, 1, .ro, 0⟩],
  .mk 0x80144 256 2 256 1 [⟨0, 24, .ro, 0⟩],
  .mk 0x80148 256 2 256 1 [⟨0, 24, .ro, 0⟩],
  .mk 0x8014c 256 2 256 1 [⟨0, 32, .ro, 0⟩],
  .mk 0x80150 256 2 256 1 [⟨0, 32, .ro, 0⟩],
  .mk 0x80154 256 2 256 1 [⟨0, 1, .rwf, 0⟩, ⟨1, 1, .rwf, 0⟩, ⟨2, 1, .rwf, 0⟩, ⟨3, 1, .rwl, 1⟩, ⟨4, 1, .rwl, 1⟩, ⟨5, 1, .rwl, 0⟩, ⟨6, 9, .rwf, 0⟩],
  .mk 0x80158 256 2 256 1 [⟨0, 12, .rwf, 0⟩, ⟨12, 10, .rwf, 0⟩],
  .mk 0x8015c 256 2 256 1 [⟨0, 4, .rwl, 0xf⟩, ⟨8, 8, .rwl, 0xa⟩],
  .mk 0x80160 256 2 4 8 [⟨0, 32, .ro, 0⟩],
  .mk 0x80180 256 2 4 32 [⟨0, 22, .rwf, 0⟩, ⟨22, 2, .rwf, 0⟩]]

/-- The SER block's registers. -/
def regsSER : List RegFam := [
  .mk 0x90000 4 1 4 1 [⟨0, 1, .rwl, 1⟩, ⟨1, 1, .wc, 0⟩],
  .mk 0x90004 4 1 4 1 [⟨0, 1, .ro, 0⟩, ⟨1, 1, .w1c, 0⟩, ⟨2, 1, .w1c, 0⟩, ⟨3, 1, .w1c, 0⟩],
  .mk 0x90008 4 1 4 1 [⟨0, 12, .rwl, 0x3c⟩],
  .mk 0x9000c 4 1 4 1 [⟨0, 21, .ro, 0⟩],
  .mk 0x90010 4 1 4 1 [⟨0, 32, .ro, 0⟩],
  .mk 0x90014 4 1 4 1 [⟨0, 4, .rwl, 4⟩, ⟨4, 1, .rwl, 1⟩],
  .mk 0x90018 4 1 4 1 [⟨0, 11, .rwl, 0⟩, ⟨11, 4, .rwl, 0⟩, ⟨15, 1, .wc, 0⟩],
  .mk 0x90020 4 1 4 1 [⟨0, 21, .ro, 0⟩, ⟨21, 2, .ro, 0⟩],
  .mk 0x90024 4 1 4 1 [⟨0, 21, .ro, 0⟩, ⟨21, 2, .ro, 0⟩, ⟨23, 4, .ro, 0⟩],
  .mk 0x90030 4 1 4 1 [⟨0, 9, .rwl, 0⟩],
  .mk 0x90034 4 1 4 1 [⟨0, 8, .rwl, 0x40⟩],
  .mk 0x90040 4 6 4 1 [⟨0, 32, .ro, 0⟩],
  .mk 0x90100 32 16 4 8 [⟨0, 11, .ro, 0⟩, ⟨31, 1, .ro, 0⟩]]

/-- The DRV block's registers. -/
def regsDRV : List RegFam := [
  .mk 0xa0000 4 1 4 1 [⟨0, 1, .w1c, 0⟩, ⟨1, 1, .w1c, 0⟩, ⟨2, 1, .w1c, 0⟩],
  .mk 0xa0100 64 12 64 1 [⟨0, 1, .wc, 0⟩, ⟨1, 1, .wc, 0⟩, ⟨2, 1, .wc, 0⟩, ⟨3, 1, .rwl, 0⟩],
  .mk 0xa0104 64 12 64 1 [⟨0, 3, .ro, 0⟩, ⟨3, 1, .ro, 1⟩, ⟨4, 1, .ro, 0⟩, ⟨5, 1, .ro, 0⟩, ⟨6, 1, .ro, 0⟩, ⟨7, 1, .w1c, 0⟩, ⟨8, 1, .w1c, 0⟩, ⟨9, 1, .w1c, 0⟩],
  .mk 0xa0108 64 12 64 1 [⟨0, 13, .ro, 0⟩],
  .mk 0xa010c 64 12 64 1 [⟨0, 13, .rwl, 0⟩],
  .mk 0xa0110 64 12 8 2 [⟨0, 16, .ro, 0⟩, ⟨31, 1, .ro, 0⟩],
  .mk 0xa0114 64 12 8 2 [⟨0, 32, .ro, 0⟩],
  .mk 0xa0120 64 12 64 1 [⟨0, 1, .wc, 0⟩, ⟨1, 1, .wc, 0⟩],
  .mk 0xa0124 64 12 64 1 [⟨0, 8, .ro, 0⟩, ⟨8, 13, .ro, 0⟩, ⟨31, 1, .ro, 0⟩],
  .mk 0xa0128 64 12 64 1 [⟨0, 15, .rwl, 0⟩, ⟨16, 1, .rwl, 0⟩],
  .mk 0xa012c 64 12 64 1 [⟨0, 32, .rwl, 0⟩],
  .mk 0xa0130 64 12 64 1 [⟨0, 13, .rwl, 0⟩, ⟨13, 1, .rwl, 0⟩],
  .mk 0xa0134 64 12 64 1 [⟨0, 32, .ro, 0⟩],
  .mk 0xa0138 64 12 64 1 [⟨0, 32, .ro, 0⟩]] ++ [
  .mk 0xa013c 64 12 64 1 [⟨0, 32, .ro, 0⟩]]

/-- The CIPH block's registers. -/
def regsCIPH : List RegFam := [
  .mk 0xb0000 4 1 4 1 [⟨0, 1, .wc, 0⟩],
  .mk 0xb0004 4 1 4 1 [⟨0, 1, .w1c, 0⟩, ⟨1, 1, .w1c, 0⟩, ⟨2, 1, .w1c, 0⟩, ⟨3, 1, .w1c, 0⟩],
  .mk 0xb0008 4 1 4 1 [⟨0, 8, .rwl, 0x14⟩],
  .mk 0xb000c 4 1 4 1 [⟨0, 32, .rwl, 0x40000000⟩],
  .mk 0xb0010 4 1 4 1 [⟨0, 32, .rwl, 0x40000000⟩],
  .mk 0xb0020 4 4 4 1 [⟨0, 4, .ro, 0xf⟩, ⟨4, 1, .wc, 0⟩, ⟨5, 1, .wc, 0⟩],
  .mk 0xb0030 4 4 4 1 [⟨0, 1, .ro, 0⟩, ⟨1, 1, .ro, 0⟩, ⟨2, 1, .ro, 0⟩, ⟨3, 1, .ro, 0⟩, ⟨4, 1, .ro, 0⟩, ⟨8, 10, .ro, 0⟩],
  .mk 0xb0040 16 4 16 1 [⟨0, 25, .rwf, 0⟩],
  .mk 0xb0044 16 4 16 1 [⟨0, 16, .rwf, 0⟩],
  .mk 0xb0048 16 4 16 1 [⟨0, 16, .rwl, 0⟩],
  .mk 0xb004c 16 4 16 1 [⟨0, 16, .ro, 0⟩],
  .mk 0xb0080 4 8 4 1 [⟨0, 32, .ro, 0⟩],
  .mk 0xb0400 16 64 16 1 [⟨0, 1, .ro, 0⟩, ⟨1, 1, .ro, 0⟩, ⟨8, 8, .ro, 0⟩, ⟨16, 7, .ro, 0⟩],
  .mk 0xb0404 16 64 16 1 [⟨0, 32, .ro, 0⟩]] ++ [
  .mk 0xb0408 16 64 16 1 [⟨0, 32, .ro, 0⟩],
  .mk 0xb040c 16 64 16 1 [⟨0, 32, .ro, 0⟩]]

/-- The SHP block's registers. -/
def regsSHP : List RegFam := [
  .mk 0xc0000 4 1 4 1 [⟨0, 1, .wc, 0⟩],
  .mk 0xc0004 4 1 4 1 [⟨0, 1, .ro, 0⟩, ⟨1, 1, .w1c, 0⟩, ⟨2, 1, .w1c, 0⟩],
  .mk 0xc0008 4 1 4 1 [⟨0, 16, .rws, 0⟩, ⟨16, 16, .rws, 0x800⟩],
  .mk 0xc0010 16 2 16 1 [⟨0, 25, .rwf, 0⟩],
  .mk 0xc0014 16 2 16 1 [⟨0, 16, .rwf, 0⟩],
  .mk 0xc0018 16 2 16 1 [⟨0, 16, .rwl, 0⟩],
  .mk 0xc001c 16 2 16 1 [⟨0, 16, .ro, 0⟩],
  .mk 0xc0040 16 16 16 1 [⟨0, 24, .rws, 0⟩, ⟨24, 1, .rws, 0⟩, ⟨25, 1, .rws, 1⟩],
  .mk 0xc0044 16 16 16 1 [⟨0, 24, .rws, 0x800⟩],
  .mk 0xc0048 16 8 16 1 [⟨0, 16, .rws, 0⟩, ⟨16, 16, .rws, 0xffff⟩],
  .mk 0xc00c8 16 8 16 1 [⟨0, 1, .rws, 1⟩],
  .mk 0xc004c 16 8 16 1 [⟨0, 12, .rws, 0x40⟩],
  .mk 0xc0140 4 8 4 1 [⟨0, 32, .ro, 0⟩],
  .mk 0xc0180 4 16 4 1 [⟨0, 24, .ro, 0⟩]]

/-- The DMA block's registers. -/
def regsDMA : List RegFam := [
  .mk 0xd0000 4 1 4 1 [⟨0, 1, .wc, 0⟩],
  .mk 0xd0004 4 1 4 1 [⟨0, 1, .w1c, 0⟩, ⟨1, 1, .w1c, 0⟩, ⟨2, 1, .w1c, 0⟩, ⟨3, 1, .w1c, 0⟩, ⟨4, 1, .ro, 1⟩],
  .mk 0xd0008 4 1 4 1 [⟨0, 3, .ro, 0⟩],
  .mk 0xd000c 4 1 4 1 [⟨0, 32, .ro, 0⟩],
  .mk 0xd0010 4 1 4 1 [⟨0, 32, .ro, 0⟩],
  .mk 0xd0100 64 16 64 1 [⟨0, 2, .rwl, 0⟩, ⟨2, 7, .rwl, 8⟩, ⟨16, 8, .ro, 0xff⟩],
  .mk 0xd0104 64 16 64 1 [⟨0, 25, .rwl, 0⟩],
  .mk 0xd0108 64 16 64 1 [⟨0, 1, .wc, 0⟩, ⟨1, 1, .wc, 0⟩, ⟨2, 1, .wc, 0⟩],
  .mk 0xd010c 64 16 64 1 [⟨0, 2, .ro, 0⟩, ⟨8, 8, .ro, 0⟩, ⟨16, 7, .ro, 0⟩],
  .mk 0xd0110 64 16 64 1 [⟨0, 25, .ro, 0⟩],
  .mk 0xd0114 64 16 64 1 [⟨0, 16, .ro, 0⟩, ⟨16, 16, .ro, 0⟩]]

/-- The CAR block's registers. -/
def regsCAR : List RegFam := [
  .mk 0xe0000 4 1 4 1 [⟨0, 1, .wc, 0⟩],
  .mk 0xe0004 4 1 4 1 [⟨0, 2, .ro, 0⟩, ⟨2, 1, .ro, 0⟩, ⟨3, 1, .ro, 0⟩, ⟨4, 1, .ro, 0⟩, ⟨5, 1, .ro, 0⟩, ⟨6, 1, .ro, 0⟩, ⟨7, 1, .w1c, 0⟩, ⟨8, 1, .w1c, 0⟩, ⟨9, 1, .w1c, 0⟩, ⟨10, 1, .w1c, 0⟩, ⟨11, 1, .w1c, 0⟩, ⟨12, 1, .w1c, 0⟩, ⟨13, 2, .ro, 0⟩, ⟨15, 1, .ro, 0⟩, ⟨16, 6, .ro, 0⟩, ⟨22, 7, .ro, 0⟩],
  .mk 0xe0008 4 1 4 1 [⟨0, 1, .wc, 0⟩, ⟨1, 1, .wc, 0⟩, ⟨2, 1, .wc, 0⟩, ⟨3, 1, .wc, 0⟩, ⟨4, 1, .wc, 0⟩],
  .mk 0xe000c 4 1 4 1 [⟨0, 8, .rwl, 0x32⟩],
  .mk 0xe0010 4 2 4 1 [⟨0, 16, .ro, 0⟩, ⟨16, 8, .ro, 0⟩, ⟨24, 1, .ro, 0⟩],
  .mk 0xe0018 4 1 4 1 [⟨0, 24, .ro, 0⟩, ⟨24, 6, .ro, 0⟩, ⟨30, 1, .ro, 0⟩],
  .mk 0xe0020 4 1 4 1 [⟨0, 32, .rwl, 0⟩],
  .mk 0xe0024 4 1 4 1 [⟨0, 32, .rwl, 0⟩],
  .mk 0xe0030 4 1 4 1 [⟨0, 24, .ro, 0⟩, ⟨24, 1, .ro, 0⟩],
  .mk 0xe0040 8 6 4 2 [⟨0, 32, .ro, 0⟩],
  .mk 0xe0080 8 2 4 2 [⟨0, 32, .rwl, 0⟩],
  .mk 0xe00a0 4 8 4 1 [⟨0, 32, .ro, 0⟩],
  .mk 0xe0100 4 32 4 1 [⟨0, 12, .rwl, 0⟩]]

/-- The TAN block's registers. -/
def regsTAN : List RegFam := [
  .mk 0xf0000 4 1 4 1 [⟨0, 1, .wc, 0⟩],
  .mk 0xf0004 4 1 4 1 [⟨0, 2, .ro, 3⟩, ⟨2, 2, .ro, 0⟩, ⟨4, 1, .ro, 0⟩, ⟨5, 1, .ro, 0⟩, ⟨6, 1, .ro, 0⟩, ⟨7, 1, .ro, 0⟩, ⟨8, 1, .w1c, 0⟩, ⟨9, 1, .w1c, 0⟩, ⟨10, 1, .w1c, 0⟩, ⟨11, 1, .w1c, 0⟩, ⟨12, 1, .w1c, 0⟩, ⟨13, 1, .w1c, 0⟩],
  .mk 0xf0008 4 1 4 1 [⟨0, 12, .rwt, 0x320⟩, ⟨12, 1, .ro, 0⟩, ⟨16, 3, .rwl, 2⟩, ⟨24, 8, .rwl, 0x10⟩],
  .mk 0xf000c 4 1 4 1 [⟨0, 8, .rwf, 0x1b⟩],
  .mk 0xf0010 4 1 4 1 [⟨0, 1, .wc, 0⟩, ⟨1, 1, .wc, 0⟩, ⟨2, 1, .wc, 0⟩, ⟨3, 1, .wc, 0⟩],
  .mk 0xf0014 4 1 4 1 [⟨0, 21, .rwl, 0⟩, ⟨31, 1, .ro, 0⟩],
  .mk 0xf0018 4 1 4 1 [⟨0, 32, .ro, 0⟩],
  .mk 0xf001c 4 1 4 1 [⟨0, 32, .ro, 0⟩],
  .mk 0xf0020 4 1 4 1 [⟨0, 16, .ro, 0⟩],
  .mk 0xf0024 4 1 4 1 [⟨0, 32, .ro, 0⟩],
  .mk 0xf0028 4 1 4 1 [⟨0, 21, .ro, 0⟩],
  .mk 0xf0030 4 2 4 1 [⟨0, 4, .ro, 0⟩, ⟨4, 1, .ro, 0⟩],
  .mk 0xf0038 4 1 4 1 [⟨0, 16, .ro, 0⟩, ⟨16, 16, .ro, 0⟩],
  .mk 0xf003c 4 1 4 1 [⟨0, 32, .ro, 0⟩]] ++ [
  .mk 0xf0040 4 8 4 1 [⟨0, 32, .ro, 0⟩]]

/-- The HST block's registers. -/
def regsHST : List RegFam := [
  .mk 0x100000 4 1 4 1 [⟨0, 1, .wc, 0⟩, ⟨1, 1, .rwl, 0⟩],
  .mk 0x100004 4 1 4 1 [⟨0, 1, .w1c, 0⟩, ⟨1, 1, .w1c, 0⟩, ⟨2, 1, .w1c, 0⟩, ⟨3, 1, .w1c, 0⟩, ⟨4, 1, .w1c, 0⟩],
  .mk 0x100008 4 1 4 1 [⟨0, 2, .ro, 0⟩, ⟨2, 3, .ro, 0⟩, ⟨5, 1, .ro, 0⟩, ⟨6, 1, .ro, 0⟩],
  .mk 0x10000c 4 1 4 1 [⟨0, 16, .ro, 0⟩, ⟨16, 16, .ro, 0x812⟩],
  .mk 0x100010 4 1 4 1 [⟨0, 25, .rwf, 0⟩],
  .mk 0x100014 4 1 4 1 [⟨0, 14, .rwl, 0⟩],
  .mk 0x100020 4 2 4 1 [⟨0, 32, .w1c, 0⟩],
  .mk 0x100028 4 2 4 1 [⟨0, 32, .rwl, 0⟩],
  .mk 0x100030 4 2 4 1 [⟨0, 32, .w1c, 0⟩],
  .mk 0x100100 16 16 16 1 [⟨0, 25, .rwf, 0⟩],
  .mk 0x100104 16 16 16 1 [⟨0, 16, .rwf, 0⟩, ⟨16, 1, .rwf, 0⟩, ⟨17, 4, .rwf, 0⟩],
  .mk 0x100108 16 16 16 1 [⟨0, 16, .rwl, 0⟩],
  .mk 0x10010c 16 16 16 1 [⟨0, 16, .ro, 0⟩],
  .mk 0x100200 4 16 4 1 [⟨0, 16, .wc, 0⟩]] ++ [
  .mk 0x100300 4 6 4 1 [⟨0, 32, .ro, 0⟩]]

/-- The TRU block's registers. -/
def regsTRU : List RegFam := [
  .mk 0x110000 4 1 4 1 [⟨0, 2, .ro, 0⟩, ⟨2, 1, .ro, 0⟩, ⟨3, 1, .ro, 0⟩, ⟨4, 1, .ro, 0⟩, ⟨5, 1, .ro, 0⟩, ⟨6, 1, .ro, 0⟩, ⟨7, 1, .w1c, 0⟩, ⟨8, 1, .w1c, 0⟩, ⟨9, 1, .w1c, 0⟩],
  .mk 0x110004 4 1 4 1 [⟨0, 1, .wc, 0⟩, ⟨1, 1, .wc, 0⟩, ⟨2, 1, .wc, 0⟩, ⟨3, 1, .wc, 0⟩],
  .mk 0x110008 4 1 4 1 [⟨0, 25, .rwl, 0⟩],
  .mk 0x11000c 4 1 4 1 [⟨0, 4, .ro, 0⟩, ⟨4, 6, .ro, 0⟩],
  .mk 0x110010 4 2 4 1 [⟨0, 32, .ro, 0⟩],
  .mk 0x110018 4 2 4 1 [⟨0, 32, .ro, 0⟩],
  .mk 0x110020 4 1 4 1 [⟨0, 1, .ro, 0⟩, ⟨1, 1, .ro, 0⟩, ⟨2, 1, .ro, 0⟩],
  .mk 0x110024 4 1 4 1 [⟨0, 1, .wc, 0⟩, ⟨1, 1, .wc, 0⟩, ⟨2, 1, .wc, 0⟩],
  .mk 0x110028 4 1 4 1 [⟨0, 8, .ro, 0⟩, ⟨8, 8, .rwl, 0⟩],
  .mk 0x11002c 4 1 4 1 [⟨0, 16, .rwl, 0x3e8⟩],
  .mk 0x110030 4 1 4 1 [⟨0, 32, .ro, 0⟩],
  .mk 0x110040 4 16 4 1 [⟨0, 32, .ro, 0⟩],
  .mk 0x110080 4 16 4 1 [⟨0, 32, .rwl, 0⟩],
  .mk 0x1100c0 4 6 4 1 [⟨0, 32, .ro, 0⟩]]

/-- The UPD block's registers. -/
def regsUPD : List RegFam := [
  .mk 0x120000 4 1 4 1 [⟨0, 1, .wc, 0⟩, ⟨1, 1, .wc, 0⟩],
  .mk 0x120004 4 1 4 1 [⟨0, 2, .ro, 0⟩, ⟨2, 1, .ro, 0⟩, ⟨3, 1, .ro, 0⟩, ⟨4, 1, .w1c, 0⟩, ⟨5, 1, .w1c, 0⟩],
  .mk 0x120008 4 1 4 1 [⟨0, 8, .ro, 0⟩, ⟨8, 8, .ro, 0⟩],
  .mk 0x12000c 4 1 4 1 [⟨0, 25, .rwl, 0⟩],
  .mk 0x120010 4 1 4 1 [⟨0, 13, .rwl, 0x1000⟩],
  .mk 0x120014 4 1 4 1 [⟨0, 12, .rwl, 0⟩],
  .mk 0x120018 4 1 4 1 [⟨0, 1, .wc, 0⟩, ⟨1, 1, .wc, 0⟩, ⟨2, 1, .wc, 0⟩],
  .mk 0x12001c 4 1 4 1 [⟨0, 17, .ro, 0⟩],
  .mk 0x120020 4 1 4 1 [⟨0, 11, .ro, 0⟩],
  .mk 0x120024 4 1 4 1 [⟨0, 11, .rwl, 0x7ff⟩],
  .mk 0x120028 4 1 4 1 [⟨0, 2, .ro, 0⟩, ⟨2, 1, .ro, 0⟩, ⟨3, 1, .ro, 0⟩, ⟨4, 1, .ro, 0⟩, ⟨5, 1, .ro, 0⟩],
  .mk 0x12002c 4 1 4 1 [⟨0, 32, .ro, 0⟩],
  .mk 0x120030 4 1 4 1 [⟨0, 16, .ro, 0⟩, ⟨16, 16, .ro, 0⟩],
  .mk 0x120040 4 12 4 1 [⟨0, 16, .ro, 0⟩, ⟨16, 16, .ro, 0⟩]] ++ [
  .mk 0x120080 4 6 4 1 [⟨0, 32, .ro, 0⟩]]

/-- The FLS block's registers. -/
def regsFLS : List RegFam := [
  .mk 0x130000 4 1 4 1 [⟨0, 1, .wc, 0⟩],
  .mk 0x130004 4 1 4 1 [⟨0, 1, .ro, 0⟩, ⟨1, 1, .ro, 0⟩, ⟨2, 1, .ro, 0⟩, ⟨3, 1, .w1c, 0⟩, ⟨4, 1, .w1c, 0⟩, ⟨5, 1, .w1c, 0⟩, ⟨6, 1, .w1c, 0⟩, ⟨7, 1, .ro, 0⟩],
  .mk 0x130008 4 1 4 1 [⟨0, 23, .rwl, 0⟩],
  .mk 0x13000c 4 1 4 1 [⟨0, 25, .rwl, 0⟩],
  .mk 0x130010 4 1 4 1 [⟨0, 13, .rwl, 0x10⟩],
  .mk 0x130014 4 1 4 1 [⟨0, 1, .wc, 0⟩, ⟨1, 1, .wc, 0⟩, ⟨2, 1, .wc, 0⟩, ⟨3, 1, .wc, 0⟩, ⟨4, 1, .wc, 0⟩, ⟨5, 1, .wc, 0⟩, ⟨6, 1, .wc, 0⟩],
  .mk 0x130018 4 1 4 1 [⟨0, 4, .ro, 0⟩, ⟨4, 8, .ro, 0⟩, ⟨12, 12, .ro, 0⟩, ⟨24, 6, .ro, 0⟩],
  .mk 0x130020 4 8 4 1 [⟨0, 11, .ro, 0⟩, ⟨11, 1, .ro, 0⟩, ⟨31, 1, .ro, 0⟩],
  .mk 0x130040 4 1 4 1 [⟨0, 11, .ro, 0⟩, ⟨31, 1, .ro, 0⟩],
  .mk 0x130060 4 8 4 1 [⟨0, 32, .ro, 0⟩]]

/-- The CAL block's registers. -/
def regsCAL : List RegFam := [
  .mk 0x140000 4 1 4 1 [⟨0, 8, .rwl, 0x7f⟩],
  .mk 0x140004 4 1 4 1 [⟨0, 1, .ro, 0⟩, ⟨1, 1, .ro, 0⟩, ⟨2, 1, .ro, 0⟩, ⟨3, 2, .ro, 0⟩, ⟨5, 1, .w1c, 0⟩, ⟨6, 1, .w1c, 0⟩, ⟨7, 1, .w1c, 0⟩],
  .mk 0x140008 4 1 4 1 [⟨0, 1, .wc, 0⟩, ⟨1, 1, .wc, 0⟩, ⟨2, 1, .wc, 0⟩],
  .mk 0x14000c 4 1 4 1 [⟨0, 25, .rwl, 0⟩],
  .mk 0x140010 4 1 4 1 [⟨0, 32, .rwl, 0⟩],
  .mk 0x140014 4 1 4 1 [⟨0, 3, .ro, 0⟩],
  .mk 0x140018 4 1 4 1 [⟨0, 12, .ro, 0⟩],
  .mk 0x14001c 4 1 4 1 [⟨0, 32, .ro, 0⟩]]

/-- The TMR block's registers. -/
def regsTMR : List RegFam := [
  .mk 0x150000 4 1 4 1 [⟨0, 16, .wc, 0⟩, ⟨16, 1, .wc, 0⟩],
  .mk 0x150004 4 1 4 1 [⟨0, 16, .wc, 0⟩],
  .mk 0x150008 4 1 4 1 [⟨0, 16, .ro, 0⟩, ⟨16, 1, .w1c, 0⟩, ⟨17, 1, .w1c, 0⟩],
  .mk 0x150100 32 16 32 1 [⟨0, 2, .rwf, 0⟩, ⟨2, 1, .rwf, 0⟩, ⟨3, 1, .rwf, 0⟩, ⟨4, 1, .rwl, 0⟩],
  .mk 0x150104 32 16 32 1 [⟨0, 32, .ro, 0⟩],
  .mk 0x150108 32 16 32 1 [⟨0, 32, .rwl, 0⟩],
  .mk 0x15010c 32 16 32 1 [⟨0, 32, .rwl, 0xffffffff⟩],
  .mk 0x150110 32 16 32 1 [⟨0, 32, .rwl, 0⟩],
  .mk 0x150114 32 16 32 1 [⟨0, 32, .ro, 0⟩],
  .mk 0x150118 32 16 32 1 [⟨0, 1, .wc, 0⟩],
  .mk 0x15011c 32 16 32 1 [⟨0, 1, .ro, 0⟩, ⟨1, 1, .w1c, 0⟩, ⟨2, 1, .w1c, 0⟩, ⟨3, 1, .w1c, 0⟩, ⟨4, 1, .w1c, 0⟩]]

/-- The RTC block's registers. -/
def regsRTC : List RegFam := [
  .mk 0x160000 4 1 4 1 [⟨0, 7, .ro, 0⟩, ⟨8, 7, .ro, 0⟩, ⟨16, 6, .ro, 0⟩, ⟨24, 8, .ro, 0⟩],
  .mk 0x160024 4 1 4 1 [⟨0, 7, .rwl, 0⟩, ⟨8, 7, .rwl, 0⟩, ⟨16, 6, .rwl, 0⟩],
  .mk 0x160004 4 1 4 1 [⟨0, 6, .ro, 1⟩, ⟨8, 5, .ro, 1⟩, ⟨13, 3, .ro, 6⟩, ⟨16, 16, .ro, 0x2000⟩],
  .mk 0x160020 4 1 4 1 [⟨0, 6, .rwl, 1⟩, ⟨8, 5, .rwl, 1⟩, ⟨16, 16, .rwl, 0x2000⟩],
  .mk 0x16000c 4 1 4 1 [⟨0, 1, .wc, 0⟩],
  .mk 0x160010 4 1 4 1 [⟨0, 6, .rwl, 1⟩, ⟨8, 5, .rwl, 1⟩, ⟨16, 16, .rwl, 0x2000⟩],
  .mk 0x160014 4 1 4 1 [⟨0, 7, .rwl, 0⟩, ⟨8, 6, .rwl, 0⟩],
  .mk 0x160018 4 1 4 1 [⟨0, 7, .wc, 0⟩],
  .mk 0x160028 4 1 4 1 [⟨0, 1, .rwl, 0⟩, ⟨1, 6, .rwl, 0⟩],
  .mk 0x16002c 4 1 4 1 [⟨0, 25, .rwl, 0⟩],
  .mk 0x160030 4 1 4 1 [⟨0, 1, .ro, 1⟩, ⟨1, 1, .ro, 0⟩, ⟨2, 1, .w1c, 0⟩, ⟨3, 1, .w1c, 0⟩, ⟨4, 1, .w1c, 0⟩, ⟨5, 1, .w1c, 0⟩, ⟨6, 1, .w1c, 0⟩, ⟨7, 1, .ro, 0⟩, ⟨8, 1, .ro, 0⟩, ⟨9, 1, .w1c, 0⟩, ⟨10, 1, .w1c, 0⟩, ⟨16, 8, .ro, 0⟩]]

/-- The EVT block's registers. -/
def regsEVT : List RegFam := [
  .mk 0x170000 4 1 4 1 [⟨0, 1, .wc, 0⟩, ⟨1, 1, .rwl, 0⟩],
  .mk 0x170004 4 1 4 1 [⟨0, 1, .w1c, 0⟩, ⟨1, 1, .w1c, 0⟩, ⟨2, 1, .w1c, 0⟩, ⟨3, 1, .w1c, 0⟩, ⟨4, 1, .w1c, 0⟩],
  .mk 0x170008 4 1 4 1 [⟨0, 6, .wc, 0⟩],
  .mk 0x17000c 4 1 4 1 [⟨0, 6, .ro, 0⟩, ⟨8, 6, .ro, 0⟩, ⟨16, 4, .ro, 0⟩, ⟨20, 12, .ro, 0⟩],
  .mk 0x170100 8 64 8 1 [⟨0, 16, .rwl, 0⟩, ⟨16, 16, .rwl, 0⟩],
  .mk 0x170104 8 64 8 1 [⟨0, 1, .rwl, 0⟩, ⟨1, 1, .rwl, 0⟩, ⟨2, 1, .wc, 0⟩, ⟨3, 1, .ro, 0⟩, ⟨4, 1, .ro, 0⟩, ⟨8, 4, .rwl, 0xf⟩, ⟨12, 1, .rwl, 0⟩],
  .mk 0x170400 4 64 4 1 [⟨0, 16, .ro, 0⟩, ⟨16, 16, .ro, 0⟩]]

/-- The SPI block's registers. -/
def regsSPI : List RegFam := [
  .mk 0x180000 4 1 4 1 [⟨0, 1, .wc, 0⟩],
  .mk 0x180040 4 1 4 1 [⟨0, 1, .rwl, 0⟩, ⟨1, 1, .rwl, 0⟩, ⟨2, 1, .wc, 0⟩],
  .mk 0x180044 4 1 4 1 [⟨0, 24, .rwl, 0⟩, ⟨24, 1, .rwl, 0⟩],
  .mk 0x180048 4 1 4 1 [⟨0, 32, .ro, 0⟩],
  .mk 0x18004c 4 1 4 1 [⟨0, 16, .ro, 0⟩, ⟨16, 16, .ro, 0⟩],
  .mk 0x180100 256 2 256 1 [⟨0, 1, .rwl, 0⟩, ⟨1, 1, .rwf, 0⟩, ⟨2, 1, .rwf, 0⟩, ⟨3, 1, .rwf, 0⟩, ⟨4, 1, .rwf, 0⟩, ⟨5, 5, .rwf, 7⟩, ⟨10, 8, .rwf, 5⟩],
  .mk 0x180104 256 2 256 1 [⟨0, 13, .rwf, 8⟩],
  .mk 0x180108 256 2 256 1 [⟨0, 1, .wc, 0⟩, ⟨1, 1, .wc, 0⟩],
  .mk 0x18010c 256 2 256 1 [⟨0, 6, .ro, 0⟩, ⟨6, 6, .ro, 0⟩, ⟨12, 1, .ro, 0⟩, ⟨13, 1, .w1c, 0⟩, ⟨14, 1, .w1c, 0⟩, ⟨15, 1, .w1c, 0⟩, ⟨16, 1, .w1c, 0⟩, ⟨17, 1, .w1c, 0⟩, ⟨18, 1, .w1c, 0⟩, ⟨19, 1, .w1c, 0⟩, ⟨20, 1, .w1c, 0⟩, ⟨21, 1, .w1c, 0⟩, ⟨22, 1, .w1c, 0⟩],
  .mk 0x180110 256 2 256 1 [⟨0, 32, .wc, 0⟩],
  .mk 0x180114 256 2 256 1 [⟨0, 32, .ro, 0⟩],
  .mk 0x180118 256 2 256 1 [⟨0, 13, .ro, 0⟩, ⟨13, 1, .ro, 0⟩, ⟨14, 1, .ro, 0⟩, ⟨15, 1, .ro, 0⟩],
  .mk 0x18011c 256 2 256 1 [⟨0, 16, .ro, 0⟩, ⟨16, 16, .ro, 0⟩]]

/-- The register families of block `b` of the address map (00_scope.md, 18_host.md). -/
def blockRegs : Nat → List RegFam
  | 0 => regsSYS
  | 1 => regsTICK
  | 2 => regsMAN
  | 3 => regsSF
  | 4 => regsFRX
  | 5 => regsFTX
  | 6 => regsNT
  | 7 => regsSEC
  | 8 => regsBBL
  | 9 => regsSER
  | 10 => regsDRV
  | 11 => regsCIPH
  | 12 => regsSHP
  | 13 => regsDMA
  | 14 => regsCAR
  | 15 => regsTAN
  | 16 => regsHST
  | 17 => regsTRU
  | 18 => regsUPD
  | 19 => regsFLS
  | 20 => regsCAL
  | 21 => regsTMR
  | 22 => regsRTC
  | 23 => regsEVT
  | 24 => regsSPI
  | _ => []

end Sys2Proof.Machine
end

