-- ==== Sys2Proof/Machine/State.lean ====
section
/-!
DEFINITION. The state of the CN812 block. Every register of the map lives in `regs`, a canonical list of (place, word)
pairs that holds only the registers whose value differs from their reset value (Machine/RegTable.lean). The rest of the
state, which no register shows, stands in one structure per chapter of the spec.
-/

namespace Sys2Proof.Machine

/-! ## The slot tick and the Tally (01_slot_tick.md) -/

/-- The Tally and the timebase. `pos` is the quarter-grain count within the slot (grain and quarter grain together),
`clock` counts every quarter grain since power-on and is the model's own measure of durations. -/
structure Tally where
  pos : Nat
  slot : Nat
  asn : Nat
  sfn : Nat
  /-- the second-mark counter, in quarter grains -/
  second : Nat
  clock : Nat
  /-- the slot in progress began with a tick (R458) -/
  whole : Bool
  /-- seals already given for the slot after this one (R18: written after grain L - 3) -/
  nextPrep : Nat
  nextRet : Nat
  /-- PPS edges in a row within 250 ns, and edges in a row more than 2 us off while locked (R16) -/
  goodEdges : Nat
  outliers : Nat
  /-- a TICK_LOAD waiting for the next tick: slot index, ASN, SFN (R25) -/
  load : Option (Nat × Nat × Nat)
  deriving DecidableEq, Repr

/-- The boundary a staged write waits for (R22, R457). -/
inductive Boundary where
  | tick
  | superframe
  | lastSlot
  deriving DecidableEq, Repr

/-- One staged field write (R11): the field, its value, how many boundaries of its kind still pass before it applies,
and the Drover that wrote it. -/
structure Staged where
  field : Field
  value : Nat
  at_ : Boundary
  left : Nat
  owner : Option Nat
  deriving DecidableEq, Repr

/-- An air item register's list as it applies to the slot now running (R456): base, count and the Drover it belongs to. -/
structure AirRef where
  base : Nat
  count : Nat
  owner : Option Nat
  deriving DecidableEq, Repr

/-! ## Modes, reset and faults (02_modes_faults.md) -/

/-- A mode change that waits: its target, whether it is an emergency stop, and the ticks still to pass (R31). -/
structure ModePend where
  target : Nat
  estop : Bool
  left : Nat
  deriving DecidableEq, Repr

/-- A record of the fault log (R36). -/
structure FaultRec where
  code : Nat
  sev : Nat
  src : Nat
  stamp : Nat
  deriving DecidableEq, Repr

/-- What the containment of a SAFE fault still waits for (R39): the ticks of a FENCE, or the closing of a PFAIL. -/
inductive SafeWait where
  | none
  | fence (ticks : Nat)
  | pfail
  | due
  deriving DecidableEq, Repr

/-- The fault manager and the reset state that no register shows. -/
structure Faults where
  /-- fault records written to the LOG bay, oldest first (R36) -/
  log : List FaultRec
  /-- clock at which the active fault became active -/
  since : Nat
  /-- clocks at which MAJOR faults became active, within the last second (R41) -/
  majors : List Nat
  /-- a SAFE fault has been detected since the last whole-chip reset (R455) -/
  safe : Bool
  wait : SafeWait
  /-- SAFE entry holds the COEX outputs low and IRQ_OUTN low (R42, R334) -/
  safeEntered : Bool
  /-- the Drover whose handler a SAFE fault aborted: it issues nothing until SAFE entry (R39) -/
  aborted : Option (Fin 12)
  deriving DecidableEq, Repr

/-- The reset sequence (R34, R443). -/
inductive ResetPhase where
  /-- a reset source is held -/
  | held
  /-- released: the sequence runs -/
  | running
  | done
  deriving DecidableEq, Repr

/-! ## The event fabric (23_events_serial.md) -/

/-- An event in the fabric: the channel it enters, its origin tag and its hops (R426). -/
structure Ev where
  chan : Nat
  origin : Nat
  hops : Nat
  deriving DecidableEq, Repr

/-! ## Drover engines (11_drover_architecture.md, 12_drover_instructions.md) -/

/-- A four-byte latch of one device register: its place and its bytes (R29), or the bytes staged for it (R212). -/
structure RegLatch where
  reg : Nat
  bytes : List (Nat × Byte)
  deriving DecidableEq, Repr

/-- One Drover: what DRV_n_* and the engine registers hold that the register file does not. PC, STATE, PERS, BANK, INH
and EVIN live in DRV_n_PC, DRV_n_STAT and DRV_n_EVPEND. -/
structure Drover where
  /-- local bytes 0x0000 to 0x7FFF that differ from zero: G, P, RC to RX, W0, W1, PG and the local RAM -/
  ram : List (Nat × Byte)
  ie : Bool
  tvec : Bool
  entry : Nat
  /-- EST.LOSTCTX -/
  lostctx : Bool
  /-- EST.SWPEND (R220) -/
  swpend : Bool
  even : Nat
  spc : Nat
  sest : Nat
  tcause : Nat
  /-- return stack, oldest entry first (R218) -/
  rstk : List Nat
  latch : Option RegLatch
  stage : Option RegLatch
  savedIe : Bool
  savedLatch : Option RegLatch
  savedStage : Option RegLatch
  /-- the mask of the WAIT in progress and the address of its bundle; DRV_n_PC names the WAIT syllable itself -/
  waitMask : Nat
  waitFrom : Nat
  /-- vectors due at the next boundary of a Drover that is not issuing (R216): entry code, address -/
  due : List (Nat × Nat)
  /-- DRV_n_CTL.STEP has been accepted and its bundle is still to issue (R222) -/
  step : Bool
  /-- DRV_n_CTL.HALT has been accepted and takes effect at the boundary of the bundle being issued (R222) -/
  halt : Bool
  /-- a bundle is being issued: vectors wait for its boundary (R216) -/
  issuing : Bool
  /-- a read of SPI_MW_DATA stalls the Drover: none, waiting, or the word that the fetch brought (R436) -/
  mw : Option (Option Word)
  /-- an image switch: none, or the ticks still to pass before the arming applies and the ticks since (R220) -/
  arm : Option (Nat × Nat)
  bank0 : List (Nat × BitVec 64)
  bank1 : List (Nat × BitVec 64)
  deriving DecidableEq, Repr

/-! ## The Serai (10_serai.md) -/

/-- The store. `mem` holds the bytes that differ from zero, in ascending order of offset. -/
structure Serai where
  mem : List (Nat × Byte)
  /-- granule addresses that hold the poison pattern (R199), ascending -/
  poison : List Nat
  /-- stored errors not yet read: granule address, and 1 or 2 bits correctable, 3 uncorrectable, 4 address (R197) -/
  errs : List (Nat × Nat)
  /-- corrected errors per row in the walk now running: bank and row, count (R202) -/
  rowCE : List ((Nat × Nat) × Nat)
  /-- the row copies in progress, first one first: bank, row, spare (R202) -/
  spare : List (Nat × Nat × Nat)
  deriving DecidableEq, Repr

/-! ## The Manifest (03_manifest.md) -/

/-- The place of a section found in a body: type, record count, offset, length. -/
structure Section where
  ty : Nat
  count : Nat
  off : Nat
  len : Nat
  deriving DecidableEq, Repr

/-- A LANES record: source, channel, stream, Drover. -/
structure LaneWire where
  src : Nat
  chan : Nat
  stream : Nat
  drover : Nat
  deriving DecidableEq, Repr

/-- A DROVERS record that the registers MAN_DRV_n do not hold whole: minimum version and handover area. -/
structure DroverRec where
  minver : Nat
  handover : Nat
  deriving DecidableEq, Repr

/-- A sub-GHz channel of CHANPLAN: offset from the window centre in kHz, and rate. -/
structure PlanChan where
  off : Int
  rate : Nat
  deriving DecidableEq, Repr

/-- The Manifest's structures in force, and the shadow check and switch in progress. -/
structure Man where
  drovers : List DroverRec
  lanes : List LaneWire
  centre : Nat
  plan : List PlanChan
  /-- masks of Drovers allowed for cipher units 0 to 3 (OWNERS) -/
  ciph : List Nat
  /-- Caravan size named by CHIP -/
  chipN : Nat
  /-- a check runs and waits at SCOPE for an index (R46) -/
  atScope : Bool
  /-- the armed target T -/
  armT : Nat
  /-- a readiness barrier of this arming has succeeded (R52), and barriers may run -/
  barOk : Bool
  /-- superframe starts seen since the arming -/
  armAge : Nat
  deriving DecidableEq, Repr

/-! ## The air schedule (04_air_schedule.md) -/

/-- An armed schedule change (R75, R76): its target, whether it is tied to a Manifest switch, and the eight words taken
from the SF_NEXT registers. -/
structure Change where
  target : Nat
  tied : Bool
  words : List Word
  deriving DecidableEq, Repr

/-- The schedule's state that SF_* does not show. -/
structure Sf where
  /-- a written SF_CHANGE.ARM: ticks still to pass before it takes effect, and its WAITGO -/
  arm : Option (Nat × Bool)
  change : Option Change
  /-- the field side may transmit: the first superframe start at or after SERVE has come (R78) -/
  air : Bool
  /-- the sub-GHz oscillators retune: reception and transmission are blanked (R55) -/
  retune : Bool
  /-- clock of grain 320 of the slot of the latest retune: acquisition resumes there (R93) -/
  blank : Nat
  /-- ENDSFN as the request of DRAIN took it (R79) -/
  endSfn : Nat
  deriving DecidableEq, Repr

/-! ## Field receivers (05_field_receive.md) -/

/-- An entry of the receive programme in force (R97): band, channel, the window in grains, and the weights of ports 0 to 7
as I and Q. -/
structure RxEntry where
  node : Nat
  sub : Bool
  chan : Nat
  pair : Bool
  wvalid : Bool
  wopen : Nat
  wclose : Nat
  age : Nat
  exp : Int
  w : List (Int × Int)
  deriving DecidableEq, Repr

/-- A frame that has been received: band, channel, and TS_END as ASN and quarter grain. -/
structure FrameId where
  sub : Bool
  chan : Nat
  asn : Nat
  q : Nat
  deriving DecidableEq, Repr

/-- A frame in reception: where it is received, its nominal SHR start at the antenna (ASN, quarter grain), what R98 to
R105 found, and its buffer once the PHR is in. -/
structure Rx where
  src : Nat
  chan : Nat
  stream : Nat
  asn : Nat
  q : Nat
  /-- the slot in which it began: clock of its tick, and its length in quarter grains -/
  tick : Nat
  slen : Nat
  phy : Nat
  node : Nat
  inwin : Bool
  paired : Bool
  gainstep : Bool
  ports : Nat
  chest : List Byte
  /-- PSDU length, PHR bits, pool and buffer, RSSI and CFO; none before the PHR -/
  phr : Option (Nat × Nat)
  pool : Nat
  buf : Nat
  rssi : Int
  cfo : Int
  early : Bool
  deriving DecidableEq, Repr

/-- The receivers' state that FRX_* does not show. -/
structure Frx where
  /-- the programme of the slot now running, and of the slot before -/
  prog : List RxEntry
  prog1 : List RxEntry
  /-- 2.4 GHz channels whose pairing is honoured in the slot now running, and in the slot before -/
  pairs : List Nat
  pairs1 : List Nat
  rxs : List Rx
  /-- return lists of the two pools, latest first -/
  ret0 : List Nat
  ret1 : List Nat
  /-- descriptors written to each ring, modulo 65,536 -/
  seq : List Nat
  /-- an LNA change that waits, and the ticks it has waited, per band -/
  lna0 : Option (Nat × Nat)
  lna1 : Option (Nat × Nat)
  /-- consecutive slots with every enabled port of the band at 24 dB or more -/
  hi0 : Nat
  hi1 : Nat
  /-- consecutive slots each port has been enabled, up to 16 -/
  run : List Nat
  /-- join requests that may still be acknowledged (R72) -/
  joins : List FrameId
  /-- frames that are not acknowledged: overrunning ones and refused join requests (R63, R72) -/
  noack : List FrameId
  deriving DecidableEq, Repr

/-! ## Field transmitters (06_field_transmit.md) -/

/-- What a carrier carries. -/
inductive CarKind where
  | beacon
  | data
  /-- an acknowledgement of the frame that ended at this ASN and quarter grain -/
  | ack (asn q : Nat)
  deriving DecidableEq, Repr

/-- A carrier assigned to an output: the clocks at which its first symbol leaves and its last symbol ends at the pin, its
PSDU's place, what its entry asks for, and whether it is on the air. -/
structure Carrier where
  out : Nat
  chan : Nat
  kind : CarKind
  ps : Nat
  pe : Nat
  buf : Nat
  len : Nat
  addfcs : Bool
  fcs4 : Bool
  white : Bool
  trim : Nat
  on : Bool
  deriving DecidableEq, Repr

/-- An output's settings in force (R115), its busy time (R119, FTX_AIR) and its predistorter (R123, R124). -/
structure TxOut where
  pmax : Int
  ncmax : Nat
  ackres : Nat
  /-- clock at which the output became busy -/
  since : Option Nat
  /-- quarter grains busy before that -/
  busy : Nat
  /-- clock of the end of its last ramp-down, where the FEM pins still lag it (R120) -/
  ended : Option Nat
  /-- it was busy in the slot now running -/
  used : Bool
  /-- what its next idle tick brings: 0 nothing, 1 new coefficients, 2 the seed -/
  dpd : Nat
  /-- that tick also shows an error that returned it to its seed (R124) -/
  dpdErr : Bool
  deriving DecidableEq, Repr

/-- The transmitters' state that FTX_* does not show. -/
structure Ftx where
  cars : List Carrier
  outs : List TxOut
  /-- clock of the tick that began this slot, and of the one before -/
  tick0 : Nat
  tick1 : Nat
  /-- the output captured for each band's predistorter update, and the one captured last -/
  cap : List (Option Nat)
  capLast : List Nat
  /-- the beacon of the slot now running has been counted as cancelled (R19) -/
  bcnGone : Bool
  /-- writes of an acknowledgement ring's WR that R163 holds: ring, value, the JSEQ awaited -/
  held : List (Nat × Nat × Nat)
  deriving DecidableEq, Repr

/-! ## Node timing (07_node_timing.md) -/

/-- The slot-length changes R132 needs: the ASN of the first slot at the present length and at the length before, and the
length of the slot last run. -/
structure Nt where
  change : Option Nat
  before : Option Nat
  lastLen : Nat
  deriving DecidableEq, Repr

/-! ## Host interfaces (18_host.md) -/

/-- One entry of the MSI-X table. -/
structure MsixEntry where
  addrLo : Nat
  addrHi : Nat
  data : Nat
  masked : Bool
  deriving DecidableEq, Repr

/-- The PCI Express endpoint: the MSI-X table and the pending bit array (R327, R332), and whether PERSTN holds it. -/
structure Endpoint where
  msix : Vector MsixEntry 64
  pba : List Nat
  deriving DecidableEq, Repr

/-! ## The Tandem (17_tandem.md) -/

/-- A journal record (R308) without its CRC. -/
structure JRec where
  ty : Nat
  flags : Nat
  jseq : Nat
  body : List Byte
  deriving DecidableEq, Repr

/-- The partner's last heartbeat (R313). -/
structure Heartbeat where
  asn : Nat
  mode : Nat
  own : Bool
  roledef : Bool
  insync : Bool
  deriving DecidableEq, Repr

/-- An index that may move only once the writes before it are visible (R194, R336): WR of a Drover's receive ring, and DEV
of a host ring. -/
inductive HeldIndex where
  | frx (n : Fin 12)
  | dev (r : Fin 16)
  deriving DecidableEq, Repr

/-- A write that waits for room in the partner's log (R311): the master and the bytes. One with an index instead of bytes
stands for the index's new value, which waits behind the writes. -/
structure HeldWrite where
  master : Nat
  off : Nat
  bytes : List Byte
  index : Option (HeldIndex × Nat)
  deriving DecidableEq, Repr

/-- The Tandem's state that TAN_* does not show. -/
structure Tan where
  /-- the partner pulls TDM_OWN low -/
  partnerLow : Bool
  /-- this SHADOW took the line under R315 and waits for TAKEOVER -/
  tookLine : Bool
  hb : Option Heartbeat
  /-- a heartbeat arrived in this slot on the Tandem link, on the Caravan (R314) -/
  seen0 : Bool
  seen1 : Bool
  /-- the Tandem journal Drover owed a retirement seal for the slot just ended and did not give it -/
  late : Bool
  /-- consecutive ticks at which this chip withheld its heartbeat (R313) -/
  withheld : Nat
  /-- this chip is being joined (R320) -/
  joining : Bool
  /-- the partner is being joined by this ACTIVE: the walk is unfinished -/
  walking : Bool
  /-- JSEQ of the last COPY record of the walk -/
  lastCopy : Option Nat
  /-- journal records received and kept, oldest first (R309, R311), and the next record's place in the JOURNAL bay -/
  log : List JRec
  logAt : Nat
  /-- bytes sent per interval between TICK records that the partner's log still keeps, oldest first (R311) -/
  segs : List Nat
  /-- JSEQ of the latest TICK record sent -/
  tickSeq : Nat
  held : List HeldWrite
  /-- units and channels of which a command waits because R311 holds its writes: NT 0, SEC 1, SHP 2, cipher unit u 4 + u,
  DMA channel n 16 + n -/
  stalled : List Nat
  /-- mode and SF_DRAIN_SFN of the last MODE record received -/
  lastMode : Option (Nat × Nat)
  /-- a handover on this chip: ticks until it is chosen, and once chosen its ASN and JSEQ (R321) -/
  hoArm : Option Nat
  hoAt : Option (Nat × Nat)
  /-- slots of TAKEOVER begun (R319) -/
  takeoverSlots : Nat
  /-- clock at which the record awaiting confirmation was sent, for TAN_RTT -/
  sentAt : Nat
  deriving DecidableEq, Repr

/-! ## Timers, the real-time clock and the serial ports (22_timers_rtc.md, 23_events_serial.md) -/

/-- A timer channel's hidden state: ATTICK start pending (R408), and the compare event already fired at this count. -/
structure Timer where
  startAtTick : Nat
  deriving DecidableEq, Repr

/-- A calendar instant: a date, a time of day, and the day of the week from 1 Monday to 7 Sunday. -/
structure Cal where
  year : Nat
  month : Nat
  day : Nat
  hour : Nat
  min : Nat
  sec : Nat
  deriving DecidableEq, Repr

/-- The live clock, which no register shows (R412). -/
structure Rtc where
  now : Cal
  /-- the 1/256 s count -/
  sub : Nat
  wakeCount : Nat
  /-- the latest instant shown since the alarm was last written -/
  watermark : Cal
  /-- the calendar staged by the commit in progress (R413) -/
  commit : Option Cal
  deriving DecidableEq, Repr

/-- A line of the serial-memory window: the address of its first byte and its 256 bytes. -/
structure MwLine where
  addr : Nat
  bytes : List Byte
  deriving DecidableEq, Repr

/-- One serial port: FIFOs (oldest first) and the frame in progress: words completed, the entry that the word under way
takes, the words that MISO will bring a master, and whether the frame has set OVER or UNDER. -/
structure SpiPort where
  tx : List Nat
  rx : List Nat
  /-- CSN is low: a frame is in progress -/
  frame : Bool
  words : Nat
  cur : Option Nat
  miso : List Nat
  overran : Bool
  under : Bool
  deriving DecidableEq, Repr

/-- The serial ports and the window: lines from least to most recently used, the addresses whose fetch runs or waits with
the Drover that each read stalls, the running one first, whether INVAL discards the running fetch's line, and a GO that waits for it with its MISO words. -/
structure Spi where
  ports : Vector SpiPort 2
  lines : List MwLine
  fetch : List (Nat × Option (Fin 12))
  discard : Bool
  goWaits : Option (List Nat)
  deriving DecidableEq, Repr

/-! ## The Caravan (16_caravan.md) -/

/-- The lead's last TICK packet as this chip took it: the Tally of the slot the tick begins and the lead's lengths. -/
structure LeadTick where
  asn : Nat
  sfn : Nat
  slot : Nat
  slotlen : Nat
  sflen : Nat
  hops : Nat
  port : Nat
  deriving DecidableEq, Repr

/-- The Caravan's state that CAR_* does not show. -/
structure Car where
  /-- the barrier in progress: chips that have answered, chips that answered ready, clock of the question (R293) -/
  barrier : Option (Nat × Nat × Nat)
  /-- ticks in a row without a TICK packet, and the packet taken in this slot (R297) -/
  missed : Nat
  tick : Option LeadTick
  /-- TICK packets in a row whose tick lay within 40 ns (R289) -/
  alignRun : Nat
  /-- PING answers missed in a row, and whether the last PING is unanswered, east and west (R287, R296) -/
  pingMiss : List Nat
  pingOpen : List Bool
  /-- the snapshot target held (R294) -/
  snap : Option Nat
  /-- chips of the present wave that have not returned, and whether this chip, reset by a wave, has yet to report its own
  return (R295) -/
  wave : Nat
  owesReturn : Bool
  /-- clock of the ENUM packet of an enumeration in progress (R283) -/
  enumAt : Option Nat
  /-- hops that are down: hop i joins the east port of chip i to chip i + 1 (R296) -/
  breaks : List Nat
  /-- image broadcast: the next sector to send, and the targets still in the transfer with the sectors each has confirmed
  (R300) -/
  imgSector : Nat
  imgLeft : List (Nat × Nat)
  deriving DecidableEq, Repr

/-! ## Trust (19_trust.md) -/

/-- The one-time fuses. They survive every reset. -/
structure Fuses where
  serial : Nat
  idkey : Nat
  idset : Bool
  /-- SHA-256 of the owner key; none while not burned -/
  owner : Option (List Byte)
  /-- 0 BLANK, 1 OWNED, 2 LOCKED, 3 RETIRED -/
  life : Nat
  /-- ROLLBACK fuses burned -/
  rollback : Nat
  deriving DecidableEq, Repr

/-- The trust block's state beside the fuses and TRU_*. -/
structure Trust where
  /-- the key that OWNERPUB of the option area holds and TRU_STAT.OWNPUBOK vouches for -/
  ownerPub : List Byte
  storageKey : Option (List Byte)
  /-- keyring entries: the key in storage form, zero padded -/
  keyring : List (Nat × List Byte)
  /-- an owner command in progress: its bytes as the trust block took them (R357) -/
  cmd : Option (List Byte)
  /-- locks an UNLOCK command has cleared until the next reset (R362) -/
  unlocked : Nat
  /-- an RBUMP in progress -/
  rbump : Bool
  /-- epoch of the boot image now running -/
  bootEpoch : Nat
  /-- bytes the DRBG has given -/
  drawn : Nat
  /-- the boot ROM has run since the last whole-chip reset (R354) -/
  booted : Bool
  deriving DecidableEq, Repr

/-! ## Updates (20_update.md) -/

/-- An update in progress and what the banks hold: the header that passed, the Drovers it names, the body taken so far, and
HOW and HOR of the image in bank b of Drover n at index 2 n + b. -/
structure Upd where
  hdr : List Byte
  mask : Nat
  body : List Byte
  hof : List (Nat × Nat)
  deriving DecidableEq, Repr

/-! ## Frame security and the cipher units (08_frame_security.md, 13_cipher_units.md) -/

/-- A lease extension in progress (R165, R247): 0 node, 1 cell, 2 cipher key; its record's fields; whether this chip's
flash and the partner's hold it; the JSEQ it was journalled under; and whether a failed read-back waits for the tick. -/
structure Lease where
  kind : Nat
  idx : Nat
  keyidx : Nat
  fp : List Byte
  end_ : Nat
  flashOk : Bool
  partnerOk : Bool
  jseq : Nat
  retry : Bool
  deriving DecidableEq, Repr

/-- The SEC unit: lease extensions in progress, LEASE records of the partner not yet in this chip's flash, and the key
slot and index of the latest CHECK of a node. -/
structure Sec where
  leases : List Lease
  persist : List Lease
  checked : List (Nat × (Nat × Nat))
  deriving DecidableEq, Repr

/-- One cipher unit: the registers of R239, the selection, and the release buffer (bytes that differ from zero). -/
structure CiphUnit where
  nonce : List Byte
  acc : List Byte
  key : Option (List Byte)
  /-- the key reference selected, its budget and the blocks used of it -/
  ref : Nat
  budget : Nat
  used : Nat
  /-- KEYIN: place in the message and key bytes -/
  keyins : List (Nat × List Byte)
  /-- a CTR with ENC = 1 has covered the key bytes of KEYIN; MAC, B0 or FINAL has passed -/
  covered : Bool
  macked : Bool
  /-- a command ended the selection: NOSEL until the next SEL (R241) -/
  failed : Bool
  buf : List (Nat × Byte)
  /-- a stalled command (R253): the clock at which it stalled, its entry, and the block operations still to come -/
  stall : Option (Nat × List Byte × Nat)
  deriving DecidableEq, Repr

/-- An entry of the lease cache (R245, R247). -/
structure CacheEntry where
  fp : List Byte
  keyidx : Nat
  usage : Nat
  lease : Nat
  ring : Bool
  deriving DecidableEq, Repr

/-- The cipher units and the lease cache, latest used first. -/
structure Ciph where
  units : Vector CiphUnit 4
  cache : List CacheEntry
  deriving DecidableEq, Repr

/-! ## DMA (15_dma.md) -/

/-- A DMA channel's hidden state: the Waybill it has begun, the status and MISMATCH that completion will write, whether STOP
is draining it, the bytes of a COPY that it has fetched, and what host memory holds at a COPY's source. -/
structure DmaChan where
  wb : List Byte
  moved : Option (Nat × Nat)
  stopping : Bool
  fetched : Nat
  host : List Byte
  deriving DecidableEq, Repr

/-- A line of the shared buffer (R274): its channel, and the bytes with the space and address they go to. -/
structure DmaLine where
  chan : Nat
  space : Nat
  dst : Nat
  bytes : List Byte
  deriving DecidableEq, Repr

/-! ## Backbone lanes (09_backbone_lanes.md) -/

/-- A lane frame on the air: its lane entry (none for a send entry), ACKREQ, and the clock at which its last symbol reaches
the antenna. -/
structure LaneTx where
  entry : Option Nat
  ackreq : Bool
  stop : Nat
  deriving DecidableEq, Repr

/-- The pins of a lane's last frame: the clocks at which its FEM pins turn ON and OFF, its class (0 acknowledgement, 1 link
beacon, 2 other), and FLAGS.PRI. -/
structure LanePins where
  on : Nat
  off : Nat
  cls : Nat
  pri : Bool
  deriving DecidableEq, Repr

/-- What a receive window serves: an RX entry, the wait after ACKREQ, or the link beacon. -/
inductive LaneWinKind where
  | rx
  | ack
  | beacon
  deriving DecidableEq, Repr

/-- A receive window (R179): the clocks at the antenna between which an SHR may start, and the expected one. -/
structure LaneWin where
  kind : LaneWinKind
  open_ : Nat
  close : Nat
  expect : Nat
  deriving DecidableEq, Repr

/-- A background calibration of a lane: clock and die temperature when it last ran, and whether it is counted overdue. -/
structure LaneBg where
  clock : Nat
  temp : Int
  overdue : Bool
  deriving DecidableEq, Repr

/-- A backbone lane. `op`, `choff`, `flags`, `buf`, `len` and `base` are the lane entry in work; `op` 0 is none. -/
structure Lane where
  /-- clocks of the start of the lane slot now running and of the one before, and that one has begun since the lane runs -/
  start : Nat
  prev : Nat
  begun : Bool
  lasn : Nat
  op : Nat
  choff : Nat
  flags : Nat
  buf : Nat
  len : Nat
  base : Nat
  /-- clock at which this slot's calibration ended -/
  calEnd : Option Nat
  tx : Option LaneTx
  pins : Option LanePins
  win : Option LaneWin
  /-- the hop mask in force, and the one that the next lane slot brings (R182) -/
  mask : Nat
  next : Option Nat
  /-- slots left of the search dwell; beacon slots run in REACQ -/
  dwell : Nat
  periods : Nat
  /-- clocks at which PHASE was stored and the model last updated -/
  phaseAt : Nat
  updAt : Nat
  /-- end of the time R178 keeps free of background steps after a frame that asks for an acknowledgement -/
  quiet : Nat
  bg : List LaneBg
  /-- send entries from RD to WR: clock of the WR write, and the lane slot starts then in force -/
  sends : List (Nat × Nat × Nat)
  deriving DecidableEq, Repr

/-! ## Flash and calibration (21_flash_calibration.md) -/

/-- A programmed 8-byte word of the flash: its value, and its check: 0 valid, 1 one bit in error, 2 not correctable. -/
structure FlsWord where
  v : Nat
  err : Nat
  deriving DecidableEq, Repr

/-- The software command in progress: a read (margin, address, Serai place, length), a program, an erase (sector, pulses
so far), or OPTWRITE with its bytes. -/
inductive FlsOp where
  | read (margin : Bool) (addr ser len : Nat)
  | program (addr : Nat) (bytes : List Byte)
  | erase (sector pulses : Nat)
  | optwrite (bytes : List Byte)
  deriving DecidableEq, Repr

/-- The flash and its controller. A word not listed is blank. -/
structure Fls where
  words : List (Nat × FlsWord)
  op : Option FlsOp
  /-- an erase that SUSPEND halted: sector, pulses -/
  susp : Option (Nat × Nat)
  /-- erase journal: current sector (0 none), next record, next SEQ -/
  jsec : Nat
  jidx : Nat
  jseq : Nat
  /-- lease log: next record place, next SEQ -/
  lidx : Nat
  lseq : Nat
  /-- the closing of R394 has ended: the die is in power-down -/
  closed : Bool
  deriving DecidableEq, Repr

/-- Calibration: the set in force (none: empty), and the RUN (sections) or COMMIT (set) in progress. -/
structure CalState where
  cur : List Byte
  run : Option Nat
  commit : Option (List Byte)
  /-- THERM_WARN has been raised and CAL_TEMP has not fallen below +103 degrees since (R451) -/
  warned : Bool
  deriving DecidableEq, Repr

/-! ## What leaves the block -/

/-- What the block sends out or drives for an instant, oldest first in `State.out`. -/
inductive Out where
  /-- a field frame starts: output, channel, level at the pin in quarter dBm, clock of its first symbol, the whitening
  bit of its PHR, PSDU as it is on the air -/
  | air (out chan : Nat) (level : Int) (at_ : Nat) (white : Bool) (psdu : List Byte)
  /-- a lane frame starts: lane, channel-table index, level at the pin in quarter dBm, clock of its first symbol at the
  antenna, the whitening bit of its PHR, PSDU as it is on the air -/
  | lane (l chan : Nat) (level : Int) (at_ : Nat) (white : Bool) (psdu : List Byte)
  /-- a word of a serial frame: port, word, its bits -/
  | spi (i word bits : Nat)
  /-- a write to host memory (R275) -/
  | hostMem (addr : Nat) (bytes : List Byte)
  /-- an MSI-X message of entry v (R332) -/
  | msix (v : Nat)
  /-- a register write packet to the lead (R333): HST_RPEND word and bits -/
  | rpend (h mask : Nat)
  /-- a journal record on the Tandem link (R307) -/
  | journal (r : JRec)
  /-- a cumulative confirmation, or the persistence confirmation of a LEASE record (R309) -/
  | confirm (jseq : Nat) (persisted : Bool)
  /-- a register write packet to the chip that holds the lead role, by which a chip reports to it -/
  | toLead (off v : Nat)
  /-- the ACTIVE asks its partner for a granule, and the partner's answer: granule, bytes, poison (R322) -/
  | fetch (addr : Nat)
  | fetched (addr : Nat) (bytes : List Byte) (poison : Bool)
  /-- a completion to the host of a read through the Caravan window (R285, R286) -/
  | hostRead (v : Word)
  /-- bytes that reach the host: a completion of an aperture read, or a reply on SPI1 (R207, R338) -/
  | hostData (bytes : List Byte)
  /-- a completion of an aperture read that is marked poisoned, with all-ones data (R200) -/
  | hostPoison (bytes : List Byte)
  /-- a DMA read of host memory behind posted writes: address and length (R275) -/
  | hostFetch (addr : Nat) (n : Nat)
  /-- the read-back of a received image sector, confirmed or failed (R300) -/
  | sectorBack (sector : Nat) (ok : Bool)
  /-- a Caravan packet out of a port (0 east, 1 west) to a chip, 0xFF for every chip -/
  | packet (port dest : Nat) (p : Packet)
  /-- the acknowledgement of a ring packet at the port it came in at, with its SEQ (R284) -/
  | hopAck (port seq : Nat)
  /-- a ring packet relayed out of a port: ORIGIN, DEST, HOPS and SEQ (R284) -/
  | relay (port origin dest hops seq : Nat) (p : Packet)
  /-- a heartbeat on both paths (R313) -/
  | heartbeat (asn mode flags sent conf : Nat)
  /-- a JOIN command's request to the ACTIVE (R320) -/
  | join
  deriving DecidableEq, Repr

/-! ## Reasons to stop -/

/-- Faults of the model: the CN812 has no command that stops it. -/
inductive Fault where
  /-- raised by nothing: every command of the table ends in a next state or a refusal; safe -/
  | none
  deriving DecidableEq, Repr

/-- Refusals: commands to which this model gives no meaning. -/
inductive Refusal where
  /-- raised by the dispatch for a row of the opcode table that has no meaning yet; safe -/
  | notModelled (mnemonic : String)
  deriving DecidableEq, Repr

/-! ## The whole state -/

/-- The CN812. -/
structure State where
  /-- commands waiting, the next one first -/
  pending : List Instr
  regs : List (Nat × Word)
  tally : Tally
  staged : List Staged
  /-- the air item lists in force for the slot now running (R456) -/
  txl : Option AirRef
  rxp : Option AirRef
  prog0 : Option AirRef
  prog1 : Option AirRef
  modePend : Option ModePend
  faults : Faults
  rst : ResetPhase
  straps : Straps
  /-- pending events of channels whose consumer was busy (R425), by channel -/
  evPend : List Ev
  drovers : Vector Drover 12
  ser : Serai
  man : Man
  sf : Sf
  frx : Frx
  ftx : Ftx
  nt : Nt
  ep : Endpoint
  tan : Tan
  timers : Vector Timer 16
  rtc : Rtc
  spi : Spi
  car : Car
  sec : Sec
  ciph : Ciph
  dma : Vector DmaChan 16
  /-- the shared buffer, in the order in which fetches completed, and the channel that the read engine served last -/
  dmaBuf : List DmaLine
  dmaLast : Nat
  lanes : Vector Lane 2
  fls : Fls
  cal : CalState
  fuses : Fuses
  tru : Trust
  upd : Upd
  /-- the JTAG instruction in force (R352) -/
  jtag : Jtag
  /-- class tokens in 1/256 byte (14_shaping.md) -/
  tok : List Nat
  out : List Out
  /-- how many free values have been used (Config) -/
  free : Nat
  deriving DecidableEq, Repr

/-- A Drover with empty banks and local RAM of zeros. DESIGN CHOICE, log entry 2. -/
def Drover.init : Drover :=
  { ram := [], ie := false, tvec := false, entry := 0, lostctx := false, swpend := false, even := 0, spc := 0, sest := 0,
    tcause := 0, rstk := [], latch := none, stage := none, savedIe := false, savedLatch := none, savedStage := none,
    waitMask := 0, waitFrom := 0, due := [], step := false, halt := false, issuing := false, mw := none,
    arm := none, bank0 := [], bank1 := [] }

def Tally.init : Tally :=
  { pos := 0, slot := 0, asn := 0, sfn := 0, second := 0, clock := 0, whole := false, nextPrep := 0, nextRet := 0,
    goodEdges := 0, outliers := 0, load := none }

def Faults.init : Faults := { log := [], since := 0, majors := [], safe := false, wait := .none, safeEntered := false, aborted := none }

def Serai.init : Serai := { mem := [], poison := [], errs := [], rowCE := [], spare := [] }

def Man.init : Man :=
  { drovers := List.replicate 12 ⟨0, 0⟩, lanes := [], centre := 0, plan := [], ciph := [0, 0, 0, 0], chipN := 0,
    atScope := false, armT := 0, barOk := false, armAge := 0 }

def Endpoint.init : Endpoint := { msix := Vector.replicate 64 ⟨0, 0, 0, true⟩, pba := [] }

def Tan.init : Tan :=
  { partnerLow := false, tookLine := false, hb := none, seen0 := false, seen1 := false, late := false, withheld := 0, joining := false,
    walking := false, lastCopy := none, log := [], logAt := 0, segs := [0], tickSeq := 0, held := [], stalled := [], lastMode := none,
    hoArm := none, hoAt := none, takeoverSlots := 0, sentAt := 0 }

def Cal.init : Cal := ⟨0, 1, 1, 0, 0, 0⟩

def Rtc.init : Rtc := { now := Cal.init, sub := 0, wakeCount := 0, watermark := Cal.init, commit := none }

def SpiPort.init : SpiPort :=
  { tx := [], rx := [], frame := false, words := 0, cur := none, miso := [], overran := false, under := false }

def Spi.init : Spi :=
  { ports := Vector.replicate 2 SpiPort.init, lines := [], fetch := [], discard := false, goWaits := none }

def Car.init : Car :=
  { barrier := none, missed := 0, tick := none, alignRun := 0, pingMiss := [0, 0], pingOpen := [false, false], snap := none,
    wave := 0, owesReturn := false, enumAt := none, breaks := [], imgSector := 0, imgLeft := [] }

def Sec.init : Sec := { leases := [], persist := [], checked := [] }

def CiphUnit.init : CiphUnit :=
  { nonce := List.replicate 13 0, acc := List.replicate 16 0, key := none, ref := 0, budget := 0, used := 0, keyins := [],
    covered := false, macked := false, failed := false, buf := [], stall := none }

def Ciph.init : Ciph := { units := Vector.replicate 4 CiphUnit.init, cache := [] }

def Lane.init : Lane :=
  { start := 0, prev := 0, begun := false, lasn := 0, op := 0, choff := 0, flags := 0, buf := 0, len := 0, base := 0, calEnd := none,
    tx := none, pins := none, win := none, mask := 0, next := none, dwell := 0, periods := 0, phaseAt := 0, updAt := 0, quiet := 0,
    bg := List.replicate 4 ⟨0, 0, false⟩, sends := [] }

def Fls.init : Fls :=
  { words := [], op := none, susp := none, jsec := 0, jidx := 0, jseq := 0, lidx := 0, lseq := 0, closed := false }

def CalState.init : CalState := { cur := [], run := none, commit := none, warned := false }

def Fuses.init : Fuses := { serial := 0, idkey := 0, idset := false, owner := none, life := 0, rollback := 0 }

def Trust.init : Trust :=
  { ownerPub := [], storageKey := none, keyring := [], cmd := none, unlocked := 0, rbump := false, bootEpoch := 0,
    drawn := 0, booted := false }

def Upd.init : Upd := { hdr := [], mask := 0, body := [], hof := List.replicate 24 (0, 0) }

def Frx.init : Frx :=
  { prog := [], prog1 := [], pairs := [], pairs1 := [], rxs := [], ret0 := [], ret1 := [], seq := List.replicate 12 0, lna0 := none, lna1 := none,
    hi0 := 0, hi1 := 0, run := List.replicate 16 0, joins := [], noack := [] }

def Ftx.init : Ftx :=
  { cars := [], outs := List.replicate 4 ⟨-40, 1, 0, none, 0, none, false, 0, false⟩, tick0 := 0, tick1 := 0, bcnGone := false,
    cap := [none, none], capLast := [1, 3], held := [] }

/-- The block right after reset: mode RESET with a reset source held, every register at its reset value, nothing
waiting. What the spec gives no reset value for stands as log entries 1 and 2 (DESIGN CHOICE) name it. -/
def State.reset : State :=
  { pending := [], regs := [], tally := Tally.init, staged := [], txl := none, rxp := none, prog0 := none, prog1 := none,
    modePend := none, faults := Faults.init, rst := .held, straps := ⟨0, false, false⟩, evPend := [],
    drovers := Vector.replicate 12 Drover.init, ser := Serai.init, man := Man.init, sf := ⟨none, none, false, false, 0, 0⟩, frx := Frx.init, ftx := Ftx.init, nt := ⟨none, none, 0⟩, ep := Endpoint.init, tan := Tan.init,
    timers := Vector.replicate 16 ⟨0⟩, rtc := Rtc.init, spi := Spi.init, car := Car.init, sec := Sec.init,
    ciph := Ciph.init, dma := Vector.replicate 16 ⟨[], none, false, 0, []⟩, dmaBuf := [], dmaLast := 15, lanes := Vector.replicate 2 Lane.init, fls := Fls.init, cal := CalState.init, fuses := Fuses.init,
    tru := Trust.init, upd := Upd.init, jtag := .bypass, tok := List.replicate 16 0, out := [], free := 0 }

end Sys2Proof.Machine
end

