-- ==== Sys2Proof/Machine/Ops.lean ====
section
/-!
DEFINITION. The named operations over registers, memory and time that every meaning is written from.
-/

namespace Sys2Proof.Machine

/-! ## Numbers -/

/-- Bits `lo` to `lo + w - 1` of `n`. -/
def bits (n lo w : Nat) : Nat := n / 2 ^ lo % 2 ^ w

/-- Bit `i` of `n`. -/
def bitOf (n i : Nat) : Bool := n / 2 ^ i % 2 == 1

/-- `n` with bits `lo` to `lo + w - 1` replaced by `v`. -/
def setBits (n lo w v : Nat) : Nat := n % 2 ^ lo + (v % 2 ^ w) * 2 ^ lo + (n / 2 ^ (lo + w)) * 2 ^ (lo + w)

/-- `n` with bit `i` set. -/
def setBit (n i : Nat) : Nat := setBits n i 1 1

/-- `n` with bit `i` clear. -/
def clrBit (n i : Nat) : Nat := setBits n i 1 0

/-- A Bool as 0 or 1. -/
def b2n (b : Bool) : Nat := if b then 1 else 0

/-- A `w`-bit pattern read as a signed number. -/
def toSigned (w n : Nat) : Int := if 2 ^ (w - 1) ≤ n % 2 ^ w then (n % 2 ^ w : Int) - 2 ^ w else (n % 2 ^ w : Int)

/-- A signed number as its `w`-bit pattern. -/
def ofSigned (w : Nat) (i : Int) : Nat := (i % (2 ^ w : Int)).toNat

/-- `i` limited to the range of a signed `w`-bit number. -/
def satSigned (w : Nat) (i : Int) : Int := max (-(2 ^ (w - 1) : Int)) (min i (2 ^ (w - 1) - 1))

/-- The count of 1 bits among bits 0 to `w - 1`. -/
def popcount : Nat → Nat → Nat
  | 0, _ => 0
  | w + 1, n => b2n (bitOf n w) + popcount w n

/-- The numbers 0 to `n - 1` whose bit is set in `m`. -/
def bitsSet (n m : Nat) : List Nat := (List.range n).filter (bitOf m)

/-- The little-endian number of a list of bytes. -/
def leNat : List Byte → Nat
  | [] => 0
  | b :: bs => b.toNat + 256 * leNat bs

/-- The `n` bytes of a number, least significant first. -/
def leBytes : Nat → Nat → List Byte
  | 0, _ => []
  | n + 1, v => BitVec.ofNat 8 v :: leBytes n (v / 256)

/-! ## Sparse data: a list of key and value in ascending order of key, without the entries equal to the default -/

/-- The value at `k`: the listed one, else the default of `k`. -/
def sget {α : Type} (dflt : Nat → α) : List (Nat × α) → Nat → α
  | [], k => dflt k
  | (a, v) :: t, k => if a = k then v else sget dflt t k

/-- Put `v` at `k` in its place of the order. -/
def sins {α : Type} (k : Nat) (v : α) : List (Nat × α) → List (Nat × α)
  | [] => [(k, v)]
  | (a, b) :: t => if a < k then (a, b) :: sins k v t else if a = k then (k, v) :: t else (k, v) :: (a, b) :: t

/-- Forget what is listed at `k`. -/
def sdel {α : Type} (k : Nat) : List (Nat × α) → List (Nat × α)
  | [] => []
  | (a, b) :: t => if a = k then sdel k t else (a, b) :: sdel k t

/-- Write `v` at `k`, keeping the form: a value equal to the default is not listed. -/
def sset {α : Type} [DecidableEq α] (dflt : Nat → α) (l : List (Nat × α)) (k : Nat) (v : α) : List (Nat × α) :=
  if v = dflt k then sdel k l else sins k v l

/-- The canonical form: keys strictly rising, no entry equal to its default. -/
def swf {α : Type} [DecidableEq α] (dflt : Nat → α) : List (Nat × α) → Bool
  | [] => true
  | [(k, v)] => v ≠ dflt k
  | (k, v) :: (k', v') :: t => v ≠ dflt k && k < k' && swf dflt ((k', v') :: t)

/-- Add `k` to an ascending list of numbers. -/
def nins (k : Nat) : List Nat → List Nat
  | [] => [k]
  | a :: t => if a < k then a :: nins k t else if a = k then a :: t else k :: a :: t

/-- Take `k` out of a list of numbers. -/
def ndel (k : Nat) (l : List Nat) : List Nat := l.filter (· != k)

/-! ## The register map -/

/-- Does the family hold the register at `off`? -/
def RegFam.hit (f : RegFam) (off : Nat) : Bool :=
  decide (f.base ≤ off) && decide ((off - f.base) / f.s1 < f.c1) &&
    decide ((off - f.base) % f.s1 % f.s2 = 0) && decide ((off - f.base) % f.s1 / f.s2 < f.c2)

/-- The fields of the register at `off`, none where the map has no register there. -/
def fieldsAt (off : Nat) : Option (List FieldSpec) :=
  ((blockRegs (off / 0x10000)).find? (RegFam.hit · off)).map (·.fields)

/-- The word that fields' reset values spell. -/
def resetOf : List FieldSpec → Nat
  | [] => 0
  | f :: fs => f.reset * 2 ^ f.lo + resetOf fs

/-- A register's reset word. -/
def resetWord (off : Nat) : Word := BitVec.ofNat 32 (resetOf ((fieldsAt off).getD []))

/-- The word a register holds. -/
def State.reg (s : State) (off : Nat) : Word := sget resetWord s.regs off

/-- Store a register word. -/
def State.setReg (s : State) (off : Nat) (v : Word) : State := { s with regs := sset resetWord s.regs off v }

/-- The value of a field. -/
def State.get (s : State) (f : Field) : Nat := bits (s.reg f.off).toNat f.lo f.w

/-- Store a field, the other bits of its register kept. -/
def State.put (s : State) (f : Field) (v : Nat) : State :=
  s.setReg f.off (BitVec.ofNat 32 (setBits (s.reg f.off).toNat f.lo f.w v))

/-- Is a flag or any bit of a field set? -/
def State.on (s : State) (f : Field) : Bool := s.get f != 0

/-- Set a one-bit field. -/
def State.flag (s : State) (f : Field) : State := s.put f 1

/-- A signed field. -/
def State.getS (s : State) (f : Field) : Int := toSigned f.w (s.get f)

/-- Store a signed field. -/
def State.putS (s : State) (f : Field) (v : Int) : State := s.put f (ofSigned f.w v)

/-- Raise a saturating counter by `n`. -/
def State.add (s : State) (f : Field) (n : Nat) : State := s.put f (min (s.get f + n) (2 ^ f.w - 1))

/-- Raise a saturating counter by 1. -/
def State.inc (s : State) (f : Field) : State := s.add f 1

/-- Raise a wrapping counter by 1. -/
def State.incWrap (s : State) (f : Field) : State := s.put f ((s.get f + 1) % 2 ^ f.w)

/-- Set bit `i` of a field. -/
def State.bitOn (s : State) (f : Field) (i : Nat) : State := s.put f (setBit (s.get f) i)

/-- Clear bit `i` of a field. -/
def State.bitOff (s : State) (f : Field) (i : Nat) : State := s.put f (clrBit (s.get f) i)

/-- Store one value in each of several fields. -/
def State.puts (s : State) (l : List (Field × Nat)) : State := l.foldl (fun s p => s.put p.1 p.2) s

/-- What leaves by the ring's ports alone. DEDUCED, log entry 159. -/
def Out.onRing : Out → Bool
  | .packet .. | .relay .. | .hopAck .. | .toLead .. | .rpend .. | .sectorBack .. => true
  | _ => false

/-- Send something out of the block; a chip that shows two leads sends nothing on the ring (R282). DESIGN CHOICE, log entry
18. DEDUCED, log entry 159. -/
def State.emit (s : State) (o : Out) : State :=
  { s with out := if o.onRing && s.on F.CAR_STAT_TWOLEADS then s.out else s.out ++ [o] }

/-! Packets of the ring leave by the way with fewer hops that still reaches their destination, east where both ways are
equal (R285, R296). -/

/-- Hops from this chip eastwards and westwards to chip `d`. -/
def State.hopsEast (s : State) (d : Nat) : Nat :=
  let n := max 1 (s.get F.CAR_STAT_SIZE)
  (d + n - s.get F.CAR_STAT_INDEX) % n
def State.hopsWest (s : State) (d : Nat) : Nat :=
  let n := max 1 (s.get F.CAR_STAT_SIZE)
  (s.get F.CAR_STAT_INDEX + n - d) % n

/-- Every hop of the way to chip `d` out of a port (0 east, 1 west) is up. -/
def State.wayUp (s : State) (port d : Nat) : Bool :=
  let n := max 1 (s.get F.CAR_STAT_SIZE)
  let me := s.get F.CAR_STAT_INDEX
  if port = 0 then (List.range (s.hopsEast d)).all fun k => !s.car.breaks.contains ((me + k) % n)
  else (List.range (s.hopsWest d)).all fun k => !s.car.breaks.contains ((d + k) % n)

/-- The port by which a packet leaves for chip `d`; none where no way reaches it. -/
def State.route (s : State) (d : Nat) : Option Nat :=
  if max 1 (s.get F.CAR_STAT_SIZE) ≤ d then none
  else if s.wayUp 0 d && (decide (s.hopsEast d ≤ s.hopsWest d) || !s.wayUp 1 d) then some 0
  else if s.wayUp 1 d then some 1
  else none

/-- Send a packet to one chip, and to every chip by both ports. -/
def State.sendTo (s : State) (d : Nat) (p : Packet) : State :=
  match s.route d with
  | some port => s.emit (.packet port d p)
  | none => s
def State.sendAll (s : State) (p : Packet) : State := (s.emit (.packet 0 0xFF p)).emit (.packet 1 0xFF p)

/-- A fresh free value below `n` (`n` not 0), and the state that has used it. -/
def State.fresh (s : State) (n : Nat) : Nat × State := (Config.freeNat s.free % n, { s with free := s.free + 1 })

/-- `f` at each of `0` to `n - 1`, in ascending order. -/
def forN (n : Nat) (f : Nat → State → State) (s : State) : State := (List.range n).foldl (fun s i => f i s) s

/-- `f` for each element, in order. -/
def forAll {α : Type} (l : List α) (f : α → State → State) (s : State) : State := l.foldl (fun s a => f a s) s

/-- Only when `c` holds. DESIGN CHOICE, log entry 4. -/
def State.when (s : State) (c : Bool) (f : State → State) : State := if c then f s else s

/-! ## Bytes of the store -/

/-- The stored byte at an offset; an offset nothing has written reads 0 (R34). -/
def State.byte (s : State) (off : Nat) : Byte := sget (fun _ => 0) s.ser.mem off

/-- The `n` stored bytes from `off`. -/
def State.bytesAt (s : State) (off n : Nat) : List Byte := (List.range n).map fun i => s.byte (off + i)

/-- The canonical form of the store: offsets strictly rising, no byte listed that is zero. -/
def Memory.wf (m : List (Nat × Byte)) : Bool := swf (fun _ => 0) m

/-- Store bytes, the canonical form kept. -/
def memStore (off : Nat) : List Byte → List (Nat × Byte) → List (Nat × Byte)
  | [], m => m
  | b :: bs, m => memStore (off + 1) bs (sset (fun _ => 0) m off b)

/-- Store bytes in the banks, with no protection and no check code. -/
def State.poke (s : State) (off : Nat) (bs : List Byte) : State :=
  { s with ser := { s.ser with mem := memStore off bs s.ser.mem } }

/-! ## Modes -/

namespace Mode
def reset : Nat := 0
def boot : Nat := 1
def configure : Nat := 2
def calibrate : Nat := 3
def test : Nat := 4
def standby : Nat := 5
def listen : Nat := 6
def serve : Nat := 7
def drain : Nat := 8
def shadow : Nat := 9
def takeover : Nat := 0xA
def safe : Nat := 0xB
end Mode

/-- The present mode. -/
def State.mode (s : State) : Nat := s.get F.SYS_MODE_MODE_CUR

/-- The modes in which the TICK block runs (R15). -/
def tickMode (m : Nat) : Bool := decide (Mode.standby ≤ m) && decide (m ≤ Mode.takeover)

/-- The TICK block runs. -/
def State.tickRuns (s : State) : Bool := tickMode s.mode

/-- The modes whose Drover decode is recovery (02_modes_faults.md, the modes). -/
def recoveryMode (m : Nat) : Bool := !(decide (Mode.standby ≤ m) && decide (m ≤ Mode.shadow))

/-- The modes that transmit: SERVE and DRAIN (R112). -/
def airMode (m : Nat) : Bool := m == Mode.serve || m == Mode.drain

/-! ## Time -/

/-- SF_SLOTLEN in grains. -/
def State.slotLen (s : State) : Nat := s.get F.SF_SLOTLEN_LEN

/-- The grain of the slot. -/
def State.grain (s : State) : Nat := s.tally.pos / 4

/-- A slot timestamp of the present instant (01_slot_tick.md, slot timestamps). -/
def State.stamp (s : State) : Nat := s.tally.asn % 2 ^ 12 * 2 ^ 20 + s.tally.pos % 2 ^ 20

/-- A write that completes now completes at or before grain SF_SLOTLEN - 3 (R18, R22). -/
def State.inTime (s : State) : Bool := decide (s.grain + 3 ≤ s.slotLen)

/-- A timer channel's period: 0 stands for 2^32. -/
def State.tmrPeriod (s : State) (n : Nat) : Nat :=
  let p := s.get (F.TMR_n_PERIOD_VALUE n)
  if p = 0 then 2 ^ 32 else p

/-- Advance a timer that counts grains or microseconds by `k` steps, no further than just before its next compare or
wrap: those are commands of their own (COMPARE_MATCH, TIMER_WRAP). DEDUCED, log entry 91. -/
def tmrElapse (k n : Nat) (s : State) : State :=
  if s.on (F.TMR_n_STAT_RUN n) then
    let c := s.get (F.TMR_n_COUNT_VALUE n)
    let m := s.get (F.TMR_n_CMP_VALUE n)
    let p := s.tmrPeriod n
    let stop := if c < m && m < p then m else p
    s.put (F.TMR_n_COUNT_VALUE n) (max c (min (c + k) (stop - 1)))
  else s

/-- The steps of a timer source between two clocks (R404): every grain, or every 8 grains. -/
def srcSteps (src c0 c1 : Nat) : Nat := if src = 0 then c1 / 4 - c0 / 4 else if src = 1 then c1 / 32 - c0 / 32 else 0

/-- The slew remainder after the timebase has counted from clock `c0` to `c1`: it shrinks at 2 ppm (R16; DEDUCED, log
entry 6). -/
def slewed (rem : Int) (c0 c1 : Nat) : Int :=
  let k : Int := (c1 / 500000 - c0 / 500000 : Nat)
  if rem < 0 then min 0 (rem + k) else max 0 (rem - k)

/-- `dt` quarter grains pass: the slot position advances while the TICK block runs, no further than the end of the slot
(the tick is a command of its own), and the second mark and the running timers advance. DESIGN CHOICE, log entry 3.
DEDUCED, log entry 101. -/
def State.elapse (s : State) (dt : Nat) : State :=
  let c0 := s.tally.clock
  let pos := if s.tickRuns then max s.tally.pos (min (s.tally.pos + dt) (4 * s.slotLen - 1)) else s.tally.pos
  let s0 := { s with tally := { s.tally with clock := c0 + dt, pos := pos, second := (s.tally.second + dt) % 32000000 } }
  let s1 := s0.putS F.TICK_SLEWREM_REM (slewed (s0.getS F.TICK_SLEWREM_REM) c0 (c0 + dt))
  if s.mode = Mode.reset then s0
  else forN 16 (fun n t => tmrElapse (srcSteps (t.get (F.TMR_n_CFG_SRC n)) c0 (c0 + dt)) n t) s1

end Sys2Proof.Machine
end

