-- ==== Sys2Proof/Machine/Vectors.lean ====
section
/-!
DEFINITION. The captures of the Tally, the event inputs of the Drovers and the 64 host vectors: what any block may raise.
-/

namespace Sys2Proof.Machine

/-- A capture of the Tally into bank `b` (R26): all its counters of one instant, and a sequence number one higher. -/
def captureTally (b : Nat) (s : State) : State :=
  s.puts [(F.TICK_CAP_b_ASNL b, s.tally.asn % 2 ^ 32), (F.TICK_CAP_b_ASNH b, s.tally.asn / 2 ^ 32),
    (F.TICK_CAP_b_SLOT b, s.tally.slot), (F.TICK_CAP_b_SEQ b, (s.get (F.TICK_CAP_b_SEQ b) + 1) % 2 ^ 12),
    (F.TICK_CAP_b_SFN b, s.tally.sfn), (F.TICK_CAP_b_QUARTER b, s.tally.pos % 4),
    (F.TICK_CAP_b_GRAIN b, s.tally.pos / 4), (F.TICK_CAP_b_VALID b, 1)]

/-- Change the hidden part of Drover `n`. -/
def State.modDrv (s : State) (n : Fin 12) (f : Drover → Drover) : State :=
  { s with drovers := s.drovers.set n (f s.drovers[n]) }

/-- An event arrives at input `k` of Drover `n`: its EVIN bit is set (R213). -/
def evin (n k : Nat) (s : State) : State := s.bitOn (F.DRV_n_EVPEND_PEND n) k

/-- One channel's capture (R409): CAP takes COUNT, and CAPOVR is set where an unread capture stood. -/
def tmrLatch (n : Nat) (s : State) : State :=
  let s1 := s.when (s.on (F.TMR_n_STAT_CAPF n)) (·.flag (F.TMR_n_STAT_CAPOVR n))
  (s1.put (F.TMR_n_CAP_VALUE n) (s1.get (F.TMR_n_COUNT_VALUE n))).flag (F.TMR_n_STAT_CAPF n)

/-- A capture of channel `n`, and of channel `n + 1` in the same cycle where an even channel has PAIR (R409). DEDUCED,
log entry 91. -/
def tmrCapture (n : Nat) (s : State) : State :=
  let s1 := tmrLatch n s
  if n % 2 = 0 && s.on (F.TMR_n_CFG_PAIR n) then tmrLatch (n + 1) s1 else s1

/-- The chip is the lead or the acting lead of its Caravan (CAR_STAT.ROLE). -/
def State.isLead (s : State) : Bool := s.get F.CAR_STAT_ROLE == 2 || s.get F.CAR_STAT_ROLE == 3

/-- The HST_VPEND, HST_VMASK and HST_RPEND words hold 32 vectors or chips each. -/
def vpend (v : Nat) : Field := F.HST_VPEND_h_BITS (v / 32)

/-- Send entry `v`'s message, or mark it pending while the entry or the function is masked (R332). -/
def msixRaise (v : Fin 64) (s : State) : State :=
  if s.on F.HST_LINK_MSIXEN then
    if s.on F.HST_LINK_FMASK || s.ep.msix[v].masked then { s with ep := { s.ep with pba := nins v s.ep.pba } }
    else (s.emit (.msix v)).inc (F.HST_CNT_k_COUNT 2)
  else s

/-- A source raises vector `v` (R332), and a chip that is not the lead reports the new bit to the lead (R333). -/
def raiseVector (v : Fin 64) (s : State) : State :=
  if bitOf (s.get (vpend v)) (v % 32) then s
  else
    let s1 := msixRaise v (s.bitOn (vpend v) (v % 32))
    if s1.get F.CAR_STAT_ROLE = 1 then
      s1.emit (.rpend (s1.get F.CAR_STAT_INDEX / 32) (2 ^ (s1.get F.CAR_STAT_INDEX % 32)))
    else s1

/-- IRQ_OUTN is driven low (R334). -/
def State.irqLow (s : State) : Bool :=
  s.faults.safeEntered || (s.on F.HST_CTL_IRQEN &&
    ([0, 1].any fun h => s.get (F.HST_VPEND_h_BITS h) &&& s.get (F.HST_VMASK_h_BITS h) != 0))

end Sys2Proof.Machine
end

