-- ==== Sys2Proof/Machine/Events.lean ====
section
/-!
DEFINITION. The event fabric (23_events_serial.md, R420 to R429): producers, consumers, relays, busy consumers and
software firing.
-/

namespace Sys2Proof.Machine

namespace Prod
def slotTick : Nat := 0x0100
def pps : Nat := 0x0101
def snapshot : Nat := 0x0102
def ntSyncLost : Nat := 0x0200
def secForgery : Nat := 0x0300
def secRotate : Nat := 0x0301
def shpDone (ring : Nat) : Nat := 0x0400 + ring
def parentLost (lane : Nat) : Nat := 0x0500 + lane
def spareOut : Nat := 0x0600
def entropyFail : Nat := 0x0700
def flsDone : Nat := 0x0800
def flsWear : Nat := 0x0801
def tmrCompare (n : Nat) : Nat := 0x0900 + n
def tmrWrap (n : Nat) : Nat := 0x0910 + n
def rtcAlarm : Nat := 0x0A00
def rtcWake : Nat := 0x0A01
def spiFrame (i : Nat) : Nat := 0x0B00 + i
end Prod

/-- The producer codes of R421; any other is unknown. -/
def knownProducer (c : Nat) : Bool :=
  [0x0000, 0x0100, 0x0101, 0x0102, 0x0200, 0x0300, 0x0301, 0x0400, 0x0401, 0x0500, 0x0501, 0x0600, 0x0700, 0x0800,
    0x0801, 0x0A00, 0x0A01, 0x0B00, 0x0B01].contains c || (decide (0x0900 ≤ c) && decide (c ≤ 0x091F))

/-- What a consumer code names (R421). -/
inductive Consumer where
  | none
  | drover (n : Fin 12) (k : Nat)
  | vector (v : Fin 64)
  | tally
  | timer (n : Nat)
  | relay (c : Nat)
  deriving DecidableEq, Repr

/-- The consumer a code names; nothing where the code is unknown. -/
def consumerOf (c : Nat) : Option Consumer :=
  if c = 0 then some .none
  else if h : 0x1000 ≤ c ∧ c < 0x10C0 then
    some (.drover ⟨(c - 0x1000) / 16, by omega⟩ ((c - 0x1000) % 16 + 16))
  else if h : 0x1100 ≤ c ∧ c < 0x1110 then some (.vector ⟨48 + (c - 0x1100), by omega⟩)
  else if c = 0x1200 then some .tally
  else if 0x1300 ≤ c ∧ c < 0x1310 then some (.timer (c - 0x1300))
  else if 0x1400 ≤ c ∧ c < 0x1440 then some (.relay (c - 0x1400))
  else none

/-- The consumer of channel `c`. -/
def State.consumer (s : State) (c : Nat) : Consumer := (consumerOf (s.get (F.EVT_CH_c_CONS c))).getD .none

/-- A consumer is busy (R425). A Tally capture ends within the command that makes it. -/
def State.busy (s : State) : Consumer → Bool
  | .drover n k => bitOf (s.get (F.DRV_n_EVPEND_PEND n)) k
  | .vector v => bitOf (s.get (vpend v)) (v % 32)
  | _ => false

/-- The consumer acts on an event; a relay's onward event is the fabric's next cycle. -/
def consume (k : Consumer) (s : State) : State :=
  match k with
  | .drover n i => evin n i s
  | .vector v => raiseVector v s
  | .tally => captureTally 13 s
  | .timer n => s.when (s.on (F.TMR_n_CFG_CAPEV n)) (tmrCapture n)
  | .none => s
  | .relay _ => s

/-- Drop an event that would loop or pass 8 hops (R426): EVT_STAT.LOOP and EVT_LOOP record it. DEDUCED, log entry 161. -/
def loopDrop (chan origin hops : Nat) (s : State) : State :=
  ((s.puts [(F.EVT_LOOP_CHANNEL, chan), (F.EVT_LOOP_ORIGIN, origin), (F.EVT_LOOP_HOPS, hops)]).inc
    F.EVT_LOOP_COUNT).flag F.EVT_STAT_LOOP

/-- Deliver an event at its channel (R420, R425, R426): the relayed event it gives, if any, and the state after. DEDUCED,
log entry 161. -/
def deliver (e : Ev) (s : State) : Option Ev × State :=
  if s.on (F.EVT_CH_c_EN e.chan) then
    match s.consumer e.chan with
    | .none => (none, s)
    | .relay c =>
      let s1 := s.inc (F.EVT_CNT_c_DELIV e.chan)
      if c = e.origin then (none, loopDrop c e.origin (e.hops + 1) s)
      else if 8 < e.hops + 1 then (none, loopDrop c e.origin e.hops s)
      else (some ⟨c, e.origin, e.hops + 1⟩, s1)
    | k =>
      if s.busy k then
        if s.evPend.any (·.chan == e.chan) then (none, s.inc (F.EVT_CNT_c_LOST e.chan))
        else (none, { s with evPend := s.evPend ++ [e] })
      else (none, (consume k s).inc (F.EVT_CNT_c_DELIV e.chan))
  else (none, s)

/-- Merge the events of one cycle (R424): of those at one channel the one with the fewest hops goes on, and each other
is counted in the channel's LOST. -/
def mergeEv : List Ev → List Ev → State → List Ev × State
  | [], acc, s => (acc, s)
  | e :: es, acc, s =>
    match acc.find? (·.chan == e.chan) with
    | none => mergeEv es (acc ++ [e]) s
    | some o =>
      let keep := if e.hops < o.hops then e else o
      mergeEv es (acc.map fun x => if x.chan = e.chan then keep else x) (s.inc (F.EVT_CNT_c_LOST e.chan))

/-- Run the fabric for at most `fuel` cycles on the events of a cycle. Nine cycles suffice: no event passes 8 hops. -/
def fabric : Nat → List Ev → State → State
  | 0, _, s => s
  | fuel + 1, es, s =>
    let m := mergeEv es [] s
    let r := m.1.foldl (fun (acc : List Ev × State) e =>
      let d := deliver e acc.2
      (acc.1 ++ d.1.toList, d.2)) ([], m.2)
    if r.1.isEmpty then r.2 else fabric fuel r.1 r.2

/-- Producer `p` produces an event: it enters every enabled channel that names the producer (R420). -/
def produce (p : Nat) (s : State) : State :=
  if s.mode = Mode.reset then s
  else fabric 9 (((List.range 64).filter fun c =>
    s.on (F.EVT_CH_c_EN c) && s.get (F.EVT_CH_c_PROD c) == p).map fun c => ⟨c, c, 0⟩) s

/-- A writer's number in the CN404 OWNER field: its Drover number, 0xF for host software. -/
def writerNo : Writer → Nat
  | .drover n => n
  | .host => 0xF
  | .remote => 0xF

/-- A software fire of channel `c` (R423). -/
def swFire (who : Writer) (c : Nat) (s : State) : State :=
  let cn := s.on F.EVT_CTL_CN404
  if s.on (F.EVT_CH_c_EN c) && s.on (F.EVT_CH_c_SWEN c) &&
      (!cn || s.get (F.EVT_CH_c_OWNER c) == writerNo who) &&
      !(cn && s.on (F.EVT_CH_c_SECURE c) && writerNo who == 0xF) then
    fabric 9 [⟨c, c, 0⟩] s
  else s.flag F.EVT_STAT_FIREREF

/-- Deliver the remembered event of channel `c` once its consumer is not busy (R425). -/
def deliverPending (c : Nat) (s : State) : State :=
  match s.evPend.find? (·.chan == c) with
  | none => s
  | some e =>
    if s.busy (s.consumer c) then s
    else
      let d := deliver e { s with evPend := s.evPend.filter (·.chan != c) }
      d.2

end Sys2Proof.Machine
end

