-- ==== Sys2Proof/Machine/Faults.lean ====
section
/-!
DEFINITION. The fault manager (02_modes_faults.md, R36 to R41, R455): every block raises its faults here.
-/

namespace Sys2Proof.Machine

namespace FaultCode
def refloss : Nat := 0x01
def supply : Nat := 0x02
def thermWarn : Nat := 0x03
def thermTrip : Nat := 0x04
def drvTrap : Nat := 0x05
def serCe : Nat := 0x06
def serUe : Nat := 0x07
def dmaAlign : Nat := 0x08
def dmaBuserr : Nat := 0x09
def sealLate : Nat := 0x0A
def ciphStall : Nat := 0x0B
def carBreak : Nat := 0x0C
def tanPath : Nat := 0x0D
def fence : Nat := 0x0E
def pfail : Nat := 0x0F
def replayBad : Nat := 0x10
def handlerTmo : Nat := 0x11
def handlerFault : Nat := 0x12
def escalate : Nat := 0x13
end FaultCode

/-- The severity of a fault code: 0 NOTE, 1 CONTAIN, 2 MAJOR, 3 SAFE (the table of faults). -/
def severity (code : Nat) : Nat :=
  if code = 0x06 ∨ code = 0x0B then 0
  else if code = 0x08 ∨ code = 0x0A then 1
  else if code = 0x03 ∨ code = 0x05 ∨ code = 0x07 ∨ code = 0x09 ∨ code = 0x0C ∨ code = 0x0D then 2
  else 3

/-- The Drover that the active Manifest gives the management and fault role and that is not HELD (R40). -/
def State.faultDrover (s : State) : Option (Fin 12) :=
  if s.on F.MAN_STAT_ACTIVE_VALID then
    (List.finRange 12).find? fun n => s.get (F.MAN_DRV_n_ROLE n) == 7 && s.get (F.DRV_n_STAT_STATE n) != 0
  else none

/-- The word of a fault slot. -/
def faultWord (code src : Nat) (s : State) : Word :=
  BitVec.ofNat 32 (code % 256 + severity code * 2 ^ 8 + src % 64 * 2 ^ 10 +
    (if s.tickRuns then s.tally.asn % 256 else 0) * 2 ^ 16 + 2 ^ 31)

/-- The place of the `k`-th fault record in the LOG bay: a granule each, from the bay's start, around the bay. DESIGN
CHOICE, log entry 111. -/
def recordPlace (k : Nat) : Nat := 0x1600000 + 16 * (k % 65536)

/-- Write a fault record (R36), to the list of records and to the LOG bay. DESIGN CHOICE, log entry 111. -/
def logFault (code src : Nat) (s : State) : State :=
  let at_ := recordPlace s.faults.log.length
  let t := s.poke at_ ((List.range 16).map (Config.faultByte code (severity code) src s.stamp))
  { t with
    ser := { t.ser with poison := ndel (at_ / 16) t.ser.poison, errs := sdel (at_ / 16) t.ser.errs }
    faults := { t.faults with log := t.faults.log ++ [⟨code, severity code, src, s.stamp⟩] } }

/-- The Drover whose handler runs: it holds the fault role, a fault is active, and it is in handler state. DEDUCED, log
entry 125. -/
def State.handling (s : State) : Option (Fin 12) :=
  match s.faultDrover with
  | some n => if s.on F.SYS_FAULT_CUR_VALID && s.on (F.DRV_n_STAT_INH n) then some n else none
  | none => none

/-- A SAFE fault aborts the handler (R39): the Drover that runs it issues nothing until SAFE entry, and an entry that
still waits is forgotten. DEDUCED, log entry 125. -/
def abortHandler (s : State) : State :=
  let s1 := { s with faults := { s.faults with aborted := s.handling } }
  match s.faultDrover with
  | some n => s1.bitOff (F.DRV_n_EVPEND_PEND n) 10
  | none => s1

/-- A fault of severity SAFE (R39): it takes SYS_FAULT_CUR, and SAFE entry is due at once, or once the containment of a
FENCE or a PFAIL has run. -/
def placeSafe (code src : Nat) (s : State) : State :=
  let s1 := ((abortHandler s).setReg R.SYS_FAULT_CUR (faultWord code src s)).setReg R.SYS_FAULT_PEND 0
  { s1 with faults := { s1.faults with
      safe := true
      wait := if code = FaultCode.fence then .fence 2 else if code = FaultCode.pfail then .pfail else .due } }

/-- A fault detected after a SAFE fault (R39, R455): contained, logged and counted only; a PFAIL takes the place of a
FENCE that waits, and any other SAFE fault ends the wait of a FENCE. -/
def placeAfterSafe (code src : Nat) (s : State) : State :=
  match s.faults.wait with
  | .fence _ =>
    if code = FaultCode.pfail then
      let s1 := s.setReg R.SYS_FAULT_CUR (faultWord code src s)
      { s1 with faults := { s1.faults with wait := .pfail } }
    else if severity code = 3 then
      let s1 := s.inc F.SYS_FAULT_LOST_COUNT
      { s1 with faults := { s1.faults with wait := .due } }
    else s.inc F.SYS_FAULT_LOST_COUNT
  | _ => s.inc F.SYS_FAULT_LOST_COUNT

/-- Raise a fault whose severity is SAFE: record and place it. -/
def raiseSafe (code src : Nat) (s : State) : State :=
  let s1 := logFault code src s
  if s1.faults.safe then placeAfterSafe code src s1 else placeSafe code src s1

/-- What happens at the moment the fault in SYS_FAULT_CUR becomes active (R37, R38, R40, R41): the handler is entered
through input 10 of its Drover; a MAJOR fault raises vector 16 and counts towards ESCALATE; with no handler's Drover
HANDLER_TMO is raised at once, after an ESCALATE of the same moment (DESIGN CHOICE, log entry 126). -/
def activate (s : State) : State :=
  let s1 := { s with faults := { s.faults with since := s.tally.clock } }
  let s2 :=
    if s1.get F.SYS_FAULT_CUR_SEV = 2 then
      let recent := s1.tally.clock :: s1.faults.majors.filter fun c => s1.tally.clock < c + 32000000
      let t := raiseVector 16 { s1 with faults := { s1.faults with majors := recent } }
      let e := t.get F.SYS_FAULT_CFG_ESCAL
      if e ≠ 0 ∧ e ≤ recent.length then raiseSafe FaultCode.escalate 0 t else t
    else s1
  match s2.faultDrover with
  | some n => if s2.faults.safe then s2 else evin n 10 s2
  | none => raiseSafe FaultCode.handlerTmo 0 s2

/-- A CONTAIN or MAJOR fault finds its place by the table of R37. -/
def place (code src : Nat) (s : State) : State :=
  if !s.on F.SYS_FAULT_CUR_VALID then activate (s.setReg R.SYS_FAULT_CUR (faultWord code src s))
  else if !s.on F.SYS_FAULT_PEND_VALID then s.setReg R.SYS_FAULT_PEND (faultWord code src s)
  else if s.get F.SYS_FAULT_PEND_SEV < severity code then
    (s.setReg R.SYS_FAULT_PEND (faultWord code src s)).inc F.SYS_FAULT_LOST_COUNT
  else s.inc F.SYS_FAULT_LOST_COUNT

/-- Raise a fault (R36, R37, R39, R455). -/
def raiseFault (code src : Nat) (s : State) : State :=
  if severity code = 0 then (logFault code src s).inc F.SYS_FAULT_LOST_NOTES
  else if severity code = 3 then raiseSafe code src s
  else
    let s1 := logFault code src s
    if s1.faults.safe then placeAfterSafe code src s1 else place code src s1

/-- The handler acknowledges the active fault (R38): the pending one becomes active. A SAFE fault stays. -/
def ackFault (s : State) : State :=
  if s.faults.safe || !s.on F.SYS_FAULT_CUR_VALID then s
  else if s.on F.SYS_FAULT_PEND_VALID then
    activate ((s.setReg R.SYS_FAULT_CUR (s.reg R.SYS_FAULT_PEND)).setReg R.SYS_FAULT_PEND 0)
  else s.setReg R.SYS_FAULT_CUR 0

end Sys2Proof.Machine
end

