-- ==== Sys2Proof/Machine/Serai.lean ====
section
/-!
DEFINITION. The Serai (10_serai.md): reads with the check code, writes under every protection, poison, row sparing, and
the journal records that a write of mirrored state sends (17_tandem.md, R305 to R311).
-/

namespace Sys2Proof.Machine

/-- The Serai ends after offset 25,165,823 (24 MiB). -/
def serSize : Nat := 25165824

/-! Masters of a Serai access, by their SER_LASTUE numbers; the SEC unit and the Tandem link are told apart from the
other fixed-function units because R156 and R310 treat them apart, and the radio blocks because they are masters of
their own (R194, R195). -/

namespace Master
def dma : Nat := 12
def host : Nat := 13
def unit : Nat := 14
def scrub : Nat := 15
def tandem : Nat := 16
def sec : Nat := 17
def radio : Nat := 18
end Master

/-- The number SER_LASTUE.MASTER shows. -/
def masterNo (m : Nat) : Nat := if m < 16 then m else 14

/-! Bay codes of the Manifest. -/

namespace Bay
def ledger : Nat := 0
def queue : Nat := 1
def journal : Nat := 2
def drover : Nat := 3
def host : Nat := 4
def log : Nat := 5
def manifest : Nat := 6
def scratch : Nat := 7
end Bay

/-- First offset and size of a bay in force (MAN_BAY_n, in 64 KiB units). -/
def State.bayBase (s : State) (c : Nat) : Nat := s.get (F.MAN_BAY_n_BASE c) * 65536
def State.baySize (s : State) (c : Nat) : Nat := s.get (F.MAN_BAY_n_SIZE c) * 65536

/-- An offset lies in bay `c`. -/
def State.inBay (s : State) (c off : Nat) : Bool :=
  decide (s.bayBase c ≤ off) && decide (off < s.bayBase c + s.baySize c)

/-- The LOG bay's fixed place (R34). -/
def inLog (off : Nat) : Bool := decide (0x1600000 ≤ off) && decide (off ≤ 0x16FFFFF)

/-- First offset of Manifest slot `n`. -/
def slotBase (n : Nat) : Nat := 0x1700000 + 0x20000 * n

/-- An offset lies in Manifest slot `n`. -/
def inSlot (n off : Nat) : Bool := decide (slotBase n ≤ off) && decide (off < slotBase n + 0x20000)

/-- Bay `c` is mirrored (R306): LEDGER always; JOURNAL, LOG and MANIFEST never; else as TAN_MIRROR.BAYS names it. -/
def State.mirrored (s : State) (c : Nat) : Bool :=
  c == 0 || (c != 2 && c != 5 && c != 6 && bitOf (s.get F.TAN_MIRROR_BAYS) c)

/-- An offset lies in a mirrored bay. -/
def State.inMirror (s : State) (off : Nat) : Bool := (List.range 8).any fun c => s.mirrored c && s.inBay c off

/-- The chip takes part in a Tandem (R302). -/
def State.tandem (s : State) : Bool := s.on F.SYS_STRAP_TANDEM

/-- The chip is the ACTIVE (R304). -/
def State.isActive (s : State) : Bool := s.tandem && s.get F.TAN_STAT_ROLE == 1

/-- The chip is SHADOW or is being joined (R310). -/
def State.isMirror (s : State) : Bool := s.tandem && (s.mode == Mode.shadow || s.tan.joining)

/-- The ACTIVE journals its changes (R307): SYNC is COPYING or INSYNC. -/
def State.journals (s : State) : Bool :=
  s.isActive && (s.get F.TAN_STAT_SYNC == 1 || s.get F.TAN_STAT_SYNC == 2)

/-! ## The journal -/

/-- The length of a record on the link: header, body and CRC (R308). -/
def recBytes (body : List Byte) : Nat := 12 + body.length

/-- The partner's log has room for `n` bytes more (R311). -/
def State.logRoom (s : State) (n : Nat) : Bool := decide (s.tan.segs.sum + n ≤ s.baySize Bay.journal)

/-- Add `n` to the last number of a list. -/
def addLast (n : Nat) : List Nat → List Nat
  | [] => [n]
  | [a] => [a + n]
  | a :: t => a :: addLast n t

/-- Send a journal record (R307, R308): the next JSEQ, counted in TAN_CNT_0. -/
def sendRec (ty flags : Nat) (body : List Byte) (s : State) : State :=
  let j := (s.get F.TAN_JSEQ_SENT_JSEQ + 1) % 2 ^ 32
  let s1 := ((s.put F.TAN_JSEQ_SENT_JSEQ j).inc (F.TAN_CNT_k_COUNT 0)).emit (.journal ⟨ty, flags, j, body⟩)
  { s1 with tan := { s1.tan with segs := addLast (recBytes body) s1.tan.segs, sentAt := s1.tally.clock } }

/-- Send a record only while the ACTIVE journals. -/
def journal (ty flags : Nat) (body : List Byte) (s : State) : State :=
  if s.journals then sendRec ty flags body s else s

/-! ## The check code and row sparing -/

/-- The bank and row of a granule (R192). -/
def gBank (g : Nat) : Nat := g % 16
def gRow (g : Nat) : Nat := g / 16 / 64

/-- Spares of bank `b` in use: those whose remap entry is VALID and those a copy in progress fills. -/
def State.spareUsed (s : State) (b k : Nat) : Bool :=
  s.on (F.SER_REMAP_b_k_VALID b k) || s.ser.spare.any fun c => c.1 == b && c.2.2 == k

/-- Row `r` of bank `b` is spared already, or its copy is in progress. -/
def State.rowSpared (s : State) (b r : Nat) : Bool :=
  (List.range 8).any (fun k => s.on (F.SER_REMAP_b_k_VALID b k) && s.get (F.SER_REMAP_b_k_ROW b k) == r) ||
    s.ser.spare.any fun c => c.1 == b && c.2.1 == r

/-- Start sparing a row (R202, R203). -/
def spareStart (b r : Nat) (s : State) : State :=
  if s.rowSpared b r then s
  else
    match (List.range 8).find? fun k => !s.spareUsed b k with
    | some k => ({ s with ser := { s.ser with spare := s.ser.spare ++ [(b, r, k)] } }).flag F.SER_STAT_SPAREBUSY
    | none => produce Prod.spareOut (s.flag F.SER_STAT_SPAREOUT)

/-- Write a granule as poisoned: zero data and the poison syndrome (R199). -/
def poisonGranule (g : Nat) (s : State) : State :=
  let s1 := s.poke (16 * g) (List.replicate 16 0)
  { s1 with ser := { s1.ser with poison := nins g s1.ser.poison, errs := sdel g s1.ser.errs } }

/-- The error stored in a granule and not yet read: 0 none. -/
def State.errOf (s : State) (g : Nat) : Nat := sget (fun _ => 0) s.ser.errs g

/-- Count a corrected error of a row in the walk now running, and spare the row at THRESH (R202). -/
def rowCorrected (b r : Nat) (s : State) : State :=
  let n := ((s.ser.rowCE.find? (·.1 == (b, r))).map (·.2)).getD 0 + 1
  let s1 := { s with ser := { s.ser with rowCE := ((b, r), n) :: s.ser.rowCE.filter (·.1 != (b, r)) } }
  if s1.on F.SER_SPARECFG_AUTO && decide (max 1 (s1.get F.SER_SPARECFG_THRESH) ≤ n) then spareStart b r s1 else s1

/-- SER_LASTUE of an uncorrectable error or a poison read. -/
def lastUe (m g cause : Nat) (s : State) : State :=
  s.puts [(F.SER_LASTUE_ADDR, g), (F.SER_LASTUE_CAUSE, cause), (F.SER_LASTUE_MASTER, masterNo m)]

/-- Decode a granule on a read (R197, R198, R200): whether poison is delivered, and the state after. -/
def decodeG (m g : Nat) (s : State) : Bool × State :=
  if s.ser.poison.contains g then (true, lastUe m g 2 (s.inc (F.SER_CNT_k_COUNT 3)))
  else
    let e := s.errOf g
    if e = 0 then (false, s)
    else if e ≤ 2 then
      let s1 := { s with ser := { s.ser with errs := sdel g s.ser.errs } }
      let s2 := (s1.inc (F.SER_CNT_k_COUNT 0)).puts [(F.SER_LASTCE_ADDR, g), (F.SER_LASTCE_BITS, e)]
      (false, raiseFault FaultCode.serCe (gBank g) (rowCorrected (gBank g) (gRow g) s2))
    else if e = 3 then
      let s1 := poisonGranule g (lastUe m g 0 (s.inc (F.SER_CNT_k_COUNT 1)))
      (true, raiseFault FaultCode.serUe (gBank g) s1)
    else
      let s1 := poisonGranule g (lastUe m g 1 (s.inc (F.SER_CNT_k_COUNT 2)))
      (true, spareStart (gBank g) (gRow g) (raiseFault FaultCode.serUe (gBank g) s1))

/-- The granules that the `n` bytes from `off` touch. -/
def granules (off n : Nat) : List Nat :=
  if n = 0 then [] else (List.range ((off + n - 1) / 16 - off / 16 + 1)).map (off / 16 + ·)

/-- Decode every granule of a range. -/
def decodeRange (m off n : Nat) (s : State) : Bool × State :=
  (granules off n).foldl (fun (acc : Bool × State) g =>
    let d := decodeG m g acc.2
    (acc.1 || d.1, d.2)) (false, s)

/-- The byte that master `m` finds at `a`: that of its own latest write still held (R194), else the stored one. -/
def State.byteFor (s : State) (m a : Nat) : Byte :=
  s.tan.held.foldl (fun b w =>
    if w.master = m ∧ w.off ≤ a ∧ a < w.off + w.bytes.length then w.bytes.getD (a - w.off) 0 else b) (s.byte a)

/-- The bytes that master `m` finds: a read sees every earlier write of the same master (R194). -/
def State.bytesFor (s : State) (m off n : Nat) : List Byte :=
  if s.tan.held.isEmpty then s.bytesAt off n else (List.range n).map fun i => s.byteFor m (off + i)

/-- A read of `n` bytes by master `m` (R194, R197): the bytes (zero past the end of the store), whether any granule
delivered poison, and the state after. -/
def serRead (m off n : Nat) (s : State) : List Byte × Bool × State :=
  let d := decodeRange m off (min n (serSize - off)) s
  (d.2.bytesFor m off n, d.1, d.2)

/-! ## Writes -/

/-- A write by master `m` at `off` may not land: SAFE (R42), the active or busy shadow slot (R47, R48), a mirrored bay of
a SHADOW (R310), or a security group (R156). The state counts what the rule counts. SAFE comes first: what it blocks shows
no other flag (DESIGN CHOICE, log entry 121). -/
def writeBlocked (m off : Nat) (s : State) : Option State :=
  if serSize ≤ off then some s
  else if s.faults.safeEntered && !inLog off then some s
  else
    let a := s.get F.MAN_STAT_ACTIVE_SLOT
    if s.on F.MAN_STAT_ACTIVE_VALID && inSlot a off then some (s.flag F.MAN_ERR_ACTWR)
    else if inSlot (1 - a) off &&
        (s.get F.MAN_STAT_SHADOW == 1 || s.get F.MAN_STAT_SHADOW == 2 || s.on F.MAN_STAT_ARMED) then
      some (s.flag F.MAN_ERR_BUSY)
    else if s.isMirror && s.inMirror off && m != Master.tandem then some (s.inc (F.TAN_CNT_k_COUNT 7))
    else
      let j := (off - s.bayBase Bay.ledger) / 16 % 16
      if s.inBay Bay.ledger off && decide (1 ≤ j) && decide (j ≤ 6) && m != Master.sec && m != Master.tandem then
        some (s.inc (F.SEC_CNT_k_COUNT 9))
      else none

/-- Store part or all of one granule and journal the change (R193, R199, R307). A partial write is a locked read, merge
and write: one to a poisoned granule is discarded. -/
def storeG (m off : Nat) (bs : List Byte) (s : State) : State :=
  let g := off / 16
  let whole := bs.length == 16
  let d := if whole then (false, s) else
    if s.ser.poison.contains g then (true, s) else decodeG m g s
  let s1 := d.2
  if d.1 then (s1.flag F.SER_STAT_PARTPOISON).inc (F.SER_CNT_k_COUNT 4)
  else
    let old := s1.bytesAt (16 * g) 16
    let was := s1.ser.poison.contains g
    let s2 := s1.poke off bs
    let s3 := { s2 with ser := { s2.ser with poison := ndel g s2.ser.poison, errs := sdel g s2.ser.errs } }
    if (s3.bytesAt (16 * g) 16 != old || was) && s3.inMirror off && m != Master.tandem then
      journal 0x01 0 (leBytes 4 g ++ s3.bytesAt (16 * g) 16) s3
    else s3

/-- A write by master `m` at `off` must wait: it is mirrored and the partner's log has no room for its record (R311). -/
def State.noRoom (s : State) (m off : Nat) : Bool :=
  s.journals && s.inMirror off && m != Master.tandem && !(s.logRoom 32 && s.tan.held.isEmpty)

/-- Master `m` has a write that waits. -/
def State.waitsRoom (s : State) (m : Nat) : Bool := s.tan.held.any (·.master == m)

/-- A write within one granule, under every protection (R42, R47, R48, R156, R193, R199, R310, R311). One behind a held
write of the same master waits with it (R194). DEDUCED, log entry 94. -/
def writeG (m off : Nat) (bs : List Byte) (s : State) : State :=
  match writeBlocked m off s with
  | some t => t
  | none =>
    if s.noRoom m off || s.waitsRoom m then
      let s1 := s.when (s.noRoom m off) fun s => (s.flag F.TAN_STAT_HELD).inc (F.TAN_CNT_k_COUNT 2)
      { s1 with tan := { s1.tan with held := s1.tan.held ++ [⟨m, off, bs, none⟩] } }
    else storeG m off bs s

/-- Cut a run of bytes at `off` where granules end. -/
def splitG : Nat → Nat → List Byte → List (Nat × List Byte)
  | 0, _, _ => []
  | _, _, [] => []
  | fuel + 1, off, bs =>
    let n := 16 - off % 16
    (off, bs.take n) :: splitG fuel (off + n) (bs.drop n)

/-- A write of bytes by master `m`: granule by granule, in ascending order. -/
def serWrite (m off : Nat) (bs : List Byte) (s : State) : State :=
  forAll (splitG (bs.length / 16 + 2) off bs) (fun p s => writeG m p.1 p.2 s) s

/-- An index takes its new value, with what that fires: input 1 of the ring's Drover (R213), or the host ring's vector. -/
def setIndex (i : HeldIndex) (v : Nat) (s : State) : State :=
  match i with
  | .frx n => evin n 1 (s.put (F.FRX_RING_n_WR n) v)
  | .dev r => raiseVector ⟨32 + r, by omega⟩ (s.put (F.HST_RING_r_DEV r) v)

/-- An index that follows Serai writes of master `m` moves once they are visible to every master (R194). DEDUCED, log
entry 94. DEDUCED, log entry 155. -/
def afterWrites (m : Nat) (i : HeldIndex) (v : Nat) (s : State) : State :=
  if s.waitsRoom m then { s with tan := { s.tan with held := s.tan.held ++ [⟨m, 0, [], some (i, v)⟩] } }
  else setIndex i v s

/-- WR of a receive ring once everything that waits has come. -/
def State.comingWr (s : State) (n : Fin 12) : Nat :=
  ((s.tan.held.filterMap (·.index)).filter (·.1 == .frx n)).getLast?.elim (s.get (F.FRX_RING_n_WR n)) (·.2)

/-- TAN_STAT.HELD: a mirrored write is held (R311). -/
def showHeld (s : State) : State := s.put F.TAN_STAT_HELD (b2n !(s.tan.held.isEmpty && s.tan.stalled.isEmpty))

/-- What waits comes: a held write lands, or an index moves. -/
def landHeld (e : HeldWrite) (s : State) : State :=
  match e.index with
  | some (i, v) => setIndex i v s
  | none => storeG e.master e.off e.bytes s

/-- Release the writes held for want of log room (R311), in their order, as far as there is room. DEDUCED, log entry 94. -/
def releaseHeld : Nat → State → State
  | 0, s => showHeld s
  | fuel + 1, s =>
    match s.tan.held with
    | [] => showHeld s
    | w :: ws =>
      if s.logRoom 32 || w.index.isSome || !s.inMirror w.off then releaseHeld fuel (landHeld w { s with tan := { s.tan with held := ws } })
      else s

/-- A command of unit or channel `k` is carried out as one sequence: where R311 would hold a write of it, it waits as a
whole, with nothing done but TAN_STAT.HELD set and its held writes counted once (R147, R194, R311). DEDUCED, log entry
141. -/
def orStall (k : Nat) (run : State → State) (s : State) : State :=
  let t := run s
  if t.tan.held.length ≤ s.tan.held.length then
    if s.tan.stalled.contains k then showHeld { t with tan := { t.tan with stalled := t.tan.stalled.filter (· != k) } } else t
  else if s.tan.stalled.contains k then s
  else
    ({ s with tan := { s.tan with stalled := k :: s.tan.stalled } }.flag F.TAN_STAT_HELD).put (F.TAN_CNT_k_COUNT 2)
      (t.get (F.TAN_CNT_k_COUNT 2))

/-- The copy of a row into its spare ends (R202): its granules are read and corrected, the remap entry is set, and the
row's stored errors are gone. Errors met in the copy start no second sparing, and poison stays. -/
def spareDone (s : State) : State :=
  match s.ser.spare with
  | [] => s
  | (b, r, k) :: rest =>
    let gs := (List.range 64).map fun c => (r * 64 + c) * 16 + b
    let s1 := forAll gs (fun g s => if s.ser.poison.contains g then s else (decodeG Master.unit g s).2) s
    let s2 := { s1 with ser := { s1.ser with
      spare := rest, rowCE := s1.ser.rowCE.filter (·.1 != (b, r)) } }
    ((s2.puts [(F.SER_REMAP_b_k_ROW b k, r), (F.SER_REMAP_b_k_VALID b k, 1),
      (F.SER_STAT_SPAREBUSY, b2n (!rest.isEmpty))]).inc (F.SER_CNT_k_COUNT 5))

/-! ## The scrub walk (R201) -/

/-- Granules of the store. -/
def granuleCount : Nat := serSize / 16

/-- A radiation upset or wear leaves an error in a granule: 1 or 2 bits correctable, 3 uncorrectable, 4 of its address.
DEDUCED, log entry 64. -/
def upsetG (g e : Nat) (s : State) : State :=
  if g < granuleCount ∧ 1 ≤ e ∧ e ≤ 4 ∧ !s.ser.poison.contains g then
    { s with ser := { s.ser with errs := sins g e s.ser.errs } }
  else s

/-- The first granule at or after `p` that lies in bay `c` where its scrub flag is 1. -/
def State.scrubIn (s : State) (p c : Nat) : Option Nat :=
  let lo := s.bayBase c / 16
  let hi := (s.bayBase c + s.baySize c) / 16
  if s.on (F.MAN_BAY_n_SCRUB c) ∧ max p lo < min hi granuleCount then some (max p lo) else none

/-- The next granule of the walk from `p` on; none where the walk ends. -/
def State.nextScrub (s : State) (p : Nat) : Option Nat :=
  ((List.range 8).filterMap fun c => s.scrubIn p c).foldl (fun m g => some (match m with
    | none => g
    | some h => min g h)) none

/-- The end of a walk (R201): the pass count rises, the walk begins again at address 0, and the rows' counts start anew
(R202). -/
def scrubEnd (s : State) : State :=
  let s1 := (s.incWrap F.SER_SCRUBPASS_COUNT).put F.SER_SCRUBPOS_ADDR 0
  { s1 with ser := { s1.ser with rowCE := [] } }

/-- SCRUB_READ (R201): the next granule of a scrubbed bay is decoded. The walk ends with its last one. DEDUCED, log entry
64. -/
def scrubOp (upset : Option (Nat × Nat)) (s : State) : State :=
  let s1 := match upset with
    | some (g, e) => upsetG g e s
    | none => s
  if !s1.on F.SER_CTL_SCRUBEN ∨ s1.mode = Mode.reset then s1
  else
    match s1.nextScrub (s1.get F.SER_SCRUBPOS_ADDR) with
    | some g =>
      let s2 := (decodeG Master.scrub g s1).2
      if (s1.nextScrub (g + 1)).isSome then s2.put F.SER_SCRUBPOS_ADDR (g + 1) else scrubEnd s2
    | none => scrubEnd s1

end Sys2Proof.Machine
end

