-- ==== Sys2Proof/Machine/Drv.lean ====
section
/-!
DEFINITION. The Drover engines apart from their instructions (11_drover_architecture.md): vectors, traps, image switches
and host control.
-/

namespace Sys2Proof.Machine

/-- Drover states of DRV_n_STAT.STATE. -/
def stHeld : Nat := 0
def stRun : Nat := 1
def stWait : Nat := 2
def stHalted : Nat := 3
def stTrapped : Nat := 4

/-- `f` for each Drover, in ascending order. -/
def forDrovers (f : Fin 12 → State → State) (s : State) : State := (List.finRange 12).foldl (fun s n => f n s) s

/-- The EST word of a Drover. DEDUCED, log entry 13. -/
def estWord (n : Fin 12) (s : State) : Nat :=
  let d := s.drovers[n]
  s.get (F.DRV_n_STAT_PERS n) + 2 * s.get (F.DRV_n_STAT_BANK n) + 4 * s.get (F.DRV_n_STAT_INH n) +
    8 * (d.entry % 8) + 64 * b2n d.lostctx + 128 * b2n d.swpend +
    256 * s.get (F.MAN_DRV_n_ROLE n) + 4096 * s.get (F.MAN_DRV_n_ORD n)

/-- RX after an entry: FAULT, MODE and SWITCH end a repeat in progress, TRAP and INTR leave it (R237). -/
def repeatAtEntry (entry : Nat) (ram : List (Nat × Byte)) : List (Nat × Byte) :=
  let rx := sget (fun _ => 0) ram 0x1E
  if entry = 5 ∨ entry = 6 ∨ !rx.getLsbD 2 then ram else sset (fun _ => 0) ram 0x1E (rx &&& 0xF3)

/-- Enter a vector by the steps of R214: `back` is saved in SPC. An entry while INH is 1 loses the earlier context (R216). -/
def enterVector (n : Fin 12) (entry addr back : Nat) (s : State) : State :=
  let lost := s.on (F.DRV_n_STAT_INH n)
  let est := estWord n s
  let s1 := s.modDrv n fun d => { d with
    ram := repeatAtEntry entry d.ram, spc := back, sest := est, savedLatch := d.latch, savedStage := d.stage, savedIe := d.ie, ie := false,
    entry := entry, lostctx := d.lostctx || lost, waitMask := 0 }
  let s2 := s1.when lost (·.flag (F.DRV_n_STAT_LOSTCTX n))
  s2.puts [(F.DRV_n_STAT_INH n, 1), (F.DRV_n_STAT_STATE n, stRun), (F.DRV_n_PC_PC n, addr)]

/-- Precedence of an entry code among vectors due at one boundary (R216). -/
def entryRank (e : Nat) : Nat := if e = 4 then 0 else if e = 1 then 1 else 2

/-- A bundle is on its way: it issues, or its read of SPI_MW_DATA stalls it (R216, R436). -/
def Drover.busy (d : Drover) : Bool := d.issuing || d.mw.isSome

/-- A write of Drover `n` waits for room in the partner's log, and the Drover with it (R147, R311). -/
def State.drvHeld (s : State) (n : Fin 12) : Bool := s.waitsRoom n

/-- Enter FAULT, MODE or SWITCH now where the Drover stands at a bundle boundary or waits, or hold the entry due where a
bundle is on its way or the Drover is HALTED (R30, R216, R222). A TRAPPED Drover, which does not run, is entered at FAULT
and SWITCH alone (R30, R42, R54). DEDUCED, log entry 61. -/
def dueVector (n : Fin 12) (entry addr : Nat) (s : State) : State :=
  let st := s.get (F.DRV_n_STAT_STATE n)
  let d := s.drovers[n]
  if ((st = stRun ∨ st = stWait) ∧ !d.busy) ∨ (st = stTrapped ∧ entry ≠ 1) then
    enterVector n entry addr (s.get (F.DRV_n_PC_PC n)) s
  else if st = stRun ∨ st = stHalted then
    s.modDrv n fun d =>
      let sooner := d.due.filter fun p => entryRank p.1 < entryRank entry
      let later := d.due.filter fun p => entryRank entry < entryRank p.1
      { d with due := sooner ++ [(entry, addr)] ++ later }
  else s

/-- Enter the first vector that is due (R216, R222); none where nothing is due. -/
def takeDue (n : Fin 12) (s : State) : Option State :=
  match s.drovers[n].due with
  | [] => none
  | (e, a) :: rest =>
    some (enterVector n e a (s.get (F.DRV_n_PC_PC n)) (s.modDrv n fun d => { d with due := rest }))

/-- Switch every Drover to the decode personality of mode `m` (R30), and enter MODE in each that runs. -/
def modeVectors (m : Nat) (s : State) : State :=
  forDrovers (fun n s => (dueVector n 1 8 s).put (F.DRV_n_STAT_PERS n) (b2n (recoveryMode m))) s

/-- The number of air items a staged field carries: the frames of a transmit list, one receive programme, one lane
setting (01_slot_tick.md; DEDUCED, log entry 12). -/
def itemCount (p : Staged) : Nat :=
  if p.field = F.FTX_TXL_COUNT then p.value
  else if p.field = F.FRX_RXP_BASE ∨ p.field = F.BBL_l_PROG_BASE 0 ∨ p.field = F.BBL_l_PROG_BASE 1 then 1
  else 0

/-- An air item register's field (R456). -/
def isAirReg (off : Nat) : Bool :=
  off == R.FTX_TXL || off == R.FRX_RXP || off == R.BBL_l_PROG 0 || off == R.BBL_l_PROG 1

/-- Cancel every air item Drover `n` has staged (R217, R19). -/
def cancelAir (n : Nat) (s : State) : State :=
  let mine := s.staged.filter fun p => p.owner == some n && isAirReg p.field.off
  let s1 := { s with staged := s.staged.filter fun p => !(p.owner == some n && isAirReg p.field.off) }
  s1.add F.TICK_CANCEL_COUNT ((mine.map itemCount).sum)

/-- A trap (R217): `pc` is the trapping bundle and `back` the address SPC takes. -/
def trap (n : Fin 12) (cause pc back : Nat) (s : State) : State :=
  let inh := s.on (F.DRV_n_STAT_INH n)
  let s1 := s.modDrv n fun d => { d with tcause := cause }
  if s.drovers[n].tvec && !inh then enterVector n 6 32 back s1
  else
    let s2 := (s1.puts [(F.DRV_n_STAT_STATE n, stTrapped), (F.DRV_n_TRAP_CAUSE n, cause), (F.DRV_n_TRAP_PC n, pc),
      (F.DRV_n_TRAP_VALID n, 1), (F.DRV_n_PC_PC n, back)]).when inh (·.flag (F.DRV_n_STAT_DBLTRAP n))
    if s2.get (F.MAN_DRV_n_ROLE n) = 7 && s2.on F.SYS_FAULT_CUR_VALID then raiseFault FaultCode.handlerFault n s2
    else raiseFault FaultCode.drvTrap n (cancelAir n s2)

/-- The Drover stands at a bundle boundary with no write held, or waits, IE is 1, INH is 0 and an enabled input is pending (R214). -/
def interruptReady (n : Fin 12) (s : State) : Bool :=
  let st := s.get (F.DRV_n_STAT_STATE n)
  (st == stRun || st == stWait) && !s.drovers[n].mw.isSome && !s.drvHeld n && s.faults.aborted != some n &&
    s.drovers[n].ie && !s.on (F.DRV_n_STAT_INH n) &&
    (s.get (F.DRV_n_EVPEND_PEND n) &&& s.drovers[n].even) != 0

/-- The interrupt form of the return (R215): PC, IE and the EST bits that SEST holds come back, the latch and the staging
too, and INH clears. SWPEND, ROLE and ORD show the present (DEDUCED, log entry 13). DEDUCED, log entry 62. -/
def interruptReturn (n : Fin 12) (s : State) : State :=
  let d := s.drovers[n]
  let s1 := s.modDrv n fun d => { d with
    ie := d.savedIe, latch := d.savedLatch, stage := d.savedStage,
    entry := bits d.sest 3 3, lostctx := bitOf d.sest 6 }
  s1.puts [(F.DRV_n_PC_PC n, d.spc), (F.DRV_n_STAT_PERS n, bits d.sest 0 1), (F.DRV_n_STAT_INH n, 0)]

/-- The bank holds a valid image of the ID that the Manifest requires of Drover `n`. -/
def bankFits (n b : Nat) (s : State) : Bool :=
  s.on (F.DRV_n_IMG_b_VALID n b) && s.get (F.DRV_n_IMG_b_ID n b) == s.get (F.MAN_DRV_n_IMAGE n)

/-- Drover `n` must be held under the Manifest in force (R208). -/
def mustHold (n : Nat) (s : State) : Bool :=
  s.get (F.MAN_DRV_n_ROLE n) == 0 || !bankFits n (s.get (F.DRV_n_STAT_BANK n)) s

/-- What a Drover had under way ends with its being held or started anew: its bundle, its wait, the vectors due. -/
def dropWork (n : Fin 12) (s : State) : State :=
  s.modDrv n fun d => { d with waitMask := 0, due := [], issuing := false, halt := false, mw := none }

/-- Start a Drover at START in its active bank (R208). -/
def startDrover (n : Fin 12) (s : State) : State :=
  ((dropWork n s).modDrv n fun d => { d with entry := 0 }).puts
    [(F.DRV_n_STAT_STATE n, stRun), (F.DRV_n_PC_PC n, 0), (F.DRV_n_STAT_INH n, 0)]

/-- Hold a Drover: no fetch and no access (R208). -/
def holdDrover (n : Fin 12) (s : State) : State := (dropWork n s).put (F.DRV_n_STAT_STATE n) stHeld

/-- At the activation of a Manifest a Drover is held, or enters at START (R208). Drover 0, which runs since BOOT, runs on
unless it was held. DEDUCED, log entry 127. -/
def holdOrStart (n : Fin 12) (s : State) : State :=
  if mustHold n s then holdDrover n s
  else if n ≠ 0 ∨ s.get (F.DRV_n_STAT_STATE n) = stHeld then startDrover n s
  else s

/-- Exchange a Drover's banks. -/
def exchangeBanks (n : Nat) (s : State) : State := s.put (F.DRV_n_STAT_BANK n) (1 - s.get (F.DRV_n_STAT_BANK n))

/-- The part of the engine-side switch on one Drover (R54, R221): banks exchange where the standby bank alone holds the
image now required, and SWITCH is entered with ENTRY 2, by a Drover held until now too. -/
def switchDrover (n : Fin 12) (s : State) : State :=
  let b := s.get (F.DRV_n_STAT_BANK n)
  let s1 := if !bankFits n b s && bankFits n (1 - b) s then exchangeBanks n s else s
  if mustHold n s1 then holdDrover n s1
  else if s1.get (F.DRV_n_STAT_STATE n) = stHeld then enterVector n 2 16 (s1.get (F.DRV_n_PC_PC n)) (dropWork n s1)
  else dueVector n 2 16 s1

/-- A Drover waits on the tick: it is in WAIT with input 0 in its mask. -/
def waitsOnTick (n : Fin 12) (s : State) : Bool :=
  s.get (F.DRV_n_STAT_STATE n) == stWait && bitOf s.drovers[n].waitMask 0

/-- An armed image switch ends. -/
def disarm (n : Fin 12) (s : State) : State :=
  (s.modDrv n fun d => { d with arm := none, swpend := false }).put (F.DRV_n_STAT_SWARMED n) 0

/-- The banks exchange at an image switch (R220): SWITCH is entered with ENTRY 3, unless the Manifest requires another image
(R208). -/
def imageSwitch (n : Fin 12) (s : State) : State :=
  let s1 := exchangeBanks n (disarm n s)
  if mustHold n s1 then holdDrover n s1 else dueVector n 3 16 s1

/-- An image switch at a tick (R220): the arming applies at its tick; at the first later tick at which the Drover waits
on TICK (`waits`: as the tick found it) the banks exchange; at the second the switch is cancelled with SWTMO. -/
def imageSwitchTick (waits : Fin 12 → Bool) (n : Fin 12) (s : State) : State :=
  match s.drovers[n].arm with
  | none => s
  | some (left + 1, since) =>
    let s1 := s.modDrv n fun d => { d with arm := some (left, since) }
    if left = 0 then
      evin n 11 ((s1.modDrv n fun d => { d with swpend := true }).flag (F.DRV_n_STAT_SWARMED n))
    else s1
  | some (0, since) =>
    if waits n then imageSwitch n s
    else if since = 0 then s.modDrv n fun d => { d with arm := some (0, 1) }
    else (disarm n s).flag (F.DRV_n_STAT_SWTMO n)

/-- Lifecycle LOCKED or RETIRED refuses debug (R223). -/
def State.debugLocked (s : State) : Bool := decide (2 ≤ s.fuses.life)

/-- DRV_n_SWITCH.ARM (R220). -/
def switchArm (n : Fin 12) (s : State) : State :=
  if !s.on (F.DRV_n_IMG_b_VALID n (1 - s.get (F.DRV_n_STAT_BANK n))) || s.drovers[n].arm.isSome || !s.tickRuns then
    s.flag F.DRV_STAT_BADCMD
  else s.modDrv n fun d => { d with arm := some (if s.inTime then 1 else 2, 0) }

/-- DRV_n_SWITCH.CANCEL (R220). -/
def switchCancel (n : Fin 12) (s : State) : State := if s.drovers[n].arm.isSome then disarm n s else s

/-- DRV_n_CTL.HALT (R222): refused of a TRAPPED or HELD Drover, and by lifecycle (R223). It takes effect at the boundary of
a bundle on its way. -/
def drvHaltOp (n : Fin 12) (s : State) : State :=
  let st := s.get (F.DRV_n_STAT_STATE n)
  if s.debugLocked then s.flag F.DRV_STAT_DBGLOCK
  else if st = stHeld ∨ st = stTrapped then s.flag F.DRV_STAT_BADCMD
  else if s.drovers[n].busy then s.modDrv n fun d => { d with halt := true }
  else (s.modDrv n fun d => { d with waitMask := 0 }).put (F.DRV_n_STAT_STATE n) stHalted

/-- DRV_n_CTL.RESUME (R222): a HALTED Drover runs on, at a vector where one is due. -/
def drvResumeOp (n : Fin 12) (s : State) : State :=
  if s.debugLocked then s.flag F.DRV_STAT_DBGLOCK
  else if s.get (F.DRV_n_STAT_STATE n) ≠ stHalted then s.flag F.DRV_STAT_BADCMD
  else
    let s1 := s.put (F.DRV_n_STAT_STATE n) stRun
    (takeDue n s1).getD s1

/-- The bytes of a Drover's local window that the host may see (R223): the engine registers with homes of their own read
as the Drover reads them. -/
def localByte (n : Fin 12) (a : Nat) (s : State) : Byte :=
  let d := s.drovers[n]
  let part (v base : Nat) : Byte := BitVec.ofNat 8 (v / 256 ^ (a - base))
  if a = 0x2A ∨ a = 0x2B then part (b2n d.ie + 2 * b2n d.tvec) 0x2A
  else if a = 0x2C ∨ a = 0x2D then part (estWord n s) 0x2C
  else if 0x30 ≤ a ∧ a ≤ 0x33 then part (s.get (F.DRV_n_EVPEND_PEND n)) 0x30
  else if 0x34 ≤ a ∧ a ≤ 0x37 then part d.even 0x34
  else if a = 0x38 then 0
  else if a = 0x3A ∨ a = 0x3B then part d.spc 0x3A
  else if a = 0x3C ∨ a = 0x3D then part d.sest 0x3C
  else if a = 0x3E then BitVec.ofNat 8 d.tcause
  else if a = 0x3F then BitVec.ofNat 8 d.rstk.length
  else if 0x40 ≤ a ∧ a ≤ 0x4F then BitVec.ofNat 8 (d.rstk.getD ((a - 0x40) / 2) 0 / 256 ^ ((a - 0x40) % 2))
  else if a = 0x23 ∨ a = 0x27 ∨ a = 0x2E ∨ a = 0x2F ∨ a = 0x39 ∨ (0x50 ≤ a ∧ a ≤ 0xFF) then 0
  else sget (fun _ => 0) d.ram a

/-- The bits of a plain engine-register byte that hold: W0, W1, PG, RS, RD and RX have zero bits. -/
def engineMask (a : Nat) : Nat :=
  if a = 0x22 ∨ a = 0x26 ∨ a = 0x1B ∨ a = 0x1D then 0x1F else if a = 0x29 ∨ a = 0x1E then 0x0F else 0xFF

/-- Replace byte `i` of `v`. -/
def setByte (v i : Nat) (b : Byte) : Nat := setBits v (8 * i) 8 b.toNat

/-- Write one byte of a Drover's local window below 0x8000. ECR, EVIN, EVEN, EVOUT and SPC act as their table gives; a
write to a read-only or zero register is discarded. -/
def setLocalByte (n : Fin 12) (a : Nat) (b : Byte) (s : State) : State :=
  if a = 0x2A then
    let s1 := s.modDrv n fun d => { d with ie := b.getLsbD 0, tvec := b.getLsbD 1 }
    s1.when (b.getLsbD 2) (·.put (F.DRV_n_STAT_INH n) 0)
  else if 0x30 ≤ a ∧ a ≤ 0x33 then
    s.put (F.DRV_n_EVPEND_PEND n) ((List.range 8).foldl
      (fun v i => if b.getLsbD i then clrBit v (8 * (a - 0x30) + i) else v) (s.get (F.DRV_n_EVPEND_PEND n)))
  else if 0x34 ≤ a ∧ a ≤ 0x37 then s.modDrv n fun d => { d with even := setByte d.even (a - 0x34) b }
  else if a = 0x38 then swFire (.drover n) (b.toNat % 64) s
  else if a = 0x3A ∨ a = 0x3B then s.modDrv n fun d => { d with spc := setByte d.spc (a - 0x3A) b }
  else if a = 0x23 ∨ a = 0x27 ∨ (0x2B ≤ a ∧ a ≤ 0x2F) ∨ a = 0x39 ∨ (0x3C ≤ a ∧ a ≤ 0xFF) then s
  else s.modDrv n fun d => { d with ram := sset (fun _ => 0) d.ram a (BitVec.ofNat 8 (b.toNat &&& engineMask a)) }

end Sys2Proof.Machine
end

