-- ==== Sys2Proof/Machine/Tick.lean ====
section
/-!
DEFINITION. The slot tick and the Tally (01_slot_tick.md), apart from what each tick does in other blocks
(Machine/SlotTick.lean): staged writes, seals, PPS locking, captures and loads.
-/

namespace Sys2Proof.Machine

/-! ## Staged writes (R11, R22, R456, R457) -/

/-- SF_SFLEN in slots. -/
def State.sfLen (s : State) : Nat := s.get F.SF_SFLEN_LEN

/-- The next tick is a boundary of the kind, with the limit of R22 at grain L - 3; SF_BCN and SF_JOIN have theirs at the
tick that starts the last slot itself (R457). DESIGN CHOICE, log entry 118. -/
def lastSlotOf (b : Boundary) (s : State) : Bool :=
  match b with
  | .tick => true
  | .superframe => s.tally.slot + 1 == s.sfLen
  | .lastSlot => false

/-- How many boundaries of its kind a write made now waits for (R22): one, or two when it comes later than grain L - 3 of
the slot that the next boundary ends. While the TICK block does not run it waits for one (DESIGN CHOICE, log entry 117). -/
def waitsFor (b : Boundary) (s : State) : Nat := if lastSlotOf b s && s.tickRuns && !s.inTime then 2 else 1

/-- Stage a field write. -/
def stage (f : Field) (v : Nat) (b : Boundary) (owner : Option Nat) (s : State) : State :=
  { s with staged := s.staged ++ [⟨f, v, b, waitsFor b s, owner⟩] }

/-- Count down the staged writes of a boundary kind: those now due, in the order they were made, and the state without
them. -/
def takeStaged (b : Boundary) (s : State) : List Staged × State :=
  let down := s.staged.map fun p => if p.at_ = b then { p with left := p.left - 1 } else p
  (down.filter fun p => p.at_ == b && p.left == 0, { s with staged := down.filter fun p => !(p.at_ == b && p.left == 0) })

/-! ## Seals (R18, R19, R21, R458) -/

/-- The low 8 bits of the ASN that a seal due in the slot of ASN `a` must carry: the next slot's for preparation, the
slot before's for retirement (the two-tick pipeline; DEDUCED, log entry 10). -/
def sealAsn8 (ret : Bool) (a : Nat) : Nat := if ret then (a + 2 ^ 40 - 1) % 256 else (a + 1) % 256

/-- A Drover's seal (R18): it counts for the slot in which it is due, and after grain L - 3 for the next one; any other is
stale. -/
def sealWrite (n : Nat) (asn8 : Nat) (ret : Bool) (s : State) : State :=
  if !s.tickRuns then s.flag F.TICK_STAT_STALESEAL
  else if s.inTime then
    if asn8 = sealAsn8 ret s.tally.asn then s.bitOn (if ret then F.TICK_SEALED_RETIRE else F.TICK_SEALED_PREP) n
    else s.flag F.TICK_STAT_STALESEAL
  else if asn8 = sealAsn8 ret (s.tally.asn + 1) then
    if ret then { s with tally := { s.tally with nextRet := setBit s.tally.nextRet n } }
    else { s with tally := { s.tally with nextPrep := setBit s.tally.nextPrep n } }
  else s.flag F.TICK_STAT_STALESEAL

/-- The Drovers that owed a seal in the slot just ended and have not given it. -/
def missedSeals (need given : Nat) : List Nat := (List.range 12).filter fun n => bitOf need n && !bitOf given n

/-- Judge the seals of the slot just ended, when it ran whole (R19, R21, R458): the preparation misses are counted, and
each retirement miss is counted and raises SEAL_LATE in ascending Drover order. The air items of the preparation misses
are cancelled where the staged writes apply (`airStaged`). -/
def judgeSeals (s : State) : State :=
  if !s.tally.whole then s
  else
    let prep := missedSeals (s.get F.TICK_NEEDSEAL_PREP) (s.get F.TICK_SEALED_PREP)
    let ret := missedSeals (s.get F.TICK_NEEDSEAL_RETIRE) (s.get F.TICK_SEALED_RETIRE)
    let s1 := forAll prep (fun n s => s.inc (F.TICK_MISS_n_PREP n)) s
    let s2 := forAll ret (fun n s => (s.inc (F.TICK_MISS_n_RETIRE n)).flag F.TICK_STAT_RETIRE_LATE) s1
    forAll ret (fun n s => raiseFault FaultCode.sealLate n s) s2

/-- The seal flags of the new slot (the moments table: cleared after the tick; seals given early stand). -/
def newSeals (s : State) : State :=
  let s1 := s.puts [(F.TICK_SEALED_PREP, s.tally.nextPrep), (F.TICK_SEALED_RETIRE, s.tally.nextRet)]
  { s1 with tally := { s1.tally with nextPrep := 0, nextRet := 0, whole := true } }

/-! ## The Tally at a tick (R23, R25, R58) -/

/-- Advance the Tally at a tick: a pending load gives the values of the new slot, else slot index, ASN and SFN advance
with their wraps. A slot index at or above SF_SFLEN wraps too (DESIGN CHOICE, log entry 118). -/
def advanceTally (s : State) : State :=
  match s.tally.load with
  | some (sl, asn, sfn) =>
    { s with tally := { s.tally with pos := 0, slot := sl, asn := asn, sfn := sfn, load := none } }
  | none =>
    let wrap := s.sfLen ≤ s.tally.slot + 1
    let asn := (s.tally.asn + 1) % 2 ^ 40
    let sfn := if wrap then (s.tally.sfn + 1) % 2 ^ 32 else s.tally.sfn
    let s1 := { s with tally := { s.tally with
      pos := 0, slot := if wrap then 0 else s.tally.slot + 1, asn := asn, sfn := sfn } }
    let s2 := s1.when (asn == 0) (·.flag F.TICK_STAT_ASNWRAP)
    s2.when (wrap && sfn == 0) (·.flag F.TICK_STAT_SFNWRAP)

/-- An SFN target lies in the future (R24): how many superframes ahead, from 1 to 2^31 - 1. -/
def ahead (target : Nat) (s : State) : Nat := (target + 2 ^ 32 - s.tally.sfn) % 2 ^ 32

/-- A target in the future under R24. -/
def inFuture (target : Nat) (s : State) : Bool := decide (1 ≤ ahead target s) && decide (ahead target s < 2 ^ 31)

/-! ## PPS locking, trim and slew (R16, R17) -/

/-- The discipline in use: SRC 3 is treated as 0. -/
def State.tickSrc (s : State) : Nat := s.get F.TICK_CTL_SRC % 3

/-- A phase error in quarter grains (R16) brought to the nearest edge, modulo one second. DESIGN CHOICE, log entry 115. -/
def phaseError (second offset : Nat) : Int :=
  let d : Int := ((second : Int) - offset) % 32000000
  if 16000000 ≤ d then d - 32000000 else d

/-- Steer trim and phase from an edge: the loop is not stated, so both are free values (DESIGN CHOICE, log entry 5).
Outside the modes of the TICK block the phase is stepped in one move (R16), by an edge in LOCKED as in ACQUIRE (DESIGN
CHOICE, log entry 116). -/
def steer (s : State) : State :=
  let t := s.fresh (2 ^ 24)
  let s1 := t.2.put F.TICK_TRIM_TRIM t.1
  if s1.tickRuns then
    let r := s1.fresh (2 ^ 24)
    r.2.put F.TICK_SLEWREM_REM r.1
  else { s1 with tally := { s1.tally with second := s1.get F.TICK_PPS_OFFSET_OFFSET } }

/-- The lock state after an edge with phase error `err`, in quarter grains (the table of PPS locking). -/
def ppsLock (err : Int) (s : State) : State :=
  let small := err.natAbs < 8
  if s.tickSrc ≠ 1 then s
  else if s.get F.TICK_STAT_LOCK = 2 then
    if 64 < err.natAbs then
      let s2 := s.inc F.TICK_PPS_ERR_OUTLIERS
      if s2.tally.outliers + 1 = 4 then
        { s2 with tally := { s2.tally with outliers := 0, goodEdges := 0 } }.put F.TICK_STAT_LOCK 1
      else { s2 with tally := { s2.tally with outliers := s2.tally.outliers + 1 } }
    else steer { s with tally := { s.tally with outliers := 0 } }
  else if s.get F.TICK_STAT_LOCK = 3 then
    steer ({ s with tally := { s.tally with goodEdges := b2n small, outliers := 0 } }.put F.TICK_STAT_LOCK 1)
  else
    let g := if small then s.tally.goodEdges + 1 else 0
    if g = 8 then steer ({ s with tally := { s.tally with goodEdges := 0, outliers := 0 } }.put F.TICK_STAT_LOCK 2)
    else steer { s with tally := { s.tally with goodEdges := g } }

/-- A rising edge of PPS_IN (R16, R26): bank 14, the phase error, and the lock state. -/
def ppsEdgeOp (s : State) : State :=
  let err := phaseError s.tally.second (s.get F.TICK_PPS_OFFSET_OFFSET)
  ppsLock err (produce Prod.pps ((captureTally 14 s).putS F.TICK_PPS_ERR_ERR (satSigned 16 err)))

/-- Three expected edges are missing (R16): HOLDOVER. -/
def ppsMissingOp (s : State) : State :=
  if s.tickSrc = 1 then
    { s with tally := { s.tally with goodEdges := 0, outliers := 0 } }.puts
      [(F.TICK_STAT_LOCK, 3), (F.TICK_STAT_PPSLOST, 1)]
  else s

/-- TICK_CTL.SRC takes a new value: LOCK becomes ACQUIRE or FREE. -/
def newSrc (s : State) : State :=
  { s with tally := { s.tally with goodEdges := 0, outliers := 0 } }.put F.TICK_STAT_LOCK (b2n (s.tickSrc == 1))

/-- TICK_TRIM under R17. -/
def trimWrite (v : Nat) (s : State) : State := if s.tickSrc = 0 then s.put F.TICK_TRIM_TRIM v else s

/-- TICK_SLEW.REQ under R16: added to the remainder, honoured only while SRC is 0. A sum outside the field has no stated
result and is a free value (DESIGN CHOICE, log entry 7). -/
def slewRequest (req : Int) (s : State) : State :=
  if s.tickSrc = 0 then
    let r := s.getS F.TICK_SLEWREM_REM + req
    if satSigned 24 r = r then s.putS F.TICK_SLEWREM_REM r
    else
      let t := s.fresh (2 ^ 24)
      t.2.put F.TICK_SLEWREM_REM t.1
  else s

/-- The capture bank of a writer (R26). -/
def captureBank : Writer → Nat
  | .drover n => n
  | .host => 12
  | .remote => 12

/-- TICK_LOAD.GO (R25). -/
def tickLoadGo (s : State) : State :=
  if s.tickRuns || s.tickSrc == 2 then s.flag F.TICK_STAT_LOADREF
  else { s with tally := { s.tally with load := some (s.get F.TICK_LOAD_ASNH_SLOT,
    s.get F.TICK_LOAD_ASNL_ASN + 2 ^ 32 * s.get F.TICK_LOAD_ASNH_ASN, s.get F.TICK_LOAD_SFN_SFN) } }

/-- TICK_CTL.CLRCNT. -/
def tickClear (s : State) : State :=
  (forN 12 (fun n s => s.setReg (R.TICK_MISS_n n) 0) s).puts [(F.TICK_CANCEL_COUNT, 0), (F.TICK_PPS_ERR_OUTLIERS, 0)]

end Sys2Proof.Machine
end

