-- ==== Sys2Proof/Machine/AirSched.lean ====
section
/-!
DEFINITION. The air schedule (04_air_schedule.md): hop lists, beacon spans, the fit rule, the beacon values and announced
changes.
-/

namespace Sys2Proof.Machine

/-! ## Hop lists and spans (R58, R59, R65, R71) -/

/-- What a schedule gives: SF_SLOTLEN to SF_PLANID as eight words. -/
def State.sched (s : State) : List Word := (List.range 8).map fun k => s.reg (0x30000 + 4 * k)

/-- The SF_NEXT registers as eight words. -/
def State.nextSched (s : State) : List Word := (List.range 8).map fun k => s.reg (0x30040 + 4 * k)

/-- Bits `lo` to `lo + w - 1` of word `k` of a schedule. -/
def schedField (ws : List Word) (k lo w : Nat) : Nat := bits (ws.getD k 0).toNat lo w

/-- The hop list of a band in a schedule (R58): 2.4 GHz, or sub-GHz with mask bits above the plan's count taken as 0. -/
def hopOf (sub : Bool) (ws : List Word) (plan : List PlanChan) : List Nat :=
  if sub then bitsSet (min 64 plan.length) (schedField ws 5 0 32 + schedField ws 6 0 32 * 2 ^ 32)
  else bitsSet 16 (schedField ws 4 0 16)

/-- The hop list in force. -/
def State.hop (s : State) (sub : Bool) : List Nat := hopOf sub s.sched s.man.plan

/-- The physical channel of a schedule cell (R59); none where the band has no channel. -/
def State.cellChan (s : State) (sub : Bool) (asn choff : Nat) : Option Nat :=
  let l := s.hop sub
  if l.isEmpty then none else l[(asn + choff) % l.length]?

/-- Grains of one octet: O-QPSK, SUN FSK 50 kb/s, SUN FSK 100 kb/s (R61). -/
def octet (phy : Nat) : Nat := if phy = 0 then 256 else if phy = 1 then 1280 else 640

/-- The PHY of a sub-GHz channel by the rate of its plan record: 1 for 50 kb/s, 2 for 100 kb/s. -/
def State.subPhy (s : State) (i : Nat) : Nat := if ((s.man.plan[i]?).map (·.rate)).getD 0 = 0 then 1 else 2

/-- The PHY of a channel of a band. -/
def State.phyOf (s : State) (sub : Bool) (i : Nat) : Nat := if sub then s.subPhy i else 0

/-- Airtime of a PSDU of `len` bytes in grains, SHR and PHR counted (R61). -/
def airtime (phy len : Nat) : Nat := ((if phy = 0 then 6 else 12) + len) * octet phy

/-- Airtime of the longest enhanced acknowledgement (R61). -/
def ackAir (phy : Nat) : Nat := airtime phy 40

/-- A frame fits a cell (R62). -/
def fits (start air ack cellGrains : Nat) : Bool := decide (start + air + ack + 800 ≤ cellGrains)

/-- Beacon span B of a band in a schedule; 0 where the band is unused (R65). -/
def spanOf (sub : Bool) (ws : List Word) (plan : List PlanChan) : Nat :=
  let l := hopOf sub ws plan
  if l.isEmpty then 0
  else
    let slow := sub && l.any fun i => ((plan[i]?).map (·.rate)).getD 0 == 0
    let fb := airtime (if !sub then 0 else if slow then 1 else 2) 103
    let len := max 1 (schedField ws 0 0 18)
    (schedField ws 2 0 16 + fb + 800 + len - 1) / len

/-- The beacon span in force. -/
def State.bspan (s : State) (sub : Bool) : Nat := spanOf sub s.sched s.man.plan

/-- The join slots served, clipped (R71): first and count, both 0 where none is left. -/
def clipJoin (first n b sflen : Nat) : Nat × Nat :=
  let lo := max first b
  let hi := min (first + n) sflen
  if lo < hi then (lo, hi - lo) else (0, 0)

/-- The join slots served now. -/
def State.joinSlots (s : State) : Nat × Nat :=
  clipJoin (s.get F.SF_JOIN_FIRST) (s.get F.SF_JOIN_N) (max (s.bspan false) (s.bspan true)) s.sfLen

/-- Channels of a band that carry the beacon of a superframe whose slot 0 has ASN `asn` (R66). -/
def State.bcnChans (s : State) (sub : Bool) (asn : Nat) : List Nat :=
  let l := s.hop sub
  let want := (if sub then s.get F.SF_BCN_NBCNSG else s.get F.SF_BCN_NBCN24) + 1
  (List.range (min want l.length)).filterMap fun k => s.cellChan sub asn k

/-! ## Announced changes (R75, R76) -/

/-- SF_SLEEPMAX, 0 treated as 1. -/
def State.sleepMax (s : State) : Nat := max 1 (s.get F.SF_SLEEPMAX_SF)

/-- SF_CHANGE.ARM as written: refused while armed or while the block does not run, else it takes effect at a tick. A
second arming before that tick takes the first one's place (DESIGN CHOICE, log entry 21). -/
def sfArmOp (waitgo : Bool) (s : State) : State :=
  if s.on F.SF_STAT_ARMED || !s.tickRuns then s.flag F.SF_ERR_BADSTATE
  else { s with sf := { s.sf with arm := some (if s.inTime then 1 else 2, waitgo) } }

/-- The arming takes effect at a tick whose slot has SFN A (R75, R76). DEDUCED, log entry 85. -/
def sfArmEffect (waitgo : Bool) (s : State) : State :=
  let t := s.get F.SF_CHANGE_SFN_SFN
  let n := ahead t s
  let early := !(decide (s.sleepMax + 1 ≤ n) && decide (n < 2 ^ 31))
  let loose := waitgo && !(s.sleepMax == 1 && s.on F.MAN_STAT_ARMED && s.man.armT == t)
  if early || loose then (s.when early (·.flag F.SF_ERR_NOTICE)).when loose (·.flag F.SF_ERR_WAITGO)
  else { s with sf := { s.sf with change := some ⟨t, waitgo, s.nextSched⟩ } }.flag F.SF_STAT_ARMED

/-- Count an arming down at a tick. -/
def sfArmTick (s : State) : State :=
  match s.sf.arm with
  | none => s
  | some (left, w) =>
    if left ≤ 1 then sfArmEffect w { s with sf := { s.sf with arm := none } }
    else { s with sf := { s.sf with arm := some (left - 1, w) } }

/-- An armed change comes into force at the tick that starts slot 0 of T. -/
def sfApply (s : State) : State :=
  match s.sf.change with
  | none => s
  | some c =>
    if s.tally.slot = 0 && s.tally.sfn == c.target then
      let s1 := forN 8 (fun k s => s.setReg (0x30000 + 4 * k) (c.words.getD k 0)) s
      raiseVector 22 (({ s1 with sf := { s1.sf with change := none } }.put F.SF_STAT_ARMED 0).flag F.SF_STAT_APPLIED)
    else s

/-- The SF block stops: a change armed, or an arming written, is dropped (R75). -/
def sfDrop (s : State) : State :=
  let s1 := { s with sf := { s.sf with arm := none, change := none } }
  if s.on F.SF_STAT_ARMED then (s1.put F.SF_STAT_ARMED 0).flag F.SF_STAT_DROPPED else s1

/-- A Manifest switch is cancelled: a change tied to it goes too (R76). -/
def sfUntie (s : State) : State :=
  match s.sf.change with
  | some c => if c.tied then { s with sf := { s.sf with change := none } }.put F.SF_STAT_ARMED 0 else s
  | none => s

/-! ## The values of the next beacon (R457, R71, R75, R76, R80) -/

/-- The value a field will have once the staged writes of the coming superframe start are applied. -/
def State.staged1 (s : State) (f : Field) : Nat :=
  ((s.staged.filter fun p => p.field == f && p.at_ == .superframe && p.left == 1).getLast?.map (·.value)).getD (s.get f)

/-- The schedule of the coming superframe. -/
def State.schedNext (s : State) : List Word :=
  match s.sf.change with
  | some c => if c.target = (s.tally.sfn + 1) % 2 ^ 32 then c.words else s.sched
  | none => s.sched

/-- The PENDING block belongs into the coming beacon. -/
def State.pendNext (s : State) : Bool :=
  match s.sf.change with
  | some c =>
    let n := ahead c.target s
    if c.tied then n == 2 && s.on F.MAN_STAT_GO else decide (2 ≤ n)
  | none => false

/-- The coming superframe is served in DRAIN. -/
def State.drainNext (s : State) : Bool := s.mode == Mode.drain && inFuture s.sf.endSfn s

/-- Latch SF_BCNVAL at the tick that starts the last slot, with the plan of the coming superframe. -/
def bcnLatch (plan : List PlanChan) (s : State) : State :=
  let ws := s.schedNext
  let j := clipJoin (s.staged1 F.SF_JOIN_FIRST) (s.staged1 F.SF_JOIN_N) (max (spanOf false ws plan) (spanOf true ws plan))
    (schedField ws 1 0 13)
  s.puts [(F.SF_BCNVAL_JOINFIRST, j.1), (F.SF_BCNVAL_JOINN, if s.drainNext then 0 else j.2),
    (F.SF_BCNVAL_NBCN24, s.staged1 F.SF_BCN_NBCN24), (F.SF_BCNVAL_NBCNSG, s.staged1 F.SF_BCN_NBCNSG),
    (F.SF_BCNVAL_PEND, b2n s.pendNext), (F.SF_BCNVAL_DRAIN, b2n s.drainNext)]

/-- The boundary of R457: SF_BCN and SF_JOIN writes made before the tick that starts the last slot now wait for the
superframe start. -/
def bcnBoundary (s : State) : State :=
  { s with staged := s.staged.map fun p => if p.at_ = .lastSlot then { p with at_ := .superframe, left := 1 } else p }

/-! ## Register ranges (R84) -/

/-- A value of a schedule word, live or staged, lies in its range. -/
def schedRange (k v : Nat) : Bool :=
  if k = 0 then decide (20000 ≤ bits v 0 18) && decide (bits v 0 18 ≤ 160000) && bits v 0 18 % 2000 == 0
  else if k = 1 then decide (16 ≤ bits v 0 13) && decide (bits v 0 13 ≤ 4096)
  else if k = 2 then
    let tx := bits v 0 16
    let g := bits v 16 16
    decide (640 ≤ tx) && decide (tx ≤ 16000) && decide (256 ≤ g) && decide (g ≤ 8000) && decide (g + 320 ≤ tx)
  else if k = 3 then decide (1200 ≤ bits v 0 16) && decide (bits v 0 16 ≤ 4000)
  else true

/-- A write of word `v` to the SF register at `off` is in range. -/
def sfRange (off v : Nat) : Bool :=
  if off < 0x30020 then schedRange ((off - 0x30000) / 4) v
  else if 0x30040 ≤ off ∧ off < 0x30060 then schedRange ((off - 0x30040) / 4) v
  else if off = 0x30024 then
    decide (bits v 20 4 ≤ bits v 24 4) && decide (bits v 24 4 ≤ 8)
  else true

end Sys2Proof.Machine
end

