-- ==== Sys2Proof/Machine/Crypto.lean ====
section
/-!
DEFINITION. The algorithms the spec names by their standards: CRC-32 (IEEE 802.3), the CRC steps of R232, SHA-256, AES and
its inverse cipher (FIPS 197), and AES key wrap. Their definitions are taken from those standards (PRESUMED, log entry 20).
-/

namespace Sys2Proof.Machine

/-! ## CRC -/

/-- One byte into a reflected CRC of width `w` with the reflected polynomial `poly` (R232). -/
def crcStep (w poly : Nat) (crc : Nat) (b : Byte) : Nat :=
  (List.range 8).foldl (fun c _ => if c % 2 = 1 then (c / 2) ^^^ poly else c / 2) ((crc ^^^ b.toNat) % 2 ^ w)

/-- CRC-32 of a byte list, IEEE 802.3: reflected, all ones in and out. PRESUMED, log entry 20. -/
def crc32 (bs : List Byte) : Nat := bs.foldl (crcStep 32 0xEDB88320) 0xFFFFFFFF ^^^ 0xFFFFFFFF

/-- The CRC16 step carried over bytes from `init`. PRESUMED, log entry 20. -/
def crc16 (init : Nat) (bs : List Byte) : Nat := bs.foldl (crcStep 16 0x8408) init

/-! ## SHA-256

The standard takes its constants from the primes: 32 bits behind the point of their cube roots and square roots. -/

/-- The primes below 312: no prime up to 17 divides them but themselves. -/
def shaPrimes : List Nat :=
  ((List.range 312).drop 2).filter fun p => [2, 3, 5, 7, 11, 13, 17].all fun d => p == d || p % d != 0

/-- The greatest number below `2 ^ n + r` from `r` on whose `k`-th power is at most `x`, bit by bit. -/
def rootBelow (k x : Nat) : Nat → Nat → Nat
  | 0, r => r
  | n + 1, r => rootBelow k x n (if (r + 2 ^ n) ^ k ≤ x then r + 2 ^ n else r)

/-- The first 32 bits of the fraction of the `k`-th root of `p`. -/
def rootBits (k p : Nat) : Word := BitVec.ofNat 32 (rootBelow k (p * 2 ^ (32 * k)) 37 0)

/-- The round constants and the initial hash. -/
def shaRoundWords : List Word := shaPrimes.map (rootBits 3)
def shaStart : List Word := (shaPrimes.take 8).map (rootBits 2)

/-- The exclusive or of a word turned right by three amounts. -/
def turned (i j k : Nat) (x : Word) : Word := x.rotateRight i ^^^ x.rotateRight j ^^^ x.rotateRight k

/-- The same with a shift, which lets bits go, as the third. -/
def shifted (i j k : Nat) (x : Word) : Word := x.rotateRight i ^^^ x.rotateRight j ^^^ x >>> k

/-- A block's 64 words: after its own 16, each is made of those 16, 15, 7 and 2 places before it. -/
def shaWords (blk : List Byte) : List Word :=
  (List.range 48).foldl (fun ws k =>
    ws ++ [ws.getD k 0 + shifted 7 18 3 (ws.getD (k + 1) 0) + ws.getD (k + 9) 0 + shifted 17 19 10 (ws.getD (k + 14) 0)])
    ((List.range 16).map fun k => BitVec.ofNat 32 (leNat ((blk.drop (4 * k)).take 4).reverse))

/-- One round on the eight working variables: all move one place on, the fifth takes the sum `up` of the round too, and the
first is `up` and the majority of the first three. -/
def shaTurn (v : List Word) (x : Word) : List Word :=
  let at_ := fun i => v.getD i 0
  let pick := (at_ 4 &&& at_ 5) ||| (~~~(at_ 4) &&& at_ 6)
  let most := (at_ 0 &&& (at_ 1 ||| at_ 2)) ||| (at_ 1 &&& at_ 2)
  let up := at_ 7 + turned 6 11 25 (at_ 4) + pick + x
  (up + turned 2 13 22 (at_ 0) + most) :: (v.take 3 ++ [at_ 3 + up] ++ (v.drop 4).take 3)

/-- One block of 64 bytes into the hash. -/
def shaAbsorb (h : List Word) (blk : List Byte) : List Word :=
  let out := (shaRoundWords.zip (shaWords blk)).foldl (fun v p => shaTurn v (p.1 + p.2)) h
  (h.zip out).map fun p => p.1 + p.2

/-- SHA-256: 32 bytes. The message is followed by a one bit, zeros and its length in bits. PRESUMED, log entry 20. -/
def sha256 (m : List Byte) : List Byte :=
  let n := m.length
  let p := m ++ 0x80 :: (List.replicate ((119 - n % 64) % 64) 0 ++ (leBytes 8 (8 * n)).reverse)
  ((List.range (p.length / 64)).foldl (fun h k => shaAbsorb h ((p.drop (64 * k)).take 64)) shaStart).flatMap
    fun w => (leBytes 4 w.toNat).reverse

/-! ## AES -/

/-- Doubling in GF(2^8). -/
def xtime (a : Nat) : Nat := if 128 ≤ a then ((2 * a) ^^^ 0x11B) % 256 else 2 * a

/-- Product in GF(2^8), on `n` bits of `b`. -/
def gmul : Nat → Nat → Nat → Nat
  | 0, _, _ => 0
  | n + 1, a, b => (if b % 2 = 1 then a else 0) ^^^ gmul n (xtime a) (b / 2)

/-- The product of the squares `a^2`, `a^4` and so on, `n` of them, and `r`. -/
def gsquares : Nat → Nat → Nat → Nat
  | 0, _, r => r
  | n + 1, a, r => gsquares n (gmul 8 a a) (gmul 8 r (gmul 8 a a))

/-- The inverse in GF(2^8), 0 for 0: the 254th power, the product of seven squares. -/
def ginv (a : Nat) : Nat := gsquares 7 a 1

/-- Rotate a byte left. -/
def rol8 (a k : Nat) : Nat := (a * 2 ^ k + a / 2 ^ (8 - k)) % 256

/-- The S-box. -/
def sbox (b : Byte) : Byte :=
  let i := ginv b.toNat
  BitVec.ofNat 8 (i ^^^ rol8 i 1 ^^^ rol8 i 2 ^^^ rol8 i 3 ^^^ rol8 i 4 ^^^ 0x63)

/-- The inverse S-box. -/
def invSbox (b : Byte) : Byte :=
  let v := b.toNat
  BitVec.ofNat 8 (ginv (rol8 v 1 ^^^ rol8 v 3 ^^^ rol8 v 6 ^^^ 0x05))

def xorBytes (a b : List Byte) : List Byte := List.zipWith (· ^^^ ·) a b

/-- The key schedule, words most recent first. `nk` is 4 or 8. -/
def aesExpand (nk : Nat) : Nat → Nat → Nat → List (List Byte) → List (List Byte)
  | 0, _, _, w => w
  | n + 1, i, rcon, w =>
    let prev := w.getD 0 []
    let back := w.getD (nk - 1) []
    if i % nk = 0 then
      let t := ((prev.drop 1) ++ prev.take 1).map sbox
      let t := xorBytes t [BitVec.ofNat 8 rcon, 0, 0, 0]
      aesExpand nk n (i + 1) (xtime rcon) (xorBytes back t :: w)
    else if nk = 8 ∧ i % nk = 4 then aesExpand nk n (i + 1) rcon (xorBytes back (prev.map sbox) :: w)
    else aesExpand nk n (i + 1) rcon (xorBytes back prev :: w)

/-- A list cut into pieces of `k`. -/
def pieces {α : Type} (k : Nat) : Nat → List α → List (List α)
  | 0, _ => []
  | n + 1, l => l.take k :: pieces k n (l.drop k)

/-- The round keys of a 16-byte or 32-byte key. -/
def roundKeys (key : List Byte) : List (List Byte) :=
  let nk := if key.length = 32 then 8 else 4
  let nr := nk + 6
  let w := (aesExpand nk (4 * (nr + 1) - nk) nk 1 (pieces 4 nk key).reverse).reverse
  (pieces 4 (nr + 1) w).map List.flatten

def shiftRows (s : List Byte) : List Byte := (List.range 16).map fun i => s.getD ((i + 4 * (i % 4)) % 16) 0
def invShiftRows (s : List Byte) : List Byte := (List.range 16).map fun i => s.getD ((i + 12 * (i % 4)) % 16) 0

/-- A column times the circulant of `m`. -/
def mixCol (m : List Nat) (c : List Byte) : List Byte :=
  (List.range 4).map fun r =>
    BitVec.ofNat 8 ((List.range 4).foldl (fun a k => a ^^^ gmul 8 (c.getD k 0).toNat (m.getD ((k + 4 - r) % 4) 0)) 0)

def mixColumns (m : List Nat) (s : List Byte) : List Byte := (pieces 4 4 s).flatMap (mixCol m)

/-- The forward cipher on one block. -/
def aesEnc (key blk : List Byte) : List Byte :=
  match roundKeys key with
  | [] => blk
  | k0 :: ks =>
    let mid := ks.dropLast.foldl (fun s k => xorBytes (mixColumns [2, 3, 1, 1] (shiftRows (s.map sbox))) k) (xorBytes blk k0)
    xorBytes (shiftRows (mid.map sbox)) (ks.getLastD [])

/-- The inverse cipher on one block. -/
def aesDec (key blk : List Byte) : List Byte :=
  match (roundKeys key).reverse with
  | [] => blk
  | k0 :: ks =>
    let mid := ks.dropLast.foldl
      (fun s k => mixColumns [14, 11, 13, 9] (xorBytes ((invShiftRows s).map invSbox) k)) (xorBytes blk k0)
    xorBytes ((invShiftRows mid).map invSbox) (ks.getLastD [])

/-! ## AES key wrap -/

/-- The integrity check value. -/
def kwIv : List Byte := List.replicate 8 0xA6

/-- An 8-byte value with a number added into it, most significant byte first. -/
def kwXor (a : List Byte) (t : Nat) : List Byte := xorBytes a (leBytes 8 t).reverse

/-- Wrap a key of `8 * n` bytes. -/
def keyWrap (kek key : List Byte) : List Byte :=
  let n := key.length / 8
  let r := (List.range (6 * n)).foldl (fun (st : List Byte × List (List Byte)) t =>
    let i := t % n
    let b := aesEnc kek (st.1 ++ st.2.getD i [])
    (kwXor (b.take 8) (t + 1), st.2.set i (b.drop 8))) (kwIv, pieces 8 n key)
  r.1 ++ r.2.flatten

/-- Unwrap: the key, or nothing where the check value does not match. -/
def keyUnwrap (kek wrapped : List Byte) : Option (List Byte) :=
  let n := wrapped.length / 8 - 1
  let r := (List.range (6 * n)).foldl (fun (st : List Byte × List (List Byte)) t' =>
    let t := 6 * n - t'
    let i := (t - 1) % n
    let b := aesDec kek (kwXor st.1 t ++ st.2.getD i [])
    (b.take 8, st.2.set i (b.drop 8))) (wrapped.take 8, pieces 8 n (wrapped.drop 8))
  if r.1 = kwIv then some r.2.flatten else none

end Sys2Proof.Machine
end

