-- ==== Sys2Proof/Machine/Image.lean ====
section
/-!
DEFINITION. Signed images (20_update.md): the 512-byte header, its checks, and the conditions under which an update is
refused.
-/

namespace Sys2Proof.Machine

/-- The little-endian number of `n` bytes at `off` in a list. -/
def numAt (bs : List Byte) (off n : Nat) : Nat := leNat ((bs.drop off).take n)

/-- `n` bytes at `off` are all zero (missing bytes count as zero). -/
def zeroAt (bs : List Byte) (off n : Nat) : Bool := ((bs.drop off).take n).all (· == 0)

namespace Hdr
def cls (h : List Byte) : Nat := numAt h 4 1
def id (h : List Byte) : Nat := numAt h 6 2
def version (h : List Byte) : Nat := numAt h 8 4
def epoch (h : List Byte) : Nat := numAt h 11 1
def setver (h : List Byte) : Nat := numAt h 12 2
def bodyLen (h : List Byte) : Nat := numAt h 16 4
def minrev (h : List Byte) : Nat := numAt h 22 1
def how (h : List Byte) : Nat := numAt h 24 2
def hor (h : List Byte) : Nat := numAt h 26 2
def hash (h : List Byte) : List Byte := (h.drop 32).take 32
end Hdr

/-- The class byte of a Drover image and of a Manifest (R364). -/
def clsD : Nat := 0x44
def clsM : Nat := 0x4D

/-- The owner's signature over the header holds under R2, and this chip accepts images at all (R353). -/
def State.sigOk (s : State) (h : List Byte) : Bool :=
  s.on F.TRU_STAT_OWNPUBOK && s.fuses.life != 3 &&
    Config.ecdsaOk s.tru.ownerPub (sha256 (h.take 448)) ((h.drop 448).take 64)

/-- MAGIC, FORMAT, PART, MINREV and the zero fields of a header of its class (R364). -/
def State.hdrOk (s : State) (h : List Byte) : Bool :=
  numAt h 0 4 == 0x4D494E43 && numAt h 5 1 == 1 && numAt h 20 2 == 0x0812 &&
    decide (Hdr.minrev h ≤ s.get F.SYS_ID_REV) && zeroAt h 14 2 && zeroAt h 23 1 && zeroAt h 28 4 && zeroAt h 64 384 &&
    (Hdr.cls h != clsM || (zeroAt h 6 2 && zeroAt h 24 4))

/-- The epoch lies from the count of burned rollback fuses to 128 (R355). -/
def State.epochOk (s : State) (h : List Byte) : Bool :=
  decide (s.fuses.rollback ≤ Hdr.epoch h) && decide (Hdr.epoch h ≤ 128)

/-- BODYLEN in the range of its class (R364). -/
def lenOk (h : List Byte) : Bool :=
  let n := Hdr.bodyLen h
  n % 16 == 0 && (if Hdr.cls h = clsD then decide (16 ≤ n) && decide (n ≤ 65536) else decide (64 ≤ n) && decide (n ≤ 130560))

/-- A whole image passes at boot (R354, R355): signature, header, epoch, size and body hash. -/
def State.imageOk (s : State) (img : List Byte) : Bool :=
  s.sigOk img && s.hdrOk img && s.epochOk img && lenOk img && (Hdr.cls img == clsD || Hdr.cls img == clsM) &&
    (sha256 ((img.drop 512).take (Hdr.bodyLen img)) == Hdr.hash img) && decide (512 + Hdr.bodyLen img ≤ img.length)

/-- The modes in which a Manifest switch and an update are made (R50, R368). -/
def switchMode (m : Nat) : Bool := decide (Mode.standby ≤ m) && decide (m ≤ Mode.shadow)

/-- Either chip of the Tandem is in TAKEOVER, as far as this chip knows (R368). -/
def State.takeoverNow (s : State) : Bool :=
  s.mode == Mode.takeover || (s.tandem && ((s.tan.hb).map (·.mode)).getD 0 == Mode.takeover)

/-- The first condition of R368 that holds now; 0 for none. DEDUCED, log entry 90. -/
def State.updCond (s : State) : Nat :=
  if s.on F.TRU_LOCK_UPDATE then 1
  else if !switchMode s.mode then 2
  else if s.tandem && s.get F.TAN_STAT_SYNC != 2 then 3
  else if s.tan.hoAt.isSome || s.takeoverNow then 4
  else if s.get F.UPD_HOLDUP_MV < s.get F.UPD_HOLDUP_MIN_MV then 5
  else 0

end Sys2Proof.Machine
end

