-- ==== Sys2Proof/Machine/Flash.lean ====
section
/-!
DEFINITION. The flash controller (21_flash_calibration.md, R382 to R398): the array, reads, programs, erases and their
journal, power failure, the option area's strap record and the lease log.
-/

namespace Sys2Proof.Machine

/-! ## The array (R382, R384, R385) -/

/-- The flash holds 8 MiB. -/
def flsSize : Nat := 0x800000

/-- Sectors of the regions of R382, first and first after. -/
def inSectors (lo hi k : Nat) : Bool := decide (lo ≤ k) && decide (k < hi)
def calSector (k : Nat) : Bool := inSectors 1 17 k
def leaseSector (k : Nat) : Bool := inSectors 19 147 k

/-- The word at index `w` (byte address 8 w). -/
def State.flsWord (s : State) (w : Nat) : Option FlsWord := (s.fls.words.find? (·.1 == w)).map (·.2)

/-- The byte at a flash address; blank reads 0xFF. -/
def State.flsByte (s : State) (a : Nat) : Byte :=
  match s.flsWord (a / 8) with
  | some w => BitVec.ofNat 8 (w.v / 256 ^ (a % 8))
  | none => 0xFF

/-- The `n` bytes from a flash address. -/
def State.flsBytes (s : State) (a n : Nat) : List Byte := (List.range n).map fun i => s.flsByte (a + i)

/-- No word among the `n` bytes from `a` (a multiple of 8) has been programmed. -/
def State.flsBlank (s : State) (a n : Nat) : Bool :=
  s.fls.words.all fun p => decide (8 * p.1 + 8 ≤ a) || decide (a + n ≤ 8 * p.1)

/-- Every word among the `n` bytes from `a` decodes. -/
def State.flsSound (s : State) (a n : Nat) : Bool :=
  s.fls.words.all fun p => decide (8 * p.1 + 8 ≤ a) || decide (a + n ≤ 8 * p.1) || p.2.err != 2

/-- Program one word. A second program of a word only turns bits to 0 (R378) and leaves its check bits undefined: whether
the word then decodes is a free value, and so is the value that a wrong correction delivers (DESIGN CHOICE, log entry 31). -/
def flsPutWord (w v : Nat) (s : State) : State :=
  match s.flsWord w with
  | none => { s with fls := { s.fls with words := sins w ⟨v, 0⟩ s.fls.words } }
  | some o =>
    let a := s.fresh (2 ^ 64)
    let e := a.2.fresh 3
    { e.2 with fls := { e.2.fls with words := sins w ⟨if e.1 = 1 then a.1 else o.v &&& v, e.1⟩ e.2.fls.words } }

/-- Program bytes at `a`, both in whole words. -/
def flsPut (a : Nat) : List Byte → State → State
  | b0 :: b1 :: b2 :: b3 :: b4 :: b5 :: b6 :: b7 :: t, s =>
    flsPut (a + 8) t (flsPutWord (a / 8) (leNat [b0, b1, b2, b3, b4, b5, b6, b7]) s)
  | _, s => s

/-- Leave a sector blank. -/
def flsBlankSector (k : Nat) (s : State) : State :=
  { s with fls := { s.fls with words := s.fls.words.filter fun p => p.1 / 512 != k } }

/-- Bytes as a read-back finds them: `bad` gives those that differ from what was programmed. -/
def withFaults (bs : List Byte) (bad : List (Nat × Byte)) : List Byte :=
  bad.foldl (fun l p => l.set p.1 p.2) bs

/-! ## Open sectors and the erase journal (R391 to R393) -/

/-- Is the sector listed in FLS_OPEN_k? -/
def State.isOpen (s : State) (k : Nat) : Bool :=
  (List.range 8).any fun i => s.on (F.FLS_OPEN_k_VALID i) && s.get (F.FLS_OPEN_k_SECTOR i) == k

/-- List an open sector, half-erased or failed. -/
def openAdd (k : Nat) (failed : Bool) (s : State) : State :=
  match (List.range 8).find? fun i => s.on (F.FLS_OPEN_k_VALID i) && s.get (F.FLS_OPEN_k_SECTOR i) == k with
  | some i => s.put (F.FLS_OPEN_k_FAILED i) (b2n failed)
  | none =>
    match (List.range 8).find? fun i => !s.on (F.FLS_OPEN_k_VALID i) with
    | some i => s.puts [(F.FLS_OPEN_k_SECTOR i, k), (F.FLS_OPEN_k_FAILED i, b2n failed), (F.FLS_OPEN_k_VALID i, 1)]
    | none => s

/-- Take a sector off the list. -/
def openDel (k : Nat) (s : State) : State :=
  forN 8 (fun i s =>
    if s.on (F.FLS_OPEN_k_VALID i) && s.get (F.FLS_OPEN_k_SECTOR i) == k then s.setReg (R.FLS_OPEN_k i) 0 else s) s

/-- Sectors whose START has no DONE yet: the listed ones, and those whose erase runs or is suspended. -/
def State.openSectors (s : State) : List Nat :=
  let listed := ((List.range 8).filter fun i => s.on (F.FLS_OPEN_k_VALID i)).map fun i => s.get (F.FLS_OPEN_k_SECTOR i)
  let run := match s.fls.op with
    | some (.erase k _) => [k]
    | some (.optwrite _) => [0]
    | _ => []
  listed ++ (run ++ (s.fls.susp.map (·.1)).toList).filter fun k => !listed.contains k

/-! Erase journal record types (R391). -/
namespace JType
def start : Nat := 1
def done : Nat := 2
def fail : Nat := 3
def power : Nat := 4
def head : Nat := 5
end JType

/-- Program the next record of the current journal sector. -/
def jPut (ty pulses sector : Nat) (s : State) : State :=
  let b := leBytes 1 ty ++ leBytes 1 pulses ++ leBytes 2 sector ++ leBytes 4 s.fls.jseq ++ leBytes 4 0
  let s1 := flsPut (4096 * s.fls.jsec + 16 * s.fls.jidx) (b ++ leBytes 4 (crc32 b)) s
  { s1 with fls := { s1.fls with jidx := s1.fls.jidx + 1, jseq := (s1.fls.jseq + 1) % 2 ^ 32 } }

/-- Move the journal to sector `k` (R392): erased without journalling, then HEAD and a START for every open sector. -/
def jMove (k : Nat) (s : State) : State :=
  let s1 := flsBlankSector k s
  let s2 := jPut JType.head 0 0 { s1 with fls := { s1.fls with jsec := k, jidx := 0 } }
  forAll s2.openSectors (fun o s => jPut JType.start 0 o s) s2

/-- Journal a record, changing the sector first where fewer than 8 blank records are left. -/
def jRecord (ty pulses sector : Nat) (s : State) : State :=
  let s1 := if s.fls.jsec = 0 then jMove 17 s
    else if 248 < s.fls.jidx then jMove (if s.fls.jsec = 17 then 18 else 17) s
    else s
  jPut ty pulses sector s1

/-- A valid record at index `i` of journal sector `k`: type, sector and SEQ. -/
def State.jAt (s : State) (k i : Nat) : Option (Nat × Nat × Nat) :=
  let a := 4096 * k + 16 * i
  if s.flsBlank a 16 then none
  else
    let b := s.flsBytes a 16
    if s.flsSound a 16 && numAt b 12 4 == crc32 (b.take 12) then some (numAt b 0 1, numAt b 2 2, numAt b 4 4) else none

/-- Records of a journal sector from index `i` up to the first blank one. -/
def State.jRecords (s : State) (k : Nat) : Nat → Nat → List (Nat × Nat × Nat) × Nat
  | 0, i => ([], i)
  | fuel + 1, i =>
    if s.flsBlank (4096 * k + 16 * i) 16 then ([], i)
    else
      let r := s.jRecords k fuel (i + 1)
      ((s.jAt k i).toList ++ r.1, r.2)

/-- SEQ of a journal sector's HEAD. -/
def State.jHead (s : State) (k : Nat) : Option Nat :=
  match s.jAt k 0 with
  | some (ty, _, q) => if ty = JType.head then some q else none
  | none => none

/-- The open sectors that a run of records leaves, with FAILED, oldest first. -/
def openAfter (l : List (Nat × Nat × Nat)) : List (Nat × Bool) :=
  l.foldl (fun acc r =>
    let rest := acc.filter (·.1 != r.2.1)
    if r.1 = JType.start then rest ++ [(r.2.1, false)]
    else if r.1 = JType.fail then rest ++ [(r.2.1, true)]
    else if r.1 = JType.done then rest
    else acc) []

/-- Read the erase journal at a whole-chip reset (R392, R393). -/
def flsScan (s : State) : State :=
  let clean (k : Nat) (s : State) : State :=
    if !s.flsBlank (4096 * k) 4096 && (s.jHead k).isNone then flsBlankSector k s else s
  let s1 := clean 18 (clean 17 s)
  let cur := match s1.jHead 17, s1.jHead 18 with
    | some a, some b => if a < b then 18 else 17
    | some _, none => 17
    | none, some _ => 18
    | none, none => 0
  if cur = 0 then { s1 with fls := { s1.fls with jsec := 0, jidx := 0, jseq := 0 } }
  else
    let r := s1.jRecords cur 256 0
    let top := r.1.foldl (fun m x => max m (x.2.2 + 1)) 0
    let s2 := { s1 with fls := { s1.fls with jsec := cur, jidx := r.2, jseq := top % 2 ^ 32 } }
    forAll ((openAfter r.1).take 8) (fun o s => openAdd o.1 o.2 s) s2

/-- An erase that ended with a verify: the sector is blank and no longer open, the DONE record and the counts (R386,
R391). -/
def eraseDone (k pulses : Nat) (s : State) : State :=
  let s1 := (jRecord JType.done pulses k (openDel k (flsBlankSector k s))).inc (F.FLS_CNT_k_COUNT 2)
  if 12 < pulses then produce Prod.flsWear ((s1.flag F.FLS_STAT_WEAR).inc (F.FLS_CNT_k_COUNT 5)) else s1

/-- An erase by a fixed-function writer, START to DONE. Its number of pulses is a free value (DESIGN CHOICE, log entry
30). -/
def hwErase (k : Nat) (s : State) : State :=
  let p := (jRecord JType.start 0 k s).fresh 32
  eraseDone k (p.1 + 1) p.2

/-! ## Software commands (R383 to R390) -/

/-! Statuses of FLS_RES. -/
namespace FlsSt
def busy : Nat := 1
def done : Nat := 2
def badcmd : Nat := 3
def protect : Nat := 4
def isOpen : Nat := 5
def erasing : Nat := 6
def uncorr : Nat := 7
def fail : Nat := 8
def abandoned : Nat := 9
def mismatch : Nat := 10
def openfull : Nat := 11
end FlsSt

/-- A command is refused: its status and the done event; the command in progress, if any, goes on. -/
def flsRefuse (st : Nat) (s : State) : State :=
  let s1 := s.when (st == FlsSt.badcmd) (·.flag F.FLS_STAT_BADCMD)
  produce Prod.flsDone (s1.put F.FLS_RES_STATUS st)

/-- The command in progress ends. -/
def flsEnd (st : Nat) (s : State) : State :=
  produce Prod.flsDone ({ s with fls := { s.fls with op := none } }.puts [(F.FLS_RES_STATUS, st), (F.FLS_STAT_SWBUSY, 0)])

/-- A command starts. -/
def flsStart (op : FlsOp) (s : State) : State :=
  { s with fls := { s.fls with op := some op } }.puts
    [(F.FLS_RES_STATUS, FlsSt.busy), (F.FLS_RES_CE, 0), (F.FLS_RES_WEAK, 0), (F.FLS_STAT_SWBUSY, 1)]

/-- Software commands are refused while one is in progress (R389) and from PFAILN on (R394). -/
def State.flsFree (s : State) : Bool := s.fls.op.isNone && !s.on F.FLS_STAT_PFAIL

/-- The sector holding FLS_ADDR, and the last sector a length of `n` bytes touches. -/
def State.flsSec (s : State) (n : Nat) : Nat := (s.get F.FLS_ADDR_ADDR + n - 1) / 4096

/-- R390 protects a sector from software PROGRAM and ERASE. -/
def State.flsProtected (s : State) (k : Nat) : Bool :=
  k == 0 || calSector k || k == 17 || k == 18 || leaseSector k ||
    (s.get F.UPD_BOOT_AREA == 0 && inSectors 512 1024 k) || (s.get F.UPD_BOOT_AREA == 1 && inSectors 1024 1536 k) ||
    (s.on F.CAR_STAT_IMGBUSY && inSectors 1536 1600 k) ||
    ((s.mode == Mode.reset || s.mode == Mode.safe || s.mode == Mode.test) && s.fuses.life != 0)

/-- READ, with or without MARGIN (R383, R384). DEDUCED, log entry 79. -/
def flsReadOp (margin : Bool) (s : State) : State :=
  let a := s.get F.FLS_ADDR_ADDR
  let n := s.get F.FLS_LEN_LEN
  let ks := [a / 4096, s.flsSec n]
  if !s.flsFree || decide (flsSize < a + n) then flsRefuse FlsSt.badcmd s
  else if ks.any s.isOpen then flsRefuse FlsSt.isOpen s
  else if ks.any fun k => s.fls.susp.any (·.1 == k) then flsRefuse FlsSt.erasing s
  else flsStart (.read margin a (s.get F.FLS_SER_BASE) n) s

/-- PROGRAM (R385, R388, R390, R393). The source is taken from the Serai when the command starts. DEDUCED, log entry 79.
DEDUCED, log entry 151. -/
def flsProgramOp (s : State) : State :=
  let a := s.get F.FLS_ADDR_ADDR
  let n := s.get F.FLS_LEN_LEN
  let k := a / 4096
  if !s.flsFree || decide (256 < a % 256 + n) || s.fls.susp.any (·.1 == k) then flsRefuse FlsSt.badcmd s
  else if s.flsProtected k then flsRefuse FlsSt.protect s
  else if s.isOpen k then flsRefuse FlsSt.isOpen s
  else
    let r := serRead Master.unit (s.get F.FLS_SER_BASE) n s
    flsStart (.program a r.1) r.2.2

/-- Eight sectors are open and this one is not among them (R393). -/
def State.openFull (s : State) (k : Nat) : Bool :=
  (List.range 8).all (fun i => s.on (F.FLS_OPEN_k_VALID i)) && !s.isOpen k

/-- ERASE (R386, R388, R390, R391, R393). DEDUCED, log entry 79. -/
def flsEraseOp (s : State) : State :=
  let k := s.flsSec 1
  if !s.flsFree || s.fls.susp.isSome then flsRefuse FlsSt.badcmd s
  else if s.flsProtected k then flsRefuse FlsSt.protect s
  else if s.openFull k then flsRefuse FlsSt.openfull s
  else flsStart (.erase k 0) (jRecord JType.start 0 k s)

/-- SUSPEND (R388). -/
def flsSuspendOp (s : State) : State :=
  match s.fls.op with
  | some (.erase k p) =>
    if s.fls.susp.isSome || s.on F.FLS_STAT_PFAIL then flsRefuse FlsSt.badcmd s
    else
      flsEnd FlsSt.done (({ s with fls := { s.fls with susp := some (k, p) } }.puts
        [(F.FLS_SUSP_SECTOR, k), (F.FLS_SUSP_VALID, 1), (F.FLS_STAT_SUSP, 1)]).inc (F.FLS_CNT_k_COUNT 7))
  | _ => flsRefuse FlsSt.badcmd s

/-- RESUME (R388): the interrupted pulse restarts. -/
def flsResumeOp (s : State) : State :=
  match s.fls.susp with
  | some (k, p) =>
    if !s.flsFree then flsRefuse FlsSt.badcmd s
    else
      flsStart (.erase k p) ({ s with fls := { s.fls with susp := none } }.puts
        [(F.FLS_SUSP_SECTOR, 0), (F.FLS_SUSP_VALID, 0), (F.FLS_STAT_SUSP, 0)])
  | none => flsRefuse FlsSt.badcmd s

/-- OPTWRITE (R396). -/
def flsOptwriteOp (s : State) : State :=
  if !s.flsFree || s.fls.susp.isSome || !(s.mode == Mode.boot || s.mode == Mode.configure) then
    flsRefuse FlsSt.badcmd s
  else if s.openFull 0 then flsRefuse FlsSt.openfull s
  else
    let r := serRead Master.unit (s.get F.FLS_SER_BASE) 3584 s
    flsStart (.optwrite r.1) (jRecord JType.start 0 0 r.2.2)

/-- Write a granule of the Serai poisoned, under every protection. -/
def serPoison (m g : Nat) (s : State) : State :=
  match writeBlocked m (16 * g) s with
  | some t => t
  | none => poisonGranule g s

/-- The error of word `w` in a read: what the array holds, or what arose in the array since (`errs`, by word index within
the read: 1 one bit, 2 more). -/
def readErr (w i : Nat) (errs : List (Nat × Nat)) (s : State) : Nat :=
  max ((s.flsWord w).map (·.err) |>.getD 0) (((errs.find? (·.1 == i)).map (·.2)).getD 0)

/-- Copy granule `i` of a read into the Serai (R384): the count of words not correctable so far. -/
def readGranule (a ser i : Nat) (errs : List (Nat × Nat)) (acc : Nat × State) : Nat × State :=
  let s := acc.2
  let e := [2 * i, 2 * i + 1].map fun j => readErr (a / 8 + j) j errs s
  let ce := e.countP (· == 1)
  let ue := e.countP (2 ≤ ·)
  let s1 := ((s.add F.FLS_RES_CE ce).add (F.FLS_CNT_k_COUNT 3) ce).add (F.FLS_CNT_k_COUNT 4) ue
  (acc.1 + ue, if ue = 0 then serWrite Master.unit (ser + 16 * i) (s.flsBytes (a + 16 * i) 16) s1
    else serPoison Master.unit ((ser + 16 * i) / 16) s1)

/-- A read ends (R384). `weak` is what a margin read found. -/
def flsReadDone (errs : List (Nat × Nat)) (weak : Nat) (s : State) : State :=
  match s.fls.op with
  | some (.read margin a ser n) =>
    let r := (List.range (n / 16)).foldl (fun acc i => readGranule a ser i errs acc) (0, s.inc (F.FLS_CNT_k_COUNT 0))
    let s1 := r.2.when margin (·.add F.FLS_RES_WEAK weak)
    flsEnd (if r.1 = 0 then FlsSt.done else FlsSt.uncorr) s1
  | _ => s

/-- A program ends (R385). -/
def flsProgramDone (s : State) : State :=
  match s.fls.op with
  | some (.program a bs) => flsEnd FlsSt.done ((flsPut a bs s).inc (F.FLS_CNT_k_COUNT 1))
  | _ => s

/-- An erase pulse and its verify end (R386). -/
def flsPulse (verify : Bool) (s : State) : State :=
  match s.fls.op with
  | some (.erase k p0) =>
    let p := p0 + 1
    let s1 := { s with fls := { s.fls with op := some (.erase k p) } }
    if verify then flsEnd FlsSt.done ((eraseDone k p s1).put F.FLS_RES_PULSES p)
    else if p = 32 then
      let s2 := openAdd k true (jRecord JType.fail p k s1)
      flsEnd FlsSt.fail (((s2.inc (F.FLS_CNT_k_COUNT 2)).inc (F.FLS_CNT_k_COUNT 6)).put F.FLS_RES_PULSES p)
    else s1
  | _ => s

/-- OPTWRITE ends (R396): the trust record stands, the rest is new, and the read-back decides. -/
def flsOptDone (bad : List (Nat × Byte)) (s : State) : State :=
  match s.fls.op with
  | some (.optwrite bs) =>
    let want := s.flsBytes 0 512 ++ bs
    let got := withFaults want bad
    let p := s.fresh 32
    let s1 := eraseDone 0 (p.1 + 1) { p.2 with fls := { p.2.fls with op := none } }
    flsEnd (if got = want then FlsSt.done else FlsSt.mismatch) ((flsPut 0 got s1).put F.FLS_RES_PULSES (p.1 + 1))
  | _ => s

/-- FLS_CTL.CLRCNT. -/
def flsClear (s : State) : State := forN 8 (fun k s => s.put (F.FLS_CNT_k_COUNT k) 0) s

/-! ## Power failure (R394) -/

/-- PFAILN falls: PFAIL is raised, a running erase is abandoned, what is queued is dropped, and the ACTIVE sends SEAL
(R323). DESIGN CHOICE, log entry 97. DESIGN CHOICE, log entry 107. -/
def flsPfail (s : State) : State :=
  if s.on F.FLS_STAT_PFAIL then s
  else
    let s1 := journal 0x08 0 [] (raiseFault FaultCode.pfail 0 s)
    let s2 := { s1 with sec := { s1.sec with leases := [], persist := [] } }.flag F.FLS_STAT_PFAIL
    let s3 := match s2.fls.susp with
      | some (k, _) => openAdd k false s2
      | none => s2
    match s3.fls.op with
    | some (.erase k _) => flsEnd FlsSt.abandoned (openAdd k false s3)
    | some (.optwrite _) => flsEnd FlsSt.abandoned (openAdd 0 false (flsBlankSector 0 s3))
    | _ => s3

/-- The closing ends: a program already running has ended, the POWER record is programmed, the die is in power-down, and
SAFE entry is due. -/
def flsClose (s : State) : State :=
  if s.on F.FLS_STAT_PFAIL && !s.fls.closed then
    let s1 := match s.fls.op with
      | some (.read _ _ _ _) => flsEnd FlsSt.abandoned s
      | _ => flsProgramDone s
    let s2 := jRecord JType.power 0 0 s1
    { s2 with
      fls := { s2.fls with closed := true }
      faults := { s2.faults with wait := if s2.faults.wait = .pfail then .due else s2.faults.wait } }
  else s

/-! ## The option area (R395) -/

/-- What the strap record says: overrides of STRAP_HOST, STRAP_BOOT and STRAP_TANDEM, and ROLEDEF. -/
structure StrapRec where
  host : Option Nat
  boot : Option Nat
  tandem : Option Nat
  roledef : Nat

/-- The strap record: what it says, and whether OPTBAD is set. -/
def State.strapRec (s : State) : StrapRec × Bool :=
  let none_ : StrapRec := ⟨none, none, none, 0⟩
  let b := s.flsBytes 0x200 12
  if s.isOpen 0 then (none_, true)
  else if s.flsBlank 0x200 16 then (none_, false)
  else if numAt b 0 4 ≠ 0x504F4E43 ∨ numAt b 8 4 ≠ crc32 (b.take 8) ∨ !s.flsSound 0x200 16 then (none_, true)
  else
    let ov (v w : Nat) : Option Nat := if v % 2 = 1 then some (bits v 1 w) else none
    (⟨ov (numAt b 4 1) 2, ov (numAt b 5 1) 1, ov (numAt b 6 1) 1, numAt b 7 1 % 2⟩, false)

/-! ## The lease log (R397, R398) -/

/-- Flash address of lease record `i`. -/
def leaseAddr (i : Nat) : Nat := 0x13000 + 32 * i

/-- The 28 bytes of a record that its CRC covers. -/
def leaseBody (l : Lease) (seq : Nat) : List Byte :=
  leBytes 1 0xA5 ++ leBytes 1 l.kind ++ leBytes 1 l.keyidx ++ leBytes 1 0 ++ leBytes 2 (if l.kind = 0 then l.idx else 0) ++
    leBytes 2 0 ++ (if l.kind = 2 then (l.fp ++ List.replicate 8 0).take 8 else List.replicate 8 0) ++ leBytes 4 l.end_ ++
    leBytes 4 seq ++ leBytes 4 0

/-- A whole record. -/
def leaseRecord (l : Lease) (seq : Nat) : List Byte :=
  let b := leaseBody l seq
  b ++ leBytes 4 (crc32 b)

/-- A valid lease record found in the log. -/
structure LeaseRec where
  idx : Nat
  seq : Nat
  lease : Lease

/-- Read record `i`, where it is valid (R397). -/
def State.leaseAt (s : State) (i : Nat) : Option LeaseRec :=
  let a := leaseAddr i
  let b := s.flsBytes a 32
  if numAt b 0 1 = 0xA5 ∧ numAt b 28 4 = crc32 (b.take 28) ∧ s.flsSound a 32 ∧ !s.isOpen (a / 4096) then
    some ⟨i, numAt b 20 4, ⟨numAt b 1 1, numAt b 4 2, numAt b 2 1, (b.drop 8).take 8, numAt b 16 4, true, true, 0, false⟩⟩
  else none

/-- Every valid record of the log. -/
def State.leaseRecs (s : State) : List LeaseRec :=
  (s.fls.words.filter fun p => decide (0x2600 ≤ p.1) && decide (p.1 < 0x12600) && p.1 % 4 == 0).filterMap fun p =>
    s.leaseAt ((p.1 - 0x2600) / 4)

/-- Two records name the same key. -/
def sameKey (a b : Lease) : Bool := a.kind == b.kind && a.idx == b.idx && a.keyidx == b.keyidx && a.fp == b.fp

/-- The record with the highest SEQ of a list. -/
def topSeq (l : List LeaseRec) : Option LeaseRec :=
  l.foldl (fun m r => match m with
    | some x => if x.seq < r.seq then some r else m
    | none => some r) none

/-- The governing lease end of a cipher key: its fingerprint and key index; 0 where the log has none (R245, R398). -/
def State.leaseOf (s : State) (fp : List Byte) (keyidx : Nat) : Nat :=
  ((topSeq (s.leaseRecs.filter fun r => r.lease.kind == 2 && r.lease.fp == fp && r.lease.keyidx == keyidx)).map
    (·.lease.end_)).getD 0

/-- The lease log is scanned in BOOT (R398, R166): where the next record goes, and the cell counter at its lease end. -/
def leaseScan (s : State) : State :=
  let all := s.leaseRecs
  let next := match topSeq all with
    | some r => ((r.idx + 1) % 16384, (r.seq + 1) % 2 ^ 32)
    | none => (0, 0)
  let s1 := { s with fls := { s.fls with lidx := next.1, lseq := next.2 } }
  let cell := ((topSeq (all.filter fun r => r.lease.kind == 1)).map (·.lease.end_)).getD 0
  s1.puts [(F.SEC_CELLCTR_VALUE, cell), (F.SEC_CELLLEASE_VALUE, cell)]

/-- The next place for a record from `i` on: blank, and in no open sector. -/
def State.leasePlace (s : State) : Nat → Nat → Nat
  | 0, i => i
  | fuel + 1, i =>
    if s.flsBlank (leaseAddr i) 32 && !s.isOpen (leaseAddr i / 4096) then i else s.leasePlace fuel ((i + 1) % 16384)

/-- Program one lease record and read it back: `bad` gives the bytes that read back wrong. -/
def leaseProgram (l : Lease) (bad : List (Nat × Byte)) (s : State) : State :=
  let i := s.leasePlace 16384 s.fls.lidx
  let s1 := flsPut (leaseAddr i) (withFaults (leaseRecord l s.fls.lseq) bad) s
  { s1 with fls := { s1.fls with lidx := (i + 1) % 16384, lseq := (s1.fls.lseq + 1) % 2 ^ 32 } }

/-- Blank sectors that lie ahead of lease sector `k` (0 to 127), and the first one that is not blank. -/
def State.leaseAhead (s : State) : Nat → Nat → Nat × Nat
  | 0, k => (0, k)
  | fuel + 1, k =>
    let n := (k + 1) % 128
    if s.flsBlank (4096 * (19 + n)) 4096 then
      let r := s.leaseAhead fuel n
      (r.1 + 1, r.2)
    else (0, n)

/-- Compaction (R398): once only 8 blank sectors lie ahead, the governing cell and cipher records of the oldest sector are
programmed afresh, and the sector is erased. -/
def leaseCompact (s : State) : State :=
  let r := s.leaseAhead 127 ((s.fls.lidx + 16383) % 16384 / 128)
  if 8 < r.1 then s
  else
    let all := s.leaseRecs
    let keep := all.filter fun x => x.idx / 128 == r.2 && x.lease.kind != 0 &&
      all.all fun y => !sameKey x.lease y.lease || decide (y.seq ≤ x.seq)
    hwErase (19 + r.2) (forAll keep (fun x s => leaseProgram x.lease [] s) s)

/-- Write a lease record (R389, R397): a running erase is suspended for it and resumes. The answer says whether the
read-back was good. -/
def leaseWrite (l : Lease) (bad : List (Nat × Byte)) (s : State) : Bool × State :=
  let want := leaseRecord l s.fls.lseq
  let s1 := match s.fls.op with
    | some (.erase _ _) => s.inc (F.FLS_CNT_k_COUNT 7)
    | _ => s
  (withFaults want bad == want, leaseCompact ((leaseProgram l bad s1).inc (F.SEC_CNT_k_COUNT 10)))

end Sys2Proof.Machine
end

