-- ==== Sys2Proof/Machine/Cal.lean ====
section
/-!
DEFINITION. Calibration (21_flash_calibration.md, R399 to R402): the set in force, RUN and COMMIT, and the die temperature
with its thermal faults (24_electrical.md, R451).
-/

namespace Sys2Proof.Machine

/-- The length of a calibration set. -/
def calLen : Nat := 0x1D80

/-- Places of the sections in a set: offset and size, by section number. -/
def calPlace (k : Nat) : Nat × Nat :=
  match k with
  | 0 => (0x40, 1024)
  | 1 => (0x440, 224)
  | 2 => (0x520, 4096)
  | 3 => (0x1520, 2048)
  | 4 => (0x1D20, 80)
  | 5 => (0x1D70, 8)
  | 6 => (0x1D78, 4)
  | _ => (0x1D7C, 4)

/-- MAGIC, FORMAT, LEN, SERIAL and CRC of a set (R399, R401). -/
def State.calOk (s : State) (b : List Byte) : Bool :=
  numAt b 0 4 == 0x4C434E43 && numAt b 5 1 == 1 && numAt b 0x10 4 == calLen && numAt b 8 8 == s.fuses.serial &&
    numAt b 0x14 4 == crc32 ((b.take calLen).drop 0x40)

/-- The calibration set that flash holds for this chip, where it is valid and in no open sector. -/
def State.calStored (s : State) : Option (List Byte) :=
  if s.flsBlank 0x1000 16 || !s.flsSound 0x1000 calLen || s.isOpen 1 || s.isOpen 2 then none
  else
    let b := s.flsBytes 0x1000 calLen
    if s.calOk b then some b else none

/-- Apply the set that flash holds, or no set: zero trims and a transmit-off pattern of zeros (R399). -/
def calLoad (s : State) : State :=
  match s.calStored with
  | some b =>
    { s with cal := { s.cal with cur := b } }.puts
      [(F.CAL_STAT_VALID, 1), (F.CAL_STAT_ORIGIN, b2n (numAt b 4 1 == 0x55)), (F.CAL_CRC_CRC, numAt b 0x14 4)]
  | none =>
    { s with cal := { s.cal with cur := [] } }.puts [(F.CAL_STAT_VALID, 0), (F.CAL_STAT_ORIGIN, 0), (F.CAL_CRC_CRC, 0)]

/-- FEM_CTL pin levels with transmitters off: section 7 of the set in force (R42, R399). -/
def State.femOff (s : State) : Nat := numAt s.cal.cur 0x1D7C 4

/-- The set is loaded in BOOT; CAL_FEMOFF takes the pattern of the set in force as its reset value. -/
def calBoot (s : State) : State :=
  let s1 := calLoad s
  s1.put F.CAL_FEMOFF_LEVEL s1.femOff

/-- A RUN or a COMMIT is in progress, or the mode is not CALIBRATE. -/
def State.calRefused (s : State) : Bool := s.mode != Mode.calibrate || s.on F.CAL_STAT_RUNNING

/-- RUN (R400). The run holds the receive front ends of both bands in state CAL (R85; DESIGN CHOICE, log entry 130). -/
def calRunOp (s : State) : State :=
  if s.calRefused then s.flag F.CAL_STAT_BADCMD
  else { s with cal := { s.cal with run := some (s.get F.CAL_CTL_SECTIONS % 128) } }.puts
    [(F.CAL_STAT_RUNNING, 1), (F.CAL_STAT_RESULT, 0), (F.FRX_STAT_LNA24, 3), (F.FRX_STAT_LNASG, 3)]

/-- End a RUN or a COMMIT: the receive front ends are OFF. DESIGN CHOICE, log entry 130. -/
def calEnd (result : Nat) (s : State) : State :=
  { s with cal := { s.cal with run := none, commit := none } }.puts
    [(F.CAL_STAT_RUNNING, 0), (F.CAL_STAT_RESULT, result), (F.FRX_STAT_LNA24, 0), (F.FRX_STAT_LNASG, 0)]

/-- The set a run writes: the selected sections as measured, the others from the set in force, section 7 from CAL_FEMOFF,
ORIGIN user (R400). `meas` is what was measured, laid out as the set is. -/
def State.calSet (s : State) (sections : Nat) (meas : List Byte) : List Byte :=
  let part (k : Nat) : List Byte :=
    let p := calPlace k
    let src := if bitOf sections k then meas else s.cal.cur
    ((src.drop p.1).take p.2 ++ List.replicate p.2 0).take p.2
  let body := (List.range 7).flatMap part ++ leBytes 4 (s.get F.CAL_FEMOFF_LEVEL)
  leBytes 4 0x4C434E43 ++ [0x55, 1, 0, 0] ++ leBytes 8 s.fuses.serial ++ leBytes 4 calLen ++ leBytes 4 (crc32 body) ++
    List.replicate 40 0 ++ body

/-- A run ends (R400): `fail` names a section whose measurement failed. Section 6 fails without PPS_IN. -/
def calRunDone (meas : List Byte) (pps : Bool) (fail : Option (Fin 7)) (s : State) : State :=
  match s.cal.run with
  | none => s
  | some sec =>
    let bad := match fail with
      | some k => if bitOf sec k then some k.val else none
      | none => none
    let bad := if bad.isNone && bitOf sec 6 && !pps then some 6 else bad
    match bad with
    | some k => calEnd 2 (s.put F.CAL_ERR_SECTION k)
    | none => calEnd 1 (serWrite Master.unit (s.get F.CAL_SER_BASE) (s.calSet sec meas) s)

/-- ABORT: a run ends as FAILED. -/
def calAbortOp (s : State) : State := if s.cal.run.isSome then calEnd 2 s else s

/-- COMMIT (R401): the set at CAL_SER is checked. -/
def calCommitOp (s : State) : State :=
  if s.calRefused || s.on F.FLS_STAT_PFAIL then s.flag F.CAL_STAT_BADCMD
  else
    let r := serRead Master.unit (s.get F.CAL_SER_BASE) calLen s
    let t := r.2.2
    if r.2.1 || !t.calOk r.1 then t.flag F.CAL_STAT_BADCMD
    else { t with cal := { t.cal with commit := some (r.1.set 4 0x55) } }.puts
      [(F.CAL_STAT_RUNNING, 1), (F.CAL_STAT_RESULT, 0)]

/-- Erase every calibration sector that is not blank. -/
def calErase (s : State) : State :=
  forN 16 (fun i s => if s.flsBlank (4096 * (i + 1)) 4096 && !s.isOpen (i + 1) then s else hwErase (i + 1) s) s

/-- A COMMIT ends (R401): the set is in flash, and the read-back decides. It governs from the return to CONFIGURE. -/
def calCommitDone (bad : List (Nat × Byte)) (s : State) : State :=
  match s.cal.commit with
  | none => s
  | some b =>
    let got := withFaults b bad
    calEnd (if got = b then 1 else 2) (flsPut 0x1000 got (calErase s))

/-- PFAILN during a COMMIT leaves no valid set (R402). -/
def calPfail (s : State) : State := if s.cal.commit.isSome then calEnd 2 (calErase s) else s

/-- CAL_TEMP is updated and compared with the thresholds (R451): THERM_WARN at +105 degrees, again only after less than
+103; THERM_TRIP each time +115 is reached. DEDUCED, log entry 76. -/
def temperatureOp (t : Int) (s : State) : State :=
  let old := s.getS F.CAL_TEMP_TEMP
  let warn := decide (420 ≤ t) && !s.cal.warned
  let s1 := { s.putS F.CAL_TEMP_TEMP t with cal := { s.cal with
    warned := if 420 ≤ t then true else if t < 412 then false else s.cal.warned } }
  (s1.when warn (raiseFault FaultCode.thermWarn 0)).when (decide (old < 460) && decide (460 ≤ t))
    (raiseFault FaultCode.thermTrip 0)

end Sys2Proof.Machine
end

