-- ==== Sys2Proof/Machine/Manifest.lean ====
section
/-!
DEFINITION. The Manifest (03_manifest.md): parsing and checking a body, installing its parts, and scheduled switches.
-/

namespace Sys2Proof.Machine

/-! ## Reading a body -/

/-- A used directory entry. -/
structure DirEntry where
  ty : Nat
  sver : Nat
  count : Nat
  off : Nat
  len : Nat
  crc : Nat

/-- Directory entry `i` of a body. -/
def dirEntry (b : List Byte) (i : Nat) : DirEntry :=
  let e := (b.drop (64 + 16 * i)).take 16
  ⟨numAt e 0 1, numAt e 1 1, numAt e 2 2, numAt e 4 4, numAt e 8 4, numAt e 12 4⟩

/-- Record size of a section type. -/
def recSize (ty : Nat) : Nat := if ty = 4 ∨ ty = 6 then 4 else if ty = 5 ∨ ty = 7 then 8 else 16

/-- Record count of a section type whose own check counts no records: lowest and highest. The counts of BAYS, DROVERS,
LANES and CHANPLAN belong to the checks 0x07 to 0x0A. DESIGN CHOICE, log entry 128. -/
def recRange (ty : Nat) : Nat × Nat :=
  match ty with
  | 1 => (1, 1)
  | 6 => (20, 20)
  | 7 => (0, 64)
  | 8 => (16, 16)
  | _ => (0, 65535)

/-- The used entries of a body. -/
def dirOf (b : List Byte) : List DirEntry := (List.range (min 16 (numAt b 6 2))).map (dirEntry b)

/-- The bytes of a section: its LENGTH bytes. -/
def secBytes (b : List Byte) (e : DirEntry) : List Byte := (b.drop e.off).take e.len

/-- The records of the section of type `ty`, in order. -/
def recsOf (b : List Byte) (ty : Nat) : List (List Byte) :=
  match (dirOf b).find? (·.ty == ty) with
  | none => []
  | some e => (List.range e.count).map fun i => ((secBytes b e).drop (recSize ty * i)).take (recSize ty)

/-- The bytes of a record that its table marks zero are zero (R44). CHANPLAN's belong to check CHAN. -/
def recZeros (ty : Nat) (r : List Byte) : Bool :=
  if ty = 1 then zeroAt r 2 14
  else if ty = 2 then zeroAt r 1 3 && zeroAt r 13 3
  else true

/-! ## The checks (R44, R45), in the order of the table; each answers true where it fails -/

/-- 0x04 DIR. DESIGN CHOICE, log entry 128. -/
def dirBad (b : List Byte) : Bool :=
  let n := numAt b 6 2
  let es := dirOf b
  let spans := es.filter (0 < ·.len)
  n < 8 || 16 < n || b.length < 320 || !zeroAt b 25 39 ||
    (List.range 16).any (fun i => decide (n ≤ i) && !zeroAt b (64 + 16 * i) 16) ||
    es.any (fun e => e.ty == 0 || 8 < e.ty || e.sver != 1 || e.off % 16 != 0 || e.len % 16 != 0 ||
      e.off < 320 || b.length < e.off + e.len || e.count < (recRange e.ty).1 || (recRange e.ty).2 < e.count ||
      e.len != (e.count * recSize e.ty + 15) / 16 * 16 ||
      !zeroAt (secBytes b e) (e.count * recSize e.ty) 16 ||
      ((List.range e.count).any fun i => !recZeros e.ty (((secBytes b e).drop (recSize e.ty * i)).take (recSize e.ty)))) ||
    ((List.range es.length).any fun i => (es.map (·.ty)).idxOf (((es.map (·.ty)).getD i 0)) != i) ||
    ((List.range 8).any fun t => !(es.any (·.ty == t + 1))) ||
    ((List.range spans.length).any fun i => (List.range spans.length).any fun j =>
      match spans[i]?, spans[j]? with
      | some x, some y => i != j && decide (x.off < y.off + y.len) && decide (y.off < x.off + x.len)
      | _, _ => false)

/-- 0x05 CRC: the first section, in order of type, whose CRC does not match. -/
def crcBad (b : List Byte) : Option Nat :=
  (List.range 8).find? fun t => (dirOf b).any fun e => e.ty == t + 1 && e.crc != crc32 (secBytes b e)

/-- The CHIP record. -/
def chipRec (b : List Byte) : List Byte := (recsOf b 1).headD []

/-- The parts of 0x06 SCOPE that need no enumeration. -/
def scopeBadHere (b : List Byte) (s : State) : Bool :=
  s.get F.SYS_ID_PART != 0x0812 || s.get F.SYS_ID_REV < numAt b 24 1 ||
    numAt (chipRec b) 0 1 == 0 || 64 < numAt (chipRec b) 0 1 || 1 < numAt (chipRec b) 1 1 ||
    (numAt (chipRec b) 1 1 == 1 && !s.on F.SYS_STRAP_TANDEM)

/-- The parts of 0x06 SCOPE that need the chip's index and the Caravan's size (R46). -/
def scopeBadRing (b : List Byte) (s : State) : Bool :=
  !bitOf (numAt b 16 8) (s.get F.CAR_STAT_INDEX) || numAt (chipRec b) 0 1 != s.get F.CAR_STAT_SIZE

/-- Bay code, base, size and scrub of the BAYS records. -/
def baysOf (b : List Byte) : List (Nat × Nat × Nat × Nat) :=
  (recsOf b 2).map fun r => (numAt r 0 1, numAt r 4 4, numAt r 8 4, numAt r 12 1)

/-- 0x07 BAYS. -/
def baysBad (b : List Byte) : Bool :=
  let l := baysOf b
  let has := fun c base size => l.any fun r => r.1 == c && r.2.1 == base && r.2.2.1 == size
  ((List.range 8).any fun c => (l.filter (·.1 == c)).length != 1) ||
    l.any (fun r => 7 < r.1 || r.2.2.1 == 0 || 384 < r.2.1 + r.2.2.1) ||
    !has 5 352 16 || !has 6 368 4 || !(l.any fun r => r.1 == 0 && r.2.2.1 == 64) ||
    l.any fun x => l.any fun y => x.1 != y.1 && decide (x.2.1 < y.2.1 + y.2.2.1) && decide (y.2.1 < x.2.1 + x.2.2.1)

/-- A DROVERS record. -/
structure DrvRow where
  n : Nat
  role : Nat
  ord : Nat
  duty : Nat
  image : Nat
  minver : Nat
  handover : Nat

def drvRows (b : List Byte) : List DrvRow :=
  (recsOf b 3).map fun r =>
    ⟨numAt r 0 1, numAt r 1 1, numAt r 2 1, numAt r 3 1, numAt r 4 2, numAt r 8 4, numAt r 12 4⟩

/-- The role a body gives Drover `n`; 0 for a number above 11. -/
def roleIn (b : List Byte) (n : Nat) : Nat := (((drvRows b).find? (·.n == n)).map (·.role)).getD 0

/-- 0x08 ROLES. -/
def rolesBad (b : List Byte) : Bool :=
  let l := drvRows b
  let count := fun r => (l.filter (·.role == r)).length
  let area := (((baysOf b).find? (·.1 == Bay.drover)).map (·.2.2.1)).getD 0 * 65536
  let used := l.filter (·.role != 0)
  ((List.range 12).any fun n => (l.filter (·.n == n)).length != 1) || l.any (fun r => 11 < r.n) ||
    l.any (fun r => 7 < r.role || 15 < r.ord || 3 < r.duty) || count 7 != 1 || 1 < count 5 || 1 < count 6 ||
    (numAt (chipRec b) 1 1 == 1 && count 6 == 0) || l.any (fun r => r.role == 0 && r.duty != 0) ||
    used.any (fun r => r.handover % 4096 != 0 || area < r.handover + 4096) ||
    used.any fun x => used.any fun y => x.n != y.n && x.handover == y.handover

/-- Channel records of CHANPLAN. -/
def planOf (b : List Byte) : List PlanChan :=
  ((recsOf b 5).drop 1).map fun r => ⟨toSigned 16 (numAt r 0 2), numAt r 2 1⟩

/-- Window centre of CHANPLAN in kHz. -/
def centreOf (b : List Byte) : Nat := numAt ((recsOf b 5).headD []) 0 4

/-- LANES records. -/
def lanesOf (b : List Byte) : List LaneWire :=
  (recsOf b 4).map fun r => ⟨numAt r 0 1, numAt r 1 1, numAt r 2 1, numAt r 3 1⟩

/-- 0x09 LANES. -/
def lanesBad (b : List Byte) : Bool :=
  let l := lanesOf b
  let n := (planOf b).length
  let count := fun src chan stream => (l.filter fun r => r.src == src && r.chan == chan && r.stream == stream).length
  l.any (fun r => 2 < r.src || (r.src == 0 && 15 < r.chan) || (r.src == 1 && n ≤ r.chan) || (r.src == 2 && 1 < r.chan) ||
      1 < r.stream || (r.stream == 1 && r.src != 0) || 11 < r.drover ||
      roleIn b r.drover != (if r.src == 2 then 4 else 1)) ||
    ((List.range 16).any fun c => count 0 c 0 != 1 || count 0 c 1 != 1) ||
    ((List.range n).any fun c => count 1 c 0 != 1) || count 2 0 0 != 1 || count 2 1 0 != 1

/-- Half the spacing of a channel in kHz. -/
def halfSpacing (c : PlanChan) : Int := if c.rate = 0 then 100 else 200

/-- 0x0A CHAN. -/
def chanBad (b : List Byte) : Bool :=
  let rs := recsOf b 5
  let r0 := rs.headD []
  let l := planOf b
  let cnt := numAt r0 4 1
  centreOf b < 876000 || 915000 < centreOf b || cnt == 0 || 64 < cnt || cnt + 1 != rs.length || !zeroAt r0 5 3 ||
    (rs.drop 1).any (fun r => !zeroAt r 3 5) ||
    l.any (fun c => 1 < c.rate || decide (c.off - halfSpacing c < -13000) || decide (13000 < c.off + halfSpacing c)) ||
    (List.range l.length).any fun i => (List.range l.length).any fun j =>
      match l[i]?, l[j]? with
      | some x, some y => decide (i < j) && decide (x.off - halfSpacing x < y.off + halfSpacing y) &&
          decide (y.off - halfSpacing y < x.off + halfSpacing x)
      | _, _ => false

/-- 0x0B OWNERS. A mask bit above 11 names no Drover and is taken as role 0. DEDUCED, log entry 87. -/
def ownersBad (b : List Byte) : Bool :=
  let rs := recsOf b 6
  (rs.take 4).any (fun r => (bitsSet 16 (numAt r 0 2)).any fun d => roleIn b d == 0) ||
    (rs.drop 4).any fun r => numAt r 0 1 != 0xFF && roleIn b (numAt r 0 1) == 0

/-- An EVENTS record: channel, producer, consumer, lock. -/
structure RouteRow where
  chan : Nat
  prod : Nat
  cons : Nat
  lock : Bool

def routesOf (b : List Byte) : List RouteRow :=
  (recsOf b 7).map fun r => ⟨numAt r 0 1, numAt r 1 2, numAt r 3 2, bitOf (numAt r 5 1) 0⟩

/-- The route that governs a channel: the later record of two (R422). -/
def routeOf (l : List RouteRow) (c : Nat) : Option RouteRow := (l.filter (·.chan == c)).getLast?

/-- A relay chain from channel `c` comes back to `start` within `fuel` hops. -/
def relayLoop (l : List RouteRow) (start : Nat) : Nat → Nat → Bool
  | 0, _ => false
  | fuel + 1, c =>
    match (routeOf l c).bind fun r => consumerOf r.cons with
    | some (.relay d) => d == start || relayLoop l start fuel d
    | _ => false

/-- 0x0C EVENTS. -/
def eventsBad (b : List Byte) : Bool :=
  let l := routesOf b
  l.any (fun r => 63 < r.chan || !knownProducer r.prod || (consumerOf r.cons).isNone) ||
    l.any fun r => relayLoop l r.chan 65 r.chan

/-- The four words of a SHAPER record. -/
def shaperWords (r : List Byte) : List Nat := (List.range 4).map fun w => numAt r (4 * w) 4

/-- A class record keeps the limits of SHP_CLASS_n and sets no RZ bit. -/
def classOk (n : Nat) (w : List Nat) : Bool :=
  let w0 := w.getD 0 0
  let w1 := w.getD 1 0
  let w2 := w.getD 2 0
  let w3 := w.getD 3 0
  decide (w0 < 2 ^ 26) && decide (w1 < 2 ^ 24) && decide (2048 ≤ w1) &&
    (if n < 8 then decide (bits w2 0 16 ≤ bits w2 16 16) && decide (1 ≤ w3) && decide (w3 < 4096)
     else decide (w2 < 2) && w3 == 0)

/-- 0x0D SHAPER. -/
def shaperBad (b : List Byte) : Bool :=
  (List.range 16).any fun n => !classOk n (shaperWords ((recsOf b 8).getD n []))

/-- 0x01 SIG, as far as the header alone shows it. -/
def manHdrBad (h : List Byte) (s : State) : Bool :=
  !(s.sigOk h && s.hdrOk h && Hdr.cls h == clsM && s.epochOk h)

/-- The range of BODYLEN, which is tested before the body's hash and reported as 0x03 SIZE. -/
def manSizeBad (h : List Byte) : Bool := Hdr.bodyLen h < 64 || 130560 < Hdr.bodyLen h || Hdr.bodyLen h % 16 != 0

/-- What a check of a shadow image answers. -/
inductive ManResult where
  | ok
  | bad (code section_ : Nat)
  /-- the check holds at SCOPE: the chip has no index yet (R46) -/
  | hold
  deriving DecidableEq, Repr

/-- The chip has its index and SIZE from an enumeration (R46, R283). -/
def State.hasIndex (s : State) : Bool := s.get F.CAR_STAT_ROLE != 0 && s.get F.CAR_STAT_SIZE != 0

/-- The checks of R45 in order. -/
def manCheck (h body : List Byte) (s : State) : ManResult :=
  if manHdrBad h s then .bad 1 0
  else if manSizeBad h then .bad 3 0
  else if sha256 body != Hdr.hash h then .bad 1 0
  else if numAt body 0 4 != 0x464D4E43 || numAt body 4 2 != 1 then .bad 2 0
  else if dirBad body then .bad 4 0
  else
    match crcBad body with
    | some t => .bad 5 (t + 1)
    | none =>
      if scopeBadHere body s then .bad 6 1
      else if !s.hasIndex then .hold
      else if scopeBadRing body s then .bad 6 1
      else if baysBad body then .bad 7 2
      else if rolesBad body then .bad 8 3
      else if lanesBad body then .bad 9 4
      else if chanBad body then .bad 0xA 5
      else if ownersBad body then .bad 0xB 6
      else if eventsBad body then .bad 0xC 7
      else if shaperBad body then .bad 0xD 8
      else .ok

/-! ## Installing a Manifest -/

/-- The slot of the shadow Manifest. -/
def State.shadowSlot (s : State) : Nat := 1 - s.get F.MAN_STAT_ACTIVE_SLOT

/-- The header and the body of the image in slot `n`. -/
def State.slotHdr (s : State) (n : Nat) : List Byte := s.bytesAt (slotBase n) 512
def State.slotBody (s : State) (n : Nat) : List Byte :=
  s.bytesAt (slotBase n + 512) (min 130560 (Hdr.bodyLen (s.slotHdr n)))

/-- The header and the body of slot `n` are read, as every read of the Serai is (R197). DEDUCED, log entry 129. -/
def slotRead (n : Nat) (s : State) : State :=
  let s0 := (decodeRange Master.unit (slotBase n) 512 s).2
  (decodeRange Master.unit (slotBase n + 512) (min 130560 (Hdr.bodyLen (s0.slotHdr n))) s0).2

/-- One route of EVENTS becomes standing (R422). -/
def standRoute (r : RouteRow) (s : State) : State :=
  let c := r.chan
  let s1 := if r.lock then s.flag (F.EVT_CH_c_LOCKED c) else s.put (F.EVT_CH_c_LOCKED c) 0
  s1.puts [(F.EVT_CH_c_PROD c, r.prod), (F.EVT_CH_c_CONS c, r.cons), (F.EVT_CH_c_STANDING c, 1), (F.EVT_CH_c_EN c, 1),
    (F.EVT_CH_c_SWEN c, 0)]

/-- Install the EVENTS routes (R422): a channel with a standing route that the section does not name loses it. -/
def installRoutes (l : List RouteRow) (s : State) : State :=
  let s1 := forN 64 (fun c s =>
    if s.on (F.EVT_CH_c_STANDING c) && !(l.any (·.chan == c)) then
      s.puts [(F.EVT_CH_c_STANDING c, 0), (F.EVT_CH_c_PROD c, 0), (F.EVT_CH_c_CONS c, 0), (F.EVT_CH_c_EN c, 0)]
    else s) s
  forAll l standRoute s1

/-- The engine side of a body (R54): DROVERS, OWNERS, seal duties and EVENTS. -/
def installEngine (b : List Byte) (s : State) : State :=
  let rows := drvRows b
  let s1 := forAll (rows.filter (·.n < 12)) (fun r s =>
    s.puts [(F.MAN_DRV_n_ROLE r.n, r.role), (F.MAN_DRV_n_ORD r.n, r.ord), (F.MAN_DRV_n_SEAL r.n, r.duty),
      (F.MAN_DRV_n_IMAGE r.n, r.image)]) s
  let mask := fun k => (((List.range 12).filter fun n =>
    rows.any fun r => r.n == n && bitOf r.duty k).map (2 ^ ·)).sum
  let s2 := s1.puts [(F.TICK_NEEDSEAL_PREP, mask 0), (F.TICK_NEEDSEAL_RETIRE, mask 1)]
  let own := recsOf b 6
  let s3 := forN 16 (fun n s => s.put (F.DMA_n_CFG_OWNER n) (numAt (own.getD (4 + n) []) 0 1)) s2
  let recs := (List.range 12).map fun n =>
    ((rows.find? (·.n == n)).map fun r => DroverRec.mk r.minver r.handover).getD ⟨0, 0⟩
  installRoutes (routesOf b) { s3 with man := { s3.man with
    drovers := recs, ciph := (own.take 4).map fun r => numAt r 0 2 } }

/-- Load the SHAPER table into the class registers (R43, R56). -/
def installShaper (b : List Byte) (s : State) : State :=
  forN 16 (fun n s => forN 4 (fun w s =>
    s.setReg (0xC0040 + 16 * n + 4 * w) (BitVec.ofNat 32 ((shaperWords ((recsOf b 8).getD n [])).getD w 0))) s) s

/-- The air side of a body (R54): LANES, CHANPLAN and SHAPER. -/
def installAir (b : List Byte) (s : State) : State :=
  let m := { s.man with lanes := lanesOf b, plan := planOf b, centre := centreOf b, chipN := numAt (chipRec b) 0 1 }
  installShaper b { s with man := m }

/-- Show the BAYS section. Scrub enable is bit 0 of byte 12 (DESIGN CHOICE, log entry 122). -/
def installBays (b : List Byte) (s : State) : State :=
  forAll (baysOf b) (fun r s => s.puts [(F.MAN_BAY_n_BASE r.1, r.2.1), (F.MAN_BAY_n_SIZE r.1, r.2.2.1),
    (F.MAN_BAY_n_SCRUB r.1, b2n (bitOf r.2.2.2 0))]) s

/-- Zero granules with valid check bits over the `n` bytes from `off` (R49). -/
def zeroRange (off n : Nat) (s : State) : State :=
  let out := fun k => !(decide (off ≤ k) && decide (k < off + n))
  { s with ser := { s.ser with
    mem := s.ser.mem.filter fun p => out p.1
    poison := s.ser.poison.filter fun g => out (16 * g)
    errs := s.ser.errs.filter fun p => out (16 * p.1) } }

/-- Zero the bays whose place the new body changes (R49). -/
def zeroBays (b : List Byte) (s : State) : State :=
  forAll ((baysOf b).filter fun r => r.1 != Bay.log && r.1 != Bay.manifest) (fun r s =>
    if s.get (F.MAN_BAY_n_BASE r.1) = r.2.1 ∧ s.get (F.MAN_BAY_n_SIZE r.1) = r.2.2.1 then s
    else zeroRange (r.2.1 * 65536) (r.2.2.1 * 65536) s) s

/-- The two slots exchange their roles; the former active Manifest becomes the shadow. -/
def exchangeSlots (mid : Nat) (s : State) : State :=
  let had := s.on F.MAN_STAT_ACTIVE_VALID
  s.puts [(F.MAN_STAT_SHADOW, if had then 2 else 0), (F.MAN_SHADOW_ID_MID, if had then s.get F.MAN_ACTIVE_ID_MID else 0),
    (F.MAN_ACTIVE_ID_MID, mid), (F.MAN_STAT_ACTIVE_SLOT, s.shadowSlot), (F.MAN_STAT_ACTIVE_VALID, 1)]

/-! ## Loading and activation (R45 to R49) -/

/-- MAN_LOAD.CHECK. -/
def manCheckOp (s : State) : State :=
  if s.get F.MAN_STAT_SHADOW = 1 ∨ s.on F.MAN_STAT_ARMED then s.flag F.MAN_ERR_BUSY
  else { s with man := { s.man with atScope := false } }.put F.MAN_STAT_SHADOW 1

/-- The check of the shadow slot ends, or holds at SCOPE. A REFUSED shadow shows no MID (DESIGN CHOICE, log entry 123).
DEDUCED, log entry 85. DEDUCED, log entry 87. -/
def manCheckDoneOp (s : State) : State :=
  if s.get F.MAN_STAT_SHADOW ≠ 1 then s
  else
    let n := s.shadowSlot
    let s1 := slotRead n s
    match manCheck (s1.slotHdr n) (s1.slotBody n) s1 with
    | .hold => { s1 with man := { s1.man with atScope := true } }
    | .ok => s1.puts [(F.MAN_STAT_SHADOW, 2), (F.MAN_SHADOW_ID_MID, numAt (s1.slotBody n) 8 4)]
    | .bad code sec => s1.puts [(F.MAN_STAT_SHADOW, 3), (F.MAN_ERR_CODE, code), (F.MAN_ERR_SECTION, sec),
        (F.MAN_SHADOW_ID_MID, 0)]

/-- MAN_LOAD.DISCARD. -/
def manDiscardOp (s : State) : State :=
  if s.get F.MAN_STAT_SHADOW = 1 ∨ s.on F.MAN_STAT_ARMED then s.flag F.MAN_ERR_BUSY
  else s.puts [(F.MAN_STAT_SHADOW, 0), (F.MAN_SHADOW_ID_MID, 0)]

/-- MAN_LOAD.ACTIVATE (R49): the Drovers that the Manifest gives a role start (R208). DEDUCED, log entry 129. -/
def manActivateOp (s : State) : State :=
  if s.mode ≠ Mode.configure ∨ s.get F.MAN_STAT_SHADOW ≠ 2 then s.flag F.MAN_ERR_BADSTATE
  else
    let s0 := slotRead s.shadowSlot s
    let body := s0.slotBody s.shadowSlot
    let s1 := s0.when (s.on F.MAN_STAT_ACTIVE_VALID) (zeroBays body)
    let s2 := exchangeSlots (numAt body 8 4) (installAir body (installEngine body (installBays body s1)))
    forDrovers holdOrStart s2

/-! ## Switching a running system (R50 to R57) -/

/-- The shadow's BAYS section is byte for byte the active one's (R51). -/
def sameBays (a b : List Byte) : Bool :=
  match (dirOf a).find? (·.ty == 2), (dirOf b).find? (·.ty == 2) with
  | some x, some y => secBytes a x == secBytes b y
  | _, _ => false

/-- Some bank of Drover `n` holds the image a row requires, at its minimum version or above (R51). -/
def rowImage (r : DrvRow) (s : State) : Bool :=
  r.role == 0 || [0, 1].any fun b => s.on (F.DRV_n_IMG_b_VALID r.n b) && s.get (F.DRV_n_IMG_b_ID r.n b) == r.image &&
    decide (r.minver ≤ s.get (F.DRV_n_IMG_b_VERSION r.n b))

/-- Judge readiness (R51, R369) and show it in MAN_STAT.READY; a failure of the layout or of an image is named, and so is
a shadow that is not VERIFIED, as LAYOUT. DEDUCED, log entry 85. DEDUCED, log entry 129. -/
def judgeReady (s : State) : State :=
  let s0 := s.put F.MAN_STAT_READY 0
  if !s.on F.MAN_STAT_ARMED then s0
  else if s.get F.MAN_STAT_SHADOW ≠ 2 then s0.puts [(F.MAN_ERR_CODE, 0x0E), (F.MAN_ERR_SECTION, 0)]
  else
    let t := slotRead s.shadowSlot (slotRead (s.get F.MAN_STAT_ACTIVE_SLOT) s0)
    let body := t.slotBody s.shadowSlot
    if !sameBays (t.slotBody (s.get F.MAN_STAT_ACTIVE_SLOT)) body || !s.on F.MAN_STAT_ACTIVE_VALID then
      t.puts [(F.MAN_ERR_CODE, 0x0E), (F.MAN_ERR_SECTION, 2)]
    else if (drvRows body).any fun r => !rowImage r t then t.puts [(F.MAN_ERR_CODE, 0x0F), (F.MAN_ERR_SECTION, 3)]
    else if t.updCond ≠ 0 then t
    else t.put F.MAN_STAT_READY 1

/-- The lead broadcasts (R293). DEDUCED, log entry 153. -/
def broadcast (b : Bcast) (s : State) : State := (s.sendAll (.bcast b)).inc (F.CAR_CNT_k_COUNT 3)

/-- The arming reaches this chip. -/
def manArmed (t : Nat) (s : State) : State :=
  let s1 := s.puts [(F.MAN_STAT_GO, 0), (F.MAN_STAT_NEXT, 0), (F.MAN_STAT_ARMED, 1), (F.MAN_SWITCH_SFN_SFN, t)]
  judgeReady { s1 with man := { s1.man with armT := t, barOk := false, armAge := 0 } }

/-- An armed switch is cancelled on this chip (R57, R76). -/
def manCancel (cause missing : Nat) (s : State) : State :=
  if !s.on F.MAN_STAT_ARMED then s
  else
    let s1 := s.puts [(F.MAN_STAT_ARMED, 0), (F.MAN_STAT_GO, 0), (F.MAN_STAT_READY, 0), (F.MAN_STAT_NEXT, 0),
      (F.MAN_STAT_CANCELLED, 1), (F.MAN_SWITCH_STAT_CAUSE, cause), (F.MAN_SWITCH_STAT_MISSING, missing)]
    let s2 := s1.when (cause == 4 && s.on F.CAR_STAT_ISOLATED) (·.flag F.CAR_REJOIN_NOGO)
    raiseVector 21 (sfUntie { s2 with man := { s2.man with barOk := false } })

/-- A mode change cancels an armed switch whose engine side has not switched (R57, cause MODE). -/
def manModeCancel (s : State) : State :=
  if s.on F.MAN_STAT_NEXT then s else manCancel 3 (s.get F.MAN_SWITCH_STAT_MISSING) s

/-- MAN_SWITCH.ARM, effective on the lead (R50, R369). -/
def manSwitchArmOp (s : State) : State :=
  if !s.isLead then s
  else if !switchMode s.mode || s.on F.MAN_STAT_ARMED || s.updCond != 0 then s.flag F.MAN_ERR_BADSTATE
  else
    let t := s.get F.MAN_SWITCH_SFN_SFN
    if ahead t s < 4 || 2 ^ 31 ≤ ahead t s then s.flag F.MAN_ERR_TOOSOON
    else broadcast (.arm t) (manArmed t s)

/-- MAN_SWITCH.CANCEL, effective on the lead up to the tick that starts T - 2 (R53); with no switch armed it does nothing
(DESIGN CHOICE, log entry 120). -/
def manSwitchCancelOp (s : State) : State :=
  if !s.isLead || !s.on F.MAN_STAT_ARMED then s
  else if s.on F.MAN_STAT_GO || ahead s.man.armT s ≤ 2 then s.flag F.MAN_ERR_COMMITTED
  else
    let m := s.get F.MAN_SWITCH_STAT_MISSING
    broadcast (.cancel 1 m) (manCancel 1 m s)

/-- The chips enumerated. -/
def State.ringMask (s : State) : Nat := 2 ^ s.get F.CAR_STAT_SIZE - 1

/-- Close a barrier with the chips that answered ready (R52). -/
def barrierClose (ready : Nat) (s : State) : State :=
  let s1 := s.puts [(F.MAN_READY_LO_READY, ready % 2 ^ 32), (F.MAN_READY_HI_READY, ready / 2 ^ 32)]
  let s2 := s1.when (ready != s.ringMask) (·.inc (F.CAR_CNT_k_COUNT 4))
  { s2 with man := { s2.man with barOk := s2.man.barOk || ready == s.ringMask }, car := { s2.car with barrier := none } }

/-- Open a readiness barrier (R52, R293): the lead's own answer counts at once; a lone chip's barrier closes at once. -/
def barrierOpen (s : State) : State :=
  let s1 := judgeReady s
  let own := 2 ^ s1.get F.CAR_STAT_INDEX
  let ready := if s1.on F.MAN_STAT_READY then own else 0
  if s1.get F.CAR_STAT_SIZE ≤ 1 then barrierClose ready s1
  else { s1 with car := { s1.car with barrier := some (own, ready, s1.tally.clock) } }.sendAll .barq

/-- The lowest chip index that the last barrier lacked. -/
def State.missing (s : State) : Nat :=
  let r := s.get F.MAN_READY_LO_READY + 2 ^ 32 * s.get F.MAN_READY_HI_READY
  ((List.range (s.get F.CAR_STAT_SIZE)).find? fun i => !bitOf r i).getD 0

/-- GO or CANCEL at the tick that starts T - 2 (R52). A barrier that succeeded under a former lead does not count for a
chip that became the lead since (DESIGN CHOICE, log entry 124). -/
def manDecide (s : State) : State :=
  if s.man.barOk then broadcast .go (s.flag F.MAN_STAT_GO)
  else broadcast (.cancel 2 s.missing) (manCancel 2 s.missing s)

/-- The engine side of the switch (R54, R221). -/
def engineSide (s : State) : State :=
  let t := slotRead s.shadowSlot s
  forDrovers switchDrover ((installEngine (t.slotBody s.shadowSlot) t).flag F.MAN_STAT_NEXT)

/-- The air side of the switch (R54 to R56), the tokens apart: the sub-GHz oscillators retune where the centre changes. -/
def airSide (s : State) : State :=
  let t := slotRead s.shadowSlot s
  let body := t.slotBody s.shadowSlot
  let s1 := exchangeSlots (numAt body 8 4) (installAir body t)
  let s2 := s1.puts [(F.MAN_STAT_ARMED, 0), (F.MAN_STAT_GO, 0), (F.MAN_STAT_READY, 0), (F.MAN_STAT_NEXT, 0),
    (F.MAN_STAT_SWITCHED, 1)]
  raiseVector 21 (if s2.man.centre = s.man.centre then s2
    else { s2 with sf := { s2.sf with retune := true, blank := s2.tally.clock + 1280 } })

/-- The air side of the switch falls at this tick. -/
def State.airSwitchDue (s : State) : Bool :=
  s.on F.MAN_STAT_ARMED && s.on F.MAN_STAT_NEXT && s.tally.slot == 0 && ahead s.man.armT s == 0

/-- What a tick does with an armed switch before its air side: barriers and the decision on the lead, NOGO, and the engine
side. -/
def manTick (s : State) : State :=
  if !s.on F.MAN_STAT_ARMED then s
  else
    let n := ahead s.man.armT s
    let s1 :=
      if s.tally.slot = 0 && s.isLead then
        if n = 2 then manDecide s
        else if 3 ≤ n ∧ n < 2 ^ 31 then barrierOpen s
        else s
      else s
    if !s1.on F.MAN_STAT_ARMED then s1
    else if !s1.on F.MAN_STAT_GO then
      if n = 1 ∧ s1.tally.slot = 0 then manCancel 4 (s1.get F.MAN_SWITCH_STAT_MISSING) s1 else s1
    else if n = 1 ∧ s1.tally.slot + 1 = s1.sfLen ∧ !s1.on F.MAN_STAT_NEXT then engineSide s1
    else s1

end Sys2Proof.Machine
end

