-- ==== Sys2Proof/Machine/Frx.lean ====
section
/-!
DEFINITION. The field receivers (05_field_receive.md, R85 to R111, R459): gain, the receive programme, pairing, reception
and delivery.
-/

namespace Sys2Proof.Machine

/-! ## Bands and ports -/

/-- The modes in which the field receivers run (R85). -/
def rxMode (m : Nat) : Bool := decide (Mode.listen ≤ m) && decide (m ≤ Mode.takeover)

/-- The band is enabled. -/
def State.bandOn (s : State) (sub : Bool) : Bool := if sub then s.on F.FRX_CTL_ENSG else s.on F.FRX_CTL_EN24

/-- The receivers of a band demodulate. -/
def State.rxOn (s : State) (sub : Bool) : Bool := rxMode s.mode && s.bandOn sub

/-- The enabled ports of a band, as a mask of 8. -/
def State.portMask (s : State) (sub : Bool) : Nat := if sub then s.get F.FRX_PORTEN_ENSG else s.get F.FRX_PORTEN_EN24

/-- A band's receive state field. -/
def lnaField (sub : Bool) : Field := if sub then F.FRX_STAT_LNASG else F.FRX_STAT_LNA24

/-- A band's gain control register, field by field. -/
def agcAuto (sub : Bool) : Field := if sub then F.FRX_AGCSG_AUTO else F.FRX_AGC24_AUTO
def agcGain (sub : Bool) : Field := if sub then F.FRX_AGCSG_FIXGAIN else F.FRX_AGC24_FIXGAIN
def agcLna (sub : Bool) : Field := if sub then F.FRX_AGCSG_FIXLNA else F.FRX_AGC24_FIXLNA
def agcTarget (sub : Bool) : Field := if sub then F.FRX_AGCSG_TARGET else F.FRX_AGC24_TARGET
def agcClip (sub : Bool) : Field := if sub then F.FRX_AGCSG_CLIPMAX else F.FRX_AGC24_CLIPMAX

/-- The band of a port. -/
def portSub (p : Nat) : Bool := decide (8 ≤ p)

/-- Port `p` is enabled. -/
def State.portOn (s : State) (p : Nat) : Bool := bitOf (s.portMask (portSub p)) (p % 8)

/-- A frame of the band is in reception. -/
def State.receiving (s : State) (sub : Bool) : Bool := s.frx.rxs.any fun r => decide (r.src = 1) == sub

/-- Mark GAINSTEP on every frame of the band in reception (R89, R90). -/
def markGain (sub : Bool) (s : State) : State :=
  { s with frx := { s.frx with rxs := s.frx.rxs.map fun r => if decide (r.src = 1) == sub then { r with gainstep := true } else r } }

/-! ## Complex correlations (R98, R100) -/

/-- Ports' I and Q from 32 bytes. -/
def weights (bs : List Byte) : List (Int × Int) :=
  (List.range 8).map fun p => (toSigned 16 (numAt bs (4 * p) 2), toSigned 16 (numAt bs (4 * p + 2) 2))

/-- Sum over the enabled ports. -/
def portSum (mask : Nat) (f : Nat → Int) : Int := ((bitsSet 8 mask).map f).sum

/-- Squared magnitude of Σ w1 × conj(w2) over the enabled ports. -/
def corrSq (mask : Nat) (a b : List (Int × Int)) : Int :=
  let re := portSum mask fun p => (a.getD p (0, 0)).1 * (b.getD p (0, 0)).1 + (a.getD p (0, 0)).2 * (b.getD p (0, 0)).2
  let im := portSum mask fun p => (a.getD p (0, 0)).2 * (b.getD p (0, 0)).1 - (a.getD p (0, 0)).1 * (b.getD p (0, 0)).2
  re * re + im * im

/-- Squared norm over the enabled ports. -/
def normSq (mask : Nat) (a : List (Int × Int)) : Int := portSum mask fun p => (a.getD p (0, 0)).1 ^ 2 + (a.getD p (0, 0)).2 ^ 2

/-- ρ × 256 is at most `lim`, exactly; a zero norm fails (R100). -/
def corrOk (mask lim : Nat) (a b : List (Int × Int)) : Bool :=
  let n := normSq mask a * normSq mask b
  n != 0 && decide (corrSq mask a b * 65536 ≤ lim * lim * n)

/-! ## The receive programme (R97, R100, R101) -/

/-- One entry of the programme as its 48 bytes give it. -/
def rxEntry (e : List Byte) : RxEntry :=
  ⟨numAt e 0 2, decide (bits (numAt e 2 1) 6 2 = 1), bits (numAt e 2 1) 0 6, bitOf (numAt e 3 1) 0, bitOf (numAt e 3 1) 1,
    numAt e 4 4, numAt e 8 4, numAt e 12 2, toSigned 16 (numAt e 14 2), weights (e.drop 16)⟩

/-- The entry is ignored by itself: its channel is not in its band's hop list, or its NODE is out of range. -/
def entryBad (e : List Byte) (s : State) : Bool :=
  let band := bits (numAt e 2 1) 6 2
  1 < band || !((s.hop (band == 1)).contains (bits (numAt e 2 1) 0 6)) || 16383 < numAt e 0 2

/-- Two entries name one channel. -/
def sameChan (a b : RxEntry) : Bool := a.sub == b.sub && a.chan == b.chan

/-- The reason for which a pairing request is refused (R100), the first that fails; none where it is honoured. DEDUCED,
log entry 83. -/
def pairRefusal (a b : RxEntry) (s : State) : Option Nat :=
  let mask := s.portMask false
  let mp := s.get F.FRX_PAIR_MINPORTS
  if a.sub then some 0
  else if !(a.pair && b.pair && a.wvalid && b.wvalid) then some 1
  else if s.get F.FRX_PAIR_AGEMAX < max a.age b.age then some 2
  else if 4 * s.get F.FRX_PAIR_DPMAX < (a.exp - b.exp).natAbs then some 3
  else if !corrOk mask (s.get F.FRX_PAIR_RHOMAX) a.w b.w then some 4
  else if popcount 8 mask < (if 2 ≤ mp ∧ mp ≤ 8 then mp else 8) then some 5
  else none

/-- Decide the pairing requests of a programme, in the order of their first entries. DEDUCED, log entry 83. -/
def decidePairs : List RxEntry → List RxEntry → State → State
  | [], _, s => s
  | a :: rest, all, s =>
    match rest.find? (sameChan a) with
    | none => decidePairs rest all s
    | some b =>
      if !(a.pair || b.pair) then decidePairs rest all s
      else
        match pairRefusal a b s with
        | none =>
          let s1 := s.inc F.FRX_CNT_PAIR_PAIRED
          decidePairs rest all { s1 with frx := { s1.frx with pairs := a.chan :: s1.frx.pairs } }
        | some r => decidePairs rest all ((s.inc F.FRX_CNT_PAIR_REFUSED).inc (F.FRX_CNT_PAIRREF_r_COUNT r))

/-- Apply the slot's receive programme (R97, R456): the entries used, PROGBAD, and the pairing decisions. A programme that
reads poison is not applied (DEDUCED, log entry 22). DEDUCED, log entry 83. -/
def rxProgramme (s : State) : State :=
  let s0 := { s with frx := { s.frx with prog := [], pairs := [], prog1 := s.frx.prog, pairs1 := s.frx.pairs } }
  match s.rxp with
  | none => s0
  | some p =>
    let n := min 96 p.count
    let r := serRead Master.radio p.base (48 * n) s0
    if r.2.1 then r.2.2
    else
      let raw := (List.range n).map fun i => (r.1.drop (48 * i)).take 48
      let used := raw.filter fun e => numAt e 0 2 != 0xFFFF
      let good := (used.filter fun e => !entryBad e r.2.2).map rxEntry
      let keep := good.filter fun e => (good.filter (sameChan e)).length < 3
      let s1 := r.2.2.when (keep.length != used.length) (·.flag F.FRX_STAT_PROGBAD)
      decidePairs keep keep { s1 with frx := { s1.frx with prog := keep } }

/-! ## Gain control (R88 to R91) -/

/-- Clips and power of a port as R88 counts them (R122). -/
def State.portSeen (s : State) (i : PortIn) : Nat × Int :=
  if s.on F.FTX_CTL_AGCMASK then (i.clip, i.power) else (i.clipAll, i.powerAll)

/-- The clipping condition of R88 at port `p`. -/
def State.clips (s : State) (p : Nat) (i : PortIn) : Bool := decide (s.get (agcClip (portSub p)) < (s.portSeen i).1)

/-- A port's gain after a slot (R88), or the fixed gain. -/
def newGain (p : Nat) (i : PortIn) (s : State) : Nat :=
  let g := s.get (F.FRX_GAIN_p_GAIN p)
  if !s.on (agcAuto (portSub p)) then s.get (agcGain (portSub p))
  else if s.clips p i then g - 3
  else if (s.portSeen i).1 = 0 ∧ (s.portSeen i).2 < -(4 * (s.get (agcTarget (portSub p)) : Int)) - 24 then min 15 (g + 1)
  else g

/-- Change a band's LNA at a tick where no frame of it is in reception, or at the 16th tick (R90). -/
def lnaStep (sub : Bool) (want : Option Nat) (s : State) : State :=
  let cur := s.get (lnaField sub)
  let old := if sub then s.frx.lna1 else s.frx.lna0
  let store := fun (v : Option (Nat × Nat)) (s : State) =>
    if sub then { s with frx := { s.frx with lna1 := v } } else { s with frx := { s.frx with lna0 := v } }
  let goal := match want with
    | some w => some w
    | none => old.map (·.1)
  match goal with
  | none => s
  | some w =>
    let waited := match old with
      | some o => if o.1 = w then o.2 + 1 else 1
      | none => 1
    if w = cur then store none s
    else if !s.receiving sub then store none (s.put (lnaField sub) w)
    else if 16 ≤ waited then markGain sub (store none (s.put (lnaField sub) w))
    else store (some (w, waited)) s

/-- The gain control of one band at a tick (R88, R90). A port has held its gain through the slot just ended where it still
has it at the tick, since a gain rises at a tick alone. -/
def agcBand (sub : Bool) (ports : List PortIn) (s : State) : State :=
  let ps := ((List.range 8).map (· + if sub then 8 else 0)).filter s.portOn
  let inp := fun p => ports.getD p ⟨0, 0, 0, 0, 0⟩
  let auto := s.on (agcAuto sub)
  let drop := ps.any fun p => s.get (F.FRX_GAIN_p_GAIN p) == 0 && s.clips p (inp p)
  let s1 := forAll ps (fun p t => t.put (F.FRX_GAIN_p_GAIN p) (newGain p (inp p) s)) s
  let all := !ps.isEmpty && ps.all fun p => decide (12 ≤ s.get (F.FRX_GAIN_p_GAIN p))
  let hi := if all then (if sub then s.frx.hi1 else s.frx.hi0) + 1 else 0
  let s2 := if sub then { s1 with frx := { s1.frx with hi1 := hi } } else { s1 with frx := { s1.frx with hi0 := hi } }
  let want := if !auto then some (if s.on (agcLna sub) then 2 else 1)
    else if drop && s.get (lnaField sub) == 1 then some 2
    else if 256 ≤ hi ∧ s.get (lnaField sub) = 2 then some 1
    else none
  lnaStep sub want s2

/-- Twice the median of a list of powers, given in rising order. -/
def median2 (l : List Int) : Int :=
  let n := l.length
  if n % 2 = 1 then 2 * l.getD (n / 2) 0 else l.getD (n / 2 - 1) 0 + l.getD (n / 2) 0

/-- Put a power in its place of a rising list. -/
def insPower (x : Int) : List Int → List Int
  | [] => [x]
  | a :: t => if a ≤ x then a :: insPower x t else x :: a :: t

/-- Exclude the ports of a band that lie more than 12 dB off the median of the enabled ports (R91). -/
def excludeBand (sub : Bool) (ports : List PortIn) (s : State) : State :=
  let ps := ((List.range 8).map (· + if sub then 8 else 0)).filter s.portOn
  let pow := fun p => (ports.getD p ⟨0, 0, 0, 0, 0⟩).mean16
  let med := median2 ((ps.map pow).foldl (fun l x => insPower x l) [])
  let out := ps.filter fun p => decide (16 ≤ s.frx.run.getD p 0) && decide (96 < (2 * pow p - med).natAbs)
  forAll out (fun p s =>
    if sub then (s.bitOff F.FRX_PORTEN_ENSG (p % 8)).bitOn F.FRX_STAT_EXCLSG (p % 8)
    else (s.bitOff F.FRX_PORTEN_EN24 (p % 8)).bitOn F.FRX_STAT_EXCL24 (p % 8)) s

/-- Count the consecutive slots each port has been enabled. -/
def countPorts (s : State) : State :=
  { s with frx := { s.frx with run := (List.range 16).map fun p => if s.portOn p then min 16 (s.frx.run.getD p 0 + 1) else 0 } }

/-- The external gain of a band in its present LNA state (R104), in quarter dB. DEDUCED, log entry 131. -/
def State.extGain (s : State) (sub : Bool) : Int :=
  if s.get (lnaField sub) = 2 then s.getS (if sub then F.FRX_EXTSG_GAINLO else F.FRX_EXT24_GAINLO)
  else s.getS (if sub then F.FRX_EXTSG_GAINHI else F.FRX_EXT24_GAINHI)

/-- The RSSI offset of a port in its band's present LNA state: section 4 of the calibration set in force. DEDUCED, log
entry 131. -/
def State.rssiOffset (s : State) (sub : Bool) (p : Nat) : Int :=
  toSigned 16 (numAt s.cal.cur (0x1D20 + 4 * (p + if sub then 8 else 0) + if s.get (lnaField sub) = 2 then 2 else 0) 2)

/-- A mean power at the pins of the ports of a mask, in quarter dBm, referred to the antenna: corrected by the mean of
their RSSI offsets, to the nearest quarter dB, and less the external gain (R104). DEDUCED, log entry 131. -/
def State.atAntenna (s : State) (sub : Bool) (mask : Nat) (v : Int) : Int :=
  let ps := bitsSet 8 mask
  let n : Int := max 1 ps.length
  satSigned 16 (v + (2 * (ps.map (s.rssiOffset sub)).sum + n) / (2 * n) - s.extGain sub)

/-- Channel `c` of FRX_CHPWR belongs to the sub-GHz band. -/
def chpSub (c : Nat) : Bool := decide (16 ≤ c)

/-- Latch the channel powers (R107), given at the pins of the enabled ports and referred to the antenna as in R104. -/
def chpwrLatch (l : List (Int × Int)) (s : State) : State :=
  forN 80 (fun c s =>
    let sub := chpSub c
    let at_ := fun v : Int => if s.rxOn sub && decide (c < l.length) then s.atAntenna sub (s.portMask sub) v else -32768
    let v := l.getD c (0, 0)
    (s.putS (F.FRX_CHPWR_c_MEAN c) (at_ v.1)).putS (F.FRX_CHPWR_c_PEAK c) (at_ v.2)) s

/-- What the receivers do with the measurements of the slot just ended. -/
def frxMeasure (i : TickIn) (s : State) : State :=
  if rxMode s.mode then
    let s0 := countPorts (chpwrLatch i.chpwr s)
    let s1 := [false, true].foldl (fun s b => if s.bandOn b then agcBand b i.ports s else s) s0
    [false, true].foldl (fun s b => if s.bandOn b then excludeBand b i.ports s else s) s1
  else chpwrLatch [] s

/-! ## Reception (R94 to R103) -/

/-- Clock of the tick that began the slot now running. -/
def State.tickClock (s : State) : Nat := s.tally.clock - s.tally.pos

/-- Quarter grains of the slot before the one now running. -/
def State.prevLen (s : State) : Nat := s.ftx.tick0 - s.ftx.tick1

/-- The instant `lag` quarter grains ago: ASN and quarter grain of its slot, this one or the one before (R106). -/
def State.ago (s : State) (lag : Nat) : Nat × Nat :=
  if lag ≤ s.tally.pos then (s.tally.asn, s.tally.pos - lag)
  else ((s.tally.asn + 2 ^ 40 - 1) % 2 ^ 40, s.tally.pos + s.prevLen - lag)

/-- The slot of an instant that `ago` gives: the clock of its tick, and its length in quarter grains. -/
def State.slotOf (s : State) (t : Nat × Nat) : Nat × Nat :=
  if t.1 = s.tally.asn then (s.tickClock, 4 * s.slotLen) else (s.tickClock - s.prevLen, s.prevLen)

/-- The slot timestamp of an instant. -/
def stampOf (t : Nat × Nat) : Nat := t.1 % 2 ^ 12 * 2 ^ 20 + t.2 % 2 ^ 20

/-- SHR airtime in grains (the receive programme). -/
def shrAir (phy : Nat) : Nat := if phy = 0 then 1280 else 10 * octet phy

/-- The antenna delay of a band in quarter grains (R106). -/
def State.rxDelay (s : State) (sub : Bool) : Nat := if sub then s.get F.FRX_EXTSG_DLY else s.get F.FRX_EXT24_DLY

/-- A ranks above B among matching entries (R98): valid weights first, then the better correlation with the estimate. -/
def outranks (mask : Nat) (h : List (Int × Int)) (a b : RxEntry) : Bool :=
  (a.wvalid && !b.wvalid) || (a.wvalid && b.wvalid &&
    decide (corrSq mask b.w h * normSq mask a.w < corrSq mask a.w h * normSq mask b.w))

/-- The programme entry that a frame is attributed to (R98). -/
def matchEntry (mask : Nat) (h : List (Int × Int)) : List RxEntry → Option RxEntry
  | [] => none
  | e :: es =>
    match matchEntry mask h es with
    | none => some e
    | some b => if outranks mask h b e then some b else some e

/-- The entries whose window holds a nominal SHR start at clock `start` (R98), by the programme of the slot before and of
this one: a window counts from the tick of its own slot, whichever slot the start lies in. -/
def State.windows (s : State) (sub : Bool) (chan start : Nat) : List RxEntry :=
  let holds (t : Nat) (e : RxEntry) : Bool := e.sub == sub && e.chan == chan && decide (t + 4 * e.wopen ≤ start) &&
    decide (start < t + 4 * e.wclose + 4)
  s.frx.prog1.filter (holds (s.tickClock - s.prevLen)) ++ s.frx.prog.filter (holds s.tickClock)

/-- The pairing of a 2.4 GHz channel is honoured in the slot of ASN `asn`, this one or the one before (R101). -/
def State.pairedAt (s : State) (asn chan : Nat) : Bool :=
  (if asn = s.tally.asn then s.frx.pairs else s.frx.pairs1).contains chan

/-- A sub-GHz frame that began before a retune's blank ended keeps at least 4 of its 8 preamble octets after grain 320
(R93). -/
def State.preambleLeft (s : State) (phy start : Nat) : Bool := decide (s.sf.blank ≤ start + 16 * octet phy)

/-- The channel exists and its receive stream runs. -/
def State.chanRuns (s : State) (sub : Bool) (chan : Nat) : Bool :=
  s.rxOn sub && (if sub then decide (chan < min 64 s.man.plan.length) && !s.sf.retune else decide (chan < 16))

/-- A stream holds a frame. -/
def State.held (s : State) (src chan stream : Nat) : Option Rx :=
  s.frx.rxs.find? fun r => r.src == src && r.chan == chan && r.stream == stream

/-- The stream that takes a new SHR that started at clock `start` in the slot of ASN `asn` (R94, R95, R102, R103); none
where no stream does. -/
def State.freeStream (s : State) (src chan asn start : Nat) (h : List (Int × Int)) : Option Nat :=
  match s.held src chan 0 with
  | none => some 0
  | some r =>
    if src = 1 ∨ (s.held src chan 1).isSome then none
    else if s.pairedAt asn chan then some 1
    else
      if s.on F.FRX_CTL_LATE && decide (r.tick + r.q + 512 ≤ start) &&
          corrOk (s.portMask false) (s.get F.FRX_PAIR_RHOMAX) (weights r.chest) h then some 1
      else none

/-- A stream acquires a frame's SHR: `lag` quarter grains have passed at the pin since its nominal start. A frame whose
preamble a retune blanked is never detected (R93). -/
def shrDetect (src chan lag : Nat) (chest : List Byte) (s : State) : State :=
  let sub := decide (src = 1)
  let t := s.ago (lag + s.rxDelay sub)
  let slot := s.slotOf t
  let start := slot.1 + t.2
  let phy := s.phyOf sub chan
  if !s.chanRuns sub chan || (sub && !s.preambleLeft phy start) then s
  else
    let h := weights chest
    match s.freeStream src chan t.1 start h with
    | none => s.inc (F.FRX_CNT_DROP_k_COUNT 4)
    | some k =>
      let m := matchEntry (s.portMask sub) h (s.windows sub chan start)
      let r : Rx := {
        src := src, chan := chan, stream := k, asn := t.1, q := t.2, tick := slot.1, slen := slot.2, phy := phy,
        node := (m.map (·.node)).getD 0xFFFF,
        inwin := m.isSome, paired := !sub && s.pairedAt t.1 chan, gainstep := false, ports := s.portMask sub,
        chest := chest.take 32, phr := none, pool := 0, buf := 0, rssi := 0, cfo := 0, early := false }
      { s with frx := { s.frx with rxs := s.frx.rxs ++ [r] } }

/-- The PSDU length and whether the PHR is good (R94, R95). -/
def phrLen (phy phr : Nat) : Nat := if phy = 0 then bits phr 0 7 else bits phr 0 11

/-- `n` bytes of the PN9 sequence from its register of nine bits, first bit lowest (PRESUMED from IEEE 802.15.4, log entry
133). -/
def pn9 : Nat → Nat → List Byte
  | 0, _ => []
  | n + 1, r =>
    let a := (List.range 8).foldl (fun (a : Nat × Nat) i =>
      let b := (a.1 / 256 + a.1 / 8) % 2
      ((2 * a.1 + b) % 512, a.2 + b * 2 ^ i)) (r, 0)
    BitVec.ofNat 8 a.2 :: pn9 n a.1

/-- Whiten a PSDU, or take its whitening off (R95, R113). PRESUMED, log entry 133. -/
def whiten (p : List Byte) : List Byte := List.zipWith (· ^^^ ·) p (pn9 p.length 511)

/-- A PHR's data-whitening bit is 1. -/
def phrWhite (phy phr : Nat) : Bool := phy != 0 && bitOf phr 11

/-- Bytes of the FCS of a frame. -/
def fcsLen (phy phr : Nat) : Nat := if phy = 0 then 2 else if bitOf phr 12 then 2 else 4

def phrGood (phy phr : Nat) : Bool :=
  if phy = 0 then decide (5 ≤ phrLen phy phr) else !bitOf phr 15 && decide (fcsLen phy phr < phrLen phy phr)

/-- A reception ends. -/
def rxForget (r : Rx) (s : State) : State :=
  { s with frx := { s.frx with
    rxs := s.frx.rxs.filter fun x => !(x.src == r.src && x.chan == r.chan && x.stream == r.stream) } }

/-- Replace a reception. -/
def rxUpdate (r : Rx) (s : State) : State :=
  { s with frx := { s.frx with
    rxs := s.frx.rxs.map fun x => if x.src == r.src && x.chan == r.chan && x.stream == r.stream then r else x } }

/-- Take a buffer from a pool (R108): the latest returned one, else the one at RD; a pool whose LEN is 0 has none. -/
def poolTake (k : Nat) (s : State) : Option (Nat × State) :=
  if s.get (F.FRX_POOL_k_LEN k) = 0 then none
  else match if k = 0 then s.frx.ret0 else s.frx.ret1 with
  | b :: rest =>
    some (b, if k = 0 then { s with frx := { s.frx with ret0 := rest } } else { s with frx := { s.frx with ret1 := rest } })
  | [] =>
    let n := s.get (F.FRX_POOL_k_LEN k)
    let rd := s.get (F.FRX_POOL_k_RD k)
    if rd = s.get (F.FRX_POOL_k_WR k) then none
    else
      let r := serRead Master.radio (s.get (F.FRX_POOL_k_BASE k) + 4 * rd) 4 s
      some (leNat r.1, r.2.2.put (F.FRX_POOL_k_RD k) ((rd + 1) % n))

/-- Give a buffer back to its pool's return list, which holds up to 128 (R108). -/
def poolReturn (r : Rx) (s : State) : State :=
  if r.phr.isNone then s
  else if r.pool = 0 then { s with frx := { s.frx with ret0 := (r.buf :: s.frx.ret0).take 128 } }
  else { s with frx := { s.frx with ret1 := (r.buf :: s.frx.ret1).take 128 } }

/-- The PHR is in (R94, R95, R104, R108): `rssi` is the mean power at the pins of the ports combined. O-QPSK has a PHR of
one octet. -/
def phrReceived (src chan stream phrBits : Nat) (rssi cfo : Int) (s : State) : State :=
  match s.held src chan stream with
  | none => s
  | some r =>
    let phr := if r.phy = 0 then phrBits % 256 else phrBits
    if r.phr.isSome then s
    else if !phrGood r.phy phr then (rxForget r s).inc (F.FRX_CNT_DROP_k_COUNT 3)
    else
      let k := if phrLen r.phy phr ≤ 144 then 0 else 1
      match poolTake k s with
      | none => (rxForget r s).inc (F.FRX_CNT_DROP_k_COUNT 0)
      | some (b, s1) =>
        let power := s.atAntenna (decide (src = 1)) r.ports rssi
        rxUpdate { r with phr := some (phrLen r.phy phr, phr), pool := k, buf := b, rssi := power, cfo := cfo } s1

/-! ## Delivery (R96, R98, R105, R109 to R111) -/

/-- The Drover that the LANES section wires to a stream. -/
def State.laneDrover (s : State) (src chan stream : Nat) : Option (Fin 12) :=
  match s.man.lanes.find? fun l => l.src == src && l.chan == chan && l.stream == stream with
  | none => none
  | some l => if h : l.drover < 12 then some ⟨l.drover, h⟩ else none

/-- The 64 bytes of a descriptor, its SEQ apart. -/
structure Desc where
  len : Nat
  chan : Nat
  flags : Nat
  node : Nat
  lqi : Nat
  ports : Nat
  tsSfd : Nat
  tsEnd : Nat
  rssi : Int
  sinr : Int
  cfo : Int
  phr : Nat
  buf : Nat
  chest : List Byte

def descBytes (d : Desc) (seq : Nat) : List Byte :=
  leBytes 2 d.len ++ leBytes 1 d.chan ++ leBytes 1 d.flags ++ leBytes 2 d.node ++ leBytes 1 d.lqi ++ leBytes 1 d.ports ++
    leBytes 4 d.tsSfd ++ leBytes 4 d.tsEnd ++ leBytes 2 (ofSigned 16 d.rssi) ++ leBytes 2 (ofSigned 16 d.sinr) ++
    leBytes 2 (ofSigned 16 d.cfo) ++ leBytes 2 d.phr ++ leBytes 4 d.buf ++ leBytes 2 seq ++ leBytes 2 0 ++
    (d.chest ++ List.replicate 32 0).take 32

/-- Write a descriptor at WR of ring `n`, and with it visible advance WR and fire the frame event (R194); nothing where the
ring is full (R109). -/
def ringPut (n : Fin 12) (d : Desc) (s : State) : Option State :=
  let len := s.get (F.FRX_RING_n_LEN n)
  let wr := s.comingWr n
  if len = 0 ∨ (wr + 1) % len = s.get (F.FRX_RING_n_RD n) then none
  else
    let q := s.frx.seq.getD n 0
    let s1 := serWrite Master.radio (s.get (F.FRX_RING_n_BASE n) + 64 * wr) (descBytes d q) s
    let s2 := { s1 with frx := { s1.frx with seq := s1.frx.seq.set n ((q + 1) % 65536) } }
    some (afterWrites Master.radio (.frx n) ((wr + 1) % len) s2)

/-- LQI of an SINR in quarter dB (R105). -/
def lqi (sinr : Int) : Nat := (max 0 (min 255 (2 * sinr + 40))).toNat

/-- The instant at which a frame's SFD ends (R106). -/
def Rx.sfd (r : Rx) : Nat × Nat :=
  let u := r.q + 4 * shrAir r.phy
  if u < r.slen then (r.asn, u) else ((r.asn + 1) % 2 ^ 40, u - r.slen)

/-- The descriptor of a reception; `fin` holds TS_END, SINR and FCSOK of a final one. -/
def rxDesc (r : Rx) (len : Nat) (fin : Option (Nat × Int × Bool)) : Desc :=
  let ok := (fin.map (·.2.2)).getD false
  let phr := (r.phr.map (·.2)).getD 0
  { len := len, chan := r.src * 64 + r.chan,
    flags := b2n ok + 2 * r.stream + 4 * b2n r.inwin + 8 * b2n r.paired + 16 * b2n r.gainstep + 32 * b2n fin.isNone +
      64 * b2n (r.phy != 0 && !bitOf phr 12) + 128 * b2n (phrWhite r.phy phr),
    node := r.node, lqi := (fin.map fun f => lqi f.2.1).getD 0, ports := r.ports,
    tsSfd := stampOf r.sfd, tsEnd := (fin.map (·.1)).getD 0,
    rssi := r.rssi, sinr := (fin.map (·.2.1)).getD 0, cfo := r.cfo, phr := phr, buf := r.buf, chest := r.chest }

/-- Write a reception's descriptor to its Drover's ring. -/
def rxPut (r : Rx) (len : Nat) (fin : Option (Nat × Int × Bool)) (s : State) : Option State :=
  (s.laneDrover r.src r.chan r.stream).bind fun n => ringPut n (rxDesc r len fin) s

/-- TS_END and SINR of a frame that is dropped: as measured, or free values where it was abandoned before its end, for
which the spec states none. DESIGN CHOICE, log entry 132. -/
def dropEnd (fin : Option (Nat × Int)) (s : State) : (Nat × Int) × State :=
  match fin with
  | some f => (f, s)
  | none =>
    let t := s.fresh (2 ^ 32)
    let q := t.2.fresh (2 ^ 16)
    ((t.1, toSigned 16 q.1), q.2)

/-- A frame is dropped with counter `k` (R108, R109, R111): after an early descriptor a final one with LEN 0 follows, but
not at SAFE entry (R459). `fin` holds TS_END and SINR of a frame that has ended. DESIGN CHOICE, log entry 132. -/
def rxDrop (k : Nat) (fin : Option (Nat × Int)) (r : Rx) (s : State) : State :=
  let s1 := (rxForget r s).inc (F.FRX_CNT_DROP_k_COUNT k)
  let s2 := if r.early && !s.faults.safeEntered then
      let e := dropEnd fin s1
      (rxPut r 0 (some (e.1.1, e.1.2, false)) e.2).getD e.2
    else s1
  poolReturn r s2

/-- The FCS of a PSDU is correct (R96, R232). -/
def fcsOk (four : Bool) (p : List Byte) : Bool :=
  if four then crc32 (p.take (p.length - 4)) == numAt p (p.length - 4) 4 else crc16 0 p == 0

/-- The early descriptor of a reception (R111): nothing where it is off, the frame is short or it was given. -/
def earlyPut (r : Rx) (len : Nat) (psdu : List Byte) (s : State) : Rx × State :=
  if !s.on F.FRX_CTL_EARLY || len ≤ 32 || r.early then (r, s)
  else
    let s1 := serWrite Master.radio r.buf (psdu.take 32) s
    match rxPut r len none s1 with
    | none => (r, s1)
    | some t => ({ r with early := true }, t)

/-- EARLY_DESCRIPTOR: `psdu` holds the frame's first bytes as they are on the air. -/
def earlyDescriptor (src chan stream : Nat) (psdu : List Byte) (s : State) : State :=
  match s.held src chan stream with
  | none => s
  | some r =>
    match r.phr with
    | none => s
    | some (len, phr) =>
      let d := earlyPut r len (if phrWhite r.phy phr then whiten psdu else psdu) s
      rxUpdate d.1 d.2

/-! ## Join requests and overrunning frames (R63, R72) -/

/-- Bytes of the addressing fields of an IEEE 802.15.4 version 2 frame (PRESUMED, log entry 23). -/
def addrBytes (fc : Nat) : Nat :=
  let dst := bits fc 10 2
  let src := bits fc 14 2
  let comp := bitOf fc 6
  let size := fun m => if m = 2 then 2 else if m = 3 then 8 else 0
  let pans :=
    if dst = 0 ∧ src = 0 then b2n comp
    else if dst ≠ 0 ∧ src ≠ 0 then (if dst = 3 ∧ src = 3 then b2n (!comp) else if comp then 1 else 2)
    else b2n (!comp)
  size dst + size src + 2 * pans

/-- Bytes of the auxiliary security header that starts a list. PRESUMED, log entry 23. -/
def auxBytes (b : List Byte) : Nat :=
  let c := numAt b 0 1
  let keyid := bits c 3 2
  1 + (if bitOf c 5 then 0 else 4) + (if keyid = 0 then 0 else if keyid = 1 then 1 else if keyid = 2 then 5 else 9)

/-- A header IE list holds a vendor element of the OUI with SUBTYPE 3 and FORMAT 1. -/
def hasJoinIe (oui : Nat) : Nat → List Byte → Bool
  | 0, _ => false
  | fuel + 1, b =>
    let h := numAt b 0 2
    let len := bits h 0 7
    let id := bits h 7 8
    if b.length < 2 ∨ bitOf h 15 ∨ id = 0x7E ∨ id = 0x7F then false
    else
      let c := (b.drop 2).take len
      (id == 0 && numAt c 0 1 * 65536 + numAt c 1 1 * 256 + numAt c 2 1 == oui && numAt c 3 1 == 3 && numAt c 4 1 == 1 &&
        decide (8 ≤ c.length)) || hasJoinIe oui fuel (b.drop (2 + len))

/-- A PSDU is a join request: its header IEs carry the join element. -/
def isJoin (p : List Byte) (s : State) : Bool :=
  let fc := numAt p 0 2
  let at0 := 2 + b2n (!bitOf fc 8) + addrBytes fc
  let at1 := at0 + if bitOf fc 3 then auxBytes (p.drop at0) else 0
  bits fc 12 2 == 2 && bitOf fc 9 && hasJoinIe (s.get F.SF_VIE_OUI) 64 (p.drop at1)

/-- First byte of a node's Ledger entry. -/
def State.ledger (s : State) (node : Nat) : Nat := s.bayBase Bay.ledger + 256 * node

/-- The cell records that a granule of a Ledger entry holds. -/
def cellRecs (g : List Byte) : List Nat := ((List.range 4).map fun i => numAt g (4 * i) 4).filter (· != 0)

/-- The cell records of a node in which its uplink is accepted (R68, R70): its cells in force up to the TSFN of a pending
grant; from then on those of the grant, and the old ones too while it is not confirmed. `g` holds granules 0, 9 and 10 of
its Ledger entry. DEDUCED, log entry 158. -/
def State.upCells (s : State) (g0 g9 g10 : List Byte) : List Nat :=
  let st := numAt g0 10 1
  if !bitOf st 3 || inFuture (numAt g0 12 4) s then cellRecs g9
  else if bitOf st 4 then cellRecs g10
  else cellRecs g9 ++ cellRecs g10

/-- A cell record's fields (04_air_schedule.md). -/
def cellSub (c : Nat) : Bool := bitOf c 18
def cellKind (c : Nat) : Nat := bits c 19 2
def cellSlots (c : Nat) : Nat := bits c 21 5 + 1

/-- A cell record is served in the slot of index `slot` and ASN `asn` on channel `chan`: it begins there, outside its band's
beacon span (R59, R65). DEDUCED, log entry 137. -/
def State.cellServed (s : State) (slot asn chan c : Nat) : Bool :=
  bits c 0 12 == slot && decide (s.bspan (cellSub c) ≤ slot) && s.cellChan (cellSub c) asn (bits c 12 6) == some chan

/-- The span of the uplink cell of a node that begins in the slot of index `slot` and ASN `asn` on a channel; none where it
has none, or its Ledger entry reads poison. DEDUCED, log entry 158. -/
def cellSpan (node slot asn chan : Nat) (sub : Bool) (s : State) : Option Nat × State :=
  let r0 := serRead Master.radio (s.ledger node) 16 s
  let r9 := serRead Master.radio (s.ledger node + 144) 32 r0.2.2
  if r0.2.1 || r9.2.1 then (none, r9.2.2)
  else
    let recs := r9.2.2.upCells r0.1 (r9.1.take 16) (r9.1.drop 16)
    ((recs.find? fun c => cellKind c == 0 && cellSub c == sub && s.cellServed slot asn chan c).map cellSlots, r9.2.2)

/-- The slot index of the slot with an ASN of this slot or the one before. -/
def State.slotOfAsn (s : State) (asn : Nat) : Nat :=
  let back := (s.tally.asn + 2 ^ 40 - asn) % 2 ^ 40
  if back ≤ s.tally.slot then s.tally.slot - back else s.tally.slot + s.sfLen - back

/-- A frame that ended at clock `stop` overran the uplink cell it began in (R63): its node's cell, or a join slot. -/
def overlong (r : Rx) (stop : Nat) (s : State) : Bool × State :=
  let slot := s.slotOfAsn r.asn
  let j := s.joinSlots
  let span : Option Nat × State :=
    if r.node ≠ 0xFFFF then cellSpan r.node slot r.asn r.chan (decide (r.src = 1)) s
    else (if j.1 ≤ slot ∧ slot < j.1 + j.2 then some 1 else none, s)
  ((span.1.map fun n => decide (n * r.slen < stop - r.tick + 4 * (s.get F.SF_TMPL1_ACKDLY + ackAir r.phy + 800))).getD false,
    span.2)

/-- The source EUI-64 of a frame, where its addressing fields end with one (PRESUMED, log entry 23). -/
def sourceEui (p : List Byte) : Option (List Byte) :=
  let fc := numAt p 0 2
  if bits fc 14 2 = 3 then some ((p.drop (2 + b2n (!bitOf fc 8) + addrBytes fc - 8)).take 8) else none

/-- A valid allow-list record among the first `n` carries the EUI-64 (R72, R342). -/
def allowed (eui : List Byte) : Nat → State → Bool × State
  | 0, s => (false, s)
  | n + 1, s =>
    let r := serRead Master.radio (s.get F.HST_ALLOW_BASE + 64 * n) 16 s
    if !r.2.1 && r.1.take 8 == eui && bitOf (numAt r.1 8 1) 0 then (true, r.2.2) else allowed eui n r.2.2

/-- Every byte of a node's Ledger entry is zero and none is poisoned: the entry is free (R72, R204). -/
def State.entryFree (s : State) (node : Nat) : Bool :=
  let e := s.ledger node
  !(s.ser.mem.any fun c => decide (e ≤ c.1) && decide (c.1 < e + 256)) &&
    !(s.ser.poison.any fun g => decide (e ≤ 16 * g) && decide (16 * g < e + 256))

/-- One of the first `n` Ledger entries is free. -/
def State.hasFree (s : State) : Nat → Bool
  | 0 => false
  | n + 1 => s.entryFree n || s.hasFree n

/-- The conditions under which a join request is acknowledged (R72). -/
def joinTaken (psdu : List Byte) (s : State) : Bool × State :=
  match sourceEui psdu with
  | none => (false, s)
  | some eui =>
    let a := allowed eui (s.get F.HST_ALLOWN_COUNT) s
    (a.1 && a.2.hasFree 16384 && s.mode == Mode.serve, a.2)

/-- A frame's header lets it into security processing (R148): frame version 2, security enabled, key identifier mode 1 and
a frame counter of 4 bytes (its places PRESUMED, log entry 23). DEDUCED, log entry 110. DEDUCED, log entry 135. -/
def secHeader (p : List Byte) : Bool :=
  let fc := numAt p 0 2
  let c := numAt (p.drop (2 + b2n (!bitOf fc 8) + addrBytes fc)) 0 1
  bits fc 12 2 == 2 && bitOf fc 3 && bits c 3 2 == 1 && !bitOf c 5 && !bitOf c 6

/-- What the schedule and the security unit count of a delivered uplink frame that ended at clock `stop`: overruns
(R63), join requests (R72), and frames of nodes that security processing does not accept (R148; DEDUCED, log entry 135).
DEDUCED, log entry 110. -/
def countUplink (r : Rx) (t1 : Nat × Nat) (stop : Nat) (psdu : List Byte) (s : State) : State :=
  let id : FrameId := ⟨decide (r.src = 1), r.chan, t1.1, t1.2⟩
  let o := overlong r stop s
  let s1 := o.2.when o.1 (·.inc F.SF_CNT_OVERLONG_COUNT)
  let join := isJoin psdu s1
  let s2 := s1.when ((r.node != 0xFFFF || join) && !secHeader psdu) (·.inc (F.SEC_CNT_k_COUNT 7))
  let bar := fun t : State => { t with frx := { t.frx with noack := id :: t.frx.noack } }
  if join then
    let j := joinTaken psdu (s2.inc F.SF_CNT_JOINREQ)
    if o.1 || !j.1 then bar (j.2.inc F.SF_CNT_JOINREJ)
    else { j.2 with frx := { j.2.frx with joins := id :: j.2.frx.joins } }
  else s2.when o.1 bar

/-- Two ticks have passed since the slot in which a frame ended. -/
def State.past (s : State) (f : FrameId) : Bool := decide (2 ≤ (s.tally.asn + 2 ^ 40 - f.asn) % 2 ^ 40)

/-- Join requests whose acknowledgement can no longer start are counted as rejected (R72), judged at each tick. DEDUCED,
log entry 84. -/
def joinsTick (s : State) : State :=
  let s1 := s.add F.SF_CNT_JOINREJ (s.frx.joins.filter s.past).length
  { s1 with frx := { s1.frx with
    joins := s.frx.joins.filter fun f => !s.past f, noack := s.frx.noack.filter fun f => !s.past f } }

/-- The frame may be acknowledged (R63, R72): it did not overrun its cell, and a join request still finds SERVE. -/
def State.mayAck (s : State) (f : FrameId) : Bool :=
  !s.frx.noack.contains f && (s.mode == Mode.serve || !s.frx.joins.contains f)

/-- A PSDU padded with zero bytes to whole granules of 16 bytes (R199). -/
def padded (p : List Byte) : List Byte := p ++ List.replicate ((16 - p.length % 16) % 16) 0

/-- A reception ends at instant `t1` (R96, R109, R110): it is delivered, or dropped and counted. The Bool says that it was
delivered. -/
def rxFinish (r : Rx) (len phr : Nat) (t1 : Nat × Nat) (psdu : List Byte) (sinr : Int) (s : State) : Bool × State :=
  let p := (psdu ++ List.replicate len 0).take len
  let ok := fcsOk (fcsLen r.phy phr == 4) p
  if s.faults.safeEntered then (false, rxDrop 6 (some (stampOf t1, sinr)) r s)
  else if !ok && !s.on F.FRX_CTL_KEEPBAD then (false, rxDrop 2 (some (stampOf t1, sinr)) r s)
  else
    match rxPut r len (some (stampOf t1, sinr, ok)) (serWrite Master.radio r.buf (padded p) s) with
    | none => (false, rxDrop 1 (some (stampOf t1, sinr)) r s)
    | some s1 => (true, rxForget r s1)

/-- A field frame ends: `lag` quarter grains have passed at the pin since its last PSDU symbol ended, and `psdu` is the
PSDU as it is on the air. The row is the moment at which the descriptor is written (R110); that rows come in the order of
their frames' ends, channels ascending, is the sender's part of R109 (DEDUCED, log entry 134). -/
def frameEnd (src chan stream lag : Nat) (psdu : List Byte) (sinr : Int) (s : State) : State :=
  match s.held src chan stream with
  | none => s
  | some r =>
    match r.phr with
    | none => s
    | some (len, phr) =>
      let raw := (psdu ++ List.replicate len 0).take len
      let p := if phrWhite r.phy phr then whiten raw else raw
      let t1 := s.ago (lag + s.rxDelay (decide (src = 1)))
      let d := rxFinish r len phr t1 p sinr s
      if d.1 then
        let s2 := d.2.inc (if src = 1 then F.FRX_CNT_RXSG_COUNT else F.FRX_CNT_RX24_COUNT)
        if fcsOk (fcsLen r.phy phr == 4) p then countUplink r t1 (s.tally.clock - (lag + s.rxDelay (decide (src = 1)))) p s2 else s2
      else d.2

/-- AGC_FAST_STEP (R88, R89): a port steps down by 6 dB within the slot. -/
def agcFast (p : Nat) (s : State) : State :=
  let sub := portSub p
  if s.rxOn sub && s.on (agcAuto sub) && s.portOn p then
    markGain sub (s.put (F.FRX_GAIN_p_GAIN p) (s.get (F.FRX_GAIN_p_GAIN p) - 3))
  else s

/-- The last PSDU symbol of a frame has ended at the antenna, though its FRAME_END is still to come. -/
def State.rxEnded (s : State) (r : Rx) : Bool :=
  match r.phr with
  | none => false
  | some p => decide (r.tick + r.q + 4 * airtime r.phy p.1 ≤ s.tally.clock)

/-- The receive chains of both bands are powered down (R459): every frame in reception is abandoned, and at SAFE entry
every frame not yet delivered. -/
def rxPowerDown (s : State) : State :=
  let s1 := forAll (s.frx.rxs.filter fun r => s.faults.safeEntered || !s.rxEnded r) (rxDrop 6 none) s
  let s2 := { s1 with frx := { s1.frx with lna0 := none, lna1 := none, hi0 := 0, hi1 := 0, prog := [], pairs := [], prog1 := [], pairs1 := [] } }
  s2.puts [(F.FRX_STAT_LNA24, 0), (F.FRX_STAT_LNASG, 0)]

/-- The receive chains power up: each enabled band starts in its fixed state, or in RXHI. -/
def rxPowerUp (s : State) : State :=
  let st := fun sub => if !s.bandOn sub then 0 else if !s.on (agcAuto sub) && s.on (agcLna sub) then 2 else 1
  let s1 := { s with frx := { s.frx with run := List.replicate 16 0 } }
  s1.puts [(F.FRX_STAT_LNA24, st false), (F.FRX_STAT_LNASG, st true)]

/-- The sub-GHz oscillators begin to retune (R93): frames of the band in reception are abandoned. -/
def rxRetune (s : State) : State := forAll (s.frx.rxs.filter fun r => r.src == 1 && !s.rxEnded r) (rxDrop 5 none) s

/-- Clear the FRX counters (FRX_CTL.CLRCNT). -/
def frxClear (s : State) : State :=
  let s1 := s.puts [(F.FRX_CNT_RX24_COUNT, 0), (F.FRX_CNT_RXSG_COUNT, 0), (F.FRX_CNT_PAIR_PAIRED, 0), (F.FRX_CNT_PAIR_REFUSED, 0)]
  forN 6 (fun r s => s.put (F.FRX_CNT_PAIRREF_r_COUNT r) 0) (forN 7 (fun k s => s.put (F.FRX_CNT_DROP_k_COUNT k) 0) s1)

end Sys2Proof.Machine
end

