-- ==== Sys2Proof/Machine/Ftx.lean ====
section
/-!
DEFINITION. The field transmitters (06_field_transmit.md, R112 to R130, R460): transmit lists, acknowledgements, carriers,
predistortion and front-end control.
-/

namespace Sys2Proof.Machine

/-! ## Outputs -/

/-- An output's hidden part. -/
def State.txo (s : State) (o : Nat) : TxOut := s.ftx.outs.getD o ⟨-40, 1, 0, none, 0, none, false, 0, false⟩

def State.setTxo (s : State) (o : Nat) (t : TxOut) : State := { s with ftx := { s.ftx with outs := s.ftx.outs.set o t } }

/-- The band of an output: outputs 2 and 3 are sub-GHz. -/
def outSub (o : Nat) : Bool := decide (2 ≤ o)

/-- The back-off of R114 in quarter dB for 1 to 16 carriers. -/
def backoff (n : Nat) : Int := [0, 14, 23, 28, 34, 37, 40, 42, 46, 48, 50, 51, 53, 54, 55, 56].getD (n - 1) 56

/-- Quarter grains of an output's ramp, and of what precedes the ramp: FEM lead and, with coexistence, the request lead. -/
def State.rampQ (s : State) (o : Nat) : Nat := 4 * s.get (F.FTX_OUT_o_RAMP o)
def State.leadQ (s : State) (o : Nat) : Nat :=
  4 * (s.get (F.FTX_OUT_o_FEMLEAD o) + if s.on F.FTX_COEX_EN then s.get F.FTX_COEX_LEAD else 0)

/-- A carrier of a list entry. -/
def Carrier.listed (c : Carrier) : Bool := c.kind == .data || c.kind == .beacon

/-- Start and end of a carrier at the pin, ramps included. -/
def State.carStart (s : State) (c : Carrier) : Nat := c.ps - s.rampQ c.out
def State.carEnd (s : State) (c : Carrier) : Nat := c.pe + s.rampQ c.out

/-- An output carries a carrier now. -/
def State.txBusy (s : State) (o : Nat) : Bool := s.ftx.cars.any fun c => c.on && c.out == o

/-- Show the busy outputs. -/
def showBusy (s : State) : State :=
  s.put F.FTX_STAT_BUSY (((List.range 4).filter s.txBusy).map (2 ^ ·)).sum

/-! ## Entries (R113, R116) -/

/-- An entry of a transmit list or an acknowledgement ring. -/
structure TxEntry where
  buf : Nat
  len : Nat
  band : Nat
  chan : Nat
  out : Nat
  bcn : Bool
  addfcs : Bool
  fcs4 : Bool
  white : Bool
  trim : Nat
  tsref : Nat
  clean : Bool

/-- Read the 16 bytes of an entry; `clean` says that the bits R116 gives as zero are zero. BCN marks a beacon in a transmit
list alone (R117). -/
def txEntry (ack : Bool) (e : List Byte) : TxEntry :=
  let band := bits (numAt e 6 1) 6 2
  let f := numAt e 7 1
  ⟨numAt e 0 4, numAt e 4 2, band, bits (numAt e 6 1) 0 6, 2 * band + bits f 0 1, bitOf f 1 && !ack, bitOf f 2,
    bitOf f 3, bitOf f 4,
    numAt e 8 1, bits (numAt e 9 3) 0 20,
    f < 32 && zeroAt e 12 4 && (if ack then numAt e 9 3 < 2 ^ 20 else zeroAt e 9 3)⟩

/-- Bytes of the FCS that ADDFCS adds on a band: FCS4 applies at sub-GHz only (R113). -/
def TxEntry.fcs (e : TxEntry) (sub : Bool) : Nat := if e.fcs4 && sub then 4 else 2

/-- An entry's LEN is in the range of a band and leaves room for the FCS it asks for (R113, R116). -/
def TxEntry.lenOk (e : TxEntry) (sub : Bool) : Bool :=
  (if sub then decide (3 ≤ e.len) && decide (e.len ≤ 2047) else decide (5 ≤ e.len) && decide (e.len ≤ 127)) &&
    (!e.addfcs || decide (e.fcs sub < e.len))

/-- An entry is in order under R113. The OUT bit of a beacon names no output: R117 sends it on every one that carries
beacons (DEDUCED, log entry 24). -/
def State.entryOk (s : State) (e : TxEntry) : Bool :=
  decide (e.band < 2) && e.clean && e.buf % 16 == 0 && decide (e.trim < 128) && e.lenOk (e.band == 1) &&
    (if e.band = 0 then decide (e.chan < 16) else decide (e.chan < s.man.plan.length)) &&
    (e.bcn || s.on (F.FTX_OUT_o_EN e.out))

/-- The carrier of an entry on a channel whose first symbol leaves the pin at clock `ps`. -/
def State.mkCarrier (s : State) (e : TxEntry) (o chan : Nat) (kind : CarKind) (ps : Nat) : Carrier :=
  let phy := s.phyOf (outSub o) chan
  { out := o, chan := chan, kind := kind, ps := ps, pe := ps + 4 * airtime phy e.len, buf := e.buf, len := e.len,
    addfcs := e.addfcs, fcs4 := e.fcs4 && outSub o, white := e.white && outSub o, trim := e.trim, on := false }

/-- The level of a carrier that starts now, in quarter dBm at the pin (R114): by the settings in force, which stay while its
output carries it (R115). -/
def State.carLevel (s : State) (c : Carrier) : Int := (s.txo c.out).pmax - backoff (s.txo c.out).ncmax - c.trim

/-- A carrier would be on within the blank of a sub-GHz retune (R55). -/
def State.blanked (s : State) (c : Carrier) : Bool := outSub c.out && decide (s.carStart c < s.sf.blank)

/-- The carrier would overlap an assigned one on its channel, on either output of its band (R118). -/
def State.clash (s : State) (c : Carrier) : Bool :=
  s.ftx.cars.any fun x => outSub x.out == outSub c.out && x.chan == c.chan && decide (x.ps < c.pe) && decide (c.ps < x.pe)

/-- Assign a carrier. -/
def addCarrier (c : Carrier) (s : State) : State := { s with ftx := { s.ftx with cars := s.ftx.cars ++ [c] } }

/-- No new transmission starts: a FENCE is contained (R316), or SAFE is entered (R42). -/
def State.silenced (s : State) : Bool :=
  s.faults.safeEntered || (match s.faults.wait with
    | .fence _ => true
    | _ => false)

/-- Transmission is allowed: the mode, the first superframe of R78, and no FENCE or PFAIL containment (R112, R316). -/
def State.mayTransmit (s : State) : Bool := airMode s.mode && s.sf.air && !s.silenced

/-! ## The transmit list (R115, R117, R118, R456, R460) -/

/-- The pin instant of a list frame's first symbol on an output. -/
def State.listPin (s : State) (o : Nat) : Int :=
  (s.ftx.tick0 : Int) + 4 * s.get F.SF_TMPL0_TXOFF - s.get (F.FTX_EXT_o_DLY o)

/-- What becomes of a carrier that a list entry asks for. -/
inductive Placed where
  | yes
  /-- a moment falls before the tick (R460), within a retune's blank (R55), or beyond what fits (R62) -/
  | no
  /-- another carrier of the band holds the channel (R118) -/
  | clash
  deriving DecidableEq, Repr

/-- Place one carrier of a list entry in a cell of `span` slots (R55, R62, R118, R460). -/
def placeList (e : TxEntry) (o chan : Nat) (kind : CarKind) (span : Nat) (s : State) : Placed × State :=
  let early : Int := s.listPin o - s.rampQ o - s.leadQ o
  let c := s.mkCarrier e o chan kind (s.listPin o).toNat
  if early < s.ftx.tick0 || s.blanked c ||
      !fits (s.get F.SF_TMPL0_TXOFF) (airtime (s.phyOf (outSub o) chan) e.len) 0 (span * s.slotLen) then (.no, s)
  else if s.clash c then (.clash, s.inc (F.FTX_CNT_k_COUNT 4))
  else (.yes, addCarrier c s)

/-- The carriers of an output that run when this slot's list frames ramp up. -/
def State.listRuns (s : State) (o : Nat) : List Carrier :=
  s.ftx.cars.filter fun c => c.out == o && decide ((s.listPin o).toNat - s.rampQ o < s.carEnd c)

/-- An output has no carrier for a further list frame (R117): NCMAX run, or for an entry that is no beacon NCMAX - ACKRES,
acknowledgements apart. DEDUCED, log entry 138. -/
def State.listFull (s : State) (o : Nat) (data : Bool) : Bool :=
  let t := s.txo o
  let run := s.listRuns o
  decide (t.ncmax ≤ run.length) || (data && decide (t.ncmax - t.ackres ≤ (run.filter Carrier.listed).length))

/-- A list entry receives no carrier: it is cancelled as under R19 (R117, R460). -/
def noCarrier (s : State) : State := (s.inc (F.FTX_CNT_k_COUNT 5)).inc F.TICK_CANCEL_COUNT

/-- The beacon on one output: its channels, up to the carriers the output still has. DEDUCED, log entry 136. -/
def beaconOn (e : TxEntry) (chans : List Nat) (a : Bool × State) (o : Nat) : Bool × State :=
  if a.2.on (F.FTX_OUT_o_EN o) && a.2.on (F.FTX_OUT_o_BCN o) && e.lenOk (outSub o) then
    let nc := (a.2.txo o).ncmax
    let t := a.2.when (nc < chans.length) (·.flag F.FTX_STAT_BCNCLIP)
    (chans.take nc).foldl (fun (b : Bool × State) ch =>
      if b.2.listFull o false then b
      else
        let p := placeList e o ch .beacon (b.2.bspan (outSub o)) b.2
        (b.1 || p.1 == .yes, p.2)) (a.1, t)
  else a

/-- The beacon entry (R66, R117 step 1): one carrier per beacon channel of each band, on every output of the channel's band
that carries beacons. DEDUCED, log entry 136. -/
def placeBeacon (e : TxEntry) (s : State) : State :=
  let r := [0, 1, 2, 3].foldl (fun a o => beaconOn e (s.bcnChans (outSub o) s.tally.asn) a o) (false, s)
  r.2.when (!r.1) noCarrier

/-- The nodes with a cell record, in force or of a pending grant. -/
def State.cellNodes (s : State) : List Nat :=
  let base := s.bayBase Bay.ledger
  ((s.ser.mem.filter fun c => decide (base ≤ c.1) && decide (c.1 < base + 2 ^ 22) && decide (144 ≤ (c.1 - base) % 256) &&
    decide ((c.1 - base) % 256 < 176)).map fun c => (c.1 - base) / 256).eraseDups

/-- A channel is still held by the span of a schedule cell that began in an earlier slot of this superframe (R60).
DEDUCED, log entry 137. -/
def State.spanHeld (s : State) (sub : Bool) (chan : Nat) : Bool :=
  s.cellNodes.any fun node =>
    let e := s.ledger node
    (s.upCells (s.bytesAt e 16) (s.bytesAt (e + 144) 16) (s.bytesAt (e + 160) 16)).any fun c =>
      let first := bits c 0 12
      cellSub c == sub && decide (first < s.tally.slot) && decide (s.tally.slot < first + cellSlots c) &&
        s.cellServed first ((s.tally.asn + 2 ^ 40 - (s.tally.slot - first)) % 2 ^ 40) chan c

/-- An entry that is no beacon (R117 step 2). No cell is served in the beacon span of its band (R65), nor on a channel that
an earlier span still holds (R60); a frame that fits no span has no cell (R62). DEDUCED, log entry 137. -/
def placeData (e : TxEntry) (s : State) : State :=
  let sub := outSub e.out
  if s.listFull e.out true || decide (s.tally.slot < s.bspan sub) || s.spanHeld sub e.chan then noCarrier s
  else
    match placeList e e.out e.chan .data 32 s with
    | (.no, u) => noCarrier u
    | (.clash, u) => u.inc F.TICK_CANCEL_COUNT
    | (.yes, u) => u

/-- Assign the carriers of the slot's list. Entries that read as poison are cancelled (R200). -/
def txAssign (s : State) : State :=
  match s.txl with
  | none => s
  | some p =>
    if !s.mayTransmit then s
    else
      let r := (List.range (min 64 p.count)).foldl (fun (a : List (List Byte) × State) i =>
        let d := serRead Master.radio (p.base + 16 * i) 16 a.2
        if d.2.1 then (a.1, d.2.2.inc F.TICK_CANCEL_COUNT) else (a.1 ++ [d.1], d.2.2)) ([], s)
      let es := r.1.map (txEntry false)
      let good := es.filter r.2.entryOk
      let s1 := r.2.when (good.length != es.length) (·.flag F.FTX_STAT_ITEMBAD)
      let bcns := good.filter (·.bcn)
      let first := if s1.tally.slot = 0 then bcns.take 1 else []
      let s2 := forAll first placeBeacon s1
      let s3 := forN (bcns.length - first.length) (fun _ s => noCarrier s) s2
      forAll (good.filter (!·.bcn)) placeData s3

/-- Apply the output settings where the output carries no carrier (R115). -/
def txSettings (s : State) : State :=
  forN 4 (fun o s =>
    if s.txBusy o then s
    else s.setTxo o { s.txo o with
      pmax := s.getS (F.FTX_OUT_o_PMAX o), ncmax := s.get (F.FTX_OUT_o_NCMAX o), ackres := s.get (F.FTX_OUT_o_ACKRES o) }) s

/-- The value that the writes made so far give a field: the last one staged, else the one it holds. -/
def State.written (s : State) (f : Field) : Nat := ((s.staged.filter (·.field == f)).getLast?.map (·.value)).getD (s.get f)

/-- FTX_STAT.PEND (R115): the outputs for which PMAX, NCMAX or ACKRES has been written and is not yet applied. -/
def State.txPend (s : State) : Nat :=
  (((List.range 4).filter fun o =>
    let t := s.txo o
    !(t.pmax == toSigned 9 (s.written (F.FTX_OUT_o_PMAX o)) && t.ncmax == s.written (F.FTX_OUT_o_NCMAX o) &&
      t.ackres == s.written (F.FTX_OUT_o_ACKRES o))).map (2 ^ ·)).sum

/-- Drop the carriers that are assigned and not started. -/
def dropPlanned (s : State) : State := { s with ftx := { s.ftx with cars := s.ftx.cars.filter (·.on) } }

/-- Drop the list carriers of the slot just ended that never started; no beacon has been counted as cancelled yet. -/
def dropStale (s : State) : State :=
  { s with ftx := { s.ftx with cars := s.ftx.cars.filter fun c => c.on || !c.listed, bcnGone := false } }

/-! ## Predistortion (R123, R124) -/

/-- Predistortion updates of a band are enabled. -/
def State.dpdOn (s : State) (sub : Bool) : Bool := if sub then s.on F.FTX_DPD_ENSG else s.on F.FTX_DPD_EN24

/-- Choose the output captured in the slot just ended: the busy one, or alternately when both were busy. -/
def dpdCapture (sub : Bool) (s : State) : State :=
  let k := b2n sub
  let busy := [2 * k, 2 * k + 1].filter fun o => (s.txo o).used
  let last := s.ftx.capLast.getD k 0
  let pick := if !s.dpdOn sub then none else if busy.length = 2 then busy.find? (· != last) else busy.head?
  let s1 := { s with ftx := { s.ftx with cap := s.ftx.cap.set k pick } }
  match pick with
  | none => s1
  | some o => { s1 with ftx := { s1.ftx with capLast := s1.ftx.capLast.set k o } }

/-- What an idle tick brings an output's predistorter: the return to the seed, shown after an error, or new coefficients,
unless updates have been disabled since (R123, R124). -/
def dpdApply (o : Nat) (s : State) : State :=
  let t := s.txo o
  if (t.dpd = 0 ∧ !t.dpdErr) ∨ s.txBusy o then s
  else
    let s0 := s.setTxo o { t with dpd := 0, dpdErr := false }
    let s1 := s0.when t.dpdErr fun u => (u.bitOn F.FTX_STAT_DPDERR o).flag (F.FTX_DPDSTAT_o_SEED o)
    if t.dpd = 2 then s1.flag (F.FTX_DPDSTAT_o_SEED o)
    else if t.dpd = 1 && s.dpdOn (outSub o) then
      (s1.incWrap (F.FTX_DPDSTAT_o_UPDATES o)).put (F.FTX_DPDSTAT_o_SEED o) 0
    else s1

/-- DPD_UPDATE_DONE: the update of a captured output is computed, with its error in quarter dB below the carrier. Too small
a distance returns the output to its seed, and an error still to be shown stays so (R124). -/
def dpdDone (o err : Nat) (s : State) : State :=
  let k := b2n (outSub o)
  if s.ftx.cap.getD k none = some o then
    let s1 := { s with ftx := { s.ftx with cap := s.ftx.cap.set k none } }
    let s2 := s1.put (F.FTX_DPDSTAT_o_ERR o) (min err 255)
    let t := s2.txo o
    s2.setTxo o (if err < 4 * s.get F.FTX_DPD_ERRMAX then { t with dpd := 2, dpdErr := true } else { t with dpd := 1 })
  else s

/-- DPD_RESEED: every output returns to its seed at its next idle tick. -/
def dpdReseedOp (s : State) : State := forN 4 (fun o s => s.setTxo o { s.txo o with dpd := 2 }) s

/-! ## Carriers on the air (R114, R119, R127, R128) -/

/-- The PSDU sent: the FCS is written over its last bytes where ADDFCS asks for it (R116, R232). -/
def withFcs (addfcs four : Bool) (p : List Byte) : List Byte :=
  if !addfcs then p
  else if four then p.take (p.length - 4) ++ leBytes 4 (crc32 (p.take (p.length - 4)))
  else p.take (p.length - 2) ++ leBytes 2 (crc16 0 (p.take (p.length - 2)))

/-- A carrier ramps up. DESIGN CHOICE, log entry 66. -/
def startCarrier (c : Carrier) (s : State) : State :=
  let cs := s.ftx.cars.map fun x => if x = c then { x with on := true } else x
  let t := s.txo c.out
  let s1 := { s with ftx := { s.ftx with cars := cs } }.setTxo c.out
    { t with since := some (t.since.getD s.tally.clock), used := true, ended := none }
  showBusy (s1.inc (F.FTX_CNT_k_COUNT (match c.kind with
    | .ack _ _ => 1
    | _ => 0)))

/-- A carrier that is not started is taken away. -/
def cancelCarrier (c : Carrier) (s : State) : State := { s with ftx := { s.ftx with cars := s.ftx.cars.filter (· != c) } }

/-- COEX_GNT_FLD at a level grants (R127). -/
def State.granted (s : State) (level : Bool) : Bool := level != s.on F.FTX_COEX_POL_GNT

/-- An entry whose carrier is not started counts as cancelled under R19: an acknowledgement entry and a list entry once
each, the copies of a beacon together once. -/
def countGone (c : Carrier) (s : State) : State :=
  if c.kind = .beacon then
    if s.ftx.bcnGone then s else { s with ftx := { s.ftx with bcnGone := true } }.inc F.TICK_CANCEL_COUNT
  else s.inc F.TICK_CANCEL_COUNT

/-- Start an assigned carrier: the grant at a level of its pin (R128), the PSDU (poison cancels it, R200), and the frame
leaves. -/
def tryStart (level : Bool) (c : Carrier) (s : State) : State :=
  if !s.mayTransmit then cancelCarrier c s
  else if s.on F.FTX_COEX_EN && !s.granted level then
    let t := cancelCarrier c (s.inc (F.FTX_CNT_k_COUNT 6))
    if c.listed then countGone c t else t
  else
    let r := serRead Master.radio c.buf c.len s
    if r.2.1 then countGone c (cancelCarrier c r.2.2)
    else
      let p := withFcs c.addfcs c.fcs4 r.1
      (startCarrier c r.2.2).emit (.air c.out c.chan (s.carLevel c) c.ps c.white (if c.white then whiten p else p))

/-- LIST_FRAME_START: the list carriers of an output start together, with COEX_GNT_FLD at a level. -/
def listFrameStart (o : Nat) (level : Bool) (s : State) : State :=
  forAll (s.ftx.cars.filter fun c => c.out == o && !c.on && c.listed) (tryStart level) s

/-- CARRIER_END: a carrier's ramp-down ends; the output's busy time ends with its last carrier. -/
def carrierEnd (o chan : Nat) (s : State) : State :=
  match s.ftx.cars.find? fun c => c.on && c.out == o && c.chan == chan with
  | none => s
  | some c =>
    let s1 := cancelCarrier c s
    if s1.txBusy o then s1
    else
      let t := s1.txo o
      showBusy (s1.setTxo o { t with
        since := none, busy := t.busy + (s.tally.clock - t.since.getD s.tally.clock), ended := some s.tally.clock })

/-- GRANT_WITHDRAWN (R128): nothing is cut. -/
def grantWithdrawn (s : State) : State :=
  if s.on F.FTX_COEX_EN && s.ftx.cars.any (·.on) then s.inc (F.FTX_CNT_k_COUNT 7) else s

/-- FTX_AIR_o: microseconds busy, the time now running included. -/
def State.airUs (s : State) (o : Nat) : Nat :=
  let t := s.txo o
  (t.busy + (match t.since with
    | some c => s.tally.clock - c
    | none => 0)) / 32 % 2 ^ 32

/-! ## Acknowledgements (R125, R126, R163) -/

/-- The instant of TS_END that TSREF names (R125): its clock, and its ASN. -/
def State.tsEnd (s : State) (tsref : Nat) : Nat × Nat :=
  if s.ftx.tick0 + tsref ≤ s.tally.clock then (s.ftx.tick0 + tsref, s.tally.asn)
  else (s.ftx.tick1 + tsref, (s.tally.asn + 2 ^ 40 - 1) % 2 ^ 40)

/-- The carriers of the output that are assigned at an instant. -/
def State.loadAt (s : State) (o u : Nat) : Nat :=
  (s.ftx.cars.filter fun x => x.out == o && decide (s.carStart x ≤ u) && decide (u < s.carEnd x)).length

/-- A carrier stays free over the whole interval (R126). -/
def State.carFree (s : State) (c : Carrier) : Bool :=
  let a := s.carStart c
  let us := a :: (s.ftx.cars.filter fun x => x.out == c.out && decide (a < s.carStart x) && decide (s.carStart x < s.carEnd c)).map
    s.carStart
  us.all fun u => decide (s.loadAt c.out u < (s.txo c.out).ncmax)

/-- The latest moment for an entry (R125). -/
def State.ackDeadline (s : State) (o te : Nat) : Int :=
  (te : Int) + 4 * (s.get F.SF_TMPL1_ACKDLY : Int) - 4 * (((s.get (F.FTX_EXT_o_DLY o) + 3) / 4 + 48 : Nat) : Int) -
    s.rampQ o - s.leadQ o

/-- Take one acknowledgement entry: it gets a carrier, or is not sent and counted. A frame that overran its cell, and a join
request that may not be answered, get none (R63, R72); one that would start within a retune's blank has no carrier (R55). -/
def takeAck (off : Nat) (s : State) : State :=
  let r := serRead Master.radio off 16 s
  if r.2.1 then r.2.2.inc F.TICK_CANCEL_COUNT
  else
    let e := txEntry true r.1
    let s1 := r.2.2
    if !s1.entryOk e then s1.flag F.FTX_STAT_ITEMBAD
    else
      let te := s1.tsEnd e.tsref
      if !s1.mayAck ⟨e.band == 1, e.chan, te.2, e.tsref⟩ then s1
      else if s1.ackDeadline e.out te.1 < s1.tally.clock then s1.inc (F.FTX_CNT_k_COUNT 2)
      else
        let ps := te.1 + 4 * s1.get F.SF_TMPL1_ACKDLY - s1.get (F.FTX_EXT_o_DLY e.out)
        let c := s1.mkCarrier e e.out e.chan (.ack te.2 e.tsref) ps
        if !s1.carFree c || s1.blanked c then s1.inc (F.FTX_CNT_k_COUNT 3)
        else if s1.clash c then s1.inc (F.FTX_CNT_k_COUNT 4)
        else addCarrier c s1

/-- Take the entries of ring `j` from RD up to WR; where nothing may be transmitted they are discarded unsent (R112). -/
def ackDrain (j : Nat) : Nat → State → State
  | 0, s => s
  | fuel + 1, s =>
    let n := s.get (F.FTX_ACKRING_j_LEN j)
    let rd := s.get (F.FTX_ACKRING_j_RD j)
    if n = 0 ∨ rd = s.get (F.FTX_ACKRING_j_WR j) then s
    else
      let s1 := if s.mayTransmit then takeAck (s.get (F.FTX_ACKRING_j_BASE j) + 16 * rd) s else s
      ackDrain j fuel (s1.put (F.FTX_ACKRING_j_RD j) ((rd + 1) % n))

/-- A write of WR takes effect. -/
def ackEffect (j v : Nat) (s : State) : State :=
  let s1 := s.put (F.FTX_ACKRING_j_WR j) v
  ackDrain j (s1.get (F.FTX_ACKRING_j_LEN j)) s1

/-- The partner has confirmed every record up to `j`. -/
def State.confirmed (s : State) (j : Nat) : Bool := decide ((s.get F.TAN_JSEQ_CONF_JSEQ + 2 ^ 32 - j) % 2 ^ 32 < 2 ^ 31)

/-- The ACTIVE of a Tandem in sync waits for its partner. -/
def State.waitsPartner (s : State) : Bool := s.isActive && s.get F.TAN_STAT_SYNC == 2

/-- ACK_RING_WR_WRITE (R112, R125, R163, R454). A write behind a held one of its ring waits with it. -/
def ackWrWrite (j v : Nat) (s : State) : State :=
  if s.get (F.FTX_ACKRING_j_LEN j) ≤ v then s.flag F.SYS_ERR_RINGIDX
  else if (s.waitsPartner && !s.confirmed (s.get F.TAN_JSEQ_SENT_JSEQ)) || s.ftx.held.any (·.1 == j) then
    { s with ftx := { s.ftx with held := s.ftx.held ++ [(j, v, s.get F.TAN_JSEQ_SENT_JSEQ)] } }
  else ackEffect j v s

/-- ACK_WR_EFFECT: the oldest held write of a ring takes effect, once it may. -/
def ackWrEffect (j : Nat) (s : State) : State :=
  match s.ftx.held.find? (·.1 == j) with
  | none => s
  | some h =>
    if s.waitsPartner && !s.confirmed h.2.2 then s
    else ackEffect j h.2.1 { s with ftx := { s.ftx with held := s.ftx.held.erase h } }

/-- Every held write of both rings takes effect, in order: the Tandem has left sync (R163). -/
def ackRelease (s : State) : State :=
  forAll (s.ftx.held.filter (·.1 < 2)) (fun h s => ackEffect h.1 h.2.1 s)
    { s with ftx := { s.ftx with held := s.ftx.held.filter (2 ≤ ·.1) } }

/-- ACK_SEND: an assigned acknowledgement starts, with COEX_GNT_FLD at a level; a join request it answers is no longer
open (R72). DEDUCED, log entry 84. -/
def ackSend (o chan : Nat) (level : Bool) (s : State) : State :=
  match s.ftx.cars.find? fun c => !c.on && c.out == o && c.chan == chan && !c.listed with
  | none => s
  | some c =>
    let s1 := tryStart level c s
    match c.kind with
    | .ack a q =>
      let id : FrameId := ⟨outSub o, chan, a, q⟩
      if s1.ftx.cars.contains { c with on := true } then
        { s1 with frx := { s1.frx with joins := s1.frx.joins.filter (· != id) } }
      else s1
    | _ => s1

/-- Discard the acknowledgement entries of both rings unsent (R112). -/
def ackDiscard (s : State) : State := forN 2 (fun j s => s.put (F.FTX_ACKRING_j_RD j) (s.get (F.FTX_ACKRING_j_WR j))) s

/-! ## The tick, stops and counters -/

/-- What the transmitters do at a tick, with the slot's list already decided (R112, R115, R117, R123). -/
def ftxTick (s : State) : State :=
  let s0 := { s with ftx := { s.ftx with tick0 := s.tally.clock, tick1 := s.ftx.tick0 } }
  let s1 := dropStale ([false, true].foldl (fun s b => dpdCapture b s) s0)
  let s2 := forN 4 (fun o s => s.setTxo o { s.txo o with used := s.txBusy o }) (forN 4 dpdApply (txSettings s1))
  if s2.mayTransmit then txAssign s2 else ackDiscard (dropPlanned s2)

/-- An emergency stop (R83, R121): what is not started is cancelled as under R19, and every carrier ramps down at once.
DEDUCED, log entry 99. -/
def txEstop (s : State) : State :=
  let s1 := dropPlanned (forAll (s.ftx.cars.filter fun c => !c.on && c.listed) countGone s)
  { s1 with ftx := { s1.ftx with cars := s1.ftx.cars.map fun c => { c with pe := min c.pe s.tally.clock } } }

/-- SAFE entry (R42, R121): every carrier is zero at once. -/
def txSafe (s : State) : State :=
  let s1 := { s with ftx := { s.ftx with cars := [], held := [] } }
  showBusy (forN 4 (fun o s =>
    let t := s.txo o
    s.setTxo o { t with
      since := none, ended := none, busy := t.busy + (s.tally.clock - t.since.getD s.tally.clock) }) s1)

/-- FTX_CTL.CLRCNT. -/
def ftxClear (s : State) : State :=
  let s1 := forN 8 (fun k s => s.put (F.FTX_CNT_k_COUNT k) 0) s
  forN 4 (fun o s =>
    let t := s.txo o
    s.setTxo o { t with busy := 0, since := t.since.map fun _ => s.tally.clock }) s1

/-- A write of FTX register word `v` is in range (R130). -/
def ftxRange (off v : Nat) : Bool :=
  if 0x50010 ≤ off ∧ off < 0x50020 then
    let p := toSigned 9 v
    let nc := bits v 9 5
    decide (-160 ≤ p) && decide (p ≤ 24) && decide (1 ≤ nc) && decide (nc ≤ 16) && decide (bits v 14 4 < nc) &&
      decide (1 ≤ bits v 18 5)
  else if off = 0x50050 then v % 16 == 0 && decide (bits v 25 7 ≤ 64)
  else if off = 0x50060 ∨ off = 0x50070 then v % 16 == 0
  else if off = 0x50080 then decide (10 ≤ bits v 8 8) && decide (bits v 8 8 ≤ 60)
  else if off = 0x500A0 then decide (bits v 5 9 ≤ 400)
  else true

end Sys2Proof.Machine
end

