-- ==== Sys2Proof/Machine/Units.lean ====
section
/-!
DEFINITION. What the fixed-function units share: exact fractions with the rounding of R133, and the command rings.
-/

namespace Sys2Proof.Machine

/-! ## Exact fractions -/

/-- A fraction; its denominator is not 0. -/
structure Frac where
  n : Int
  d : Nat

namespace Frac
def ofInt (i : Int) : Frac := ⟨i, 1⟩
def add (a b : Frac) : Frac := ⟨a.n * b.d + b.n * a.d, a.d * b.d⟩
def neg (a : Frac) : Frac := ⟨-a.n, a.d⟩
def sub (a b : Frac) : Frac := add a (neg b)
def mul (a b : Frac) : Frac := ⟨a.n * b.n, a.d * b.d⟩
def abs (a : Frac) : Frac := ⟨a.n.natAbs, a.d⟩
/-- The quotient by a fraction that is not 0. -/
def div (a b : Frac) : Frac := if b.n < 0 then ⟨-(a.n * b.d), a.d * b.n.natAbs⟩ else ⟨a.n * b.d, a.d * b.n.natAbs⟩
def floor (a : Frac) : Int := a.n / a.d
def ceil (a : Frac) : Int := -(-a.n / a.d)
/-- The nearest integer, halves away from zero (R133). -/
def round (a : Frac) : Int :=
  let m : Int := ((2 * a.n.natAbs + a.d) / (2 * a.d) : Nat)
  if a.n < 0 then -m else m
def le (a b : Frac) : Bool := decide (a.n * b.d ≤ b.n * a.d)
end Frac

/-- A number rounded and saturated to a signed `w`-bit field (R133). -/
def storeS (w : Nat) (a : Frac) : Int := satSigned w a.round

/-! ## Command rings -/

/-- The index words of a command ring, and the size of its entries. -/
structure URing where
  base : Field
  len : Field
  wr : Field
  rd : Field
  size : Nat

/-- The next entry's place in a ring, where it has one. -/
def URing.next (r : URing) (s : State) : Option Nat :=
  if s.get r.len = 0 ∨ s.get r.rd = s.get r.wr then none else some (s.get r.base + r.size * s.get r.rd)

/-- Advance RD past the entry just ended. -/
def URing.pop (r : URing) (s : State) : State := s.put r.rd ((s.get r.rd + 1) % max 1 (s.get r.len))

/-- Ring 0 when it has an entry, otherwise ring 1: the ring's number and the entry's place. -/
def nextOf (r : Nat → URing) (s : State) : Option (Nat × Nat) :=
  match (r 0).next s with
  | some a => some (0, a)
  | none => ((r 1).next s).map fun a => (1, a)

/-- An event that reaches the same input of every Drover (R213; DEDUCED, log entry 25). -/
def evinAll (k : Nat) (s : State) : State := forDrovers (fun n s => evin n k s) s

/-- The Ledger entry of a node lies in the LEDGER bay. -/
def nodeOk (node : Nat) (s : State) : Bool := decide (node ≤ 16383) && s.baySize Bay.ledger != 0

/-- STATE of a node's Ledger entry. -/
def State.ledgerState (s : State) (node : Nat) : Nat := bits (numAt (s.bytesAt (s.ledger node + 10) 1) 0 1) 0 3

end Sys2Proof.Machine
end

