-- ==== Sys2Proof/Machine/Sec.lean ====
section
/-!
DEFINITION. The security unit (08_frame_security.md, R148 to R168): the replay decision, outbound counters, session keys
and the leases of counters and keys.
-/

namespace Sys2Proof.Machine

/-! ## The DRBG and storage form (19_trust.md) -/

/-- Draw `n` bytes from the DRBG. -/
def drbg (n : Nat) (s : State) : List Byte × State :=
  ((List.range n).map fun i => Config.drbgByte (s.tru.drawn + i), { s with tru := { s.tru with drawn := s.tru.drawn + n } })

/-- A key in storage form: AES key wrap under the storage key. With no storage key installed the spec states no storage
form: a free value (DESIGN CHOICE, log entry 32). -/
def storageForm (key : List Byte) (s : State) : List Byte × State :=
  match s.tru.storageKey with
  | some k => (keyWrap k key, s)
  | none =>
    let r := s.fresh (2 ^ 192)
    (leBytes 24 r.1, r.2)

/-! ## The security group of a Ledger entry (R204) -/

/-! Statuses of R167. -/
namespace SecSt
def done : Nat := 1
def badnode : Nat := 2
def nokey : Nat := 3
def level : Nat := 4
def nolease : Nat := 5
def badop : Nat := 6
def spent : Nat := 7
def poison : Nat := 8
end SecSt

/-! Classes of R157 and R158. -/
namespace SecCl
def new : Nat := 0
def window : Nat := 1
def duphigh : Nat := 2
def repeat_ : Nat := 3
def forgery : Nat := 4
def duplicate : Nat := 5
def old : Nat := 6
def authfail : Nat := 7
end SecCl

/-- Replace bytes of a list from `off` on. -/
def patch (l : List Byte) (off : Nat) (bs : List Byte) : List Byte := l.take off ++ bs ++ l.drop (off + bs.length)

/-! The fields of an entry's bytes 0 to 111. -/
namespace Grp
def inctr (e : List Byte) : Nat := numAt e 16 4
def inbmp (e : List Byte) : Nat := numAt e 20 4
def intag (e : List Byte) : List Byte := (e.drop 24).take 8
def outctr (e : List Byte) : Nat := numAt e 32 4
def outlease (e : List Byte) : Nat := numAt e 36 4
def inseen (e : List Byte) : Bool := bitOf (numAt e 40 1) 0
def outslot (e : List Byte) : Nat := bits (numAt e 40 1) 1 1
/-- Place of key slot `k`. -/
def slotAt (k : Nat) : Nat := 48 + 32 * k
def keyidx (e : List Byte) (k : Nat) : Nat := numAt e (slotAt k + 24) 1
def valid (e : List Byte) (k : Nat) : Bool := bitOf (numAt e (slotAt k + 25) 1) 0
def levelmin (e : List Byte) (k : Nat) : Nat := bits (numAt e (slotAt k + 25) 1) 1 3
def used (e : List Byte) (k : Nat) : Nat := numAt e (slotAt k + 28) 4
/-- Install a key in slot `k`: storage form, index, VALID and LEVELMIN, USED 0. -/
def withKey (e : List Byte) (k : Nat) (wkey : List Byte) (idx lmin : Nat) : List Byte :=
  patch e (slotAt k) (wkey ++ leBytes 1 idx ++ leBytes 1 (1 + 2 * (lmin % 8)) ++ List.replicate 6 0)
end Grp

/-- Read the first `n` bytes of an entry: nothing where the node is above 16,383, in state NONE, or poison is met (R168,
R200). -/
def secLoad (node n : Nat) (s : State) : Option (List Byte) × State :=
  if !nodeOk node s then (none, s)
  else
    let r := serRead Master.sec (s.ledger node) n s
    if r.2.1 || bits (numAt r.1 10 1) 0 3 == 0 then (none, r.2.2) else (some r.1, r.2.2)

/-- Change bytes within granule `j` of an entry, which the unit reads and writes whole (R204); nothing where it reads
poison. The change is computed from the granule's bytes. -/
def secPatch (node j at_ : Nat) (f : List Byte → List Byte) (s : State) : State :=
  let r := serRead Master.sec (s.ledger node + 16 * j) 16 s
  if r.2.1 then r.2.2 else serWrite Master.sec (s.ledger node + 16 * j) (patch r.1 at_ (f r.1)) r.2.2

/-- Write the granules of the security group that `e` changes, or all of them; the answer gives the JSEQ of the change. -/
def secStore (node : Nat) (old e : List Byte) (all : Bool) (s : State) : Nat × State :=
  let was := s.get F.TAN_JSEQ_SENT_JSEQ
  let t := forAll ((List.range 6).map (· + 1)) (fun j s =>
    let g := (e.drop (16 * j)).take 16
    if all || g != (old.drop (16 * j)).take 16 then serWrite Master.sec (s.ledger node + 16 * j) g s else s) s
  let now := t.get F.TAN_JSEQ_SENT_JSEQ
  (if now = was then 0 else now, t)

/-! ## Leases (R165, R247) -/

/-- Start an extension: the record is journalled, and both flashes must hold it before the lease rises. -/
def leaseStart (kind idx keyidx : Nat) (fp : List Byte) (end_ : Nat) (s : State) : State :=
  let s1 := journal 0x04 0 (leBytes 1 kind ++ leBytes 1 keyidx ++ leBytes 2 (if kind = 0 then idx else 0) ++
    (if kind = 2 then (fp ++ List.replicate 8 0).take 8 else List.replicate 8 0) ++ leBytes 4 end_) s
  { s1 with sec := { s1.sec with leases := s1.sec.leases ++
    [⟨kind, idx, keyidx, fp, end_, false, !s.journals, s1.get F.TAN_JSEQ_SENT_JSEQ, false⟩] } }

/-- An extension of the counter is in progress. -/
def State.leasing (s : State) (kind idx : Nat) : Bool := s.sec.leases.any fun l => l.kind == kind && l.idx == idx

/-- A counter at or above its lease end minus 2,048 has its lease extended by 4,096. DEDUCED, log entry 109. -/
def leaseWant (kind idx keyidx ctr end_ : Nat) (s : State) : State :=
  if s.leasing kind idx || decide (ctr + 2048 < end_) then s
  else leaseStart kind idx keyidx [] (min (end_ + 4096) (2 ^ 32 - 1)) s

/-- Raise the lease end that an extension names. -/
def leaseApply (l : Lease) (s : State) : State :=
  if l.kind = 0 then secPatch l.idx 2 4 (fun _ => leBytes 4 l.end_) s
  else if l.kind = 1 then s.put F.SEC_CELLLEASE_VALUE l.end_
  else { s with ciph := { s.ciph with cache := s.ciph.cache.map fun c =>
    if c.fp = l.fp ∧ c.keyidx = l.keyidx then { c with lease := max c.lease l.end_ } else c } }

/-- Raise every lease whose two steps have succeeded (R165, R247). -/
def leasesDue (s : State) : State :=
  let due := s.sec.leases.filter fun l => l.flashOk && l.partnerOk
  forAll due leaseApply { s with sec := { s.sec with leases := s.sec.leases.filter fun l => !(l.flashOk && l.partnerOk) } }

/-- Change the first lease for which `p` holds. -/
def updFirst (p : Lease → Bool) (f : Lease → Lease) : List Lease → List Lease
  | [] => []
  | l :: t => if p l then f l :: t else l :: updFirst p f t

/-- The flash work of the next extension ends: `bad` gives the bytes that read back wrong (R165, R247, R397). -/
def leaseRaiseOp (bad : List (Nat × Byte)) (s : State) : State :=
  let waits (l : Lease) : Bool := !l.flashOk && !l.retry
  match s.sec.leases.find? waits with
  | none => s
  | some l =>
    if s.on F.FLS_STAT_PFAIL then s
    else
      let r := leaseWrite l bad s
      let s1 := r.2.when (l.kind == 2) (·.inc (F.CIPH_CNT_k_COUNT 7))
      let set (f : Lease → Lease) : State := { s1 with sec := { s1.sec with leases := updFirst waits f s1.sec.leases } }
      if r.1 then leasesDue (set fun l => { l with flashOk := true })
      else (set fun l => { l with retry := true }).flag
        (if l.kind = 2 then F.CIPH_STAT_LEASEFAIL else F.SEC_STAT_LEASEFAIL)

/-- The partner's persistence confirmation of record `j` arrives (R309). -/
def leaseConfirmed (j : Nat) (s : State) : State :=
  leasesDue { s with sec := { s.sec with leases := s.sec.leases.map fun l =>
    if l.jseq = j then { l with partnerOk := true } else l } }

/-- The Tandem has left sync: no partner's confirmation is awaited any more (DEDUCED, log entry 33). -/
def leasesAlone (s : State) : State :=
  leasesDue { s with sec := { s.sec with leases := s.sec.leases.map fun l => { l with partnerOk := true } } }

/-- The flash work of the partner's LEASE record `j` ends (R309): with its read-back good the persistence confirmation goes
out, and the cell's lease end follows the lease log (R166). `bad` gives the bytes that read back wrong. DEDUCED, log entry
109. DEDUCED, log entry 144. -/
def leasePersistOwn (j : Nat) (bad : List (Nat × Byte)) (s : State) : State :=
  match s.sec.persist.find? fun l => l.jseq == j && !l.retry with
  | none => s
  | some l =>
    if s.on F.FLS_STAT_PFAIL then s
    else
      let r := leaseWrite l bad s
      if r.1 then
        let t := { r.2 with sec := { r.2.sec with persist := r.2.sec.persist.filter (·.jseq != j) } }
        (t.when (l.kind == 1) fun s => s.put F.SEC_CELLLEASE_VALUE (max l.end_ (s.get F.SEC_CELLLEASE_VALUE))).emit
          (.confirm j true)
      else
        let again (x : Lease) : Lease := if x.jseq = j then { x with retry := true } else x
        ({ r.2 with sec := { r.2.sec with persist := r.2.sec.persist.map again } }).flag
          (if l.kind = 2 then F.CIPH_STAT_LEASEFAIL else F.SEC_STAT_LEASEFAIL)

/-- Failed read-backs are tried again at the tick. DEDUCED, log entry 109. -/
def leaseRetryTick (s : State) : State :=
  { s with sec := { s.sec with
      leases := s.sec.leases.map fun l => { l with retry := false }
      persist := s.sec.persist.map fun l => { l with retry := false } } }

/-- Forget what concerns a node whose security group starts anew. -/
def secForget (node : Nat) (s : State) : State :=
  { s with sec := { s.sec with
      leases := s.sec.leases.filter fun l => !(l.kind == 0 && l.idx == node)
      checked := s.sec.checked.filter (·.1 / 2 ^ 32 != node) } }

/-! ## The replay decision (R157, R158) -/

/-- The class of counter `c`, by the tag where one is given. -/
def secClass (e : List Byte) (c : Nat) (tag : Option (List Byte)) : Nat :=
  let h := Grp.inctr e
  if c = 0xFFFFFFFF then SecCl.old
  else if !Grp.inseen e || decide (h < c) then SecCl.new
  else if c = h then
    match tag with
    | none => SecCl.duphigh
    | some t => if t = Grp.intag e then SecCl.repeat_ else SecCl.forgery
  else if h ≤ c + 31 then (if bitOf (Grp.inbmp e) (h - c) then SecCl.duplicate else SecCl.window)
  else SecCl.old

/-- The counter of SEC_CNT_k for a class. -/
def classCount (cl : Nat) : Nat :=
  if cl = SecCl.new then 0 else if cl = SecCl.window then 1 else if cl = SecCl.repeat_ then 2
  else if cl = SecCl.forgery then 3 else if cl = SecCl.duplicate then 4 else if cl = SecCl.old then 5 else 6

/-- The replay state after an accepted frame. -/
def secAccept (e : List Byte) (cl c : Nat) (tag : List Byte) : List Byte :=
  let h := Grp.inctr e
  if cl = SecCl.new then
    let bmp := if Grp.inseen e && decide (c - h < 32) then setBit (Grp.inbmp e * 2 ^ (c - h) % 2 ^ 32) 0 else 1
    patch (patch e 16 (leBytes 4 c ++ leBytes 4 bmp ++ tag)) 40 (leBytes 1 (setBit (numAt e 40 1) 0))
  else if cl = SecCl.window then patch e 20 (leBytes 4 (setBit (Grp.inbmp e) (h - c)))
  else e

/-! ## Commands -/

/-- What a command answers. -/
structure SecAnswer where
  status : Nat
  cls : Nat
  slot : Nat
  out : Nat
  jseq : Nat
  high : Nat

/-- An answer with nothing but a status. -/
def SecAnswer.only (st : Nat) : SecAnswer := ⟨st, 0, 0xFF, 0, 0, 0⟩

/-- The valid key slot with the index (R150). -/
def slotOf (e : List Byte) (idx : Nat) : Option Nat := [0, 1].find? fun k => Grp.valid e k && Grp.keyidx e k == idx

/-- What SEC keeps a CHECK under: the node and the counter of the frame. -/
def checkKey (node c : Nat) : Nat := node * 2 ^ 32 + c

/-- CHECK (R149, R150, R157): it changes nothing and counts no class; which frame selected which key slot is kept for its
COMMIT (DEDUCED, log entry 35). DEDUCED, log entry 34. -/
def secCheckRun (node c level idx : Nat) (e : List Byte) (s : State) : SecAnswer × State :=
  let h := Grp.inctr e
  match slotOf e idx with
  | none => (⟨SecSt.nokey, 0, 0xFF, 0, 0, h⟩, s.inc (F.SEC_CNT_k_COUNT 6))
  | some k =>
    if level < Grp.levelmin e k ∨ (level = 4 ∧ !s.on F.SEC_CTL_ALLOW4) then
      (⟨SecSt.level, 0, k, 0, 0, h⟩, s.inc (F.SEC_CNT_k_COUNT 7))
    else
      (⟨SecSt.done, secClass e c none, k, 0, 0, h⟩, { s with sec := { s.sec with
        checked := (checkKey node c, (k, idx)) :: s.sec.checked.filter (·.1 != checkKey node c) } })

/-- COMMIT (R153, R157, R158). The key slot and key index are those that the CHECK of this frame, the one with the node and
the counter, selected (DEDUCED, log entry 35). DEDUCED, log entry 34. -/
def secCommitRun (node c : Nat) (tag : List Byte) (micok : Bool) (e : List Byte) (s : State) : SecAnswer × State :=
  let chk := (s.sec.checked.find? (·.1 == checkKey node c)).map (·.2)
  let t := { s with sec := { s.sec with checked := s.sec.checked.filter (·.1 != checkKey node c) } }
  let slot := (chk.map (·.1)).getD 0xFF
  let h := Grp.inctr e
  if !micok then (⟨SecSt.done, SecCl.authfail, slot, 0, 0, h⟩, t.inc (F.SEC_CNT_k_COUNT 6))
  else
    let cl := secClass e c (some tag)
    let s1 := t.inc (F.SEC_CNT_k_COUNT (classCount cl))
    if cl = SecCl.forgery then
      (⟨SecSt.done, cl, slot, 0, 0, h⟩, produce Prod.secForgery (s1.flag F.SEC_STAT_FORGERY))
    else if cl = SecCl.new ∨ cl = SecCl.window then
      let e1 := secAccept e cl c tag
      let old := Grp.outslot e
      let e2 := match chk with
        | some (k, idx) =>
          if k ≠ old ∧ Grp.valid e k ∧ Grp.keyidx e k = idx then
            patch (patch e1 40 (leBytes 1 (setBits (numAt e1 40 1) 1 1 k))) (Grp.slotAt old) (List.replicate 32 0)
          else e1
        | none => e1
      let r := secStore node e e2 false s1
      (⟨SecSt.done, cl, slot, 0, r.1, Grp.inctr e2⟩, r.2)
    else (⟨SecSt.done, cl, slot, 0, 0, h⟩, s1)

/-- A counter is refused (R164): SPENT, tested first, or NOLEASE, which asks for an extension. DEDUCED, log entry 109. -/
def takeRefusal (c end_ : Nat) : Option Nat :=
  if c = 0xFFFFFFFF then some SecSt.spent else if c = end_ then some SecSt.nolease else none

/-- What a refusal counts. -/
def takeRefused (st : Nat) (s : State) : State :=
  s.when (st == SecSt.nolease) fun s => (s.flag F.SEC_STAT_NOLEASE).inc (F.SEC_CNT_k_COUNT 8)

/-- TAKE (R164, R165). DEDUCED, log entry 86. -/
def secTakeRun (node : Nat) (e : List Byte) (s : State) : SecAnswer × State :=
  let c := Grp.outctr e
  let end_ := Grp.outlease e
  let idx := Grp.keyidx e (Grp.outslot e)
  match takeRefusal c end_ with
  | some st =>
    (⟨st, 0, 0xFF, 0, 0, Grp.inctr e⟩, (takeRefused st s).when (st == SecSt.nolease) (leaseWant 0 node idx c end_))
  | none =>
    let r := secStore node e (patch e 32 (leBytes 4 (c + 1))) false s
    (⟨SecSt.done, 0, Grp.outslot e, c, r.1, Grp.inctr e⟩, leaseWant 0 node idx (c + 1) end_ r.2)

/-- TAKECELL (R164, R165). DEDUCED, log entry 86. -/
def secTakecellRun (s : State) : SecAnswer × State :=
  let c := s.get F.SEC_CELLCTR_VALUE
  let end_ := s.get F.SEC_CELLLEASE_VALUE
  let idx := s.get (F.CIPH_KR_k_KEYIDX 0)
  match takeRefusal c end_ with
  | some st => (.only st, (takeRefused st s).when (st == SecSt.nolease) (leaseWant 1 0 idx c end_))
  | none =>
    (⟨SecSt.done, 0, 0xFF, c, 0, 0⟩, leaseWant 1 0 idx (c + 1) end_ (s.put F.SEC_CELLCTR_VALUE (c + 1)))

/-- INIT (R151). -/
def secInitRun (node : Nat) (e : List Byte) (s : State) : SecAnswer × State :=
  let k := drbg 16 (secForget node s)
  let w := storageForm k.1 k.2
  let e1 := Grp.withKey (patch e 16 (List.replicate 96 0)) 0 w.1 1 (w.2.get F.SEC_CFG_LEVELMIN)
  let r := secStore node e e1 true w.2
  (⟨SecSt.done, 0, 0, 0, r.1, 0⟩, leaseWant 0 node 1 0 0 r.2)

/-- ROTATE (R153). The new key keeps the outbound key's LEVELMIN (DEDUCED, log entry 36). -/
def secRotateRun (node : Nat) (e : List Byte) (s : State) : SecAnswer × State :=
  let old := Grp.outslot e
  let k := drbg 16 s
  let w := storageForm k.1 k.2
  let e1 := Grp.withKey e (1 - old) w.1 (Grp.keyidx e old % 255 + 1) (Grp.levelmin e old)
  let r := secStore node e e1 false w.2
  (⟨SecSt.done, 0, 1 - old, 0, r.1, Grp.inctr e⟩, r.2)

/-- FREE (R168). -/
def secFreeRun (node : Nat) (e : List Byte) (s : State) : SecAnswer × State :=
  let r := secStore node e (patch e 16 (List.replicate 96 0)) true (secForget node s)
  (⟨SecSt.done, 0, 0xFF, 0, r.1, 0⟩, r.2)

/-! ## The rings (R156, R167, R168) -/

/-- The SEC command rings. -/
def secRing (j : Nat) : URing :=
  ⟨F.SEC_RING_j_BASE j, F.SEC_RING_j_LEN j, F.SEC_RING_j_WR j, F.SEC_RING_j_RD j, 32⟩

/-- The 32 bytes of an entry break the layout of R167. -/
def secBad (e : List Byte) : Bool :=
  let op := numAt e 0 1
  let fl := numAt e 1 1
  op == 0 || 7 < op || 2 ≤ fl || (fl == 1 && op != 2) || (op == 4 && !zeroAt e 2 2) ||
    (2 < op && !zeroAt e 4 12) || (op == 1 && !zeroAt e 10 6) || !zeroAt e 19 1

/-- End a command: its result bytes, RD and the ring's done event. -/
def secEnd (j off : Nat) (a : SecAnswer) (s : State) : State :=
  let bytes := leBytes 1 a.status ++ leBytes 1 a.cls ++ leBytes 1 a.slot ++ leBytes 1 0 ++ leBytes 4 a.out ++
    leBytes 4 a.jseq ++ leBytes 4 a.high
  let s1 := s.when (a.status == SecSt.badop) (·.flag F.SEC_STAT_BADOP)
  evinAll (4 + j) ((secRing j).pop (serWrite Master.unit (off + 16) bytes s1))

/-- Carry out a sound entry. INIT and FREE write granules 1 to 6 whole and read granule 0 alone, so that they renew a
poisoned group (R151, R168, R200). -/
def secRun (b : List Byte) (s : State) : SecAnswer × State :=
  let op := numAt b 0 1
  let node := numAt b 2 2
  let c := numAt b 4 4
  if op = 4 then secTakecellRun s
  else
    let whole := op == 5 || op == 7
    let r := secLoad node (if whole then 16 else 112) s
    match r.1 with
    | none => (.only SecSt.badnode, r.2)
    | some led =>
      let e := if whole then led ++ List.replicate 96 0 else led
      if op = 1 then secCheckRun node c (numAt b 8 1) (numAt b 9 1) e r.2
      else if op = 2 then secCommitRun node c ((b.drop 8).take 8) (bitOf (numAt b 1 1) 0) e r.2
      else if op = 3 then secTakeRun node e r.2
      else if op = 5 then secInitRun node e r.2
      else if op = 6 then secRotateRun node e r.2
      else secFreeRun node e r.2

/-- The unit takes its next entry, for the row of the table with OP `op` (DEDUCED, log entry 27). INIT and ROTATE wait
while the DRBG is stopped (R347). -/
def secCommand (op : Nat) (s : State) : State :=
  if !s.tickRuns then s
  else
    match nextOf secRing s with
    | none => s
    | some (j, off) =>
      let e := serRead Master.unit off 16 s
      let f := serRead Master.unit (off + 16) 16 e.2.2
      if e.2.1 then secEnd j off (.only SecSt.poison) e.2.2
      else if secBad (e.1 ++ f.1) then secEnd j off (.only SecSt.badop) f.2.2
      else if numAt e.1 0 1 ≠ op ∨ ((op = 5 ∨ op = 6) ∧ !s.on F.TRU_STAT_DRBGOK) then s
      else
        let r := secRun e.1 f.2.2
        secEnd j off r.1 r.2

/-- SEC serves its next entry; while R311 holds a write of it, it waits. -/
def secServe (op : Nat) (s : State) : State := orStall 1 (secCommand op) s

/-- Ledger entries of which any byte of the security group is not zero. -/
def State.securedNodes (s : State) : List Nat :=
  let at_ := fun p : Nat × Byte => p.1 - s.bayBase Bay.ledger
  let inGrp := s.ser.mem.filter fun p => s.inBay Bay.ledger p.1 && decide (16 ≤ at_ p % 256) && decide (at_ p % 256 < 112)
  (inGrp.map fun p => at_ p / 256).eraseDups

/-- Node `n`'s outbound counter stands at its lease end, and the lease is extended as R165 asks at that point. -/
def nodeToLease (n : Nat) (s : State) : State :=
  let t := secPatch n 2 0 (fun g => (g.drop 4).take 4) s
  let r := serRead Master.sec (t.ledger n) 112 t
  if r.2.1 then r.2.2 else leaseWant 0 n (Grp.keyidx r.1 (Grp.outslot r.1)) (Grp.outctr r.1) (Grp.outlease r.1) r.2.2

/-- The cell counter stands at its lease end, and its lease is extended as R165 asks at that point. -/
def cellToLease (s : State) : State :=
  let e := s.get F.SEC_CELLLEASE_VALUE
  leaseWant 1 0 (s.get (F.CIPH_KR_k_KEYIDX 0)) e e (s.put F.SEC_CELLCTR_VALUE e)

/-- After a TAKEOVER every outbound counter and the cell counter stand at their lease ends (R166). -/
def countersToLease (s : State) : State := cellToLease (forAll s.securedNodes nodeToLease s)

/-- SEC_CTL.CLRCNT. -/
def secClear (s : State) : State := forN 11 (fun k s => s.put (F.SEC_CNT_k_COUNT k) 0) s

end Sys2Proof.Machine
end

