-- ==== Sys2Proof/Machine/Cipher.lean ====
section
/-!
DEFINITION. The cipher units (13_cipher_units.md, R239 to R253): claims, selection with usage limits and leases, the feed
stage, the release buffer, and keys inside messages.
-/

namespace Sys2Proof.Machine

/-- A cipher unit. -/
abbrev CU : Type := Fin 4

def State.cu (s : State) (u : CU) : CiphUnit := s.ciph.units[u]

/-- Change a unit. -/
def State.modCu (s : State) (u : CU) (f : CiphUnit → CiphUnit) : State :=
  { s with ciph := { s.ciph with units := s.ciph.units.set u (f s.ciph.units[u]) } }

/-! Statuses of R241. -/
namespace CiSt
def done : Nat := 1
def tagfail : Nat := 2
def nosel : Nat := 3
def nokey : Nat := 4
def badwrap : Nat := 5
def limit : Nat := 6
def overbudget : Nat := 7
def badlen : Nat := 8
def badseq : Nat := 9
def poison : Nat := 10
def starved : Nat := 11
def leasewait : Nat := 12
def badop : Nat := 13
end CiSt

/-- Wipe a unit (R239, R240): key, accumulator, nonce and release buffer to zero, no selection. -/
def wipeUnit (u : CU) (s : State) : State :=
  (s.modCu u fun _ => CiphUnit.init).puts
    [(F.CIPH_u_STAT_SEL u, 0), (F.CIPH_u_STAT_KEYIN u, 0), (F.CIPH_u_STAT_AES256 u, 0), (F.CIPH_u_STAT_STALL u, 0),
     (F.CIPH_u_STAT_BUSY u, 0)]

/-- End a unit's claim. -/
def endClaim (u : CU) (s : State) : State := (wipeUnit u s).put (F.CIPH_u_CLAIM_OWNER u) 0xF

/-- SAFE entry and every whole-chip reset (R239). -/
def ciphWipe (s : State) : State := forAll [0, 1, 2, 3] endClaim s

/-- CIPH_u_CLAIM.CLAIM by Drover `n` (R240). -/
def ciphClaim (u : CU) (n : Nat) (s : State) : State :=
  if s.get (F.CIPH_u_CLAIM_OWNER u) = 0xF ∧ bitOf (s.man.ciph.getD u 0) n then s.put (F.CIPH_u_CLAIM_OWNER u) n else s

/-- CIPH_u_CLAIM.DROP by Drover `n`. -/
def ciphDrop (u : CU) (n : Nat) (s : State) : State := if s.get (F.CIPH_u_CLAIM_OWNER u) = n then endClaim u s else s

/-! ## Locations (R241, R248) -/

/-- A location's unused bits are zero. -/
def locOk (v : Nat) : Bool := if bitOf v 31 then bits v 11 20 == 0 else bits v 25 6 == 0

/-- A location names the release buffer. -/
def locRel (v : Nat) : Bool := bitOf v 31

/-- A range of `n` bytes from a location stays inside the release buffer or the Serai. -/
def locFits (v n : Nat) : Bool :=
  if locRel v then decide (bits v 0 11 + n ≤ 2048) else decide (bits v 0 25 + n ≤ serSize)

/-- Bytes of the release buffer. -/
def relBytes (b : List (Nat × Byte)) (off n : Nat) : List Byte := (List.range n).map fun i => sget (fun _ => 0) b (off + i)

/-- Read `n` bytes at a location: the bytes, and whether poison was met. -/
def readLoc (u : CU) (v n : Nat) (s : State) : List Byte × Bool × State :=
  if locRel v then (relBytes (s.cu u).buf (bits v 0 11) n, false, s) else serRead Master.unit (bits v 0 25) n s

/-- Write bytes at a location. -/
def writeLoc (u : CU) (v : Nat) (bs : List Byte) (s : State) : State :=
  if locRel v then s.modCu u fun c => { c with buf := memStore (bits v 0 11) bs c.buf }
  else serWrite Master.unit (bits v 0 25) bs s

/-! ## Keys and usage (R243 to R247) -/

/-- A key as a reference finds it: storage form, key index, USED, limit, AES-256, and whether its usage is leased. -/
structure KeyRef where
  wkey : List Byte
  keyidx : Nat
  used : Nat
  limit : Nat
  leased : Bool

/-- A key reference's bits that must be zero are zero, and its source exists (R243). -/
def refOk (v : Nat) : Bool :=
  if v % 4 = 0 then bits v 17 15 == 0
  else if v % 4 = 1 then bits v 8 24 == 0
  else if v % 4 = 2 then bits v 2 3 == 0 && bits v 25 7 == 0
  else false

/-- A 32-byte key slot's storage form, index, USED and VALID. -/
def slotKey (b : List Byte) (limit : Nat) (leased : Bool) : Option KeyRef :=
  if bitOf (numAt b 25 1) 0 then some ⟨b.take 24, numAt b 24 1, numAt b 28 4, limit, leased⟩ else none

/-- The storage form in keyring entry `k`: 24 bytes of an AES-128 key, 40 of an AES-256 key. -/
def State.ringKey (s : State) (k : Nat) : List Byte :=
  (((s.tru.keyring.find? (·.1 == k)).map (·.2)).getD []).take (if s.on (F.CIPH_KR_k_AES256 k) then 40 else 24)

/-- Read the key a reference names: the status where there is none (R244). -/
def findKey (u : CU) (v : Nat) (s : State) : (Nat ⊕ KeyRef) × State :=
  if v % 4 = 0 then
    let node := bits v 2 14
    if !s.tickRuns || !nodeOk node s then (.inl CiSt.nokey, s)
    else
      let g := serRead Master.sec (s.ledger node) 16 s
      let k := serRead Master.sec (s.ledger node + Grp.slotAt (bits v 16 1)) 32 g.2.2
      if g.2.1 || k.2.1 then (.inl CiSt.poison, k.2.2)
      else if bits (numAt g.1 10 1) 0 3 = 0 then (.inl CiSt.nokey, k.2.2)
      else match slotKey k.1 (s.get F.CIPH_LIMIT_SESS_LIMIT) false with
        | some r => (.inr r, k.2.2)
        | none => (.inl CiSt.nokey, k.2.2)
  else if v % 4 = 1 then
    let k := bits v 2 6
    let role := s.get (F.MAN_DRV_n_ROLE (s.get (F.CIPH_u_CLAIM_OWNER u)))
    if !s.on (F.CIPH_KR_k_VALID k) || role == 0 || !bitOf (s.get (F.CIPH_KR_k_ROLES k)) (role - 1) then
      (.inl CiSt.nokey, s)
    else
      let w := s.ringKey k
      (.inr ⟨w, s.get (F.CIPH_KR_k_KEYIDX k), s.get (F.CIPH_KR_k_USED k), s.get (F.CIPH_KR_k_LIMIT k), true⟩, s)
  else
    let k := serRead Master.unit (32 * bits v 5 20) 32 s
    if k.2.1 then (.inl CiSt.poison, k.2.2)
    else match slotKey k.1 (s.get F.CIPH_LIMIT_JOIN_LIMIT) true with
      | some r => (.inr r, k.2.2)
      | none => (.inl CiSt.nokey, k.2.2)

/-- Put an entry at the front of the lease cache; keyring keys stay, others give way least recently used first. -/
def cachePut (c : CacheEntry) (s : State) : State :=
  let l := c :: s.ciph.cache.filter fun x => !(x.fp == c.fp && x.keyidx == c.keyidx)
  let l := if 1024 < l.length then
      match (l.reverse.find? fun x => !x.ring) with
      | some old => l.filter fun x => !(x.fp == old.fp && x.keyidx == old.keyidx)
      | none => l
    else l
  { s with ciph := { s.ciph with cache := l } }

/-- The cached usage and lease end of a key, or what the flash lease log holds for it (R245, R398). -/
def State.cached (s : State) (k : KeyRef) : Nat × Nat :=
  match s.ciph.cache.find? fun c => c.fp == k.wkey.take 8 && c.keyidx == k.keyidx with
  | some c => (c.usage, c.lease)
  | none =>
    let e := s.leaseOf (k.wkey.take 8) k.keyidx
    (e, e)

/-- Write the usage of a reference's key (R245, R307): that of a Ledger slot in its granule, whole (R204). -/
def putUsed (v n : Nat) (s : State) : State :=
  if v % 4 = 0 then secPatch (bits v 2 14) (4 + 2 * bits v 16 1) 12 (fun _ => leBytes 4 n) s
  else if v % 4 = 1 then
    journal 0x05 0 (leBytes 4 (bits v 2 6) ++ leBytes 4 n) (s.put (F.CIPH_KR_k_USED (bits v 2 6)) n)
  else serWrite Master.unit (32 * bits v 5 20 + 28) (leBytes 4 n) s

/-- Reserve a budget (R245 to R247): a status other than DONE where it is refused, and the usage after it. -/
def reserve (v b : Nat) (k : KeyRef) (s : State) : Nat × Nat × State :=
  let c := s.cached k
  let u := max k.used c.1
  let fp := k.wkey.take 8
  let n := u + b
  if k.limit < n then (CiSt.limit, 0, s.inc (F.CIPH_CNT_k_COUNT 3))
  else
    let want := (n / 65536 + 2) * 65536
    let asked := s.sec.leases.any fun l => l.kind == 2 && l.fp == fp && l.keyidx == k.keyidx && decide (want ≤ l.end_)
    let s1 := s.when (k.leased && decide (c.2 < want) && !asked) (leaseStart 2 0 k.keyidx fp (min want (2 ^ 32 - 1)))
    if k.leased ∧ c.2 ≤ n then (CiSt.leasewait, 0, cachePut ⟨fp, k.keyidx, u, c.2, v % 4 == 1⟩ s1)
    else
      let s2 := putUsed v n (cachePut ⟨fp, k.keyidx, n, c.2, v % 4 == 1⟩ s1)
      let near := v % 4 == 0 && decide (256 * (k.limit - n) ≤ s2.get F.SEC_CFG_ROTWARN * k.limit)
      (CiSt.done, n, s2.when near (produce Prod.secRotate))

/-- Unwrap a storage form: 12 block operations for AES-128, 24 for AES-256. -/
def State.unwrap (s : State) (w : List Byte) : Option (List Byte) := s.tru.storageKey.bind (keyUnwrap · w)

/-! ## The feed stage (R248, R252) -/

/-- Two bytes, most significant first. -/
def be16 (n : Nat) : List Byte := (leBytes 2 n).reverse

/-- Pad with zeros to whole blocks. -/
def padBlocks (l : List Byte) : List Byte := l ++ List.replicate ((16 - l.length % 16) % 16) 0

/-- The blocks of a message. -/
def blocks (l : List Byte) : List (List Byte) := pieces 16 ((l.length + 15) / 16) (padBlocks l)

/-- Put the bytes of every KEYIN in their places of a message. -/
def keyed (ks : List (Nat × List Byte)) (msg : List Byte) : List Byte :=
  ks.foldl (fun m k => (patch m k.1 (k.2.take (m.length - k.1))).take m.length) msg

/-- What one command does once its entry is sound: status, block operations under the key, USED shown, and the state.
The block operations are counted against the budget before (R246). -/
structure CiAnswer where
  status : Nat
  blocks : Nat
  used : Nat

/-- The counter block `i` of a nonce. -/
def ctrBlock (n : List Byte) (i : Nat) : List Byte := (1 : Byte) :: n ++ be16 (i % 65536)

/-- The key in force. -/
def State.cuKey (s : State) (u : CU) : List Byte := ((s.cu u).key).getD []

/-! The entry's fields. -/
namespace Ci
def op (e : List Byte) : Nat := numAt e 0 1
def flags (e : List Byte) : Nat := numAt e 1 1
def len (e : List Byte) : Nat := numAt e 2 2
def src (e : List Byte) : Nat := numAt e 4 4
def dst (e : List Byte) : Nat := numAt e 8 4
def arg (e : List Byte) : Nat := numAt e 12 4
/-- FLAGS bit 2 of CTR and RAW. -/
def enc (e : List Byte) : Bool := bitOf (flags e) 2
/-- FLAGS bit 3 of FINAL, and its m. -/
def tag (e : List Byte) : Bool := bitOf (flags e) 3
def m (e : List Byte) : Nat := bits (flags e) 4 4 + 1
end Ci

/-- The bits of ARG that a command gives a meaning. DEDUCED, log entry 142. -/
def argBits (op : Nat) : Nat := if op = 1 ∨ op = 5 then 16 else if op = 3 then 8 else if op = 7 then 11 else 0

/-- The 32 bytes of an entry are refused with BADOP (R242, R243, R248): an unknown OP, a FLAGS value not defined for it, or a
reserved bit or byte that is not zero: in SRC and DST, in ARG beside what the command gives (DEDUCED, log entry 142), and
in bytes 17 and 24 to 31. -/
def ciBad (e : List Byte) : Bool :=
  let op := Ci.op e
  let fl := Ci.flags e
  let flagsOk :=
    if op = 4 then fl ≤ 1
    else if op = 5 ∨ op = 9 then fl = 0 ∨ fl = 4
    else if op = 6 then fl % 8 = 0
    else fl = 0
  let srcOk :=
    if op = 1 then refOk (Ci.src e)
    else if op = 7 then refOk (Ci.src e) ∧ Ci.src e % 4 = 0
    else locOk (Ci.src e)
  op == 0 || 10 < op || !flagsOk || !srcOk || !locOk (Ci.dst e) || decide (2 ^ argBits op ≤ Ci.arg e) ||
    !zeroAt e 17 1 || !zeroAt e 24 8

/-- The block operations a command makes under the key, its own length rules apart. -/
def ciOps (e : List Byte) : Nat :=
  let op := Ci.op e
  let n := Ci.len e
  if op = 3 ∨ op = 6 then 1
  else if op = 4 then (if n = 0 then 0 else if Ci.flags e = 0 then (n + 2 + 15) / 16 else (n + 15) / 16)
  else if op = 5 then (n + 15) / 16
  else if op = 9 then n / 16
  else 0

/-- Mask draws (R253): the block operations of a command, and those of an unwrap. -/
def ciDraws (e : List Byte) (s : State) : Nat :=
  if Ci.op e = 1 then (if Ci.src e % 4 = 1 ∧ s.on (F.CIPH_KR_k_AES256 (bits (Ci.src e) 2 6)) then 24 else 12)
  else if Ci.op e = 7 then 12
  else ciOps e

/-- Lengths and ranges (R248, R250). -/
def ciBadLen (e : List Byte) : Bool :=
  let op := Ci.op e
  let n := Ci.len e
  let cap := if op = 4 ∧ Ci.flags e = 0 then 65279 else 2048
  let srcN := if op = 4 ∨ op = 5 ∨ op = 9 then n else if op = 6 ∧ !Ci.tag e then Ci.m e else 0
  let dstN := if op = 5 ∨ op = 8 ∨ op = 9 then n else if op = 6 then (if Ci.tag e then Ci.m e else n) else 0
  (op == 1 && Ci.arg e % 65536 == 0) || cap < n || (op == 2 && !locFits (Ci.src e / 16 * 16) 16) || (op == 9 && n % 16 != 0) ||
    (op == 6 && Ci.m e % 2 == 1) || (srcN != 0 && !locFits (Ci.src e) srcN) || (dstN != 0 && !locFits (Ci.dst e) dstN)

/-- Sequences refused with BADSEQ (R249, R251, R252), and a NONCE from the release buffer, which R249 lets no command copy
(DESIGN CHOICE, log entry 143). -/
def ciBadSeq (u : CU) (e : List Byte) (s : State) : Bool :=
  let c := s.cu u
  let op := Ci.op e
  let keyin := !c.keyins.isEmpty
  if op = 2 then locRel (Ci.src e)
  else if op = 5 ∨ op = 9 then Ci.enc e == locRel (Ci.dst e) || (keyin && !Ci.enc e)
  else if op = 8 then c.macked || keyin
  else if op = 6 then keyin && (!Ci.tag e || !c.covered)
  else false

/-- The message of MAC or CTR with the keys of KEYIN in place, and whether poison was met. -/
def ciMessage (u : CU) (e : List Byte) (s : State) : List Byte × Bool × State :=
  let r := readLoc u (Ci.src e) (Ci.len e) s
  (if Ci.op e = 9 then r.1 else keyed (s.cu u).keyins r.1, r.2)

/-- SEL (R244, R245). -/
def ciSel (u : CU) (e : List Byte) (s : State) : CiAnswer × State :=
  let f := findKey u (Ci.src e) s
  match f.1 with
  | .inl st => (⟨st, 0, 0⟩, f.2)
  | .inr k =>
    let r := reserve (Ci.src e) (Ci.arg e % 65536) k f.2
    if r.1 ≠ CiSt.done then (⟨r.1, 0, 0⟩, r.2.2)
    else
      match r.2.2.unwrap k.wkey with
      | none => (⟨CiSt.badwrap, 0, 0⟩, r.2.2)
      | some key =>
        let t := (wipeUnit u r.2.2).modCu u fun c =>
          { c with key := some key, ref := Ci.src e, budget := Ci.arg e % 65536, used := 0 }
        (⟨CiSt.done, 0, r.2.1⟩,
          t.puts [(F.CIPH_u_STAT_SEL u, 1), (F.CIPH_u_STAT_AES256 u, b2n (key.length == 32))])

/-- KEYIN (R252). -/
def ciKeyin (u : CU) (e : List Byte) (s : State) : CiAnswer × State :=
  let f := findKey u (Ci.src e) s
  match f.1 with
  | .inl st => (⟨st, 0, 0⟩, f.2)
  | .inr k =>
    match f.2.unwrap k.wkey with
    | none => (⟨CiSt.badwrap, 0, 0⟩, f.2)
    | some key =>
      (⟨CiSt.done, 0, 0⟩, (f.2.modCu u fun c =>
        { c with keyins := c.keyins ++ [(Ci.arg e % 2048, key)], covered := false }).put (F.CIPH_u_STAT_KEYIN u) 1)

/-- NONCE: bytes 0 to 12 of the granule at SRC. -/
def ciNonce (u : CU) (e : List Byte) (s : State) : CiAnswer × State :=
  let r := readLoc u (Ci.src e / 16 * 16) 16 s
  if r.2.1 then (⟨CiSt.poison, 0, 0⟩, r.2.2)
  else (⟨CiSt.done, 0, 0⟩, r.2.2.modCu u fun c => { c with nonce := r.1.take 13 })

/-- B0: start the accumulator. -/
def ciB0 (u : CU) (e : List Byte) (s : State) : CiAnswer × State :=
  let b := BitVec.ofNat 8 (Ci.arg e) :: (s.cu u).nonce ++ be16 (Ci.len e)
  (⟨CiSt.done, 1, 0⟩, s.modCu u fun c => { c with acc := aesEnc (s.cuKey u) b, macked := true })

/-- MAC: fold the fed blocks into the accumulator. -/
def ciMac (u : CU) (e : List Byte) (s : State) : CiAnswer × State :=
  let r := ciMessage u e s
  if r.2.1 then (⟨CiSt.poison, 0, 0⟩, r.2.2)
  else
    let bs := if Ci.len e = 0 then [] else if Ci.flags e = 0 then blocks (be16 (Ci.len e) ++ r.1) else blocks r.1
    let k := s.cuKey u
    let acc := bs.foldl (fun a x => aesEnc k (xorBytes a x)) (s.cu u).acc
    (⟨CiSt.done, ciOps e, 0⟩, r.2.2.modCu u fun c => { c with acc := acc, macked := true })

/-- CTR: combine the message with the key stream. -/
def ciCtr (u : CU) (e : List Byte) (s : State) : CiAnswer × State :=
  let r := ciMessage u e s
  if r.2.1 then (⟨CiSt.poison, 0, 0⟩, r.2.2)
  else
    let c := s.cu u
    let ks := (List.range (ciOps e)).flatMap fun j => aesEnc (s.cuKey u) (ctrBlock c.nonce (Ci.arg e % 65536 + j))
    let t := writeLoc u (Ci.dst e) (xorBytes r.1 ks) r.2.2
    let cov := Ci.enc e && c.keyins.all fun k => decide (k.1 + 16 ≤ Ci.len e)
    (⟨CiSt.done, ciOps e, 0⟩, t.modCu u fun c => { c with covered := c.covered || cov })

/-- RAW: encrypt or decrypt blocks. -/
def ciRaw (u : CU) (e : List Byte) (s : State) : CiAnswer × State :=
  let r := ciMessage u e s
  if r.2.1 then (⟨CiSt.poison, 0, 0⟩, r.2.2)
  else
    let f := if Ci.enc e then aesEnc (s.cuKey u) else aesDec (s.cuKey u)
    let bs := if Ci.len e = 0 then [] else blocks r.1
    (⟨CiSt.done, ciOps e, 0⟩, writeLoc u (Ci.dst e) (bs.flatMap f) r.2.2)

/-- OPEN: copy the release buffer out. -/
def ciOpen (u : CU) (e : List Byte) (s : State) : CiAnswer × State :=
  (⟨CiSt.done, 0, 0⟩, writeLoc u (Ci.dst e) (relBytes (s.cu u).buf 0 (Ci.len e)) s)

/-- FINAL: the tag, checked or written (R250). -/
def ciFinal (u : CU) (e : List Byte) (s : State) : CiAnswer × State :=
  let c := s.cu u
  let t := (xorBytes c.acc (aesEnc (s.cuKey u) (ctrBlock c.nonce 0))).take (Ci.m e)
  let s1 := s.modCu u fun c => { c with macked := true }
  if Ci.tag e then (⟨CiSt.done, 1, 0⟩, writeLoc u (Ci.dst e) t s1)
  else
    let r := readLoc u (Ci.src e) (Ci.m e) s1
    if r.2.1 then (⟨CiSt.poison, 1, 0⟩, r.2.2)
    else if r.1 = t then
      let w := writeLoc u (Ci.dst e) (relBytes c.buf 0 (Ci.len e)) r.2.2
      (⟨CiSt.done, 1, 0⟩, (w.modCu u fun c => { c with buf := [] }).inc (F.CIPH_CNT_k_COUNT 1))
    else (⟨CiSt.tagfail, 1, 0⟩, (r.2.2.modCu u fun c => { c with buf := [] }).inc (F.CIPH_CNT_k_COUNT 2))

/-- The unit's ring. -/
def ciRing (u : Nat) : URing :=
  ⟨F.CIPH_RING_u_BASE u, F.CIPH_RING_u_LEN u, F.CIPH_RING_u_WR u, F.CIPH_RING_u_RD u, 32⟩

/-- End a command (R241): result bytes, RD, counts and the owner's event; a status other than DONE and TAGFAIL ends the
selection. -/
def ciEnd (u : CU) (off : Nat) (a : CiAnswer) (s : State) : State :=
  let owner := s.get (F.CIPH_u_CLAIM_OWNER u)
  let s1 := if a.status = CiSt.done ∨ a.status = CiSt.tagfail then
      (s.modCu u fun c => { c with used := c.used + a.blocks }).add (F.CIPH_CNT_k_COUNT 0) a.blocks
    else (wipeUnit u s).modCu u fun c => { c with failed := true }
  let s2 := ((s1.when (a.status == CiSt.badop) (·.flag F.CIPH_STAT_BADOP)).when (a.status == CiSt.starved)
    (·.inc (F.CIPH_CNT_k_COUNT 5))).when (a.status == CiSt.badwrap) (·.inc (F.CIPH_CNT_k_COUNT 6))
  let bytes := leBytes 1 a.status ++ leBytes 1 0 ++ leBytes 2 a.blocks ++ leBytes 4 a.used ++ leBytes 8 0
  let s3 := (ciRing u).pop (serWrite Master.unit (off + 16) bytes s2)
  if owner < 12 then evin owner 6 s3 else s3

/-- An answer with nothing but a status. -/
def CiAnswer.only (st : Nat) : CiAnswer := ⟨st, 0, 0⟩

/-- The status that refuses a sound entry before it starts (R241, R246, R248, R249, R251, R252). DEDUCED, log entry 81. -/
def ciRefusal (u : CU) (e : List Byte) (s : State) : Option Nat :=
  let op := Ci.op e
  let c := s.cu u
  if op ≠ 1 ∧ (c.failed ∨ (c.key.isNone ∧ op ≠ 10)) then some CiSt.nosel
  else if ciBadLen e then some CiSt.badlen
  else if ciBadSeq u e s then some CiSt.badseq
  else if op ≠ 1 ∧ ciOps e ≠ 0 ∧ c.budget < c.used + ciOps e then some CiSt.overbudget
  else none

/-- Carry out an entry that nothing refuses. -/
def ciRun (u : CU) (e : List Byte) (s : State) : CiAnswer × State :=
  let op := Ci.op e
  if op = 1 then ciSel u e s
  else if op = 2 then ciNonce u e s
  else if op = 3 then ciB0 u e s
  else if op = 4 then ciMac u e s
  else if op = 5 then ciCtr u e s
  else if op = 6 then ciFinal u e s
  else if op = 7 then ciKeyin u e s
  else if op = 8 then ciOpen u e s
  else if op = 9 then ciRaw u e s
  else (.only CiSt.done, wipeUnit u s)

/-- Draw the masks of `n` block operations (R253): while the DRBG produces, the pools stay full. The answer is the block
operations that found no mask. -/
def drawMask (u : CU) (n : Nat) (s : State) : Nat × State :=
  if s.on F.TRU_STAT_DRBGOK then (0, s)
  else
    let p := s.get (F.CIPH_u_STAT_POOL u)
    let k := min n (p / 8)
    (n - k, s.put (F.CIPH_u_STAT_POOL u) (p - 8 * k))

/-- The unit stalls with the entry `e` in work and `n` block operations to come (R253). DEDUCED, log entry 37. -/
def ciStall (u : CU) (e : List Byte) (n : Nat) (s : State) : State :=
  let s1 := (s.modCu u fun c => { c with stall := some (s.tally.clock, e, n) }).puts
    [(F.CIPH_u_STAT_STALL u, 1), (F.CIPH_u_STAT_BUSY u, 1)]
  raiseFault FaultCode.ciphStall u (s1.inc (F.CIPH_CNT_k_COUNT 4))

/-- Commands are served (R239) for the Drover that holds the claim. DEDUCED, log entry 81. -/
def State.ciServes (s : State) (u : CU) : Bool :=
  s.mode != Mode.reset && s.mode != Mode.safe && s.get (F.CIPH_u_CLAIM_OWNER u) != 0xF && !s.on (F.CIPH_u_STAT_STALL u)

/-- Carry out the entry at `off`, already read, and end the claim after RELEASE. -/
def ciExec (u : CU) (off : Nat) (e : List Byte) (s : State) : State :=
  let r := ciRun u e s
  let t := ciEnd u off r.1 r.2
  if Ci.op e = 10 ∧ r.1.status = CiSt.done then endClaim u t else t

/-- Go on with the entry at `off`, which has `n` block operations to come, or stall before the first that finds no mask.
DEDUCED, log entry 37. -/
def ciDraw (u : CU) (off : Nat) (e : List Byte) (n : Nat) (s : State) : State :=
  let d := drawMask u n s
  if d.1 = 0 then ciExec u off e d.2 else ciStall u e d.1 d.2

/-- The unit takes its next entry, for the row of the table with OP `op` (DEDUCED, log entry 27), or stalls before its
first block operation that finds no mask (R253). DEDUCED, log entry 37. DEDUCED, log entry 81. -/
def ciCommand (u : CU) (op : Nat) (s : State) : State :=
  if !s.ciServes u then s
  else
    match (ciRing u).next s with
    | none => s
    | some off =>
      let e := serRead Master.unit off 16 s
      let f := serRead Master.unit (off + 16) 16 e.2.2
      if e.2.1 then ciEnd u off (.only CiSt.poison) e.2.2
      else if ciBad (e.1 ++ f.1) then ciEnd u off (.only CiSt.badop) f.2.2
      else if Ci.op e.1 ≠ op then s
      else if let some st := ciRefusal u e.1 f.2.2 then ciEnd u off (.only st) f.2.2
      else ciDraw u off e.1 (ciDraws e.1 f.2.2) f.2.2

/-- The unit serves its next entry; while R311 holds a write of it, it waits. -/
def ciServe (u : CU) (op : Nat) (s : State) : State := orStall (4 + u) (ciCommand u op) s

/-- The stalled command of a unit, and the unit no longer stalled. -/
def ciUnstall (u : CU) (s : State) : State :=
  (s.modCu u fun c => { c with stall := none }).puts [(F.CIPH_u_STAT_STALL u, 0), (F.CIPH_u_STAT_BUSY u, 0)]

/-- A stall that has lasted STALLMAX µs ends the command (R253). DEDUCED, log entry 37. -/
def ciStarved (u : CU) (s : State) : State :=
  match (s.cu u).stall, (ciRing u).next s with
  | some (since, _, _), some off =>
    if since + 32 * s.get F.CIPH_CFG_STALLMAX ≤ s.tally.clock then
      orStall (4 + u) (fun s => ciEnd u off (.only CiSt.starved) (ciUnstall u s)) s
    else s
  | _, _ => s

/-- A unit's pool is filled again, and its stalled command goes on (R253). DEDUCED, log entry 37. -/
def ciRefill (u : CU) (s : State) : State :=
  let s0 := s.put (F.CIPH_u_STAT_POOL u) 512
  match (s0.cu u).stall, (ciRing u).next s0 with
  | some (_, e, n), some off => orStall (4 + u) (fun s => ciDraw u off e n (ciUnstall u s)) s0
  | _, _ => s0

/-- The DRBG produces: every pool is filled. -/
def fillPools (s : State) : State := forN 4 (fun u s => s.put (F.CIPH_u_STAT_POOL u) 512) s

/-- CIPH_CTL.CLRCNT. -/
def ciphClear (s : State) : State := forN 8 (fun k s => s.put (F.CIPH_CNT_k_COUNT k) 0) s

end Sys2Proof.Machine
end

