-- ==== Sys2Proof/Machine/Nt.lean ====
section
/-!
DEFINITION. The node timing unit (07_node_timing.md, R131 to R147).
-/

namespace Sys2Proof.Machine

/-! ## The drift model -/

/-- A node's drift model (granules 7 and 8 of its Ledger entry). -/
structure Drift where
  anchor : Nat
  anchq : Nat
  state : Nat
  off : Int
  rate : Int
  acc : Int
  jit : Nat
  pend : Int
  miss : Nat
  jumps : Nat
  nupd : Nat
  deriving DecidableEq, Repr

def Drift.of (b : List Byte) : Drift :=
  { anchor := numAt b 0 5, anchq := bits (numAt b 5 3) 0 20, state := bits (numAt b 5 3) 20 2,
    off := toSigned 32 (numAt b 8 4), rate := toSigned 32 (numAt b 12 4), acc := toSigned 32 (numAt b 16 4),
    jit := numAt b 20 2, pend := toSigned 12 (numAt b 22 2), miss := bits (numAt b 22 2) 12 4,
    jumps := bits (numAt b 24 1) 0 4, nupd := numAt b 25 1 }

def Drift.bytes (m : Drift) : List Byte :=
  leBytes 5 m.anchor ++ leBytes 3 (m.anchq % 2 ^ 20 + m.state % 4 * 2 ^ 20) ++ leBytes 4 (ofSigned 32 m.off) ++
    leBytes 4 (ofSigned 32 m.rate) ++ leBytes 4 (ofSigned 32 m.acc) ++ leBytes 2 m.jit ++
    leBytes 2 (ofSigned 12 m.pend + m.miss % 16 * 2 ^ 12) ++ leBytes 1 (m.jumps % 16) ++ leBytes 1 m.nupd ++
    List.replicate 6 0

/-- Drift states. -/
def ntNone : Nat := 0
def ntLearn : Nat := 1
def ntTrack : Nat := 2
def ntLost : Nat := 3

/-! ## Elapsed time (R132) -/

/-- ASN `a` lies after ASN `b`, the shorter way round. -/
def asnAfter (a b : Nat) : Bool := decide (0 < (a + 2 ^ 40 - b) % 2 ^ 40) && decide ((a + 2 ^ 40 - b) % 2 ^ 40 < 2 ^ 39)

/-- Quarter grains from the anchor instant to quarter grain `q` of slot `a`. -/
def State.elapsedQ (s : State) (m : Drift) (a q : Nat) : Int :=
  let n := (a + 2 ^ 40 - m.anchor) % 2 ^ 40
  let old := match s.nt.change with
    | some c => if asnAfter c m.anchor then min n ((c + 2 ^ 40 - m.anchor) % 2 ^ 40) else 0
    | none => 0
  ((4 * (old * s.get F.NT_EPOCH_OLDLEN + (n - old) * s.slotLen) + q : Nat) : Int) - m.anchq

/-- The model as R132 leaves it where the anchor lies before the change before the last one. -/
def State.freshen (s : State) (m : Drift) : Drift :=
  match s.nt.before with
  | some c => if asnAfter c m.anchor then { m with off := 0, acc := 0, nupd := 0, state := ntLearn } else m
  | none => m

/-- Record a change of the slot length at a tick that begins the first slot of the new length. -/
def ntEpoch (s : State) : State :=
  let l := s.slotLen
  if s.nt.lastLen = l then s
  else if s.nt.lastLen = 0 then { s with nt := { s.nt with lastLen := l } }
  else
    { s with nt := ⟨some s.tally.asn, s.nt.change, l⟩ }.puts
      [(F.NT_EPOCH_OLDLEN, s.nt.lastLen), (F.NT_EPOCH_ASN_ASN, s.tally.asn % 2 ^ 32)]

/-- dt in seconds. -/
def secs (q : Int) : Frac := ⟨q, 32000000⟩

/-- pred in ns: OFF + RATE × dt + ACC × dt² / 2. -/
def predict (m : Drift) (dt : Frac) : Frac :=
  ((Frac.ofInt m.off).add ((⟨m.rate, 1024⟩ : Frac).mul dt)).add ((⟨m.acc, 2 ^ 21⟩ : Frac).mul (dt.mul dt))

/-- JIT in ns. -/
def jitNs (m : Drift) : Frac := ⟨m.jit * 125, 64⟩

/-- The schedule in force in the slot `n` slots after the present one: that of an armed change from slot 0 of its target
superframe on (R75). -/
def State.schedAhead (s : State) (n : Nat) : List Word :=
  match s.sf.change with
  | some c => if ahead c.target s * s.sfLen ≤ n + s.tally.slot then c.words else s.sched
  | none => s.sched

/-! ## Settings (NT_CFG, NT_GAIN, NT_GUARD) -/

def State.lostN (s : State) : Nat := max 1 (s.get F.NT_CFG_LOSTN)
def State.learnN (s : State) : Nat := max 2 (s.get F.NT_CFG_LEARN)
def State.jumpMax (s : State) : Nat := max 1 (s.get F.NT_CFG_JUMPMAX)
def State.gmin (s : State) : Nat := max 256 (min 8000 (s.get F.NT_GUARD_GMIN))

/-! ## Results -/

/-- What a command answers: its status, the model after it (none where it writes none), and the result fields. -/
structure NtAnswer where
  status : Nat
  model : Option Drift
  jumped : Bool
  corr : Nat
  wopen : Nat
  wclose : Nat
  d : Int

/-- An answer with nothing but a status. -/
def NtAnswer.only (st : Nat) : NtAnswer := ⟨st, none, false, 0, 0, 0, 0⟩

/-- The RESULT byte. -/
def ntResult (m : Drift) (jumped : Bool) : Nat := m.state + 4 * m.miss + 64 * b2n jumped + 128 * b2n (m.pend != 0)

/-- Resolve the 12 ASN bits of an observation timestamp (R145). -/
def State.resolveTs (s : State) (ts : Nat) : Nat × Nat :=
  ((s.tally.asn + 2 ^ 40 - (s.tally.asn + 4096 - ts / 2 ^ 20 % 4096) % 4096) % 2 ^ 40, ts % 2 ^ 20)

/-- The observation of R136 in ns. -/
def State.obsNs (s : State) (ackie : Bool) (q value : Nat) : Frac :=
  if ackie then Frac.ofInt (toSigned 12 value * 1000)
  else ⟨((q : Int) - 4 * s.get F.SF_TMPL0_TXOFF) * 125, 4⟩

/-- How an update ends (R137, R138): the model with OFF and PEND, and CORR. -/
def finishUpdate (ack ackie : Bool) (est obs : Frac) (m : Drift) : Drift × Nat :=
  if ackie then ({ m with off := storeS 32 (est.sub obs), pend := 0 }, 0)
  else if ack then
    let corr := max (-2047) (min 2047 (-(est.mul ⟨1, 1000⟩).round))
    ({ m with off := storeS 32 (est.add (Frac.ofInt (corr * 1000))), pend := corr }, ofSigned 12 corr)
  else ({ m with off := storeS 32 est, pend := 0 }, 0)

/-! ## The commands -/

/-- A miss (R142). -/
def ntMissModel (m : Drift) (s : State) : Drift × State :=
  if m.state = ntLost then (m, s)
  else
    let k := min 15 (m.miss + 1)
    let s1 := s.inc (F.NT_CNT_k_COUNT 2)
    if s.lostN ≤ k then
      ({ m with miss := k, state := ntLost }, produce Prod.ntSyncLost (s1.inc (F.NT_CNT_k_COUNT 4)))
    else ({ m with miss := k }, s1)

/-- INIT (R144). -/
def ntInitRun (fl arg : Nat) (value : Nat) (s : State) : NtAnswer × State :=
  let t := s.resolveTs arg
  let obs := s.obsNs (bitOf fl 2) t.2 value
  let m : Drift := ⟨t.1, t.2, ntLearn, 0, 0, 0, 0, 0, 0, 0, 1⟩
  let r := finishUpdate (bitOf fl 0) (bitOf fl 2) obs obs m
  (⟨1, some r.1, false, r.2, 0, 0, 0⟩, s)

/-- PREDICT (R134, R135, R145): TXOFF and RXGMAX are those in force in slot k; L of R132 is SF_SLOTLEN as it stands
(DEDUCED, log entry 140). -/
def ntPredictRun (m0 : Drift) (arg : Nat) (s : State) : NtAnswer × State :=
  let n := (arg + 2 ^ 32 - s.tally.asn % 2 ^ 32) % 2 ^ 32
  if 65535 < n then (⟨3, some m0, false, 0, 0, 0, 0⟩, s)
  else
    let m := s.freshen m0
    let ws := s.schedAhead n
    let tx := schedField ws 2 0 16
    let gx := schedField ws 2 16 16
    let dt := secs (s.elapsedQ m ((s.tally.asn + n) % 2 ^ 40) (4 * tx))
    let s1 := s.inc (F.NT_CNT_k_COUNT 1)
    if m.state = ntLost then (⟨5, some m, false, 0, tx - gx, tx + gx, 0⟩, s1)
    else
      let c := (predict m dt).sub (Frac.ofInt (m.pend * 500))
      let g := (((Frac.ofInt 4).mul (jitNs m)).add ((Frac.ofInt (s.get F.NT_GUARD_RUNC)).mul dt)).add
        (Frac.ofInt (m.pend.natAbs * 500))
      let g0 : Int := if m.state = ntLearn then gx else max (s.gmin : Int) ((g.mul ⟨1, 125⟩).ceil)
      let gw : Int := min gx (g0 * 2 ^ m.miss)
      let mid := (Frac.ofInt tx).add (c.mul ⟨1, 125⟩)
      let wo := max ((tx : Int) - gx) (mid.sub (Frac.ofInt gw)).floor
      let wc := min ((tx : Int) + gx) (mid.add (Frac.ofInt gw)).ceil
      if wc < wo then
        let r := ntMissModel m s1
        (⟨4, some r.1, false, 0, tx - gx, tx + gx, 0⟩, r.2)
      else (⟨1, some m, false, 0, wo.toNat, wc.toNat, 0⟩, s1)

/-- A quotient by dt or dt²; where dt is 0 the spec states no result: a free value (DESIGN CHOICE, log entry 26). -/
def overDt (a dt : Frac) (s : State) : Frac × State :=
  if dt.n = 0 then (Frac.ofInt (Config.freeInt s.free), { s with free := s.free + 1 }) else (a.div dt, s)

/-- UPDATE (R136, R137). -/
def ntUpdateRun (m0 : Drift) (fl arg value : Nat) (s : State) : NtAnswer × State :=
  let t := s.resolveTs arg
  if asnAfter m0.anchor t.1 || (m0.anchor == t.1 && decide (t.2 < m0.anchq)) then (⟨3, some m0, false, 0, 0, 0, 0⟩, s)
  else
    let m1 := s.freshen m0
    let m2 := if bitOf fl 1 then { m1 with off := satSigned 32 (m1.off - m1.pend * 1000) } else m1
    let m := { m2 with pend := 0 }
    let obs := s.obsNs (bitOf fl 2) t.2 value
    let dt := secs (s.elapsedQ m t.1 t.2)
    let pred := predict m dt
    let d := obs.sub pred
    let rate : Frac := ⟨m.rate, 1024⟩
    let acc : Frac := ⟨m.acc, 2 ^ 20⟩
    let moved := rate.add (acc.mul dt)
    let spread := ((Frac.ofInt 4).mul (jitNs m)).add ((Frac.ofInt (s.get F.NT_GUARD_RUNC)).mul dt)
    let gate : Int := max (s.gmin : Int) ((spread.mul ⟨1, 125⟩).ceil) * 125
    let learning := m.state == ntLearn || m.state == ntLost
    let jump := !learning && !(d.abs.le (Frac.ofInt gate))
    let s1 := s.when jump (·.inc (F.NT_CNT_k_COUNT 3))
    let restart := jump && decide (s.jumpMax ≤ m.jumps + 1)
    -- rate, acc, jit and est after the observation
    let r : Frac × Frac × Frac × Frac × State :=
      if learning then
        if 1 ≤ m.nupd then
          let q := overDt d dt s1
          (moved.add q.1, Frac.ofInt 0, jitNs m, obs, q.2)
        else (rate, Frac.ofInt 0, jitNs m, obs, s1)
      else if jump then (moved, if restart then Frac.ofInt 0 else acc, jitNs m, obs, s1)
      else
        let kb : Frac := ⟨s.get F.NT_GAIN_KB, 256⟩
        let kg : Frac := ⟨s.get F.NT_GAIN_KG, 256⟩
        let ka : Frac := ⟨s.get F.NT_GAIN_KA, 256⟩
        let q1 := overDt (kb.mul d) dt s1
        let q2 := overDt ((kg.mul (Frac.ofInt 2)).mul d) (dt.mul dt) q1.2
        (moved.add q1.1, acc.add q2.1, (jitNs m).add ((d.abs.sub (jitNs m)).mul ⟨1, 16⟩), pred.add (ka.mul d), q2.2)
    let jumps := if jump && !restart then min 15 (m.jumps + 1) else 0
    let wasLost := m.state == ntLost
    let nupd := if wasLost then 1 else min 255 ((if restart then 0 else m.nupd) + 1)
    let st0 := if wasLost || restart then ntLearn else m.state
    let st := if st0 = ntLearn ∧ s.learnN ≤ nupd then ntTrack else st0
    let s2 := (r.2.2.2.2.when wasLost (·.inc (F.NT_CNT_k_COUNT 5))).inc (F.NT_CNT_k_COUNT 0)
    let m3 : Drift := { m with
      anchor := t.1, anchq := t.2, state := st, rate := storeS 32 (r.1.mul (Frac.ofInt 1024)),
      acc := storeS 32 (r.2.1.mul (Frac.ofInt (2 ^ 20))),
      jit := (max 0 (min 65535 (r.2.2.1.mul ⟨64, 125⟩).round)).toNat, miss := 0, jumps := jumps, nupd := nupd }
    let e := finishUpdate (bitOf fl 0) (bitOf fl 2) r.2.2.2.1 obs m3
    (⟨1, some e.1, jump, e.2, 0, 0, storeS 32 d⟩, s2)

/-! ## The rings (R131, R144, R146, R147) -/

/-- The NT command rings. -/
def ntRing (j : Nat) : URing :=
  ⟨F.NT_RING_j_BASE j, F.NT_RING_j_LEN j, F.NT_RING_j_WR j, F.NT_RING_j_RD j, 32⟩

/-- The entry breaks the layout of R144. -/
def ntBad (e : List Byte) : Bool :=
  let op := numAt e 0 1
  let fl := numAt e 1 1
  op == 0 || 5 < op || 8 ≤ fl || !zeroAt e 10 6 || ((op == 4 || op == 5) && !zeroAt e 4 4) ||
    (!zeroAt e 8 2 && !(op == 2 && bitOf fl 2)) || ((op == 3 || op == 4 || op == 5) && fl != 0) || (op == 1 && bitOf fl 1)

/-- End a command: its result bytes, RD, the flags and the ring's done event. -/
def ntEnd (j off : Nat) (a : NtAnswer) (s : State) : State :=
  let m := a.model
  let bytes := leBytes 1 a.status ++ leBytes 1 ((m.map fun m => ntResult m a.jumped).getD 0) ++ leBytes 2 a.corr ++
    leBytes 4 a.wopen ++ leBytes 4 a.wclose ++ leBytes 4 (ofSigned 32 a.d)
  let s1 := (s.when (a.status == 6) (·.flag F.NT_STAT_BADOP)).when (a.status == 3) (·.flag F.NT_STAT_STALE)
  evinAll (2 + j) ((ntRing j).pop (serWrite Master.unit (off + 16) bytes s1))

/-- Carry out a sound entry: its answer and the state. -/
def ntRun (e : List Byte) (s : State) : NtAnswer × State :=
  let op := numAt e 0 1
  let fl := numAt e 1 1
  let node := numAt e 2 2
  let arg := numAt e 4 4
  let value := numAt e 8 2
  let base := s.ledger node
  if !nodeOk node s then (.only 2, s)
  else if op = 5 then (.only 1, serWrite Master.unit (base + 112) (List.replicate 32 0) s)
  else if op = 1 then
    let r := ntInitRun fl arg value s
    (r.1, serWrite Master.unit (base + 112) ((r.1.model.map Drift.bytes).getD []) r.2)
  else
    let g := serRead Master.unit base 16 s
    let d := serRead Master.unit (base + 112) 32 g.2.2
    let m := Drift.of d.1
    if g.2.1 || d.2.1 then (.only 2, d.2.2)
    else if bits (numAt g.1 10 1) 0 3 = 0 ∨ m.state = ntNone then (.only 2, d.2.2)
    else
      let r := if op = 2 then ntUpdateRun m fl arg value d.2.2
        else if op = 3 then ntPredictRun m arg d.2.2
        else
          let k := ntMissModel m d.2.2
          (⟨1, some k.1, false, 0, 0, 0, 0⟩, k.2)
      if r.1.status = 3 then r
      else (r.1, serWrite Master.unit (base + 112) ((r.1.model.map Drift.bytes).getD []) r.2)

/-- The unit takes its next entry, for the row of the table with OP `op` (DEDUCED, log entry 27). -/
def ntCommand (op : Nat) (s : State) : State :=
  if !s.tickRuns then s
  else
    match nextOf ntRing s with
    | none => s
    | some (j, off) =>
      let e := serRead Master.unit off 16 s
      if e.2.1 then ntEnd j off (.only 7) e.2.2
      else if ntBad e.1 then ntEnd j off (.only 6) e.2.2
      else if numAt e.1 0 1 ≠ op then s
      else
        let r := ntRun e.1 e.2.2
        ntEnd j off r.1 r.2

/-- NT serves its next entry; while R311 holds a write of it, it waits. -/
def ntServe (op : Nat) (s : State) : State := orStall 0 (ntCommand op) s

/-- NT_LOST: nodes whose drift model stands in SYNC_LOST. -/
def State.ntLostCount (s : State) : Nat :=
  (s.ser.mem.filter fun p => s.inBay Bay.ledger p.1 && (p.1 - s.bayBase Bay.ledger) % 256 == 119 && bits p.2.toNat 4 2 == 3).length

/-- NT_CTL.CLRCNT. -/
def ntClear (s : State) : State := forN 6 (fun k s => s.put (F.NT_CNT_k_COUNT k) 0) s

end Sys2Proof.Machine
end

