-- ==== Sys2Proof/Machine/Shp.lean ====
section
/-!
DEFINITION. The shaping unit (14_shaping.md, R255 to R267): class buckets, time gates, holding, the class queues and node
policing.
-/

namespace Sys2Proof.Machine

/-! ## Class buckets (R256, R257) -/

/-- Tokens of class `n` in 1/256 byte. -/
def State.tokens (s : State) (n : Nat) : Nat := s.tok.getD n 0

/-- Set a class's tokens; SHP_TOK_n shows whole bytes. -/
def setTokens (n v : Nat) (s : State) : State := { s with tok := s.tok.set n v }.put (F.SHP_TOK_n_TOK n) (v / 256)

/-- The fullest bucket of class `n`. -/
def State.burst (s : State) (n : Nat) : Nat := 256 * s.get (F.SHP_CLASS_n_BURST n)

/-- A quotient rounded to nearest, halves up (R133, of a number that is not negative). -/
def roundDiv (a d : Nat) : Nat := (2 * a + d) / (2 * d)

/-- The credit of a tick, with the length of the slot just ended (R256). -/
def tokenCredit (l : Nat) (s : State) : State :=
  forN 16 (fun n s =>
    if s.on (F.SHP_CLASS_n_EN n) then
      setTokens n (min (s.tokens n + roundDiv (s.get (F.SHP_CLASS_n_RATE n) * l) 31250) (s.burst n)) s
    else s) s

/-- Set a class's tokens full or to zero by TRESET (R257). -/
def tokenReset (n : Nat) (s : State) : State :=
  setTokens n (if s.on (F.SHP_CLASS_n_TRESET n) then s.burst n else 0) s

/-- R257 for every class. -/
def tokenResetAll (s : State) : State := forN 16 tokenReset s

/-- The classes of which a staged write, now due, writes a word. -/
def stagedClasses (l : List Staged) : List Nat :=
  (List.range 16).filter fun n => l.any fun p => p.field.off / 16 == (0xC0040 + 16 * n) / 16

/-! ## Results -/

/-- Statuses of R262. -/
def shDone : Nat := 1
def shBadnode : Nat := 2
def shBadop : Nat := 3
def shEmpty : Nat := 4
def shFull : Nat := 5
def shHeld : Nat := 6
def shTokens : Nat := 7
def shGate : Nat := 8
def shNofit : Nat := 9
def shPoliced : Nat := 10
def shPoison : Nat := 11

/-- What a command answers. -/
structure ShpAnswer where
  status : Nat
  count : Nat
  head : Nat
  ntok : Nat

/-! ## Queues (R204, R206, R264, R266) -/

/-- A class queue word: TAIL and COUNT. -/
def qTail (q : Nat) : Nat := bits q 0 20
def qCount (q : Nat) : Nat := bits q 20 12

/-- Place of queue entry `e`, where it lies in the QUEUE bay. DEDUCED, log entry 82. -/
def State.qEntry (s : State) (e : Nat) : Option Nat :=
  if 16 * e + 16 ≤ s.baySize Bay.queue then some (s.bayBase Bay.queue + 16 * e) else none

/-- Read a queue entry: its bytes, or the status that ends the command. DEDUCED, log entry 82. -/
def readEntry (e : Nat) (s : State) : (Nat ⊕ List Byte) × State :=
  match s.qEntry e with
  | none => (.inl shBadop, s)
  | some off =>
    let r := serRead Master.unit off 16 s
    (if r.2.1 then .inl shPoison else .inr r.1, r.2.2)

/-- Write a queue entry whole. -/
def writeEntry (e : Nat) (b : List Byte) (s : State) : State :=
  match s.qEntry e with
  | none => s
  | some off => serWrite Master.unit off b s

/-- NEXT of an entry's LINK. -/
def linkNext (b : List Byte) : Nat := bits (numAt b 0 4) 0 20

/-- An entry with another NEXT. -/
def withNext (b : List Byte) (n : Nat) : List Byte := patch b 0 (leBytes 4 (setBits (numAt b 0 4) 0 20 n))

/-- Write class `c`'s queue word in the granule that holds it. -/
def writeQueue (node c : Nat) (g : List Byte) (q : Nat) (s : State) : State :=
  serWrite Master.unit (s.ledger node + 176 + c / 4 * 16) (patch g (4 * (c % 4)) (leBytes 4 q)) s

/-- ENQ (R264). `g` is the QUEUES granule of the class. DEDUCED, log entry 146. -/
def shpEnq (node c e : Nat) (g : List Byte) (s : State) : ShpAnswer × State :=
  let q := numAt g (4 * (c % 4)) 4
  let n := qCount q
  match readEntry e s with
  | (.inl st, t) => (⟨st, n, 0, 0⟩, t)
  | (.inr b, t) =>
    if numAt b 10 2 ≠ node then (⟨shBadop, n, 0, 0⟩, t)
    else if s.get (F.SHP_QMAX c) = n then (⟨shFull, n, 0, 0⟩, t.inc (F.SHP_CNT_k_COUNT 7))
    else
      let own (nx : Nat) : List Byte := patch b 0 (leBytes 4 (nx + c * 2 ^ 20 + bits (numAt b 0 4) 24 8 * 2 ^ 24))
      let q2 := e + (n + 1) * 2 ^ 20
      if n = 0 then (⟨shDone, 1, 0, 0⟩, writeQueue node c g q2 (writeEntry e (own e) t))
      else match readEntry (qTail q) t with
        | (.inl st, t2) => (⟨st, n, 0, 0⟩, t2)
        | (.inr tb, t2) =>
          let b2 := own (linkNext tb)
          let tail := if qTail q = e then b2 else tb
          (⟨shDone, n + 1, 0, 0⟩, writeQueue node c g q2 (writeEntry (qTail q) (withNext tail e) (writeEntry e b2 t2)))

/-- DONE (R266). -/
def shpDone (node c : Nat) (g : List Byte) (s : State) : ShpAnswer × State :=
  let q := numAt g (4 * (c % 4)) 4
  let n := qCount q
  if n = 0 then (⟨shEmpty, 0, 0, 0⟩, s)
  else match readEntry (qTail q) s with
    | (.inl st, t) => (⟨st, n, 0, 0⟩, t)
    | (.inr tb, t) =>
      let h := linkNext tb
      let q2 := qTail q + (n - 1) * 2 ^ 20
      if n = 1 then (⟨shDone, 0, h, 0⟩, writeQueue node c g q2 t)
      else match readEntry h t with
        | (.inl st, t2) => (⟨st, n, h, 0⟩, t2)
        | (.inr hb, t2) =>
          (⟨shDone, n - 1, h, 0⟩, writeQueue node c g q2 (writeEntry (qTail q) (withNext tb (linkNext hb)) t2))

/-! ## Admission (R258, R259, R265) -/

/-- The node's downlink is held (R259): HOLD, SYNC_LOST, or a pending grant not confirmed at its TSFN. `g0` is granule 0
of the entry, `d` its drift model. -/
def State.downHeld (s : State) (g0 d : List Byte) : Bool :=
  let st := numAt g0 10 1
  bitOf st 5 || (Drift.of d).state == ntLost || (bitOf st 3 && !bitOf st 4 && !inFuture (numAt g0 12 4) s)

/-- End of a frame with its acknowledgement (R258). -/
def State.frameEndAt (s : State) (start phy len : Nat) (ack : Bool) : Nat :=
  start + airtime phy len + if ack then s.get F.SF_TMPL1_ACKDLY + ackAir phy else 0

/-- The frame fits the class's gate (R258). -/
def State.inGate (s : State) (c start stop : Nat) : Bool :=
  decide (8 * s.get (F.SHP_GOPEN c) ≤ start) &&
    (s.get (F.SHP_GCLOSE c) == 0xFFFF || decide (stop ≤ 8 * s.get (F.SHP_GCLOSE c)))

/-- ADMIT (R265). -/
def shpAdmit (node c phy : Nat) (ack : Bool) (start span : Nat) (g0 g : List Byte) (s : State) : ShpAnswer × State :=
  let q := numAt g (4 * (c % 4)) 4
  let n := qCount q
  if n = 0 then (⟨shEmpty, 0, 0, 0⟩, s)
  else
    let d := serRead Master.unit (s.ledger node + 112) 32 s
    if d.2.1 then (⟨shPoison, n, 0, 0⟩, d.2.2)
    else match readEntry (qTail q) d.2.2 with
      | (.inl st, t) => (⟨st, n, 0, 0⟩, t)
      | (.inr tb, t) =>
        let h := linkNext tb
        if s.downHeld g0 d.1 then (⟨shHeld, n, h, 0⟩, t.inc (F.SHP_CNT_k_COUNT 1))
        else match readEntry h t with
        | (.inl st, t2) => (⟨st, n, h, 0⟩, t2)
        | (.inr hb, t2) =>
          let len := numAt hb 8 2
          let stop := s.frameEndAt start phy len ack
          let need := 256 * len
          if span * s.slotLen < stop + 800 then (⟨shNofit, n, h, 0⟩, t2.inc (F.SHP_CNT_k_COUNT 4))
          else if !s.inGate c start stop then (⟨shGate, n, h, 0⟩, t2.inc (F.SHP_CNT_k_COUNT 3))
          else if s.on (F.SHP_CLASS_n_EN c) then
            if s.tokens c < need then (⟨shTokens, n, h, 0⟩, t2.inc (F.SHP_CNT_k_COUNT 2))
            else (⟨shDone, n, h, 0⟩, setTokens c (s.tokens c - need) (t2.inc (F.SHP_CNT_k_COUNT 0)))
          else (⟨shDone, n, h, 0⟩, t2.inc (F.SHP_CNT_k_COUNT 0))

/-! ## Policing (R260, R261) -/

/-- Node tokens at the present ASN (R260). -/
def State.nodeTokens (s : State) (shape : List Byte) : Nat :=
  let full := 256 * s.get F.SHP_NODEPOL_NBURST
  let a := s.tally.asn
  let last := numAt shape 3 5
  if zeroAt shape 0 8 ∨ a < last then full
  else min full (numAt shape 0 3 + roundDiv ((a - last) * s.slotLen * s.get F.SHP_NODEPOL_NRATE) 31250)

/-- POLICE of uplink class `c` (R261). -/
def shpPolice (node c len : Nat) (s : State) : ShpAnswer × State :=
  let r := serRead Master.unit (s.ledger node + 240) 8 s
  if r.2.1 then (⟨shPoison, 0, 0, 0⟩, r.2.2)
  else
    let t := r.2.2
    let tok := t.nodeTokens r.1
    let need := 256 * len
    let k := 8 + c
    let nodeTest := t.get F.SHP_NODEPOL_NRATE != 0 && t.on (F.SHP_NPOL k)
    let classTest := t.on (F.SHP_CLASS_n_EN k)
    let st := if nodeTest && decide (tok < need) then shPoliced
      else if classTest && decide (t.tokens k < need) then shTokens else shDone
    let left := if st = shDone ∧ nodeTest then tok - need else tok
    let t1 := serWrite Master.unit (t.ledger node + 240) (leBytes 3 left ++ leBytes 5 t.tally.asn) t
    let t2 := if st = shDone ∧ classTest then setTokens k (t1.tokens k - need) t1 else t1
    let t3 := if st = shPoliced then t2.inc (F.SHP_CNT_k_COUNT 5)
      else if st = shTokens then t2.inc (F.SHP_CNT_k_COUNT 6) else t2
    (⟨st, 0, 0, left / 256⟩, t3)

/-! ## The rings (R255, R262, R263) -/

/-- The SHP command rings. -/
def shpRing (j : Nat) : URing :=
  ⟨F.SHP_RING_j_BASE j, F.SHP_RING_j_LEN j, F.SHP_RING_j_WR j, F.SHP_RING_j_RD j, 32⟩

/-- The 32 bytes of an entry break the layout of R262. -/
def shpBad (e : List Byte) : Bool :=
  let op := numAt e 0 1
  let fl := numAt e 1 1
  let arg := numAt e 4 4
  op == 0 || 4 < op || 64 ≤ fl || !zeroAt e 8 8 || (op != 2 && bits fl 3 3 != 0) || (op == 2 && bits fl 4 2 == 3) ||
    (op == 1 && 2 ^ 20 ≤ arg) || (op == 2 && 2 ^ 23 ≤ arg) || (op == 3 && arg != 0) || (op == 4 && 2 ^ 16 ≤ arg) ||
    !zeroAt e 17 1

/-- End a command: its result bytes, RD and the ring's done event. HEAD is shown for ADMIT and DONE. -/
def shpEnd (j off : Nat) (e : List Byte) (a : ShpAnswer) (s : State) : State :=
  let op := numAt e 0 1
  let cls := numAt e 1 1 % 8 + if op = 4 then 8 else 0
  let s1 := s.when (a.status == shBadop) (·.flag F.SHP_STAT_BADOP)
  let bytes := leBytes 1 a.status ++ leBytes 1 0 ++ leBytes 2 a.count ++ leBytes 4 a.head ++
    leBytes 4 (s1.tokens cls / 256) ++ leBytes 4 a.ntok
  produce (Prod.shpDone j) ((shpRing j).pop (serWrite Master.unit (off + 16) bytes s1))

/-- An answer with nothing but a status. -/
def ShpAnswer.only (st : Nat) : ShpAnswer := ⟨st, 0, 0, 0⟩

/-- Carry out a sound entry. -/
def shpRun (e : List Byte) (s : State) : ShpAnswer × State :=
  let op := numAt e 0 1
  let fl := numAt e 1 1
  let node := numAt e 2 2
  let arg := numAt e 4 4
  let c := fl % 8
  if !nodeOk node s then (.only shBadnode, s)
  else
    let g0 := serRead Master.unit (s.ledger node) 16 s
    if g0.2.1 then (.only shPoison, g0.2.2)
    else if bits (numAt g0.1 10 1) 0 3 = 0 then (.only shBadnode, g0.2.2)
    else if op = 4 then shpPolice node c arg g0.2.2
    else
      let g := serRead Master.unit (s.ledger node + 176 + c / 4 * 16) 16 g0.2.2
      if g.2.1 then (.only shPoison, g.2.2)
      else if op = 1 then shpEnq node c arg g.1 g.2.2
      else if op = 2 then shpAdmit node c (bits fl 4 2) (bitOf fl 3) (bits arg 0 18) (bits arg 18 5 + 1) g0.1 g.1 g.2.2
      else shpDone node c g.1 g.2.2

/-- The unit takes its next entry, for the row of the table with OP `op` (DEDUCED, log entry 27). -/
def shpCommand (op : Nat) (s : State) : State :=
  if !s.tickRuns then s
  else
    match nextOf shpRing s with
    | none => s
    | some (j, off) =>
      let e := serRead Master.unit off 16 s
      let f := serRead Master.unit (off + 16) 16 e.2.2
      if e.2.1 then shpEnd j off e.1 (.only shPoison) e.2.2
      else if shpBad (e.1 ++ f.1) then shpEnd j off e.1 (.only shBadop) f.2.2
      else if numAt e.1 0 1 ≠ op then s
      else
        let r := shpRun e.1 f.2.2
        shpEnd j off e.1 r.1 r.2

/-- SHP serves its next entry; while R311 holds a write of it, it waits. -/
def shpServe (op : Nat) (s : State) : State := orStall 2 (shpCommand op) s

/-- SHP_CTL.CLRCNT. -/
def shpClear (s : State) : State := forN 8 (fun k s => s.put (F.SHP_CNT_k_COUNT k) 0) s

end Sys2Proof.Machine
end

