-- ==== Sys2Proof/Machine/Dma.lean ====
section
/-!
DEFINITION. The DMA block (15_dma.md, R269 to R280): channels, Waybills and bus errors.
-/

namespace Sys2Proof.Machine

/-- A DMA channel. -/
abbrev Chan : Type := Fin 16

/-- Change a channel's hidden state. -/
def State.modDma (s : State) (n : Chan) (f : DmaChan → DmaChan) : State := { s with dma := s.dma.set n (f s.dma[n]) }

/-- A channel with no Waybill begun. -/
def DmaChan.init : DmaChan := ⟨[], none, false, 0, []⟩

/-! Channel states and Waybill statuses (R271). -/
namespace DmaSt
def idle : Nat := 0
def run : Nat := 1
def halted : Nat := 2
def stopped : Nat := 3
end DmaSt

namespace WbSt
def done : Nat := 1
def mismatch : Nat := 2
def align : Nat := 3
def badwb : Nat := 4
def poison : Nat := 5
def stopped : Nat := 6
def buserr : Nat := 7
end WbSt

/-! The fields of a Waybill (R271). -/
namespace Wb
def op (w : List Byte) : Nat := numAt w 0 1
def barrier (w : List Byte) : Bool := bitOf (numAt w 1 1) 0
def evt (w : List Byte) : Bool := bitOf (numAt w 1 1) 1
def stopmis (w : List Byte) : Bool := bitOf (numAt w 1 1) 2
def srcSpace (w : List Byte) : Nat := bits (numAt w 2 1) 0 2
def dstSpace (w : List Byte) : Nat := bits (numAt w 2 1) 2 2
def len (w : List Byte) : Nat := numAt w 4 3
def src (w : List Byte) : Nat := numAt w 8 8
def dst (w : List Byte) : Nat := numAt w 16 8
def next (w : List Byte) : Nat := bits (numAt w 24 4) 0 25
def hasNext (w : List Byte) : Bool := bitOf (numAt w 24 4) 31
end Wb

/-- The owner of a channel: a Drover, or none for host software (R269). -/
def State.dmaOwner (s : State) (n : Nat) : Option Nat :=
  let o := s.get (F.DMA_n_CFG_OWNER n)
  if o < 12 then some o else none

/-- The writer is the channel's owner (R270). -/
def State.dmaOwned (s : State) (n : Nat) (who : Writer) : Bool :=
  match who, s.dmaOwner n with
  | .drover d, some o => d.val == o
  | .drover _, none => false
  | _, some _ => false
  | _, none => true

/-- DMA_STAT.IDLE: no channel runs. -/
def State.dmaIdle (s : State) : Bool := (List.range 16).all fun n => s.get (F.DMA_n_STAT_STATE n) != DmaSt.run

/-- The block serves (R269). -/
def State.dmaServes (s : State) : Bool := s.mode != Mode.reset && s.mode != Mode.safe

/-- Signal the owner (R276): the DMA event input, or the channel's host vector. -/
def dmaSignal (n : Chan) (s : State) : State :=
  match s.dmaOwner n with
  | some d => evin d 7 s
  | none => raiseVector ⟨n, by omega⟩ s

/-- Write STATUS and MISMATCH into the Waybill at CUR. -/
def putStatus (n : Chan) (st mis : Nat) (s : State) : State :=
  (serWrite Master.dma (s.get (F.DMA_n_CUR_OFFSET n) + 28) (leBytes 1 st ++ leBytes 3 mis) s).put (F.DMA_n_STAT_LAST n) st

/-- The lines that a channel holds. -/
def State.dmaHeld (s : State) (n : Nat) : Nat := (s.dmaBuf.filter (·.chan == n)).length

/-- Discard the lines that a channel holds. -/
def dmaDrop (n : Nat) (s : State) : State := { s with dmaBuf := s.dmaBuf.filter (·.chan != n) }

/-- The channel ends a Waybill without completing it (R272, R277, R278, R280): its lines are discarded. DEDUCED, log entry
38. -/
def dmaHalt (n : Chan) (state st : Nat) (s : State) : State :=
  let s1 := (putStatus n st 0xFFFFFF (dmaDrop n s)).modDma n fun _ => DmaChan.init
  dmaSignal n ((s1.inc (F.DMA_n_CNT_HALTS n)).put (F.DMA_n_STAT_STATE n) state)

/-! ## The check (R272) -/

/-- An address is misaligned for its space's 16-byte unit. -/
def misaligned (a : Nat) : Bool := a % 16 != 0

/-- A Serai range and its unused bits. -/
def serRangeBad (a n : Nat) : Bool := decide (2 ^ 25 ≤ a) || decide (serSize < a % 2 ^ 25 + n)

/-- What the check of a Waybill finds: 0 nothing, else the status. -/
def wbCheck (w : List Byte) (s : State) : Nat :=
  let op := Wb.op w
  let n := Wb.len w
  let useSrc := op != 2
  if n % 16 ≠ 0 ∨ (useSrc ∧ misaligned (Wb.src w)) ∨ misaligned (Wb.dst w) ∨
      (Wb.hasNext w ∧ Wb.next w % 32 ≠ 0) then WbSt.align
  else
    let host := (useSrc && Wb.srcSpace w == 1) || Wb.dstSpace w == 1
    let strap := s.get F.SYS_STRAP_HOST
    if op = 0 ∨ 3 < op ∨ 8 ≤ numAt w 1 1 ∨ 16 ≤ numAt w 2 1 ∨ !zeroAt w 3 1 ∨ !zeroAt w 7 1 ∨
        bits (numAt w 24 4) 25 6 ≠ 0 ∨ 2 ≤ Wb.srcSpace w ∨ 2 ≤ Wb.dstSpace w ∨
        (op = 2 ∧ (Wb.srcSpace w ≠ 0 ∨ !zeroAt w 12 4)) ∨
        (useSrc ∧ Wb.srcSpace w = 0 ∧ serRangeBad (Wb.src w) n) ∨ (Wb.dstSpace w = 0 ∧ serRangeBad (Wb.dst w) n) ∨
        (host ∧ strap ≠ 0 ∧ strap ≠ 3) then WbSt.badwb
    else 0

/-! ## The engines (R273, R274, R277) -/

/-- Decode granules until one delivers poison, which ends the channel's fetching (R277). DEDUCED, log entry 38. -/
def decodeUpTo (m : Nat) : List Nat → State → Bool × State
  | [], s => (false, s)
  | g :: gs, s =>
    let d := decodeG m g s
    if d.1 then d else decodeUpTo m gs d.2

/-- A read of the Serai by the read engine. -/
def dmaRead (a n : Nat) (s : State) : List Byte × Bool × State :=
  let d := decodeUpTo Master.dma (granules a (min n (serSize - a))) s
  (d.2.bytesFor Master.dma a n, d.1, d.2)

/-- Bytes of a source: host memory holds `host`. -/
def wbRead (space a n : Nat) (host : List Byte) (s : State) : List Byte × Bool × State :=
  if space = 1 then ((host ++ List.replicate n 0).take n, false, s) else dmaRead a n s

/-- Write to a destination. -/
def wbWrite (space a : Nat) (bs : List Byte) (s : State) : State :=
  if bs.isEmpty then s else if space = 1 then s.emit (.hostMem a bs) else serWrite Master.dma a bs s

/-- The channel has a line to fetch, and a free line allowance (R274). -/
def State.canFetch (s : State) (n : Chan) : Bool :=
  let d := s.dma[n]
  s.get (F.DMA_n_STAT_STATE n) == DmaSt.run && d.moved.isSome && Wb.op d.wb == 1 && !d.stopping &&
    decide (d.fetched < Wb.len d.wb) && decide (s.dmaHeld n < s.get (F.DMA_n_CFG_LINES n)) &&
    decide (s.dmaBuf.length < 128)

/-- The channel that the read engine serves next (R274): the highest PRIO, and round robin within it. -/
def State.nextFetch (s : State) : Option Chan :=
  let can := (List.finRange 16).filter s.canFetch
  let prio (n : Chan) : Nat := s.get (F.DMA_n_CFG_PRIO n)
  let top := (can.map prio).foldl max 0
  let best := can.filter fun n => prio n == top
  match best.find? fun n => decide (s.dmaLast < n.val) with
  | some n => some n
  | none => best.head?

/-- Fetch the next line of a channel, of 512 bytes or what is left; poison halts the channel. DEDUCED, log entry 38. -/
def dmaFetch (n : Chan) (s : State) : State :=
  let d := s.dma[n]
  let k := min 512 (Wb.len d.wb - d.fetched)
  let r := wbRead (Wb.srcSpace d.wb) (Wb.src d.wb + d.fetched) k (d.host.drop d.fetched) { s with dmaLast := n }
  if r.2.1 then dmaHalt n DmaSt.halted WbSt.poison r.2.2
  else
    let line : DmaLine := ⟨n, Wb.dstSpace d.wb, Wb.dst d.wb + d.fetched, r.1⟩
    { r.2.2 with dmaBuf := r.2.2.dmaBuf ++ [line] }.modDma n fun d => { d with fetched := d.fetched + k }

/-- The read engine fetches until no channel has a free line allowance. DESIGN CHOICE, log entry 145. -/
def dmaFetchAll : Nat → State → State
  | 0, s => s
  | fuel + 1, s =>
    match s.nextFetch with
    | some n => dmaFetchAll fuel (dmaFetch n s)
    | none => s

/-- The write engine drains the line whose fetch completed first. -/
def dmaDrain (s : State) : State :=
  match s.dmaBuf with
  | [] => s
  | l :: rest => wbWrite l.space l.dst l.bytes { s with dmaBuf := rest }

/-- The channel still has data to move. -/
def State.dmaBusy (s : State) (n : Chan) : Bool :=
  let d := s.dma[n]
  s.dmaHeld n != 0 || (s.get (F.DMA_n_STAT_STATE n) == DmaSt.run && d.moved.isSome && Wb.op d.wb == 1 && !d.stopping &&
    decide (d.fetched < Wb.len d.wb))

/-- Both engines run until the channel has no data left to move. DESIGN CHOICE, log entry 145. -/
def dmaMove (n : Chan) : Nat → State → State
  | 0, s => s
  | fuel + 1, s =>
    let t := dmaFetchAll 144 s
    if t.dmaBusy n then dmaMove n fuel (dmaDrain t) else t

/-- The lines in the buffer and those still to be fetched. -/
def State.dmaLines (s : State) : Nat :=
  s.dmaBuf.length + ((List.finRange 16).map fun n => (Wb.len s.dma[n].wb - s.dma[n].fetched + 511) / 512).sum

/-! ## Commands (R270, R278 to R280) -/

/-- Begin at a Waybill. -/
def dmaBegin (n : Chan) (off : Nat) (s : State) : State :=
  (s.modDma n fun _ => DmaChan.init).puts [(F.DMA_n_CUR_OFFSET n, off), (F.DMA_n_STAT_STATE n, DmaSt.run)]

/-- GO. -/
def dmaGoOp (n : Chan) (s : State) : State :=
  if s.on F.DMA_STAT_BUSERR ∨ s.get (F.DMA_n_STAT_STATE n) = DmaSt.run then s.flag F.DMA_STAT_BADCMD
  else dmaBegin n (s.get (F.DMA_n_HEAD_OFFSET n)) s

/-- RESUME: rerun the Waybill at CUR from its first byte. -/
def dmaResumeOp (n : Chan) (s : State) : State :=
  let st := s.get (F.DMA_n_STAT_STATE n)
  if s.on F.DMA_STAT_BUSERR ∨ st = DmaSt.run ∨ st = DmaSt.idle then s.flag F.DMA_STAT_BADCMD
  else dmaBegin n (s.get (F.DMA_n_CUR_OFFSET n)) s

/-- STOP: fetching ends; the lines held drain. -/
def dmaStopOp (n : Chan) (s : State) : State :=
  if s.get (F.DMA_n_STAT_STATE n) = DmaSt.run then s.modDma n fun d => { d with stopping := true } else s

/-- The draining of a stopped channel ends (R280). -/
def dmaDrained (n : Chan) (s : State) : State :=
  if s.dma[n].stopping ∧ s.get (F.DMA_n_STAT_STATE n) = DmaSt.run then
    dmaHalt n DmaSt.stopped WbSt.stopped (dmaMove n (s.dmaLines + 1) s)
  else s

/-! ## Execution (R273, R275, R276) -/

/-- The 4-byte pattern of FILL over `n` bytes. -/
def fillBytes (w : List Byte) (n : Nat) : List Byte := (List.range n).map fun i => (w.drop 8).getD (i % 4) 0

/-- The offset of the first granule in which two byte lists differ. -/
def firstDiff (a b : List Byte) (n : Nat) : Option Nat :=
  ((List.range (n / 16)).find? fun i => (a.drop (16 * i)).take 16 != (b.drop (16 * i)).take 16).map (16 * ·)

/-- Begin a checked Waybill `w` (R273): a COPY fetches its first lines, a FILL is written, a COMPARE is made. DESIGN
CHOICE, log entry 145. -/
def wbBegin (n : Chan) (w : List Byte) (hsrc hdst : List Byte) (s : State) : State :=
  let len := Wb.len w
  let begun (st mis : Nat) (s : State) : State := s.modDma n fun _ => ⟨w, some (st, mis), false, 0, hsrc⟩
  if Wb.op w = 2 then begun WbSt.done 0xFFFFFF (wbWrite (Wb.dstSpace w) (Wb.dst w) (fillBytes w len) s)
  else if Wb.op w = 1 then dmaFetchAll 144 (begun WbSt.done 0xFFFFFF s)
  else
    let a := wbRead (Wb.srcSpace w) (Wb.src w) len hsrc s
    if a.2.1 then dmaHalt n DmaSt.halted WbSt.poison a.2.2
    else
      let b := wbRead (Wb.dstSpace w) (Wb.dst w) len hdst a.2.2
      if b.2.1 then dmaHalt n DmaSt.halted WbSt.poison b.2.2
      else match firstDiff a.1 b.1 len with
        | some d => begun WbSt.mismatch d b.2.2
        | none => begun WbSt.done 0xFFFFFF b.2.2

/-- With BARRIER and a host destination, a read of the last 16 bytes written follows the last write (R275). -/
def wbBarrier (w : List Byte) (s : State) : State :=
  s.when (Wb.barrier w && Wb.op w != 3 && Wb.dstSpace w == 1 && Wb.len w != 0)
    (·.emit (.hostFetch (Wb.dst w + Wb.len w - 16) 16))

/-- The end of a Waybill (R276): its status, the chain's next one, and the owner's signal. -/
def wbEnd (n : Chan) (st mis : Nat) (s : State) : State :=
  let w := s.dma[n].wb
  let ends := !Wb.hasNext w || (st == WbSt.mismatch && Wb.stopmis w)
  let s1 := ((putStatus n st mis s).inc (F.DMA_n_CNT_DONE n)).modDma n fun _ => DmaChan.init
  let s2 := if ends then s1.put (F.DMA_n_STAT_STATE n) DmaSt.idle else s1.put (F.DMA_n_CUR_OFFSET n) (Wb.next w)
  s2.when (ends || Wb.evt w) (dmaSignal n)

/-- A Waybill completes (R275, R276): what is left of its data moves, and a barrier's read has come back. -/
def waybillDone (n : Chan) (s : State) : State :=
  match s.dma[n].moved with
  | none => s
  | some (st, mis) =>
    if s.get (F.DMA_n_STAT_STATE n) ≠ DmaSt.run ∨ s.dma[n].stopping then s
    else
      let t := dmaMove n (s.dmaLines + 1) s
      if t.get (F.DMA_n_STAT_STATE n) ≠ DmaSt.run then t else wbEnd n st mis (wbBarrier t.dma[n].wb t)

/-- Channel `n` begins the Waybill at CUR, for the row of the table with OP `op` (DEDUCED, log entry 27). One of no bytes
completes at once. `hsrc` and `hdst` are what host memory holds at SRC and DST. -/
def waybill (n : Chan) (op : Nat) (hsrc hdst : List Byte) (s : State) : State :=
  if !s.dmaServes || s.get (F.DMA_n_STAT_STATE n) != DmaSt.run || s.dma[n].stopping || s.dma[n].moved.isSome then s
  else
    let r := dmaRead (s.get (F.DMA_n_CUR_OFFSET n)) 32 s
    let w := r.1
    if r.2.1 then dmaHalt n DmaSt.halted WbSt.poison r.2.2
    else
      let c := wbCheck w r.2.2
      if c ≠ 0 then raiseFault FaultCode.dmaAlign n (dmaHalt n DmaSt.halted c r.2.2)
      else if Wb.op w ≠ op then s
      else
        let t := wbBegin n w hsrc hdst r.2.2
        if Wb.len w = 0 then waybillDone n t else t

/-- What channel `n` does waits while R311 holds a write of it. -/
def dmaServe (n : Chan) (run : State → State) (s : State) : State := orStall (16 + n) run s

/-- A host read fails (R278): the shared buffer is discarded, and every channel that runs is stopped. -/
def busError (cause addr : Nat) (s : State) : State :=
  if s.dmaIdle then s
  else
    let s1 := forAll (List.finRange 16) (fun n s =>
      if s.get (F.DMA_n_STAT_STATE n) = DmaSt.run then dmaHalt n DmaSt.stopped WbSt.buserr s else s) { s with dmaBuf := [] }
    raiseFault FaultCode.dmaBuserr 0 (s1.puts [(F.DMA_STAT_BUSERR, 1), (F.DMA_ERRINFO_CAUSE, cause),
      (F.DMA_ERRADDR_LO_ADDR, addr % 2 ^ 32), (F.DMA_ERRADDR_HI_ADDR, addr / 2 ^ 32)])

/-- DMA_STAT.BUSERR is written with 1 (R279): honoured only while no request is outstanding. -/
def busErrClear (idle : Bool) (s : State) : State := if idle && s.dmaIdle then s.put F.DMA_STAT_BUSERR 0 else s

/-- SAFE entry stops every channel at once, without draining, and signals its owner (R276, R280). The Waybill keeps its
bytes: SAFE has blocked the write. -/
def dmaSafeStop (s : State) : State :=
  forAll (List.finRange 16) (fun n s =>
    if s.get (F.DMA_n_STAT_STATE n) = DmaSt.run then
      dmaSignal n (((s.modDma n fun _ => DmaChan.init).inc (F.DMA_n_CNT_HALTS n)).puts
        [(F.DMA_n_STAT_STATE n, DmaSt.stopped), (F.DMA_n_STAT_LAST n, WbSt.stopped)])
    else s) { s with dmaBuf := [] }

/-- DMA_CTL.CLRCNT. -/
def dmaClear (s : State) : State :=
  forN 16 (fun n s => s.puts [(F.DMA_n_CNT_DONE n, 0), (F.DMA_n_CNT_HALTS n, 0)]) s

end Sys2Proof.Machine
end

