-- ==== Sys2Proof/Machine/Spi.lean ====
section
/-!
DEFINITION. The serial ports and the serial-memory window (23_events_serial.md, R430 to R438).
-/

namespace Sys2Proof.Machine

/-- Change the hidden part of a port. -/
def State.modPort (s : State) (i : Fin 2) (f : SpiPort → SpiPort) : State :=
  { s with spi := { s.spi with ports := s.spi.ports.set i (f s.spi.ports[i]) } }

/-- SPI1 serves the host (R430). -/
def State.spiHost (s : State) (i : Fin 2) : Bool := i.val == 1 && s.get F.SYS_STRAP_HOST == 1

/-- Word length, words of a frame, and the bits of word `k`, counted from 0 (R431). -/
def State.spiW (s : State) (i : Fin 2) : Nat := s.get (F.SPI_i_CFG_WLEN i) + 1
def State.spiN (s : State) (i : Fin 2) : Nat := (s.get (F.SPI_i_FRAME_FLEN i) + s.spiW i - 1) / s.spiW i
def State.spiBits (s : State) (i : Fin 2) (k : Nat) : Nat :=
  if k + 1 = s.spiN i then s.get (F.SPI_i_FRAME_FLEN i) - k * s.spiW i else s.spiW i

/-- Show the FIFO levels and ACTIVE. -/
def showPort (i : Fin 2) (s : State) : State :=
  let p := s.spi.ports[i]
  s.puts [(F.SPI_i_STAT_TXLVL i, p.tx.length), (F.SPI_i_STAT_RXLVL i, p.rx.length),
    (F.SPI_i_STAT_ACTIVE i, b2n (p.frame || (i.val == 0 && !s.spi.fetch.isEmpty)))]

/-- A frame ends: LAST, the flags, the counts and the frame-end producer (R434, R435). -/
def spiEnd (i : Fin 2) (bits : Nat) (short long part : Bool) (s : State) : State :=
  let p := s.spi.ports[i]
  let bad := short || long || p.overran || p.under
  let s1 := s.modPort i fun p => { p with
    frame := false, words := 0, cur := none, miso := [], overran := false, under := false }
  let s2 := s1.puts [(F.SPI_i_LAST_BITS i, min bits 8191), (F.SPI_i_LAST_SHORT i, b2n short), (F.SPI_i_LAST_LONG i, b2n long),
    (F.SPI_i_LAST_PARTIAL i, b2n part), (F.SPI_i_STAT_DONE i, 1)]
  let s3 := (s2.when short (·.flag (F.SPI_i_STAT_SHORT i))).when long (·.flag (F.SPI_i_STAT_LONG i))
  produce (Prod.spiFrame i) (showPort i ((s3.inc (F.SPI_i_CNT_FRAMES i)).when bad (·.inc (F.SPI_i_CNT_ERRORS i))))

/-! ## Masters (R432) -/

/-- The next word that MISO brings: the one given, else a free value. DESIGN CHOICE, log entry 106. -/
def misoWord (i : Fin 2) (bits : Nat) (s : State) : Nat × State :=
  match s.spi.ports[i].miso with
  | w :: rest => (w % 2 ^ bits, s.modPort i fun p => { p with miso := rest })
  | [] => s.fresh (2 ^ bits)

/-- A master clocks words while it has an entry to send and room for what it receives. -/
def masterRun (i : Fin 2) : Nat → State → State
  | 0, s => s
  | fuel + 1, s =>
    let p := s.spi.ports[i]
    if !p.frame ∨ s.spiN i ≤ p.words ∨ 32 ≤ p.rx.length then s
    else
      match p.tx with
      | [] => s
      | w :: rest =>
        let b := s.spiBits i p.words
        let r := misoWord i b s
        let s1 := r.2.modPort i fun p => { p with tx := rest, rx := p.rx ++ [r.1], words := p.words + 1 }
        masterRun i fuel (s1.emit (.spi i (w % 2 ^ b) b))

/-- Run a master's frame as far as its FIFOs allow. -/
def masterGo (i : Fin 2) (s : State) : State :=
  if s.on (F.SPI_i_CFG_MASTER i) then showPort i (masterRun i 64 s) else showPort i s

/-- Start a master's frame. -/
def spiStart (i : Fin 2) (miso : List Nat) (s : State) : State :=
  masterGo i (s.modPort i fun p => { p with
    frame := true, words := 0, cur := none, miso := miso, overran := false, under := false })

/-- SPI_i_CMD.GO; a GO of port 0 waits for a fetch that runs (R437). -/
def spiGo (i : Fin 2) (miso : List Nat) (s : State) : State :=
  if s.spiHost i then s
  else if !s.on (F.SPI_i_CFG_EN i) ∨ !s.on (F.SPI_i_CFG_MASTER i) ∨ s.spi.ports[i].frame ∨ (i = 0 ∧ s.spi.goWaits.isSome) then
    s.flag (F.SPI_i_STAT_BADCMD i)
  else if i = 0 ∧ !s.spi.fetch.isEmpty then { s with spi := { s.spi with goWaits := some miso } }
  else spiStart i miso s

/-- MASTER_FRAME_END: every bit has been clocked. -/
def masterEnd (i : Fin 2) (s : State) : State :=
  if s.on (F.SPI_i_CFG_MASTER i) && s.spi.ports[i].frame && decide (s.spiN i ≤ s.spi.ports[i].words) then
    spiEnd i (s.get (F.SPI_i_FRAME_FLEN i)) false false false s
  else s

/-! ## FIFO access (R431) -/

/-- SPI_i_CMD.FLUSH. -/
def spiFlush (i : Fin 2) (s : State) : State :=
  if s.spiHost i then s
  else if s.spi.ports[i].frame then s.flag (F.SPI_i_STAT_BADCMD i)
  else showPort i (s.modPort i fun p => { p with tx := [], rx := [] })

/-- A write of SPI_i_TXD. -/
def spiTxd (i : Fin 2) (v : Nat) (s : State) : State :=
  if s.spiHost i then s
  else if 32 ≤ s.spi.ports[i].tx.length then s.flag (F.SPI_i_STAT_TXFULLWR i)
  else masterGo i (s.modPort i fun p => { p with tx := p.tx ++ [v] })

/-- A read of SPI_i_RXD: the register shows what the read returned. -/
def spiRxd (i : Fin 2) (s : State) : State :=
  if s.spiHost i then s
  else
    match s.spi.ports[i].rx with
    | [] => (s.put (F.SPI_i_RXD_WORD i) 0).flag (F.SPI_i_STAT_RXEMPTYRD i)
    | w :: rest => masterGo i ((s.modPort i fun p => { p with rx := rest }).put (F.SPI_i_RXD_WORD i) w)

/-! ## Slaves (R433 to R435) -/

/-- The port is a slave in use. -/
def State.spiSlave (s : State) (i : Fin 2) : Bool :=
  !s.spiHost i && s.on (F.SPI_i_CFG_EN i) && !s.on (F.SPI_i_CFG_MASTER i)

/-- A slave starts a word: the entry it sends, or all ones and UNDER. DEDUCED, log entry 162. -/
def slaveStart (i : Fin 2) (s : State) : State :=
  match s.spi.ports[i].tx with
  | w :: rest => s.modPort i fun p => { p with tx := rest, cur := some w }
  | [] => (s.modPort i fun p => { p with cur := none, under := true }).flag (F.SPI_i_STAT_UNDER i)

/-- CSN_FALL. -/
def csnFall (i : Fin 2) (s : State) : State :=
  if !s.spiSlave i ∨ s.spi.ports[i].frame then s
  else
    showPort i (slaveStart i (s.modPort i fun p => { p with
      frame := true, words := 0, cur := none, overran := false, under := false }))

/-- SPI_SLAVE_WORD: the word under way is complete, and the next one starts. DEDUCED, log entry 162. -/
def slaveWord (i : Fin 2) (mosi : Nat) (s : State) : State :=
  let p := s.spi.ports[i]
  if !s.spiSlave i ∨ !p.frame ∨ s.spiN i ≤ p.words then s
  else
    let b := s.spiBits i p.words
    let s1 := s.emit (.spi i ((p.cur.getD (2 ^ 32 - 1)) % 2 ^ b) b)
    let s2 := if 32 ≤ p.rx.length then
        (s1.modPort i fun p => { p with overran := true, words := p.words + 1 }).flag (F.SPI_i_STAT_OVER i)
      else s1.modPort i fun p => { p with rx := p.rx ++ [mosi % 2 ^ b], words := p.words + 1 }
    showPort i (if p.words + 1 < s.spiN i then slaveStart i s2 else s2.modPort i fun p => { p with cur := none })

/-- CSN_RISE: `edges` clock edges have come since the last whole word. An entry of which no bit was sent goes back.
DEDUCED, log entry 162. -/
def csnRise (i : Fin 2) (edges : Nat) (s : State) : State :=
  let p := s.spi.ports[i]
  if !s.spiSlave i ∨ !p.frame then s
  else
    let whole := decide (s.spiN i ≤ p.words)
    let bits := if whole then s.get (F.SPI_i_FRAME_FLEN i) + edges else p.words * s.spiW i + edges
    let s1 := if !whole ∧ edges = 0 then s.modPort i fun p => { p with tx := p.cur.toList ++ p.tx } else s
    spiEnd i bits (!whole) (whole && decide (0 < edges)) (!whole && decide (0 < edges)) s1

/-! ## The serial-memory window (R436, R437) -/

/-- The line that holds an address. -/
def State.mwLine (s : State) (a : Nat) : Option MwLine := s.spi.lines.find? (·.addr == a / 256 * 256)

/-- The word of a line at an address, and ADDR moved on where INC asks for it. -/
def mwGive (a : Nat) (l : MwLine) (s : State) : State :=
  let s1 := s.put F.SPI_MW_DATA_DATA (numAt4 l.bytes (a % 256 / 4 * 4))
  s1.when (s1.on F.SPI_MW_ADDR_INC) (·.put F.SPI_MW_ADDR_ADDR ((s1.get F.SPI_MW_ADDR_ADDR + 4) % 2 ^ 24))
where
  numAt4 (bs : List Byte) (o : Nat) : Nat := leNat ((bs.drop o).take 4)

/-- The word that a completed read brought goes to the Drover that it stalled, or to the host. DEDUCED, log entry 59. -/
def mwHand (who : Option (Fin 12)) (s : State) : State :=
  match who with
  | none => s.emit (.hostRead (s.reg R.SPI_MW_DATA))
  | some n => s.modDrv n fun d => { d with mw := some (some (s.reg R.SPI_MW_DATA)) }

/-- Serve a read from a held line, which becomes the most recently used. -/
def mwHit (a : Nat) (l : MwLine) (s : State) : State :=
  let lines := s.spi.lines.filter (·.addr != l.addr) ++ [l]
  (mwGive a l { s with spi := { s.spi with lines := lines } }).inc F.SPI_MW_CNT_HITS

/-- The window serves reads. -/
def State.mwServes (s : State) : Bool :=
  s.on F.SPI_MW_CFG_EN && s.on (F.SPI_i_CFG_EN 0) && s.on (F.SPI_i_CFG_MASTER 0)

/-- A read of SPI_MW_DATA by the host, or by a Drover that a miss stalls. DEDUCED, log entry 59. -/
def mwRead (who : Option (Fin 12)) (s : State) : State :=
  let a := s.get F.SPI_MW_ADDR_ADDR
  if !s.mwServes then
    (s.put F.SPI_MW_DATA_DATA 0).flag (F.SPI_i_STAT_BADCMD 0)
  else
    match s.mwLine a with
    | some l => mwHit a l s
    | none => showPort 0 { s with spi := { s.spi with fetch := s.spi.fetch ++ [(a, who)] } }

/-- Reads that waited for a fetch and find their line now complete, in order. -/
def mwWaiting : Nat → State → State
  | 0, s => s
  | fuel + 1, s =>
    match s.spi.fetch with
    | [] => s
    | (a, who) :: rest =>
      match s.mwLine a with
      | some l => mwWaiting fuel (mwHand who <| mwHit a l { s with spi := { s.spi with fetch := rest } })
      | none => s

/-- MW_FETCH_DONE: a line of 256 bytes has arrived; a fetch waits for the end of a frame. -/
def mwDone (bytes : List Byte) (s : State) : State :=
  match s.spi.fetch with
  | [] => s
  | (a, who) :: rest =>
    if s.spi.ports[(0 : Fin 2)].frame then s
    else
      let l : MwLine := ⟨a / 256 * 256, (bytes ++ List.replicate 256 0).take 256⟩
      let kept := if s.spi.discard then s.spi.lines else (s.spi.lines ++ [l]).drop (s.spi.lines.length + 1 - 16)
      let s1 := mwHand who <| (mwGive a l { s with spi := { s.spi with
        lines := kept, fetch := rest, discard := false } }).inc F.SPI_MW_CNT_MISSES
      let s2 := mwWaiting rest.length s1
      match s2.spi.fetch, s2.spi.goWaits with
      | [], some m => spiStart 0 m { s2 with spi := { s2.spi with goWaits := none } }
      | _, _ => showPort 0 s2

/-- MW_INVAL: the buffer is emptied, and a fetch that runs keeps its line from it. -/
def mwInval (s : State) : State :=
  { s with spi := { s.spi with lines := [], discard := !s.spi.fetch.isEmpty } }

/-- SPI_CTL.CLRCNT. -/
def spiClear (s : State) : State :=
  ((s.setReg (R.SPI_i_CNT 0) 0).setReg (R.SPI_i_CNT 1) 0).setReg R.SPI_MW_CNT 0

/-- A port whose EN becomes 0 gives up its frame. -/
def spiDisable (i : Fin 2) (s : State) : State :=
  if s.on (F.SPI_i_CFG_EN i) then s
  else showPort i (s.modPort i fun p => { p with frame := false, words := 0, cur := none, miso := [], overran := false, under := false })

/-- A write of word `v` to an SPI register is in range (R438). -/
def spiRange (off v : Nat) : Bool :=
  if off < 0x180100 then true
  else if off % 256 = 0 then decide (3 ≤ bits v 5 5) && decide (3 ≤ bits v 10 8)
  else if off % 256 = 4 then decide (4 ≤ bits v 0 13) && decide (bits v 0 13 ≤ 4096)
  else true

end Sys2Proof.Machine
end

