-- ==== Sys2Proof/Machine/Bbl.lean ====
section
/-!
DEFINITION. The backbone lanes (09_backbone_lanes.md, R169 to R191). Instants are kept as clocks in quarter grains, taken
at the antenna.
-/

namespace Sys2Proof.Machine

/-- States of BBL_l_STATE.STATE. -/
def laneOffSt : Nat := 0
def laneSearchSt : Nat := 1
def laneAcquireSt : Nat := 2
def laneTrackSt : Nat := 3
def laneReacqSt : Nat := 4
def laneParentSt : Nat := 5

/-- Statuses of a lane entry (R174). -/
def lsDone : Nat := 1
def lsLate : Nat := 2
def lsNoGrant : Nat := 3
def lsNoAck : Nat := 4
def lsCancelled : Nat := 5
def lsNoFrame : Nat := 6
def lsNoFit : Nat := 7
def lsBadEntry : Nat := 8

/-- Change the hidden part of lane `l`. -/
def State.modLane (s : State) (l : Fin 2) (f : Lane → Lane) : State := { s with lanes := s.lanes.set l (f s.lanes[l]) }

/-- The lane's state. -/
def State.laneState (s : State) (l : Fin 2) : Nat := s.get (F.BBL_l_STATE_STATE l)

def setLaneState (l : Fin 2) (v : Nat) (s : State) : State := s.put (F.BBL_l_STATE_STATE l) v

/-- The lane is a member end, or a parent end; ROLE 3 is treated as 0. -/
def State.laneMember (s : State) (l : Fin 2) : Bool := s.get (F.BBL_l_CFG_ROLE l) == 1
def State.laneParent (s : State) (l : Fin 2) : Bool := s.get (F.BBL_l_CFG_ROLE l) == 2

/-- A member that follows its parent's own grid (R170). -/
def State.laneFree (s : State) (l : Fin 2) : Bool := s.laneMember l && !s.on (F.BBL_l_CFG_SYNC l)

/-- The mode gives the lane full service, or at a member reception alone (R169). -/
def State.laneFull (s : State) (l : Fin 2) : Bool := airMode s.mode && (s.laneMember l || s.laneParent l)
def State.laneRuns (s : State) (l : Fin 2) : Bool := s.laneFull l || (tickMode s.mode && s.laneMember l)

/-- The lane is on: the modes of R15 and a role (R169). -/
def State.laneOnAir (s : State) (l : Fin 2) : Bool := tickMode s.mode && (s.laneMember l || s.laneParent l)

/-- The lane may start a transmission now (R169, R185, R316). -/
def State.laneSends (s : State) (l : Fin 2) : Bool :=
  s.laneFull l && !s.silenced && s.laneState l != laneSearchSt && s.laneState l != laneReacqSt

/-! ## Channels (R171, R186) -/

/-- The channel-table index of a link ASN and CHOFF under the hop mask in force; none where the mask is empty. DEDUCED,
log entry 40. -/
def laneChan (mask lasn choff : Nat) : Option Nat :=
  let list := bitsSet 32 mask
  if list.isEmpty then none else list[(lasn + choff) % list.length]?

/-- The PHY of a lane channel: 0 O-QPSK, 1 and 2 SUN FSK at 50 and 100 kb/s. -/
def State.lanePhy (s : State) (l : Fin 2) : Nat := s.get (F.BBL_l_CHAN_c_PHY l (s.get (F.BBL_l_STATE_CHAN l)))

/-- The search index after `c`, in ascending order and cyclically. -/
def nextSearch (mask : Nat) (c : Option Nat) : Option Nat :=
  let l := bitsSet 32 mask
  match c with
  | none => l.head?
  | some c => (l.find? (c < ·)).or l.head?

/-- Begin a dwell on the search index after `c` (R186). DEDUCED, log entry 104. -/
def dwellOn (l : Fin 2) (c : Option Nat) (s : State) : State :=
  let s1 := match nextSearch (s.get (F.BBL_l_SRCH_MASK l)) c with
    | some k => s.put (F.BBL_l_STATE_CHAN l) k
    | none => s
  s1.modLane l fun a => { a with dwell := s.get (F.BBL_l_DWELL_DWELL l) }

/-- Enter SEARCH. DEDUCED, log entry 104. -/
def enterSearch (l : Fin 2) (s : State) : State :=
  dwellOn l none (setLaneState l laneSearchSt (s.modLane l fun a => { a with win := none }))

/-! ## Entries -/

/-- Write an entry's STATUS. -/
def laneStatus (base st : Nat) (s : State) : State := serWrite Master.radio (base + 3) (leBytes 1 st) s

/-- What was planned for the pins of a frame that does not start: the request ends as the pins would turn ON (R189). -/
def dropPins (l : Fin 2) (s : State) : State :=
  s.modLane l fun a => if a.tx.isSome then a else { a with pins := a.pins.map fun p => { p with off := min p.off p.on } }

/-- The entry in work ends with a status. -/
def laneEnd (l : Fin 2) (st : Nat) (s : State) : State :=
  if s.lanes[l].op = 0 then s
  else (dropPins l (laneStatus s.lanes[l].base st s)).modLane l fun a => { a with op := 0 }

/-- A member's guard (R179, R186): GMAX in ACQUIRE, GMIN at a parent and with SYNC, else GMIN doubled for each miss. -/
def State.laneGuard (s : State) (l : Fin 2) : Nat :=
  let lo := s.get (F.BBL_l_GUARD_GMIN l)
  let hi := s.get (F.BBL_l_GUARD_GMAX l)
  if !s.laneFree l then lo
  else if s.laneState l = laneAcquireSt then hi
  else min hi (lo * 2 ^ s.get (F.BBL_l_STATE_MISS l))

/-- Open a window around an expected moment. -/
def openWin (l : Fin 2) (k : LaneWinKind) (expect : Nat) (s : State) : State :=
  let g := 4 * s.laneGuard l
  s.modLane l fun a => { a with win := some ⟨k, expect - g, expect + g, expect⟩ }

/-- TXOFF of the lane slot now running. -/
def State.laneTxoff (s : State) (l : Fin 2) : Nat := s.lanes[l].start + 4 * s.get (F.BBL_l_TMPL_TXOFF l)

/-- A beacon window: around TXOFF, or the whole slot in REACQ (R181, R185). -/
def openBeacon (l : Fin 2) (s : State) : State :=
  if s.laneState l = laneReacqSt then
    s.modLane l fun a => { a with
      win := some ⟨.beacon, a.start + 1280, a.start + 4 * (s.slotLen - 800), s.laneTxoff l⟩ }
  else openWin l .beacon (s.laneTxoff l) s

/-- The end of a beacon window without an accepted link beacon (R184, R185, R187). -/
def beaconMissed (l : Fin 2) (s : State) : State :=
  if s.laneState l = laneReacqSt then s.modLane l fun a => { a with periods := a.periods + 1 }
  else if s.laneState l = laneTrackSt then
    let s1 := (s.inc (F.BBL_l_STATE_MISS l)).inc (F.BBL_l_CNT_k_COUNT l 5)
    if s.laneFree l && decide (s.get (F.BBL_l_LINK_LOSTN l) ≤ s1.get (F.BBL_l_STATE_MISS l)) then
      produce (Prod.parentLost l) (setLaneState l laneReacqSt
        ((s1.modLane l fun a => { a with periods := 0 }).inc (F.BBL_l_CNT_k_COUNT l 6)))
    else s1
  else s

/-- LANE_WINDOW_CLOSE: a window closes with no SHR (R179, R184). -/
def laneWindowClose (l : Fin 2) (s : State) : State :=
  match s.lanes[l].win with
  | none => s
  | some w =>
    let s1 := s.modLane l fun a => { a with win := none }
    match w.kind with
    | .rx => laneEnd l lsNoFrame s1
    | .ack => laneEnd l lsNoAck s1
    | .beacon => beaconMissed l s1

/-- The end of a lane slot: what its entry still waits for ends (R174). A frame that never started is TX_LATE. DEDUCED,
log entry 88. -/
def laneSlotEnd (l : Fin 2) (s : State) : State :=
  let s1 := laneWindowClose l s
  let a := s1.lanes[l]
  if (a.op = 1 ∨ a.op = 3) ∧ a.tx.isNone then laneEnd l lsLate (s1.inc (F.BBL_l_CNT_k_COUNT l 2)) else s1

/-- An entry's layout is in order (R113, R174, R191). -/
def laneEntryOk (member : Bool) (phy : Nat) (e : List Byte) : Bool :=
  let op := numAt e 0 1
  let f := numAt e 2 1
  let len := numAt e 8 2
  let fcs := if bitOf f 2 && phy != 0 then 4 else 2
  decide (op ≤ 3) && decide (numAt e 1 1 ≤ 31) && decide (f < 32) && zeroAt e 10 6 && !(member && op == 3) &&
    (op == 0 || op == 2 || (numAt e 4 4 % 16 == 0 && (!bitOf f 1 || decide (fcs < len)) &&
      (if phy = 0 then decide (5 ≤ len) && decide (len ≤ 127) else decide (3 ≤ len) && decide (len ≤ 2047))))

/-- PHASE as it stands at a clock: RATE in 1/16 ppb slides it (R170). -/
def State.phaseNow (s : State) (l : Fin 2) : Frac :=
  (Frac.ofInt (s.getS (F.BBL_l_PHASE_VALUE l))).add
    ⟨s.getS (F.BBL_l_RATE_VALUE l) * ((s.tally.clock - s.lanes[l].phaseAt : Nat) : Int), 16000000000⟩

/-- Where the lane's grid lies after the chip's tick, in quarter grains (R170). -/
def State.laneOffset (s : State) (l : Fin 2) : Int :=
  if s.laneFree l then (s.phaseNow l).round
  else if s.laneMember l then s.get (F.BBL_l_CFG_FIXPH l)
  else 0

/-- The start of a lane slot that is nearest to the present clock (R170). -/
def State.laneGrid (s : State) (l : Fin 2) : Nat :=
  let len : Int := max 1 (4 * s.slotLen : Nat)
  let base : Int := (s.tickClock : Int) + s.laneOffset l
  (base + (2 * ((s.tally.clock : Int) - base) + len) / (2 * len) * len).toNat

/-- LASN of the lane slot that starts now (R170): the parent's and the synchronous member's equals ASN; the free member
adds LASNOFF to the ASN of the tick that lies PHASE before this start. -/
def State.laneLasn (s : State) (l : Fin 2) : Nat :=
  if s.laneFree l then
    let len : Int := max 1 (4 * s.slotLen : Nat)
    let off : Int := (s.get (F.BBL_l_LASNOFF_LO_OFF l) + 2 ^ 32 * (s.get (F.BBL_l_LASNOFF_HI_OFF l) % 256) : Nat)
    let k := (2 * ((s.tally.asn : Int) * len + s.tally.pos - s.getS (F.BBL_l_PHASE_VALUE l)) + len) / (2 * len)
    ((k + off) % 2 ^ 40).toNat
  else s.tally.asn

/-- The staged entry of a lane for this chip slot. -/
def State.prog (s : State) (l : Fin 2) : Option AirRef := if l = 0 then s.prog0 else s.prog1

def clearProg (l : Fin 2) (s : State) : State := if l = 0 then { s with prog0 := none } else { s with prog1 := none }

/-- PREP and ceil(DLY / 4), in grains. -/
def State.lanePrep (s : State) (l : Fin 2) : Nat :=
  56 + s.get (F.BBL_l_TX_RAMP l) + s.get (F.BBL_l_TX_FEMLEAD l) +
    (if s.on (F.BBL_l_COEX_EN l) then s.get (F.BBL_l_COEX_LEAD l) else 0)
def State.laneD (s : State) (l : Fin 2) : Nat := (s.get (F.BBL_l_EXT_DLY l) + 3) / 4

/-- The pins of a frame of class `cls` between two clocks at the antenna. -/
def State.lanePins (s : State) (l : Fin 2) (m stop cls : Nat) (pri : Bool) : LanePins :=
  let dly := s.get (F.BBL_l_EXT_DLY l)
  let ramp := s.get (F.BBL_l_TX_RAMP l)
  ⟨m - dly - 4 * (ramp + s.get (F.BBL_l_TX_FEMLEAD l)), stop - dly + 4 * (ramp + s.get (F.BBL_l_TX_FEMLAG l)), cls, pri⟩

/-- Start the slot's work: the channel-change calibration (R172), and the receive window of an RX entry. -/
def startWork (l : Fin 2) (chan : Nat) (s : State) : State :=
  s.puts [(F.BBL_l_STATE_CHAN l, chan), (F.BBL_l_STATE_CAL l, 1)]

/-- Plan the pins of the frame of a TX or BCN entry (R189): its first symbol reaches the antenna at TXOFF. -/
def planPins (l : Fin 2) (op len : Nat) (pri : Bool) (s : State) : State :=
  let m := s.laneTxoff l
  s.modLane l fun a => { a with
    pins := some (s.lanePins l m (m + 4 * airtime (s.lanePhy l) len) (if op = 3 then 1 else 2) pri) }

/-- Take the staged entry of a slot that is not the link beacon's (R169, R171, R174, R191). DEDUCED, log entry 40.
DEDUCED, log entry 88. -/
def takeEntry (l : Fin 2) (base : Nat) (e : List Byte) (s : State) : State :=
  let chan := laneChan s.lanes[l].mask s.lanes[l].lasn (numAt e 1 1)
  let phy := s.get (F.BBL_l_CHAN_c_PHY l (chan.getD 0))
  if !laneEntryOk (s.laneMember l) phy e then
    laneStatus base lsBadEntry (s.flag F.BBL_STAT_BADENTRY)
  else if numAt e 0 1 = 0 then laneStatus base lsDone (s.modLane l fun a => { a with choff := numAt e 1 1 })
  else
    match chan with
    | none => laneStatus base lsCancelled s
    | some c =>
      let s1 := startWork l c (s.modLane l fun a => { a with
        op := numAt e 0 1, choff := numAt e 1 1, flags := numAt e 2 1, buf := numAt e 4 4, len := numAt e 8 2, base := base })
      if numAt e 0 1 = 2 then openWin l .rx (s1.laneTxoff l) s1
      else planPins l (numAt e 0 1) (numAt e 8 2) (bitOf (numAt e 2 1) 4) s1

/-- An entry is cancelled under R181 or R185: status and count. -/
def cancelEntry (l : Fin 2) (base : Nat) (s : State) : State :=
  (laneStatus base lsCancelled s).inc (F.BBL_l_CNT_k_COUNT l 4)

/-- Receive in a beacon slot. -/
def beaconSlot (l : Fin 2) (s : State) : State :=
  match laneChan s.lanes[l].mask s.lanes[l].lasn 0 with
  | none => s
  | some c => openBeacon l (startWork l c s)

/-- The staged entry of this slot, read: its place and bytes; none where nothing is staged or it reads as poison. -/
def stagedEntry (l : Fin 2) (s : State) : Option (Nat × List Byte) × State :=
  match s.prog l with
  | none => (none, s)
  | some p =>
    let r := serRead Master.radio p.base 16 (clearProg l s)
    if r.2.1 then (none, r.2.2.inc F.TICK_CANCEL_COUNT) else (some (p.base, r.1), r.2.2)

/-- The hop mask of the slot that begins (R182): the one announced or adopted in the slot before, else the one in force. A
parent that has announced none yet takes BBL_l_HOP (DEDUCED, log entry 139). -/
def State.laneMask (s : State) (l : Fin 2) : Nat :=
  let a := s.lanes[l]
  a.next.getD (if s.laneParent l && a.mask == 0 then s.get (F.BBL_l_HOP_MASK l) else a.mask)

/-- LANE_SLOT_START (R169, R170, R171, R172, R181, R182, R185): the slot begins at its place on the lane's grid, whenever
its row comes; a row within the slot that has begun there changes nothing. -/
def laneSlotStart (l : Fin 2) (s : State) : State :=
  let at_ := s.laneGrid l
  if !s.laneOnAir l || (s.lanes[l].begun && decide (2 * at_ < 2 * s.lanes[l].start + 4 * s.slotLen)) then s
  else
    let s0 := laneSlotEnd l s
    let mask := s0.laneMask l
    let s1 := s0.modLane l fun a => { a with
      prev := a.start, start := at_, begun := true, lasn := s.laneLasn l, mask := mask, next := none, choff := 0,
      calEnd := none }
    let s2 := s1.when (s.laneMember l) (·.put (F.BBL_l_HOP_MASK l) mask)
    let r := stagedEntry l s2
    let t := r.2
    let bcn := s2.lanes[l].lasn % max 1 (s.get (F.BBL_l_LINK_BCNPER l)) == 0
    let st := t.laneState l
    let cancel := fun s => (r.1.map fun e => cancelEntry l e.1 s).getD s
    if st = laneSearchSt then cancel t
    else if st = laneReacqSt then
      let u := cancel t
      if bcn then beaconSlot l u else u
    else if bcn && s.laneMember l then beaconSlot l (cancel t)
    else
      match r.1 with
      | none => t
      | some e =>
        if !t.laneFull l then laneStatus e.1 lsCancelled t
        else if bcn && numAt e.2 0 1 != 3 then cancelEntry l e.1 t
        else takeEntry l e.1 (if numAt e.2 0 1 = 3 then e.2.set 1 0 else e.2) t

/-- LANE_CALIBRATION_END (R172). -/
def laneCalEnd (l : Fin 2) (s : State) : State :=
  if s.get (F.BBL_l_STATE_CAL l) = 1 then
    (s.modLane l fun a => { a with calEnd := some s.tally.clock }).put (F.BBL_l_STATE_CAL l) 0
  else s

/-! ## Transmission (R174 to R178, R189, R190) -/

/-- The highest level of the lane at the pin, in quarter dBm (R190). -/
def State.laneLevel (s : State) (l : Fin 2) : Int :=
  min (s.getS (F.BBL_l_TX_PWR l)) (if s.lanePhy l = 0 then 40 else 56)

/-- The clock at which a frame's first symbol reaches the antenna, with the calibration ended at `c` (R176). -/
def State.laneMoment (s : State) (l : Fin 2) (c : Nat) : Nat :=
  if c + 4 * (s.laneD l + s.lanePrep l) ≤ s.laneTxoff l then s.laneTxoff l
  else c + 4 * s.lanePrep l + s.get (F.BBL_l_EXT_DLY l)

/-- Send a PSDU at a moment: the lane is busy until the frame's last symbol. DESIGN CHOICE, log entry 66. -/
def laneGo (l : Fin 2) (m : Nat) (entry : Option Nat) (ackreq : Bool) (cls : Nat) (pri white : Bool) (psdu : List Byte)
    (s : State) : State :=
  let stop := m + 4 * airtime (s.lanePhy l) psdu.length
  let s1 := s.modLane l fun a => { a with tx := some ⟨entry, ackreq, stop⟩, pins := some (s.lanePins l m stop cls pri) }
  (s1.puts [(F.BBL_l_STATE_BUSY l, 1), (F.BBL_l_STATE_CAL l, 0)]).emit
    (.lane l (s.get (F.BBL_l_STATE_CHAN l)) (s.laneLevel l) m white (if white then whiten psdu else psdu))

/-- COEX_GNT_BBLl at a level grants (R189). -/
def State.laneGranted (s : State) (l : Fin 2) (level : Bool) : Bool := level != s.on (F.BBL_l_COEX_POL_GNT l)

/-- LANE_TX_START (R174, R175, R176, R182, R189), with COEX_GNT_BBLl at a level. -/
def laneTxStart (l : Fin 2) (level : Bool) (s : State) : State :=
  let a := s.lanes[l]
  match a.calEnd with
  | none => s
  | some c =>
    if !(a.op = 1 ∨ a.op = 3) ∨ a.tx.isSome then s
    else
      let phy := s.lanePhy l
      let ackreq := bitOf a.flags 0
      let need := s.get (F.BBL_l_TMPL_TXOFF l) + airtime phy a.len +
        (if ackreq then s.get (F.BBL_l_TMPL_ACKDLY l) + ackAir phy else 0)
      let m := s.laneMoment l c
      if !s.laneSends l then laneEnd l lsCancelled s
      else if s.slotLen < need + 800 then laneEnd l lsNoFit s
      else if s.laneTxoff l + 4 * s.get (F.BBL_l_GUARD_TXLATE l) < m then
        laneEnd l lsLate (s.inc (F.BBL_l_CNT_k_COUNT l 2))
      else if s.on (F.BBL_l_COEX_EN l) && !s.laneGranted l level then laneEnd l lsNoGrant (s.inc (F.BBL_l_CNT_k_COUNT l 3))
      else
        let r := serRead Master.radio a.buf a.len s
        if r.2.1 then laneEnd l lsCancelled (r.2.2.inc F.TICK_CANCEL_COUNT)
        else
          let s1 := if a.op = 3 then r.2.2.modLane l fun b => { b with next := some (s.get (F.BBL_l_HOP_MASK l)) } else r.2.2
          laneGo l m (some a.base) ackreq (if a.op = 3 then 1 else 2) (bitOf a.flags 4) (bitOf a.flags 3 && phy != 0)
            (withFcs (bitOf a.flags 1) (bitOf a.flags 2 && phy != 0) r.1) s1

/-- LANE_TX_END (R174, R179): STATUS without ACKREQ, else the wait for the acknowledgement. -/
def laneTxEnd (l : Fin 2) (s : State) : State :=
  match s.lanes[l].tx with
  | none => s
  | some t =>
    let s1 := ((s.modLane l fun a => { a with tx := none }).put (F.BBL_l_STATE_BUSY l) 0).inc (F.BBL_l_CNT_k_COUNT l 0)
    match t.entry with
    | none => s1
    | some base =>
      if s1.lanes[l].op = 0 ∨ s1.lanes[l].base ≠ base then laneStatus base lsDone s1
      else if t.ackreq && !s1.laneRuns l then laneEnd l lsNoAck s1
      else if t.ackreq then openWin l .ack (t.stop + 4 * s.get (F.BBL_l_TMPL_ACKDLY l)) s1
      else laneEnd l lsDone s1

/-! ## The send ring (R163, R177, R454) -/

/-- A write of the lane's WR takes effect: each entry it passes is dated. -/
def laneWrEffect (l : Fin 2) (v : Nat) (s : State) : State :=
  let n := max 1 (s.get (F.BBL_l_SEND_LEN l))
  let k := (v + n - s.get (F.BBL_l_SEND_WR l)) % n
  (s.put (F.BBL_l_SEND_WR l) v).modLane l fun a => { a with
    sends := a.sends ++ List.replicate k (s.tally.clock, a.start, a.prev) }

/-- A write of the lane's WR. -/
def laneWrWrite (l : Fin 2) (v : Nat) (s : State) : State :=
  if s.get (F.BBL_l_SEND_LEN l) ≤ v then s.flag F.SYS_ERR_RINGIDX
  else if s.waitsPartner && !s.confirmed (s.get F.TAN_JSEQ_SENT_JSEQ) then
    { s with ftx := { s.ftx with held := s.ftx.held ++ [(2 + l.val, v, s.get F.TAN_JSEQ_SENT_JSEQ)] } }
  else laneWrEffect l v s

/-- Held writes of the lanes' WR whose confirmation has come, or that R163 no longer holds, take effect. -/
def laneRelease (s : State) : State :=
  let go := fun h : Nat × Nat × Nat => decide (2 ≤ h.1) && (!s.waitsPartner || s.confirmed h.2.2)
  forAll (s.ftx.held.filter go) (fun h s => laneWrEffect (if h.1 = 2 then 0 else 1) h.2.1 s)
    { s with ftx := { s.ftx with held := s.ftx.held.filter fun h => !go h } }

/-- Advance RD past the send entry just taken. -/
def sendPop (l : Fin 2) (s : State) : State :=
  (s.put (F.BBL_l_SEND_RD l) ((s.get (F.BBL_l_SEND_RD l) + 1) % max 1 (s.get (F.BBL_l_SEND_LEN l)))).modLane l fun a =>
    { a with sends := a.sends.tail }

/-- The antenna moment of a send entry whose WR write took effect at `at_`, with lane slots starting at `st` and `pv`
(R125, R177); an AT entry gives the grain in 24 bits. -/
def State.sendMoment (s : State) (l : Fin 2) (e : TxEntry) (atGrain : Option Nat) (at_ st pv : Nat) : Nat :=
  match atGrain with
  | some grain => st + 4 * grain
  | none => (if st + e.tsref ≤ at_ then st + e.tsref else pv + e.tsref) + 4 * s.get (F.BBL_l_TMPL_ACKDLY l)

/-- The lane listens or receives while a frame would run from `m` to `stop` (R178): its window lies there, or has passed
with an SHR in it, since none has closed it. -/
def State.laneListens (s : State) (l : Fin 2) (m stop : Nat) : Bool :=
  (s.lanes[l].win.map fun w => (decide (m < w.close) && decide (w.open_ < stop)) || decide (w.close < s.tally.clock)).getD
    false

/-- The lane slot now running is one in which a parent sends its link beacon alone (R181). -/
def State.beaconOnly (s : State) (l : Fin 2) : Bool :=
  s.laneParent l && s.lanes[l].lasn % max 1 (s.get (F.BBL_l_LINK_BCNPER l)) == 0

/-- LANE_SEND_ENTRY (R172, R177, R178, R181, R185, R189): the entry at RD is sent on the channel of its lane slot, or
passed over; COEX_GNT_BBLl has a level. A malformed one is ignored. DEDUCED, log entry 88. -/
def laneSendEntry (l : Fin 2) (level : Bool) (s : State) : State :=
  match s.lanes[l].sends with
  | [] => s
  | (at_, st, pv) :: _ =>
    let r := serRead Master.radio (s.get (F.BBL_l_SEND_BASE l) + 16 * s.get (F.BBL_l_SEND_RD l)) 16 s
    let s1 := sendPop l r.2.2
    if r.2.1 then s1.inc F.TICK_CANCEL_COUNT
    else if !s1.laneSends l then s1
    else if s1.beaconOnly l then s1.inc (F.BBL_l_CNT_k_COUNT l 4)
    else
      let f := numAt r.1 7 1
      let e := txEntry true (r.1.set 7 (BitVec.ofNat 8 (f % 32)))
      let a := s1.lanes[l]
      let chan := laneChan a.mask a.lasn a.choff
      let phy := s1.get (F.BBL_l_CHAN_c_PHY l (chan.getD 0))
      let good := decide (f < 64) && !bitOf f 0 && laneEntryOk true phy
        ([1, 0, BitVec.ofNat 8 (2 * bits f 2 2), 0] ++ leBytes 4 e.buf ++ leBytes 2 e.len ++ List.replicate 6 0)
      let m := s1.sendMoment l e (if bitOf f 5 then some (numAt r.1 9 3) else none) at_ st pv
      let stop := m + 4 * airtime phy e.len
      let overlap := s1.laneListens l m stop || a.tx.isSome || s1.get (F.BBL_l_STATE_CAL l) == 1
      if !good then s1.flag F.BBL_STAT_BADENTRY
      else if m < at_ + 4 * (s1.laneD l + s1.lanePrep l) ∨ m < st ∨ st + 4 * (s1.slotLen - 800) < stop ∨
          st ≠ a.start ∨ overlap ∨ chan.isNone then
        s1.inc (F.BBL_l_CNT_k_COUNT l 2)
      else
        let cls := if bitOf f 5 then 2 else 0
        let s2 := (s1.put (F.BBL_l_STATE_CHAN l) (chan.getD 0)).modLane l fun a => { a with
          pins := some (s1.lanePins l m stop cls false) }
        if s2.on (F.BBL_l_COEX_EN l) && !s2.laneGranted l level then dropPins l s2
        else
          let p := serRead Master.radio e.buf e.len s2
          if p.2.1 then dropPins l (p.2.2.inc F.TICK_CANCEL_COUNT)
          else laneGo l m none false cls false (bitOf f 4 && phy != 0) (withFcs e.addfcs (bitOf f 3 && phy != 0) p.1) p.2.2

/-! ## Link beacons and tracking (R181 to R187) -/

/-- The content of a link element: LASN and HOPMASK. -/
def linkIe (oui : Nat) : Nat → List Byte → Option (Nat × Nat)
  | 0, _ => none
  | fuel + 1, b =>
    let h := numAt b 0 2
    let len := bits h 0 7
    let id := bits h 7 8
    if b.length < 2 ∨ bitOf h 15 ∨ id = 0x7E ∨ id = 0x7F then none
    else
      let c := (b.drop 2).take len
      if id = 0 ∧ numAt c 0 1 * 65536 + numAt c 1 1 * 256 + numAt c 2 1 = oui ∧ numAt c 3 1 = 5 ∧ numAt c 4 1 = 1 ∧
          21 ≤ c.length then some (numAt c 6 5, numAt c 17 4)
      else linkIe oui fuel (b.drop (2 + len))

/-- A link beacon in a PSDU: its long source address, LASN and HOPMASK. -/
def linkBeacon (oui : Nat) (p : List Byte) : Option (Nat × Nat × Nat) :=
  let fc := numAt p 0 2
  let at0 := 2 + b2n (!bitOf fc 8) + addrBytes fc
  let at1 := at0 + if bitOf fc 3 then auxBytes (p.drop at0) else 0
  if bits fc 0 3 = 0 ∧ bits fc 12 2 = 2 ∧ bits fc 14 2 = 3 ∧ bitOf fc 9 then
    (linkIe oui 64 (p.drop at1)).map fun x => (numAt p (at0 - 8) 8, x.1, x.2)
  else none

/-- The lane's parent. -/
def State.laneParentEui (s : State) (l : Fin 2) : Nat :=
  s.get (F.BBL_l_PARENT_LO_EUI l) + 2 ^ 32 * s.get (F.BBL_l_PARENT_HI_EUI l)

/-- LASNOFF. -/
def State.lasnOff (s : State) (l : Fin 2) : Nat :=
  s.get (F.BBL_l_LASNOFF_LO_OFF l) + 2 ^ 32 * (s.get (F.BBL_l_LASNOFF_HI_OFF l) % 256)

def setLasnOff (l : Fin 2) (v : Int) (s : State) : State :=
  let n := (v % 2 ^ 40).toNat
  s.puts [(F.BBL_l_LASNOFF_LO_OFF l, n % 2 ^ 32), (F.BBL_l_LASNOFF_HI_OFF l, n / 2 ^ 32)]

/-- Store PHASE as of now. -/
def setPhase (l : Fin 2) (v : Int) (s : State) : State :=
  (s.putS (F.BBL_l_PHASE_VALUE l) (satSigned 24 v)).modLane l fun a => { a with phaseAt := s.tally.clock }

/-- Keep PHASE within a slot length; LASNOFF moves with it, so no lane slot changes its link ASN (DEDUCED, log entry 41). -/
def normPhase (l : Fin 2) (s : State) : State :=
  let len : Int := max 1 (4 * s.slotLen : Nat)
  let p := s.getS (F.BBL_l_PHASE_VALUE l)
  setLasnOff l (s.lasnOff l - p / len) (s.putS (F.BBL_l_PHASE_VALUE l) (p % len))

/-- The parent model takes `e`, in quarter grains, of a frame whose SHR started at clock `t0` (R183, R133). DESIGN
CHOICE, log entry 26. -/
def trackUpdate (l : Fin 2) (e : Int) (t0 : Nat) (s : State) : State :=
  let p := s.phaseNow l
  let done := fun s => s.modLane l fun a : Lane => { a with updAt := t0 }
  if s.laneState l = laneTrackSt then
    let s1 := setPhase l (p.add ⟨e * s.get (F.BBL_l_LINK_KP l), 256⟩).round s
    let dq := t0 - s.lanes[l].updAt
    let add : Int × State :=
      if dq = 0 then
        let f := s1.fresh 640001
        ((f.1 : Int) - 320000, f.2)
      else ((Frac.add (Frac.ofInt (s.getS (F.BBL_l_RATE_VALUE l)))
        ⟨e * s.get (F.BBL_l_LINK_KR l) * 62500000, dq⟩).round, s1)
    done (add.2.putS (F.BBL_l_RATE_VALUE l) (max (-320000) (min 320000 add.1)))
  else done (setPhase l (p.add (Frac.ofInt e)).round s)

/-- Accept a link beacon (R182, R183, R186, R187) whose SHR started at clock `t0`, in slot instant `i`. -/
def acceptBeacon (l : Fin 2) (lasn mask : Nat) (t0 : Nat) (i : Nat × Nat) (expect : Nat) (s : State) : State :=
  let st := s.laneState l
  let s1 := s.modLane l fun a => { a with next := some mask }
  let q : Int := (i.2 : Int) - 4 * s.get (F.BBL_l_TMPL_TXOFF l)
  let own : Int := s.lasnOff l + ((lasn : Int) - s.lanes[l].lasn)
  let u := if !s.laneFree l then s1
    else if st = laneSearchSt then
      normPhase l (setLasnOff l ((lasn : Int) - i.1) (setPhase l q (s1.modLane l fun a => { a with updAt := t0 })))
    else normPhase l (setLasnOff l own (trackUpdate l ((t0 : Int) - expect) t0 s1))
  let v := u.put (F.BBL_l_STATE_MISS l) 0
  if !s.laneFree l then v
  else setLaneState l (if st = laneAcquireSt ∨ st = laneTrackSt then laneTrackSt else laneAcquireSt) v

/-- The power of a lane frame at the pin, in quarter dBm, referred to the antenna (R104, R180): corrected by the lane's RSSI
offset of its band, section 4 of the calibration set in force, and less BBL_l_EXT.GAIN. -/
def State.laneAtAntenna (s : State) (l : Fin 2) (v : Int) : Int :=
  satSigned 16 (v + toSigned 16 (numAt s.cal.cur (0x1D60 + 4 * l + if s.lanePhy l = 0 then 0 else 2) 2) -
    s.getS (F.BBL_l_EXT_GAIN l))

/-- The reception of a lane frame (R180). -/
def laneRx (l : Fin 2) (phy : Nat) (i slot : Nat × Nat) (inwin : Bool) (phr : Nat) (rssi cfo : Int) : Rx :=
  { src := 2, chan := l, stream := 0, asn := i.1, q := i.2, tick := slot.1, slen := slot.2, phy := phy, node := 0xFFFF,
    inwin := inwin, paired := false,
    gainstep := false, ports := 1, chest := [0x00, 0x40] ++ List.replicate 30 0, phr := some (phrLen phy phr, phr),
    pool := 0, buf := 0, rssi := rssi, cfo := cfo, early := false }

/-- Deliver a lane frame under R108 to R111. -/
def laneDeliver (l : Fin 2) (r : Rx) (phr : Nat) (t1 : Nat × Nat) (psdu : List Byte) (sinr : Int) (s : State) : State :=
  if !phrGood r.phy phr then s.inc (F.FRX_CNT_DROP_k_COUNT 3)
  else
    let len := phrLen r.phy phr
    let k := if len ≤ 144 then 0 else 1
    match poolTake k s with
    | none => s.inc (F.FRX_CNT_DROP_k_COUNT 0)
    | some (b, s1) =>
      let e := earlyPut { r with pool := k, buf := b } len psdu s1
      let d := rxFinish e.1 len phr t1 psdu sinr e.2
      d.2.when d.1 (·.inc (F.BBL_l_CNT_k_COUNT l 1))

/-- LANE_FRAME_RECEIVED (R178 to R187): a frame whose SHR began `lagS`, and whose PSDU ended `lagE`, quarter grains ago at
the pin; `raw` is the PSDU as it is on the air, `power` in quarter dBm at the pin. The lane takes it in a window that
holds its start, or in SEARCH. DEDUCED, log entry 157. -/
def laneFrame (l : Fin 2) (lagS lagE phrBits : Nat) (raw : List Byte) (power sinr cfo : Int) (s : State) : State :=
  let dly := s.get (F.BBL_l_EXT_DLY l)
  let t0 := s.tally.clock - (lagS + dly)
  let search := s.laneState l == laneSearchSt
  let win := s.lanes[l].win.filter fun w => decide (w.open_ ≤ t0) && decide (t0 ≤ w.close)
  if !s.laneRuns l ∨ !(search || win.isSome) then s
  else
    let phy := s.lanePhy l
    let i := s.ago (lagS + dly)
    let t1 := s.ago (lagE + dly)
    let phr := if phy = 0 then phrBits % 256 else phrBits
    let air := (raw ++ List.replicate (phrLen phy phr) 0).take (phrLen phy phr)
    let p := if phrWhite phy phr then whiten air else air
    let s1 := laneDeliver l (laneRx l phy i (s.slotOf i) win.isSome phr (s.laneAtAntenna l power) cfo) phr t1 p sinr s
    let ok := phrGood phy phr && fcsOk (fcsLen phy phr == 4) p
    let link := if ok && s.laneMember l then
      (linkBeacon (s.get F.SF_VIE_OUI) p).filter fun b => b.1 == s.laneParentEui l else none
    let quiet := s.tally.clock - (lagE + dly) + 4 * s.get (F.BBL_l_TMPL_ACKDLY l) - 4 * (s.laneD l + s.lanePrep l)
    let s2 := if ok && bitOf (numAt p 0 2) 5 then s1.modLane l fun a => { a with quiet := quiet } else s1
    match win with
    | none =>
      match link with
      | some b => acceptBeacon l b.2.1 b.2.2 t0 i 0 s2
      | none => s2
    | some w =>
      let shut := fun s : State => s.modLane l fun a => { a with win := none }
      match w.kind with
      | .beacon =>
        match link with
        | some b => shut (acceptBeacon l b.2.1 b.2.2 t0 i w.expect s2)
        | none => if s.laneState l = laneReacqSt then s2 else beaconMissed l (shut s2)
      | _ =>
        let s3 := laneEnd l lsDone (shut s2)
        let other := ((sourceEui p).map fun e => leNat e != s.laneParentEui l).getD false
        match link with
        | some b => acceptBeacon l b.2.1 b.2.2 t0 i w.expect s3
        | none => if ok && s.laneFree l && !other then trackUpdate l ((t0 : Int) - w.expect) t0 s3 else s3

/-- REACQ_END (R185): the beacon slots of REACQ have passed. -/
def reacqEnd (l : Fin 2) (s : State) : State :=
  if s.laneState l = laneReacqSt ∧ s.get (F.BBL_l_LINK_REACQ l) ≤ s.lanes[l].periods then enterSearch l s else s

/-- SEARCH_DWELL_END (R186). -/
def dwellEnd (l : Fin 2) (s : State) : State :=
  if s.laneState l = laneSearchSt ∧ s.lanes[l].dwell = 0 then dwellOn l (some (s.get (F.BBL_l_STATE_CHAN l))) s else s

/-- RESEARCH (R187): a member that follows its own parent's grid discards what it adopted and searches again. -/
def researchOp (l : Fin 2) (s : State) : State :=
  if s.laneFree l && s.laneRuns l then
    let s1 := s.modLane l fun a => { a with mask := 0, next := none, phaseAt := s.tally.clock }
    enterSearch l (laneEnd l lsCancelled (s1.puts [(F.BBL_l_PHASE_VALUE l, 0), (F.BBL_l_RATE_VALUE l, 0),
      (F.BBL_l_LASNOFF_LO_OFF l, 0), (F.BBL_l_LASNOFF_HI_OFF l, 0), (F.BBL_l_STATE_MISS l, 0), (F.BBL_l_HOP_MASK l, 0)]))
  else s

/-! ## Background calibration (R172, R173, R178) -/

/-- The lane is idle for a background step. -/
def State.laneIdle (s : State) (l : Fin 2) : Bool :=
  let a := s.lanes[l]
  let g := (s.tally.clock - a.start) / 4
  s.laneOnAir l && s.laneState l != laneSearchSt && a.tx.isNone && a.win.isNone && a.op == 0 &&
    s.get (F.BBL_l_STATE_CAL l) != 1 && decide (a.quiet ≤ s.tally.clock) && decide (320 ≤ g) && decide (g + 800 ≤ s.slotLen)

/-- BACKGROUND_CALIBRATION_STEP: the step completes, or a transmit stops it and its results are discarded. -/
def bgStep (l : Fin 2) (k : Fin 4) (abort : Bool) (s : State) : State :=
  if s.laneIdle l && bitOf (s.get (F.BBL_l_BGCAL_EN l)) k && !abort then
    s.modLane l fun a => { a with bg := a.bg.set k ⟨s.tally.clock, s.getS F.CAL_TEMP_TEMP, false⟩ }
  else s

/-- CALIBRATION_OVERDUE (R173): counted once for each time it falls due and does not run. -/
def bgOverdue (l : Fin 2) (k : Fin 4) (s : State) : State :=
  let b := s.lanes[l].bg.getD k ⟨0, 0, false⟩
  let due := decide (b.clock + 32000000 * s.get (F.BBL_l_BGCAL_BGPER l) ≤ s.tally.clock) ||
    decide (20 ≤ (s.getS F.CAL_TEMP_TEMP - b.temp).natAbs)
  if s.laneOnAir l && bitOf (s.get (F.BBL_l_BGCAL_EN l)) k && due && !b.overdue then
    (s.modLane l fun a => { a with bg := a.bg.set k { b with overdue := true } }).inc (F.BBL_l_CNT_k_COUNT l 7)
  else s

/-! ## The block -/

/-- The lane begins to run as the block enters the modes of R15 (R187). -/
def laneStart (l : Fin 2) (s : State) : State :=
  let now : LaneBg := ⟨s.tally.clock, s.getS F.CAL_TEMP_TEMP, false⟩
  let s1 := s.modLane l fun a => { Lane.init with
    tx := a.tx, pins := a.pins, base := a.base, op := if a.tx.isSome then a.op else 0, sends := a.sends, mask := if s.laneParent l then s.get (F.BBL_l_HOP_MASK l) else 0, start := s.tally.clock, prev := s.tally.clock,
    phaseAt := s.tally.clock, bg := List.replicate 4 now }
  if s.laneParent l then setLaneState l laneParentSt s1
  else if s.laneMember l then
    (if s.laneFree l then enterSearch l s1
     else setLaneState l laneTrackSt (s1.modLane l fun a => { a with mask := s.get (F.BBL_l_HOP_MASK l) }))
  else setLaneState l laneOffSt s1

/-- The lane is off at once, its frame cut: from SAFE entry, and as a FENCE is contained (R42, R169, R316). -/
def laneStop (l : Fin 2) (s : State) : State :=
  (s.modLane l fun a => { Lane.init with sends := a.sends }).setReg (R.BBL_l_STATE l) 0

/-- The lane is off outside the modes of R15 (R169): a frame on the air ends normally, and any other entry is cancelled. -/
def laneQuit (l : Fin 2) (s : State) : State :=
  let a := s.lanes[l]
  if a.tx.isNone then laneStop l (laneEnd l lsCancelled s)
  else
    (((s.modLane l fun a => { Lane.init with
      tx := a.tx, pins := a.pins, op := a.op, base := a.base, flags := a.flags, sends := a.sends }).setReg (R.BBL_l_STATE l) 0).puts
      [(F.BBL_l_STATE_BUSY l, 1), (F.BBL_l_STATE_CHAN l, s.get (F.BBL_l_STATE_CHAN l))])

/-- A chip slot of a search dwell passes (R186). DEDUCED, log entry 104. -/
def laneTick (l : Fin 2) (s : State) : State :=
  if s.laneState l = laneSearchSt then s.modLane l fun a => { a with dwell := a.dwell - 1 } else s

/-- BBL_CLRCNT. -/
def bblClear (s : State) : State := forN 2 (fun l s => forN 8 (fun k s => s.put (F.BBL_l_CNT_k_COUNT l k) 0) s) s

/-- A write of word `v` to a BBL register is in range (R191); `gmax` is BBL_l_GUARD.GMAX now, `txoff` BBL_l_TMPL.TXOFF. -/
def bblRange (off v gmax txoff : Nat) : Bool :=
  let o := (off - 0x80100) % 256
  if off < 0x80100 then true
  else if o = 4 then
    let tx := bits v 0 16
    decide (640 ≤ tx) && decide (tx ≤ 16000) && decide (gmax + 320 ≤ tx) &&
      decide (1200 ≤ bits v 16 16) && decide (bits v 16 16 ≤ 4000)
  else if o = 8 then
    decide (16 ≤ bits v 0 11) && decide (bits v 0 11 ≤ bits v 11 11) && decide (bits v 11 11 + 320 ≤ txoff)
  else if o = 0xC then decide (toSigned 8 v ≤ 56) && decide (1 ≤ bits v 8 5)
  else if o = 0x14 then decide (1 ≤ bits v 0 8) && decide (1 ≤ bits v 8 4)
  else if o = 0x1C then decide (1 ≤ bits v 0 16)
  else if o = 0x28 ∨ o = 0x30 then bits v 0 25 % 16 == 0
  else if o = 0x54 then decide (bits v 6 9 ≤ 400)
  else if o = 0x5C then decide (1 ≤ bits v 8 8)
  else if 0x80 ≤ o then
    let f := bits v 0 22
    (bits v 22 2 == 0 && decide (2360000 ≤ f) && decide (f ≤ 2500000)) ||
      ((bits v 22 2 == 1 || bits v 22 2 == 2) && decide (750000 ≤ f) && decide (f ≤ 960000))
  else true

end Sys2Proof.Machine
end

