-- ==== Sys2Proof/Machine/Trust.lean ====
section
/-!
DEFINITION. Trust, identity and keys (19_trust.md, R345 to R363): fuses, the DRBG, owner commands, key import and locks.
-/

namespace Sys2Proof.Machine

/-! Statuses of TRU_CMDSTAT. -/
namespace TruSt
def busy : Nat := 1
def done : Nat := 2
def state : Nat := 3
def badfmt : Nat := 4
def badserial : Nat := 5
def badnonce : Nat := 6
def badsig : Nat := 7
def badwrap : Nat := 8
def nostore : Nat := 9
end TruSt

/-! Lifecycles. -/
namespace Life
def blank : Nat := 0
def owned : Nat := 1
def locked : Nat := 2
def retired : Nat := 3
end Life

/-! ## Fuses and the trust record (R345, R349) -/

/-- Show 32-bit words of a byte list in a run of registers. -/
def showBytes (f : Nat → Field) (n : Nat) (bs : List Byte) (s : State) : State :=
  forN n (fun w s => s.put (f w) (numAt bs (4 * w) 4)) s

/-- The bytes that a run of registers holds. -/
def wordsOf (f : Nat → Field) (n : Nat) (s : State) : List Byte :=
  (List.range n).flatMap fun w => leBytes 4 (s.get (f w))

/-- The trust block rewrites bytes of the option area. -/
def optPatch (off : Nat) (bs : List Byte) (s : State) : State :=
  let area := patch (s.flsBytes 0 4096) off bs
  flsPut 0 area (hwErase 0 s)

/-- A lifecycle fuse is burned, and the LIFE copy follows (R351). -/
def burnLife (v : Nat) (s : State) : State :=
  optPatch 4 (leBytes 1 v) ({ s with fuses := { s.fuses with life := v } }.put F.TRU_STAT_LIFE v)

/-- Draw a fresh TRU_NONCE (R358). -/
def drawNonce (s : State) : State :=
  let r := drbg 8 s
  showBytes F.TRU_NONCE_w_VALUE 2 r.1 r.2

/-- The serial number's bytes. -/
def State.serialBytes (s : State) : List Byte := leBytes 8 s.fuses.serial

/-- What a whole-chip reset takes from the fuses and the option area (R348, R349, R362). -/
def trustBoot (s : State) : State :=
  let own := s.flsBytes 8 64
  let ok := !s.isOpen 0 && s.flsSound 8 64 && s.fuses.owner == some (sha256 own)
  let s1 := s.puts [(F.TRU_STAT_LIFE, s.fuses.life), (F.TRU_STAT_IDSET, b2n s.fuses.idset),
    (F.TRU_STAT_IDFAIL, b2n (s.fuses.idkey != 0 && !s.fuses.idset)), (F.TRU_STAT_OWNPUBOK, b2n ok),
    (F.TRU_STAT_OPTMISMATCH, b2n (numAt (s.flsBytes 4 1) 0 1 != s.fuses.life)), (F.TRU_RB_COUNT, s.fuses.rollback),
    (F.TRU_LOCK_UPDATE, b2n (bitOf (numAt (s.flsBytes 5 1) 0 1) 0)), (F.TRU_LOCK_CAL, b2n (bitOf (numAt (s.flsBytes 5 1) 0 1) 1)),
    (F.TRU_LOCK_IMPORT, b2n (bitOf (numAt (s.flsBytes 5 1) 0 1) 2))]
  let s2 := showBytes F.TRU_SERIAL_w_VALUE 2 s.serialBytes s1
  let s3 := showBytes F.TRU_OWNPUB_w_VALUE 16 own s2
  let s4 := if s.fuses.idset then showBytes F.TRU_IDPUB_w_VALUE 16 (Config.pubKey s.fuses.idkey) s3 else s3
  { s4 with tru := { s4.tru with
    ownerPub := own, storageKey := none, keyring := [], cmd := none, unlocked := 0, rbump := false, bootEpoch := 0 } }

/-- The identity of a chip on its first boot (R348): the key is drawn, burned and shown. -/
def burnIdentity (s : State) : State :=
  if s.fuses.idset || s.fuses.idkey != 0 then s
  else
    let r := drbg 32 s
    let k := leNat r.1
    let s1 := { r.2 with fuses := { r.2.fuses with idkey := k, idset := true } }.flag F.TRU_STAT_IDSET
    showBytes F.TRU_IDPUB_w_VALUE 16 (Config.pubKey k) s1

/-! ## Entropy (R346, R347) -/

/-- NOISE_HEALTH_FAIL: the DRBG stops. -/
def noiseFail (s : State) : State :=
  produce Prod.entropyFail (((s.put F.TRU_STAT_DRBGOK 0).flag F.TRU_STAT_NOISEFAIL).inc (F.TRU_CNT_k_COUNT 3))

/-- DRBG_RESEED: fresh seed material; while the DRBG is stopped nothing reseeds it but its restart. -/
def drbgReseed (s : State) : State := if s.on F.TRU_STAT_DRBGOK then s.inc (F.TRU_CNT_k_COUNT 4) else s

/-- DRBG_RESTART: the start-up test has passed and a reseed completed; the cipher units' pools fill. -/
def drbgRestart (s : State) : State :=
  if s.on F.TRU_STAT_DRBGOK || s.mode == Mode.reset then s
  else fillPools ((s.flag F.TRU_STAT_DRBGOK).inc (F.TRU_CNT_k_COUNT 4))

/-- TRU_RAND_READ: the read returns fresh output, or 0 while the DRBG is stopped. The register shows what was read last. -/
def randRead (s : State) : State :=
  if s.on F.TRU_STAT_DRBGOK then
    let r := drbg 4 s
    r.2.put F.TRU_RAND_VALUE (leNat r.1)
  else s.put F.TRU_RAND_VALUE 0

/-! ## TRU_CMD (R350, R351, R356, R363) -/

/-- A trust command is in progress. -/
def State.truBusy (s : State) : Bool := s.get F.TRU_CMDSTAT_STATUS == TruSt.busy

/-- Accept a command of TRU_CMD, or refuse it while one is in progress. DEDUCED, log entry 89. -/
def truGate (f : State → State) (s : State) : State := if s.truBusy then s.flag F.TRU_STAT_BADVAL else f s

/-- Show an outcome. -/
def truEnd (st entry : Nat) (s : State) : State := s.puts [(F.TRU_CMDSTAT_STATUS, st), (F.TRU_CMDSTAT_ENTRY, entry)]

/-- TRU_CMD.CLAIM. -/
def claimOp : State → State := truGate fun s =>
  if s.fuses.life ≠ Life.blank ∨ s.mode ≠ Mode.boot ∨ !s.fuses.idset ∨ s.on F.TRU_STAT_IDFAIL then truEnd TruSt.state 0 s
  else
    let k := wordsOf F.TRU_OWNPUB_w_VALUE 16 s
    let s1 := optPatch 8 k { s with fuses := { s.fuses with owner := some (sha256 k) } }
    truEnd TruSt.done 0 (burnLife Life.owned s1)

/-- TRU_CMD.SETPUB. -/
def setpubOp : State → State := truGate fun s =>
  let k := wordsOf F.TRU_OWNPUB_w_VALUE 16 s
  if s.mode ≠ Mode.boot then truEnd TruSt.state 0 s
  else if s.fuses.owner ≠ some (sha256 k) then truEnd TruSt.badsig 0 s
  else
    let s1 := (optPatch 8 k s).flag F.TRU_STAT_OWNPUBOK
    truEnd TruSt.done 0 { s1 with tru := { s1.tru with ownerPub := k } }

/-- TRU_CMD.RBUMP. -/
def rbumpOp : State → State := truGate fun s =>
  let t := s.get F.TRU_RB_TARGET
  if t < s.fuses.rollback ∨ 128 < t ∨ s.tru.bootEpoch < t then truEnd TruSt.state 0 s
  else truEnd TruSt.busy 0 { s with tru := { s.tru with rbump := true } }

/-- RBUMP_COMPLETE. DEDUCED, log entry 150. -/
def rbumpDone (s : State) : State :=
  if s.tru.rbump then
    let t := s.get F.TRU_RB_TARGET
    truEnd TruSt.done 0 ({ s with
      fuses := { s.fuses with rollback := max s.fuses.rollback t }, tru := { s.tru with rbump := false } }.put F.TRU_RB_COUNT
        (max s.fuses.rollback t))
  else s

/-- An interrupted RBUMP leaves the count somewhere between its old value and TARGET (R356): a free value. DESIGN
CHOICE, log entry 97. -/
def rbumpCut (s : State) : State :=
  if s.tru.rbump then
    let r := s.fresh (s.get F.TRU_RB_TARGET - s.fuses.rollback + 1)
    { r.2 with fuses := { r.2.fuses with rollback := r.2.fuses.rollback + r.1 }, tru := { r.2.tru with rbump := false } }
  else s

/-! ## Owner commands (R357, R358) -/

/-- TYPE, FLAGS.NONCE and LEN of a block. -/
def ocTy (b : List Byte) : Nat := numAt b 0 1
def ocNonce (b : List Byte) : Bool := bitOf (numAt b 1 1) 0
def ocLen (b : List Byte) : Nat := numAt b 2 2

/-- IMPORT: COUNT, and entry `i`. -/
def imCount (b : List Byte) : Nat := numAt b 20 1
def imEntry (b : List Byte) (i : Nat) : List Byte := (b.drop (88 + 64 * i)).take 64

/-- The longest owner command. -/
def ocMax : Nat := 4248

/-- The bytes of the block at TRU_CMDBUF, no longer than the longest command. -/
def State.ocBytes (s : State) : List Byte := s.bytesAt (s.get F.TRU_CMDBUF_BASE) ocMax

/-- TRU_CMD.GO: the trust block takes the block. DEDUCED, log entry 89. DEDUCED, log entry 151. -/
def ownerGo : State → State := truGate fun s =>
  let r := serRead Master.unit (s.get F.TRU_CMDBUF_BASE) ocMax s
  truEnd TruSt.busy 0 { r.2.2 with tru := { r.2.2.tru with cmd := some r.1 } }

/-- GO as the row of TYPE `ty`: a block of another known TYPE is another row's. -/
def ownerRow (ty : Nat) (s : State) : State :=
  let t := ocTy s.ocBytes
  if 1 ≤ t ∧ t ≤ 5 ∧ t ≠ ty then s else ownerGo s

/-- The lifecycle, mode and OWNPUBOK allow the TYPE (R351, R353, R357, R362). -/
def State.ocAllowed (s : State) (b : List Byte) : Bool :=
  let m := s.mode == Mode.boot || s.mode == Mode.configure
  let ty := ocTy b
  let other := (List.range (min 64 (imCount b))).any fun i => numAt (imEntry b i) 0 1 != 0
  s.on F.TRU_STAT_OWNPUBOK && (s.fuses.life == Life.owned || s.fuses.life == Life.locked) &&
    (ty != 2 || (s.fuses.life == Life.owned && m)) && (ty != 3 || m) &&
    !(ty == 1 && ((s.fuses.life == Life.locked && s.on F.TRU_LOCK_IMPORT && other) || s.on F.TRU_STAT_IDFAIL))

/-- LEN of a TYPE. -/
def ocLenOk (b : List Byte) : Bool :=
  let ty := ocTy b
  if ty = 1 then decide (1 ≤ imCount b) && decide (imCount b ≤ 64) && ocLen b == 152 + 64 * imCount b
  else if ty = 4 ∨ ty = 5 then ocLen b == 88
  else ocLen b == 84

/-- The layout of a block is in order. -/
def State.ocFormat (s : State) (b : List Byte) : Bool :=
  let ty := ocTy b
  decide (1 ≤ ty) && decide (ty ≤ 5) && ocLenOk b && decide (s.get F.TRU_CMDBUF_BASE + ocLen b ≤ serSize) &&
    decide (numAt b 1 1 < 2) && (ocNonce b || zeroAt b 12 8) &&
    (if ty = 1 then zeroAt b 21 3 else if ty = 4 ∨ ty = 5 then decide (numAt b 20 1 < 8) && zeroAt b 21 3 else true)

/-- The first failure of R357; none where the command stands. DEDUCED, log entry 89. -/
def State.ocFault (s : State) (b : List Byte) : Option Nat :=
  let n := ocLen b
  if !s.ocAllowed b then some TruSt.state
  else if !s.ocFormat b then some TruSt.badfmt
  else if (b.drop 4).take 8 ≠ s.serialBytes then some TruSt.badserial
  else if (ocTy b ≠ 1 ∧ !ocNonce b) ∨ (ocNonce b ∧ (b.drop 12).take 8 ≠ wordsOf F.TRU_NONCE_w_VALUE 2 s) then
    some TruSt.badnonce
  else if !Config.ecdsaOk s.tru.ownerPub (sha256 (b.take (n - 64))) ((b.drop (n - 64)).take 64) then some TruSt.badsig
  else none

/-! ## Key import (R359, R360) -/

/-- The key-encryption key of an entry. -/
def State.importKek (s : State) (b e : List Byte) : List Byte :=
  sha256 ([0, 0, 0, 1] ++ Config.ecdhX s.fuses.idkey ((b.drop 24).take 64) ++ s.serialBytes ++ e.take 16)

/-- Fields of an entry. -/
def imAes256 (e : List Byte) : Bool := bitOf (numAt e 3 1) 0
def imLevel (e : List Byte) : Nat := bits (numAt e 3 1) 1 3

/-- The key an entry carries; none where the check value of the wrap does not match. -/
def State.imKey (s : State) (b e : List Byte) : Option (List Byte) :=
  keyUnwrap (s.importKek b e) ((e.drop 16).take (if imAes256 e then 40 else 24))

/-- The layout of an entry is in order. -/
def State.imFormat (s : State) (e : List Byte) : Bool :=
  let t := numAt e 0 1
  let dst := numAt e 12 4
  decide (t ≤ 2) && (if t = 1 then decide (numAt e 1 1 ≤ 63) else zeroAt e 1 1) &&
    (if t = 0 then zeroAt e 2 1 else !zeroAt e 2 1) && decide (numAt e 3 1 < 16) && (t == 2 || imLevel e == 0) &&
    (if t = 1 then decide (numAt e 4 1 < 128) else zeroAt e 4 1) && zeroAt e 5 3 &&
    (if t = 1 then !zeroAt e 8 4 else zeroAt e 8 4) &&
    (if t = 2 then dst % 32 == 0 && s.inBay Bay.host dst && s.inBay Bay.host (dst + 31) else zeroAt e 12 4) &&
    (imAes256 e || zeroAt e 40 16) && zeroAt e 56 8

/-- What an entry fails on; none where it stands. -/
def State.imFault (s : State) (b e : List Byte) : Option Nat :=
  let t := numAt e 0 1
  if !s.imFormat e then some TruSt.badfmt
  else if (s.imKey b e).isNone then some TruSt.badwrap
  else if t = 0 then
    if imAes256 e ∧ !s.on F.TRU_STAT_STORE ∧ (s.mode = Mode.boot ∨ s.mode = Mode.configure) then none else some TruSt.state
  else if !s.on F.TRU_STAT_STORE then some TruSt.nostore
  else if t = 2 ∧ (imAes256 e ∨ imLevel e = 0) then some TruSt.state
  else none

/-- Install one entry (R360). -/
def imInstall (b e : List Byte) (s : State) : State :=
  let key := (s.imKey b e).getD []
  let t := numAt e 0 1
  if t = 0 then { s with tru := { s.tru with storageKey := some key } }.flag F.TRU_STAT_STORE
  else
    let w := storageForm key s
    if t = 1 then
      let k := numAt e 1 1
      let pad := (w.1 ++ List.replicate 40 0).take 40
      let s1 := { w.2 with tru := { w.2.tru with keyring := sins k pad w.2.tru.keyring } }
      let c := s1.cached ⟨pad, numAt e 2 1, 0, numAt e 8 4, true⟩
      (cachePut ⟨pad.take 8, numAt e 2 1, c.1, c.2, true⟩ s1).puts
       [(F.CIPH_KR_k_VALID k, 1), (F.CIPH_KR_k_AES256 k, b2n (imAes256 e)), (F.CIPH_KR_k_KEYIDX k, numAt e 2 1),
        (F.CIPH_KR_k_ROLES k, numAt e 4 1), (F.CIPH_KR_k_USED k, c.1), (F.CIPH_KR_k_LIMIT k, numAt e 8 4),
        (F.CIPH_KR_k_FP k, numAt pad 0 4)]
    else
      serWrite Master.unit (numAt e 12 4) (w.1.take 24 ++ leBytes 1 (numAt e 2 1) ++
        leBytes 1 (1 + 2 * imLevel e) ++ List.replicate 6 0) w.2

/-- IMPORT: every entry is checked before any is installed. -/
def importRun (b : List Byte) (s : State) : State :=
  let es := (List.range (imCount b)).map (imEntry b)
  match (List.range es.length).find? fun i => (s.imFault b (es.getD i [])).isSome with
  | some i => truEnd ((s.imFault b (es.getD i [])).getD 0) i (s.inc (F.TRU_CNT_k_COUNT 1))
  | none =>
    truEnd TruSt.done 0 ((forAll es (imInstall b) (s.inc (F.TRU_CNT_k_COUNT 0))).add (F.TRU_CNT_k_COUNT 2) es.length)

/-- The lock bits of TRU_LOCK. -/
def State.lockBits (s : State) : Nat := (s.reg R.TRU_LOCK).toNat % 8

/-- The effect of an owner command that has passed R357 (R351, R353, R359, R362). -/
def ocRun (b : List Byte) (s : State) : State :=
  let ok := fun s : State => truEnd TruSt.done 0 (s.inc (F.TRU_CNT_k_COUNT 0))
  let m := numAt b 20 1 % 8
  if ocTy b = 1 then importRun b s
  else if ocTy b = 2 then ok (burnLife Life.locked s)
  else if ocTy b = 3 then ok (burnLife Life.retired s)
  else if ocTy b = 4 then
    ok ({ s with tru := { s.tru with unlocked := s.tru.unlocked ||| m } }.setReg R.TRU_LOCK
      (BitVec.ofNat 32 (s.lockBits - (s.lockBits &&& m))))
  else ok (optPatch 5 (leBytes 1 m) s)

/-- OWNER_COMMAND_DONE: the outcome is written, and a nonce-bound command spends the nonce. No command runs in SAFE. -/
def ownerDone (s : State) : State :=
  match (if s.mode = Mode.safe then none else s.tru.cmd) with
  | none => s
  | some b =>
    let s1 := { s with tru := { s.tru with cmd := none } }
    let s2 := match s1.ocFault b with
      | some st => truEnd st 0 (s1.inc (F.TRU_CNT_k_COUNT 1))
      | none => ocRun b s1
    s2.when (ocNonce b) drawNonce

/-! ## Locks and JTAG (R352, R362) -/

/-- TRU_LOCKSET: an unlocked bit stays clear until the next reset. -/
def lockSet (v : Nat) (s : State) : State :=
  let add := v % 8 - (v % 8 &&& s.tru.unlocked)
  s.setReg R.TRU_LOCK (BitVec.ofNat 32 (s.lockBits ||| add))

/-- The lifecycle refuses a JTAG instruction: register or Serai access from LOCKED on, the production scan outside BLANK. -/
def State.jtagRefused (s : State) (j : Jtag) : Bool :=
  match j with
  | .idcode | .bypass | .sample | .extest => false
  | .access => decide (Life.locked ≤ s.fuses.life)
  | .scan => s.fuses.life != Life.blank

/-- EXTEST is accepted. -/
def State.extestOk (s : State) : Bool := s.mode == Mode.boot || s.mode == Mode.configure || s.mode == Mode.test

/-- The JTAG instruction in force: BYPASS in place of one that the lifecycle refuses, and of EXTEST outside its modes. -/
def State.jtagNow (s : State) : Jtag :=
  if s.jtagRefused s.jtag || (s.jtag == .extest && !s.extestOk) then .bypass else s.jtag

/-- JTAG_INSTRUCTION: one that the lifecycle refuses is counted. -/
def jtagOp (j : Jtag) (s : State) : State :=
  { s with jtag := j }.when (s.jtagRefused j) (·.inc (F.TRU_CNT_k_COUNT 5))

/-- A write of a TRU register is in range (R363). -/
def truRange (off v : Nat) : Bool :=
  if off = R.TRU_CMDBUF then bits v 0 25 % 16 == 0
  else if off = R.TRU_RB then decide (bits v 8 8 ≤ 128)
  else if off = R.TRU_DRBG then decide (1 ≤ bits v 0 16)
  else true

end Sys2Proof.Machine
end

