-- ==== Sys2Proof/Machine/Upd.lean ====
section
/-!
DEFINITION. Updating images and settings (20_update.md, R364 to R381): streaming a Drover image, image sets in flash, staged
images and settings records.
-/

namespace Sys2Proof.Machine

/-! Codes of UPD_ERR (R368, R371 to R374). -/
namespace UpdErr
def busy : Nat := 0x06
def sig : Nat := 0x07
def format : Nat := 0x08
def cls : Nat := 0x09
def epoch : Nat := 0x0A
def size : Nat := 0x0B
def target : Nat := 0x0C
def handover : Nat := 0x0D
def seq : Nat := 0x0E
def hash : Nat := 0x0F
def poison : Nat := 0x10
def abort : Nat := 0x11
end UpdErr

/-- HOW and HOR of a bank's image. -/
def State.hof (s : State) (n b : Nat) : Nat × Nat := s.upd.hof.getD (2 * n + b) (0, 0)

/-- The Drovers of a mask. -/
def maskDrovers (m : Nat) : List (Fin 12) := (List.finRange 12).filter fun n => bitOf m n

/-- The standby bank of a Drover. -/
def State.standby (s : State) (n : Nat) : Nat := 1 - s.get (F.DRV_n_STAT_BANK n)

/-- Put syllables into a bank from syllable `i`. -/
def putSyllables (n : Fin 12) (b i : Nat) (bs : List Byte) (s : State) : State :=
  let words := (List.range ((bs.length + 7) / 8)).map fun k => (i + k, BitVec.ofNat 64 (numAt bs (8 * k) 8))
  let put := fun l : List (Nat × BitVec 64) => words.foldl (fun l p => sset (fun _ => 0) l p.1 p.2) l
  s.modDrv n fun d => if b = 0 then { d with bank0 := put d.bank0 } else { d with bank1 := put d.bank1 }

/-- Empty a bank: every syllable reads 0. -/
def clearBank (n : Fin 12) (b : Nat) (s : State) : State :=
  s.modDrv n fun d => if b = 0 then { d with bank0 := [] } else { d with bank1 := [] }

/-- Mark a bank VALID under an image's ID and VERSION, and record HOW and HOR (R219, R367, R373). -/
def validBank (n : Fin 12) (b : Nat) (h : List Byte) (s : State) : State :=
  let s1 := s.puts [(F.DRV_n_IMG_b_ID n b, Hdr.id h), (F.DRV_n_IMG_b_VERSION n b, Hdr.version h), (F.DRV_n_IMG_b_VALID n b, 1)]
  { s1 with upd := { s1.upd with hof := s1.upd.hof.set (2 * n + b) (Hdr.how h, Hdr.hor h) } }

/-! ## Streaming (R371 to R374) -/

/-- A refusal, or the reason of an abort. -/
def updErr (c : Nat) (s : State) : State := s.put F.UPD_ERR_CODE c

/-- Abort an update in progress (R374). -/
def updAbort (c : Nat) (s : State) : State :=
  if s.get F.UPD_STAT_STATE = 1 then
    let s1 := forAll (maskDrovers s.upd.mask) (fun n s => s.put (F.DRV_n_IMG_b_VALID n (s.standby n)) 0) s
    ((updErr c s1).puts [(F.UPD_STAT_STATE, 0), (F.UPD_STAT_BUSY, 0), (F.UPD_STAT_ABORTED, 1)]).inc (F.UPD_CNT_k_COUNT 3)
  else s

/-- A condition of R368 that now holds aborts the update in progress. DEDUCED, log entry 90. -/
def updWatch (s : State) : State := if s.updCond = 0 then s else updAbort s.updCond s

/-- Drover `n` is required to hold image `id` by a body. -/
def wantsImage (body : List Byte) (n id : Nat) : Bool :=
  (drvRows body).any fun r => r.n == n && r.role != 0 && r.image == id

/-- The active Manifest, or a VERIFIED shadow, requires a Drover to hold an image (R371). -/
def State.requires (s : State) (n id : Nat) : Bool :=
  (s.on F.MAN_STAT_ACTIVE_VALID && s.get (F.MAN_DRV_n_ROLE n) != 0 && s.get (F.MAN_DRV_n_IMAGE n) == id) ||
    (s.get F.MAN_STAT_SHADOW == 2 && wantsImage (s.slotBody s.shadowSlot) n id)

/-- The first failure of a header (R368, R371); 0 for none. -/
def State.hdrFault (s : State) (h : List Byte) : Nat :=
  let ts := maskDrovers (s.get F.UPD_TARGET_MASK)
  if s.updCond ≠ 0 then s.updCond
  else if s.get F.UPD_STAT_STATE = 1 ∨ s.on F.MAN_STAT_ARMED ∨ (ts.any fun n => s.on (F.DRV_n_STAT_SWARMED n)) then UpdErr.busy
  else if !s.sigOk h then UpdErr.sig
  else if !s.hdrOk h then UpdErr.format
  else if Hdr.cls h ≠ clsD then UpdErr.cls
  else if !s.epochOk h then UpdErr.epoch
  else if !lenOk h then UpdErr.size
  else if ts.isEmpty ∨ (ts.any fun n => !s.requires n (Hdr.id h)) then UpdErr.target
  else if ts.any fun n => s.on (F.DRV_n_IMG_b_VALID n (s.get (F.DRV_n_STAT_BANK n))) &&
      decide ((s.hof n (s.get (F.DRV_n_STAT_BANK n))).1 < Hdr.hor h) then UpdErr.handover
  else 0

/-- HEADER. DEDUCED, log entry 151. -/
def updHeader (s : State) : State :=
  if s.on F.UPD_STAT_BUSY then updErr UpdErr.busy (s.inc (F.UPD_CNT_k_COUNT 1))
  else
    let r := serRead Master.unit (s.get F.UPD_SRC_BASE) 512 s
    let c := r.2.2.hdrFault r.1
    if c ≠ 0 then updErr c (r.2.2.inc (F.UPD_CNT_k_COUNT 1))
    else
      let s1 := { r.2.2 with upd := { r.2.2.upd with hdr := r.1, mask := s.get F.UPD_TARGET_MASK, body := [] } }
      (s1.puts [(F.UPD_STAT_STATE, 1), (F.UPD_TAKEN_BYTES, 0)]).inc (F.UPD_CNT_k_COUNT 0)

/-- CHUNK. -/
def updChunk (s : State) : State :=
  let len := s.get F.UPD_LEN_LEN
  let taken := s.get F.UPD_TAKEN_BYTES
  if s.on F.UPD_STAT_BUSY then updErr UpdErr.busy s
  else if s.get F.UPD_STAT_STATE ≠ 1 ∨ Hdr.bodyLen s.upd.hdr < taken + len then updErr UpdErr.seq s
  else
    let r := serRead Master.unit (s.get F.UPD_SRC_BASE) len s
    if r.2.1 then updAbort UpdErr.poison r.2.2
    else
      let put := fun n s =>
        let b := s.standby n
        let t := if taken = 0 then clearBank n b (s.put (F.DRV_n_IMG_b_VALID n b) 0) else s
        putSyllables n b (taken / 8) r.1 t
      let s1 := forAll (maskDrovers s.upd.mask) put r.2.2
      { s1 with upd := { s1.upd with body := s1.upd.body ++ r.1 } }.puts
        [(F.UPD_TAKEN_BYTES, taken + len), (F.UPD_STAT_BUSY, 1)]

/-- CHUNK_DONE. DEDUCED, log entry 90. -/
def updChunkDone (s : State) : State := s.put F.UPD_STAT_BUSY 0

/-- FINISH. -/
def updFinish (s : State) : State :=
  let h := s.upd.hdr
  if s.on F.UPD_STAT_BUSY then updErr UpdErr.busy s
  else if s.get F.UPD_STAT_STATE ≠ 1 ∨ s.get F.UPD_TAKEN_BYTES ≠ Hdr.bodyLen h then updErr UpdErr.seq s
  else if sha256 s.upd.body ≠ Hdr.hash h then updAbort UpdErr.hash (s.inc (F.UPD_CNT_k_COUNT 4))
  else
    let s1 := forAll (maskDrovers s.upd.mask) (fun n s => validBank n (s.standby n) h s) s
    (s1.put F.UPD_STAT_STATE 2).inc (F.UPD_CNT_k_COUNT 2)

/-- HOLDUP_SAMPLE: VHOLD_SENSE in mV. -/
def holdupSample (mv : Nat) (s : State) : State := updWatch (s.put F.UPD_HOLDUP_MV (min mv 1800))

/-- UPD_CTL.CLRCNT. -/
def updClear (s : State) : State := forN 6 (fun k s => s.put (F.UPD_CNT_k_COUNT k) 0) s

/-- A write of a UPD register is in range (R381). -/
def updRange (off v : Nat) : Bool :=
  if off = R.UPD_SRC then bits v 0 25 % 16 == 0
  else if off = R.UPD_LEN then decide (16 ≤ bits v 0 13) && decide (bits v 0 13 ≤ 4096) && bits v 0 13 % 16 == 0
  else true

/-! ## Image sets (R365 to R367) -/

/-- Byte addresses of the image areas and of the staging area (R382). -/
def areaAt (a : Nat) : Nat := 0x200000 * (a + 1)
def stagingAt : Nat := 0x600000

/-- A range of flash is readable for the boot ROM: no open sector, every word decodes. -/
def State.flsUsable (s : State) (a n : Nat) : Bool :=
  ((List.range (n / 4096 + 2)).all fun i => !(decide (a / 4096 + i ≤ (a + n - 1) / 4096) && s.isOpen (a / 4096 + i))) &&
    s.flsSound a n

/-- An image set as its set sector gives it: area, SETSEQ, and its images, header included. -/
structure ImageSet where
  area : Nat
  seq : Nat
  images : List (List Byte)

/-- The set of an area, where it is a candidate (R365). -/
def State.setOf (s : State) (a : Nat) : Option ImageSet :=
  let b := s.flsBytes (areaAt a) 128
  let n := numAt b 5 1
  if !s.flsUsable (areaAt a) 128 ∨ numAt b 0 4 ≠ 0x41534E43 ∨ numAt b 4 1 ≠ 0x7F ∨ n < 2 ∨ 13 < n ∨ !zeroAt b 6 2 ∨
      !zeroAt b 12 4 then none
  else
    let es := (List.range n).map fun i => (numAt b (16 + 8 * i) 4, numAt b (20 + 8 * i) 4)
    if es.any fun e => e.1 % 4096 != 0 || decide (0x200000 < e.1 + e.2) || !s.flsUsable (areaAt a + e.1) e.2 then none
    else
      let imgs := es.map fun e => s.flsBytes (areaAt a + e.1) e.2
      let ids := (imgs.eraseIdx 1).map Hdr.id
      if Hdr.cls (imgs.getD 0 []) = clsD ∧ Hdr.cls (imgs.getD 1 []) = clsM ∧ ((imgs.drop 2).all fun i => Hdr.cls i == clsD) ∧
          ids.Nodup then some ⟨a, numAt b 8 4, imgs⟩
      else none

/-- SETSEQ `a` is the higher one, modulo 2^32 (R24, R366). -/
def seqAfter (a b : Nat) : Bool := decide (0 < (a + 2 ^ 32 - b) % 2 ^ 32) && decide ((a + 2 ^ 32 - b) % 2 ^ 32 < 2 ^ 31)

/-- The candidates, the higher SETSEQ first. -/
def State.candidates (s : State) : List ImageSet :=
  match s.setOf 0, s.setOf 1 with
  | some a, some b => if seqAfter b.seq a.seq then [b, a] else [a, b]
  | some a, none => [a]
  | none, some b => [b]
  | none, none => []

/-- Every image of a set passes R354 and R355. -/
def State.setOk (s : State) (x : ImageSet) : Bool := x.images.all s.imageOk

/-- The body of an image. -/
def imgBody (i : List Byte) : List Byte := (i.drop 512).take (Hdr.bodyLen i)

/-- Load an image into a Drover's standby bank and exchange its banks (R367). -/
def loadDrover (n : Fin 12) (i : List Byte) (s : State) : State :=
  let b := s.standby n
  exchangeBanks n (validBank n b i (putSyllables n b 0 (imgBody i) (clearBank n b s)))

/-- Load a set: the boot image into Drover 0, each class D image into the Drovers that DROVERS names for it, the class M
image into the shadow slot, where its check begins (R45, R367). -/
def loadSet (x : ImageSet) (s : State) : State :=
  let man := x.images.getD 1 []
  let body := imgBody man
  let boot := x.images.getD 0 []
  let s1 := forDrovers (fun n s =>
    if n = 0 then loadDrover 0 boot s
    else match x.images.find? fun i => Hdr.cls i == clsD && wantsImage body n (Hdr.id i) with
      | some i => loadDrover n i s
      | none => s) s
  let s2 := (s1.poke (slotBase s1.shadowSlot) man).puts [(F.MAN_STAT_SHADOW, 1), (F.UPD_SETSEQ_SEQ, x.seq), (F.UPD_BOOT_AREA, x.area)]
  { s2 with man := { s2.man with atScope := false } }

/-! ## Staged images (R376) -/

/-- Erase every sector of a range that is not blank. -/
def eraseRange (lo hi : Nat) (s : State) : State :=
  forN (hi - lo) (fun i s => if s.flsBlank (4096 * (lo + i)) 4096 then s else hwErase (lo + i) s) s

/-- The staged image, where the staging area opens with MAGIC. -/
def State.stagedImage (s : State) : Option (List Byte) :=
  let h := s.flsBytes stagingAt 512
  if numAt h 0 4 = 0x4D494E43 then some (s.flsBytes stagingAt (512 + min 65536 (Hdr.bodyLen h))) else none

/-- Places of images packed one after another from the second sector, each from a sector of its own (DESIGN CHOICE, log
entry 42). -/
def packed : Nat → List (List Byte) → List (Nat × List Byte)
  | _, [] => []
  | off, i :: is => (off, i) :: packed (off + (i.length + 4095) / 4096 * 4096) is

/-- Build a set in an area: the images first, and the set sector, complete, last. DESIGN CHOICE, log entry 42. -/
def buildSet (area seq : Nat) (imgs : List (List Byte)) (s : State) : State :=
  let ps := packed 4096 imgs
  let s1 := eraseRange (512 * (area + 1)) (512 * (area + 2)) s
  let s2 := forAll ps (fun p s => flsPut (areaAt area + p.1) p.2 s) s1
  flsPut (areaAt area) (leBytes 4 0x41534E43 ++ leBytes 1 0x7F ++ leBytes 1 imgs.length ++ leBytes 2 0 ++ leBytes 4 seq ++
    leBytes 4 0 ++ ps.flatMap fun p => leBytes 4 p.1 ++ leBytes 4 p.2.length) s2

/-- Promote a staged image at boot. -/
def promoteStaged (s : State) : State :=
  match s.stagedImage with
  | none => s
  | some i =>
    let wipe := eraseRange 1536 1600
    if s.on F.TRU_LOCK_UPDATE ∨ s.get F.UPD_HOLDUP_MV < s.get F.UPD_HOLDUP_MIN_MV then s.flag F.UPD_BOOT_STAGEHELD
    else
      match s.candidates with
      | [] => (wipe s).flag F.UPD_BOOT_STAGEBAD
      | top :: _ =>
        let same := fun x : List Byte => Hdr.cls x == clsD && Hdr.id x == Hdr.id i
        if !s.flsUsable stagingAt (512 + Hdr.bodyLen i) ∨ !s.imageOk i ∨ Hdr.cls i ≠ clsD ∨ !top.images.any same then
          (wipe s).flag F.UPD_BOOT_STAGEBAD
        else
          let s1 := buildSet (1 - top.area) ((top.seq + 1) % 2 ^ 32) (top.images.map fun x => if same x then i else x) s
          ((wipe s1).flag F.UPD_BOOT_STAGED).inc (F.UPD_CNT_k_COUNT 5)

/-! ## Settings (R378, R379) -/

/-- A committed settings record at a flash address whose CRC passes: its SEQ and SETVER. DEDUCED, log entry 43. -/
def State.settingsAt (s : State) (a : Nat) : Option (Nat × Nat) :=
  let h := s.flsBytes a 32
  let len := numAt h 16 4
  if numAt h 0 4 = 0x54534E43 ∧ numAt h 4 1 = 0x3F ∧ a + 32 + len ≤ 0x193000 ∧ crc32 (s.flsBytes (a + 32) len) = numAt h 20 4
  then some (numAt h 12 4, numAt h 8 2) else none

/-- SETVER of the governing record; 0 where there is none. A record may open at any multiple of 16 (DEDUCED, log entry
43). -/
def State.governing (s : State) : Nat :=
  let found := (s.fls.words.filter fun p => decide (0x12600 ≤ p.1) && decide (p.1 < 0x32600) && p.1 % 2 == 0).filterMap
    fun p => s.settingsAt (8 * p.1)
  ((found.foldl (fun m r => match m with
    | some x => if seqAfter r.1 x.1 then some r else m
    | none => some r) none).map (·.2)).getD 0

/-- The boot image is about to start (R367, R379): its epoch and settings version stand against the governing record. -/
def bootShow (i : List Byte) (s : State) : State :=
  let rec_ := s.governing
  { s with tru := { s.tru with bootEpoch := Hdr.epoch i } }.puts [(F.UPD_SETVER_IMAGE, Hdr.setver i),
    (F.UPD_SETVER_RECORD, rec_), (F.UPD_STAT_NEWER_SETTINGS, b2n (decide (Hdr.setver i < rec_)))]

/-- Steps 4 to 6 of R354 on flash (R366, R376): the boot image of the set that was loaded, if any. -/
def bootFlash (s : State) : Option (List Byte) × State :=
  let s1 := promoteStaged s
  match s1.candidates with
  | [] => (none, s1)
  | a :: rest =>
    if s1.setOk a then (a.images.head?, loadSet a s1)
    else
      let s2 := s1.flag F.UPD_BOOT_FALLBACK
      match rest with
      | b :: _ => if s1.setOk b then (b.images.head?, loadSet b s2) else (none, s2)
      | [] => (none, s1)

/-- Steps 4 to 6 of R354 on an image streamed by the host. -/
def bootHost (i : List Byte) (s : State) : Option (List Byte) × State :=
  if s.imageOk i ∧ Hdr.cls i = clsD then
    (some i, (loadDrover 0 i s).puts [(F.UPD_BOOT_AREA, 2), (F.UPD_SETSEQ_SEQ, 0)])
  else (none, s)

end Sys2Proof.Machine
end

