-- ==== Sys2Proof/Machine/Car.lean ====
section
/-!
DEFINITION. The Caravan (16_caravan.md, R281 to R301), remote register access apart (Machine/Remote.lean).
-/

namespace Sys2Proof.Machine

/-! ## The ring -/

/-- A lead's command; another chip sets NOTLEAD. -/
def leadCmd (f : State → State) (s : State) : State := if s.isLead then f s else s.flag F.CAR_STAT_NOTLEAD

/-- A 64-bit chip set on the lead. -/
def State.carSet (s : State) (k : Nat) : Nat := s.get (F.CAR_SET_s_h_CHIPS k 0) + 2 ^ 32 * s.get (F.CAR_SET_s_h_CHIPS k 1)
def setCarSet (k v : Nat) (s : State) : State :=
  s.puts [(F.CAR_SET_s_h_CHIPS k 0, v % 2 ^ 32), (F.CAR_SET_s_h_CHIPS k 1, v / 2 ^ 32 % 2 ^ 32)]

/-- The targets of a lead programme. -/
def State.carProg (s : State) (k : Nat) : Nat := s.get (F.CAR_PROG_s_h_CHIPS k 0) + 2 ^ 32 * s.get (F.CAR_PROG_s_h_CHIPS k 1)

/-- A chip reports its bit of a set: the lead sets it, another chip sends it to the lead. DEDUCED, log entry 77. -/
def reportBit (k : Nat) (s : State) : State :=
  let i := s.get F.CAR_STAT_INDEX
  if s.isLead then setCarSet k (s.carSet k ||| 2 ^ i) s
  else s.emit (.toLead (R.CAR_SET_s_h k (i / 32)) (2 ^ (i % 32)))

/-- Chip `d` is reached (R296). -/
def State.reaches (s : State) (d : Nat) : Bool := (s.route d).isSome

/-- The lead of Tandem 0 records its reset programme in the Tandem journal, for its partner to carry on (R295). DEDUCED,
log entry 148. -/
def carRecord (off v : Nat) (s : State) : State :=
  if s.isLead then journal 0x03 0 (leBytes 4 off ++ leBytes 4 v) s else s

/-- A chip that a wave reset reports its return once it is enumerated again and, in a Tandem, is its SHADOW in sync, else has
left BOOT (R295). DEDUCED, log entry 148. -/
def returnReport (s : State) : State :=
  let back := if s.tandem then s.get F.TAN_STAT_ROLE == 2 && s.get F.TAN_STAT_SYNC == 2
    else s.mode != Mode.reset && s.mode != Mode.boot
  if s.car.owesReturn && s.get F.CAR_STAT_ROLE != 0 && back then
    reportBit 3 { s with car := { s.car with owesReturn := false } }
  else s

/-- The effective host strap makes this chip chip 0 (R282). -/
def State.ownHost (s : State) : Bool := decide (s.get F.SYS_STRAP_HOST < 2)

/-- The chip takes its ticks from the ring (R290). -/
def State.ringSrc (s : State) : Bool :=
  s.get F.CAR_STAT_ROLE == 1 && (s.tickSrc == 2 || (s.tandem && decide (s.get F.CAR_STAT_INDEX < 2)))

/-- Store the role; a change of the lead role raises vector 20 (R331). -/
def setRole (r : Nat) (s : State) : State :=
  let old := s.get F.CAR_STAT_ROLE
  let s1 := s.put F.CAR_STAT_ROLE r
  if old ≠ r ∧ (2 ≤ old ∨ 2 ≤ r) ∧ old ≠ 0 then raiseVector 20 s1 else s1

/-- The lead role follows the ACTIVE chip of Tandem 0 (R299). -/
def leadRole (s : State) : State :=
  if s.get F.CAR_STAT_ROLE = 0 ∨ !s.tandem then s
  else if s.get F.CAR_STAT_INDEX = 0 then setRole (if s.get F.TAN_STAT_ROLE = 2 then 1 else 2) s
  else if s.get F.CAR_STAT_INDEX = 1 then setRole (if s.isActive then 3 else 1) s
  else s

/-! ## Packets at a port (R284) -/

/-- What every hop does with a packet that came in: the copies that failed their CRC before it are counted, and it is
acknowledged (R284). DEDUCED, log entry 147. -/
def hopIn (h : PktHead) (s : State) : State := (s.add (F.CAR_CNT_k_COUNT 0) h.fails).emit (.hopAck h.port h.seq)

/-- The packet is for this chip. -/
def State.isFor (s : State) (h : PktHead) : Bool := h.dest == 0xFF || h.dest == s.get F.CAR_STAT_INDEX

/-- The packet goes on: to the chip it names, or, sent to every chip, until the next chip is its origin. DEDUCED, log entry
147. -/
def State.goesOn (s : State) (h : PktHead) : Bool :=
  let n := max 1 (s.get F.CAR_STAT_SIZE)
  let me := s.get F.CAR_STAT_INDEX
  if h.dest = 0xFF then h.origin != (if h.port = 0 then me + n - 1 else me + 1) % n else h.dest != me

/-- The port by which a packet goes on: the other one, or back where only that way still reaches its destination (R296). -/
def State.onPort (s : State) (h : PktHead) : Nat :=
  let on := 1 - h.port.val
  if h.dest = 0xFF || s.wayUp on h.dest || !s.wayUp h.port h.dest then on else h.port

/-- A packet that goes on leaves one hop further. DEDUCED, log entry 147. -/
def relayPkt (h : PktHead) (p : Packet) (s : State) : State :=
  if s.goesOn h then s.emit (.relay (s.onPort h) h.origin h.dest (h.hops + 1) h.seq p) else s

/-- A packet that each chip changes as it sends it on: ENUM and TICK. Nothing is received in RESET (R34). -/
def neighbourPkt (h : PktHead) (take : State → State) (s : State) : State :=
  if s.mode = Mode.reset then s else take (hopIn h s)

/-- Any other packet: acknowledged, relayed and, where it is for this chip, taken. Nothing is received in RESET. A packet
leaves in the step that sends it, so none is ever waiting in a port behind another. DEDUCED, log entry 147. -/
def receivePkt (h : PktHead) (p : Packet) (take : State → State) (s : State) : State :=
  if s.mode = Mode.reset then s
  else
    let t := relayPkt h p (hopIn h s)
    if s.isFor h then take t else t

/-! ## Enumeration (R282, R283, R298) -/

/-- The chips enumerated are known: SIZE, the present set, and a check held at SCOPE goes on (R46). DEDUCED, log entry 44. -/
def enumerated (n : Nat) (s : State) : State :=
  let s1 := { s.put F.CAR_STAT_SIZE (min 64 n) with car := { s.car with enumAt := none } }
  let s2 := s1.when (decide (64 < n)) (·.flag F.CAR_STAT_OVER)
  let s3 := s2.when s2.isLead (setCarSet 0 (2 ^ min 64 n - 1))
  if s3.man.atScope then manCheckDoneOp { s3 with man := { s3.man with atScope := false } } else s3

/-- The lead enumerates: ENUM leaves its east port with the next index and count 1. DEDUCED, log entry 102. -/
def enumStart (s : State) : State :=
  let s1 := if s.get F.CAR_STAT_ROLE = 0 then s.puts [(F.CAR_STAT_ROLE, 2), (F.CAR_STAT_INDEX, 0)] else s
  { s1 with car := { s1.car with enumAt := some s.tally.clock } }.emit
    (.packet 0 0xFF (.enum (s1.get F.CAR_STAT_INDEX + 1) 1))

/-- CAR_CMD.ENUM. -/
def carEnum : State → State := leadCmd fun s => if s.tickRuns then s else enumStart s

/-- Another chip's enumeration at a chip with its own host strap that is no member: it falls silent before anything is sent
(R282). A member with that strap is chip 0 behind an acting lead. DEDUCED, log entry 159. -/
def twoLeads (s : State) : State :=
  if s.ownHost && s.get F.CAR_STAT_ROLE != 1 && !(s.isLead && s.car.enumAt.isSome) && s.mode != Mode.reset then
    s.flag F.CAR_STAT_TWOLEADS
  else s

/-- ENUM: at the lead's west port the ring is closed; a chip with a host strap of its own takes no index; any other takes
the index carried and forwards the packet, counting up eastwards and down westwards. `size` is the number of chips of the
ring, which a member learns with its index (DEDUCED, log entry 44). -/
def enumRx (h : PktHead) (next count size : Nat) (s : State) : State :=
  if s.isLead ∧ s.car.enumAt.isSome then (if h.port = 1 then enumerated count s else s)
  else if s.ownHost ∧ s.get F.CAR_STAT_ROLE ≠ 1 then s
  else
    let on := if h.port = 1 then next + 1 else if next = 0 then size - 1 else next - 1
    let t := s.emit (.relay (1 - h.port.val) h.origin h.dest (h.hops + 1) h.seq (.enum on (count + 1)))
    if s.ownHost then enumerated size t
    else if 63 < next then t
    else
      let u := t.puts [(F.CAR_STAT_INDEX, next), (F.CAR_STAT_ROLE, if s.get F.CAR_STAT_ROLE = 3 then 3 else 1)]
      returnReport (enumerated size (leadRole u))

/-- ENUM_TIMEOUT: the packet has not come back within 1 ms. The lead enumerates westwards as well and takes the number of
chips reached from both sides. -/
def enumTimeout (east west : Nat) (s : State) : State :=
  match s.car.enumAt with
  | none => s
  | some t =>
    let n := 1 + east + west
    if s.tally.clock < t + 32000 then s
    else enumerated n (s.emit (.packet 1 0xFF (.enum ((s.get F.CAR_STAT_INDEX + east + west) % n) 1)))

/-! ## Ports (R287, R296) -/

/-- The hop that a port of a chip joins: hop i lies east of chip i. -/
def State.hopAt (s : State) (chip port : Nat) : Nat :=
  let n := max 1 (s.get F.CAR_STAT_SIZE)
  if port = 0 then chip % n else (chip + n - 1) % n

/-- Note a port's state in every place that shows it. -/
def setPort (p : Fin 2) (up : Bool) (s : State) : State :=
  let hop := s.hopAt (s.get F.CAR_STAT_INDEX) p
  let s1 := s.puts [(F.CAR_LINK_p_UP p, b2n up), (if p = 0 then F.CAR_STAT_EUP else F.CAR_STAT_WUP, b2n up)]
  { s1 with car := { s1.car with
    breaks := if up then ndel hop s1.car.breaks else nins hop s1.car.breaks
    pingMiss := s1.car.pingMiss.set p 0, pingOpen := s1.car.pingOpen.set p false } }

/-- PORT_DOWN: CAR_BREAK, a LINK packet and vector 18 (R296, R331). DEDUCED, log entry 160. -/
def portDown (p : Fin 2) (s : State) : State :=
  if s.on (F.CAR_LINK_p_UP p) then
    raiseVector 18
      (raiseFault FaultCode.carBreak p (((setPort p false s).inc (F.CAR_CNT_k_COUNT 1)).sendAll (.link p false)))
  else s

/-- PING: each port that is up sends one; one that was not answered is missed, and the third in a row takes the port down. -/
def pingSend (s : State) : State :=
  forAll (List.finRange 2) (fun p s =>
    if !s.on (F.CAR_LINK_p_UP p) || s.on F.CAR_STAT_TWOLEADS then s
    else
      let miss := if s.car.pingOpen.getD p false then s.car.pingMiss.getD p 0 + 1 else 0
      let s1 := { s with car := { s.car with
        pingMiss := s.car.pingMiss.set p miss, pingOpen := s.car.pingOpen.set p true } }.emit (.packet p 0xFF .ping)
      if 3 ≤ miss then portDown p s1 else s1) s

/-- PING_RECEIVE: half of the round trip, in ns, is the link delay. -/
def pingRx (p : Fin 2) (rtt : Nat) (s : State) : State :=
  let s1 := s.put (F.CAR_LINK_p_DLY p) (min (rtt / 2) 65535)
  { s1 with car := { s1.car with pingMiss := s1.car.pingMiss.set p 0, pingOpen := s1.car.pingOpen.set p false } }

/-- LINK: another chip reports a port. The chip at the hop's other end goes down there too (R296), and the lead enumerates
the chips it reaches again (R298). DEDUCED, log entry 160. -/
def linkRx (chip port : Nat) (up : Bool) (s : State) : State :=
  let hop := s.hopAt chip port
  let s1 := { s with car := { s.car with breaks := if up then ndel hop s.car.breaks else nins hop s.car.breaks } }
  let mine : Fin 2 := if port = 0 then 1 else 0
  if up then (if s1.isLead then enumStart s1 else s1)
  else if s1.hopAt (s1.get F.CAR_STAT_INDEX) mine = hop ∧ s1.get F.CAR_STAT_INDEX ≠ chip then portDown mine s1
  else s1

/-! ## Tick distribution (R288 to R292) -/

/-- TICK_PACKET_SEND: at grain L - 64 the lead announces the slot that the tick begins. -/
def tickSend (s : State) : State :=
  if s.isLead && s.tickRuns && s.grain + 64 == s.slotLen then
    let wrap := s.sfLen ≤ s.tally.slot + 1
    s.sendAll (.tick ((4 * s.slotLen - s.tally.pos) * 125 / 4) ((s.tally.asn + 1) % 2 ^ 40)
      (if wrap then (s.tally.sfn + 1) % 2 ^ 32 else s.tally.sfn) (if wrap then 0 else s.tally.slot + 1) s.slotLen s.sfLen)
  else s

/-- The announcement is preferred to the one already taken in this slot: fewer hops, or as many from the east. -/
def State.betterTick (s : State) (hops port : Nat) : Bool :=
  match s.car.tick with
  | none => true
  | some t => decide (hops < t.hops) || (hops == t.hops && decide (port < t.port))

/-- Correct the timebase by an error in ns: slewed while the TICK block runs, else in one step (R288). -/
def tickCorrect (err : Int) (s : State) : State :=
  let q := (Frac.mk (-4 * err) 125).round
  if s.tickRuns then s.putS F.TICK_SLEWREM_REM (satSigned 24 q)
  else { s with tally := { s.tally with second := ((s.tally.second + q) % 32000000).toNat } }

/-- TICK_PACKET, `late` ns after the present quarter grain: `ttt` in ns as it arrives, `res` the residence time of its relay.
A relayed packet goes on with what is left of TTT. DEDUCED, log entry 156. -/
def tickRx (late : Nat) (h : PktHead) (ttt asn sfn slot slotlen sflen res : Nat) (s : State) : State :=
  let port := h.port
  let hops := h.hops
  if s.get F.CAR_STAT_ROLE ≠ 1 then s
  else
    let dly := s.get (F.CAR_LINK_p_DLY port)
    let s1 := relayPkt h (.tick (ttt - dly - res) asn sfn slot slotlen sflen) (s.put (F.CAR_LINK_p_RES port) (min res 255))
    if s1.tickRuns ∧ !(slotlen == s.slotLen && sflen == s.sfLen) then s1.flag F.CAR_STAT_FMTBAD
    else if !s1.betterTick hops port ∨ s1.on F.CAR_STAT_ISOLATED then s1
    else
      let s2 := { s1 with car := { s1.car with tick := some ⟨asn, sfn, slot, slotlen, sflen, hops, port⟩ } }
      let own : Int := ((4 * s.slotLen - s.tally.pos) * 125 / 4 : Nat)
      let err := own - late - ((ttt : Int) - dly)
      let s3 := (s2.putS F.CAR_PHASEERR_ERR (satSigned 24 err)).puts [(F.CAR_PHASEERR_HOPS, hops), (F.CAR_PHASEERR_PORT, port)]
      let run := if err.natAbs ≤ 40 then s3.car.alignRun + 1 else 0
      let s4 := { s3 with car := { s3.car with alignRun := min run 8 } }.put F.CAR_STAT_ALIGNED (b2n (decide (8 ≤ run)))
      let s5 := s4.when (decide (8 ≤ run)) (reportBit 1)
      if s5.ringSrc && !s5.on F.CAR_STAT_FARSKEW then tickCorrect err s5 else s5

/-- The superframe phase of this chip's Tandem (R291; DEDUCED, log entry 45). -/
def State.sfPhase (s : State) : Nat :=
  let k := s.get F.CAR_STAT_INDEX / 2
  if k = 0 then 0 else s.get (F.CAR_SFPHASE_k_SLOTS k) % max 1 s.sfLen

/-- The Tally that a chip on ring ticks takes at its first tick (R291). -/
def ringLoad (s : State) : State :=
  match s.car.tick with
  | none => s
  | some t =>
    if !s.ringSrc ∨ s.tally.whole then s
    else
      let p := s.sfPhase
      let sl := if t.slot < p then (t.slot + s.sfLen - p, (t.sfn + 2 ^ 32 - 1) % 2 ^ 32) else (t.slot - p, t.sfn)
      { s with tally := { s.tally with load := some (sl.1, t.asn, sl.2) } }

/-- The values of the lead's TICK packet agree with this chip's (R292); with no packet there is nothing to differ. -/
def State.formatAgrees (s : State) : Bool :=
  match s.car.tick with
  | none => true
  | some t => t.slotlen == s.slotLen && t.sflen == s.sfLen

/-- The Caravan at a tick: the packet of the slot just ended, missed or taken, and the slots of an isolation (R297). -/
def carTick (s : State) : State :=
  let s1 := s.when (s.on F.CAR_STAT_ISOLATED) (·.inc F.CAR_REJOIN_SLOTS)
  if s1.get F.CAR_STAT_ROLE ≠ 1 then s1
  else if s1.car.tick.isNone then
    { s1 with car := { s1.car with missed := s1.car.missed + 1 } }.inc (F.CAR_CNT_k_COUNT 5)
  else { s1 with car := { s1.car with missed := 0, tick := none } }

/-! ## Broadcast, barrier and snapshot (R293, R294) -/

/-- BCAST. -/
def bcastRx (b : Bcast) (s : State) : State :=
  match b with
  | .arm t => manArmed t s
  | .go => if s.on F.MAN_STAT_ARMED then s.flag F.MAN_STAT_GO else s
  | .cancel c m => manCancel c m s

/-- BARQ: the chip answers the lead, unless it is isolated (R51, R297). -/
def barqRx (lead : Nat) (s : State) : State :=
  if s.on F.CAR_STAT_ISOLATED then s
  else
    let s1 := judgeReady s
    s1.sendTo lead (.bara (s1.on F.MAN_STAT_READY))

/-- BARA: the barrier closes with the last answer. -/
def baraRx (chip : Nat) (ready : Bool) (s : State) : State :=
  match s.car.barrier with
  | none => s
  | some (ans, rdy, at_) =>
    let ans := ans ||| 2 ^ (chip % 64)
    let rdy := if ready then rdy ||| 2 ^ (chip % 64) else rdy
    if ans &&& s.ringMask = s.ringMask then barrierClose rdy s
    else { s with car := { s.car with barrier := some (ans, rdy, at_) } }

/-- BARRIER_TIMEOUT: BARTMO has passed since the question. -/
def barrierTimeout (s : State) : State :=
  match s.car.barrier with
  | none => s
  | some (_, rdy, at_) => if at_ + 32 * s.get F.CAR_CFG_BARTMO ≤ s.tally.clock then barrierClose rdy s else s

/-- CAR_CMD.SNAP: the target lies at least 2 ticks after the tick at which the command is applied. -/
def carSnapOp : State → State := leadCmd fun s =>
  let t := s.get F.CAR_SNAP_ASNL_ASN + 2 ^ 32 * (s.get F.CAR_SNAP_ASNH_ASN % 256)
  let applied := s.tally.asn + if s.inTime then 1 else 2
  if (t + 2 ^ 40 - applied) % 2 ^ 40 < 2 ∨ 2 ^ 39 ≤ (t + 2 ^ 40 - applied) % 2 ^ 40 then s.flag F.CAR_STAT_BADVAL
  else
    setCarSet 2 0 ({ s with car := { s.car with snap := some t } }.sendAll (.snap t))

/-- SNAP. -/
def snapRx (t : Nat) (s : State) : State := { s with car := { s.car with snap := some (t % 2 ^ 40) } }

/-- The snapshot at its tick (R294): bank 15, the producer, and the report to the lead. -/
def snapTick (s : State) : State :=
  if s.car.snap = some s.tally.asn then
    reportBit 2 (produce Prod.snapshot (captureTally 15 { s with car := { s.car with snap := none } }))
  else s

/-! ## Reset programme (R295) -/

/-- The even-indexed and the odd-indexed chips. -/
def evenChips : Nat := 0x5555555555555555
def oddChips : Nat := 0xAAAAAAAAAAAAAAAA

/-- Send RESET to the chips of a wave other than this one. -/
def sendResets (m : Nat) (s : State) : State :=
  forAll (bitsSet 64 m) (fun i s => if i = s.get F.CAR_STAT_INDEX then s else s.sendTo i .reset) s

/-- CAR_CMD.RESET, this chip's own reset apart: wave 1. -/
def carResetOp : State → State := leadCmd fun s =>
  if s.on F.CAR_STAT_RWAVE then s
  else
    let m := s.carProg 0 &&& evenChips
    let s1 := carRecord (R.CAR_PROG_s_h 0 1) (s.get (F.CAR_PROG_s_h_CHIPS 0 1))
      (carRecord (R.CAR_PROG_s_h 0 0) (s.get (F.CAR_PROG_s_h_CHIPS 0 0)) s)
    let s2 := carRecord R.CAR_CMD 4 s1
    sendResets m (setCarSet 3 0 ({ s2 with car := { s2.car with wave := m } }.put F.CAR_STAT_RWAVE 1))

/-- The programme ends. -/
def programmeEnds (s : State) : State := ({ s with car := { s.car with wave := 0 } }.put F.CAR_STAT_RWAVE 0)

/-- CAR_CMD.ABORT. -/
def carAbortOp : State → State := leadCmd fun s =>
  if s.get F.CAR_STAT_RWAVE = 1 then programmeEnds (carRecord R.CAR_CMD 8 s) else s

/-- Wave 2 is the present one, where it has a chip. -/
def waveTwo (s : State) : State :=
  let m := s.carProg 0 &&& oddChips
  { s with car := { s.car with wave := m } }.put F.CAR_STAT_RWAVE (if m = 0 then 0 else 2)

/-- RESET_WAVE_2, this chip's own reset apart: every chip of wave 1 has returned to the lead. -/
def resetWave2 (s : State) : State :=
  if s.isLead ∧ s.get F.CAR_STAT_RWAVE = 1 ∧ s.car.wave = 0 then
    sendResets (s.carProg 0 &&& oddChips) (waveTwo (carRecord R.CAR_CMD 4 s))
  else s

/-- The partner of the lead follows its programme: a RESET record begins the next wave, an ABORT record ends it (R295).
DEDUCED, log entry 148. -/
def carFollow (v : Nat) (s : State) : State :=
  if bitOf v 3 then programmeEnds s
  else if !bitOf v 2 then s
  else if s.on F.CAR_STAT_RWAVE then waveTwo s
  else { s with car := { s.car with wave := s.carProg 0 &&& evenChips } }.put F.CAR_STAT_RWAVE 1

/-- A reset chip has returned: it is in sync again, or has left BOOT (R295). -/
def resetReturned (m : Nat) (s : State) : State :=
  let left := s.car.wave - (s.car.wave &&& m)
  let s1 := { s with car := { s.car with wave := left } }
  if left = 0 ∧ s.get F.CAR_STAT_RWAVE = 2 then (carRecord R.CAR_CMD 8 s1).put F.CAR_STAT_RWAVE 0 else s1

/-! ## Isolation and rejoin (R297, R298) -/

/-- ISOLATION. DEDUCED, log entry 103. -/
def isolate (s : State) : State :=
  if s.get F.CAR_STAT_ROLE = 1 ∧ 3 ≤ s.car.missed ∧ !s.on F.CAR_STAT_ISOLATED then
    { s with car := { s.car with alignRun := 0 } }.puts
      [(F.CAR_STAT_ISOLATED, 1), (F.CAR_STAT_ALIGNED, 0), (F.CAR_REJOIN_SLOTS, 0), (F.CAR_REJOIN_NOGO, 0)]
  else s

/-- An isolated chip is reached again: it reports, and slews back or sets FARSKEW by its phase error in ns and its ASN.
DEDUCED, log entry 77. DEDUCED, log entry 103. -/
def rejoin (err : Int) (sameAsn : Bool) (s : State) : State :=
  if !s.on F.CAR_STAT_ISOLATED then s
  else
    let s1 := { s with car := { s.car with missed := 0 } }.put F.CAR_STAT_ISOLATED 0
    let s2 := (s1.emit (.toLead R.CAR_REJOIN (s1.reg R.CAR_REJOIN).toNat)).inc (F.CAR_CNT_k_COUNT 7)
    let s3 := raiseVector 18 s2
    if 4 * err.natAbs ≤ 125 * s.slotLen ∧ sameAsn then (if s3.ringSrc then tickCorrect err s3 else s3)
    else (s3.flag F.CAR_STAT_FARSKEW).inc (F.CAR_CNT_k_COUNT 6)

/-- LINK_UP: a port of this chip comes up. -/
def linkUp (p : Fin 2) (err : Int) (sameAsn : Bool) (s : State) : State :=
  let s1 := if s.on (F.CAR_LINK_p_UP p) then s else (setPort p true s).sendAll (.link p true)
  rejoin err sameAsn (if s1.isLead ∧ s1.get F.CAR_STAT_SIZE ≠ 0 then enumStart s1 else s1)

/-! ## Image broadcast (R300, R370) -/

/-- A condition of R368 other than MODE holds. -/
def State.updCondButMode (s : State) : Bool :=
  s.on F.TRU_LOCK_UPDATE || (s.tandem && s.get F.TAN_STAT_SYNC != 2) || s.tan.hoAt.isSome || s.takeoverNow ||
    decide (s.get F.UPD_HOLDUP_MV < s.get F.UPD_HOLDUP_MIN_MV)

/-- Length of the image in the staging area, and its sectors. -/
def State.stagedLen (s : State) : Nat := 512 + min 65536 (Hdr.bodyLen (s.flsBytes stagingAt 512))
def State.stagedSectors (s : State) : Nat := (s.stagedLen + 4095) / 4096

/-- Send the 16 packets of a sector, as far as the image reaches, to each target still in the transfer. -/
def sendSector (k : Nat) (s : State) : State :=
  let offs := ((List.range 16).map fun i => 4096 * k + 256 * i).filter (· < s.stagedLen)
  forAll offs (fun o s => forAll s.car.imgLeft (fun t s => s.sendTo t.1 (.image o (s.flsBytes (stagingAt + o) 256))) s) s

/-- Send every sector that may go: each target has confirmed the sector before last. -/
def imageRun : Nat → State → State
  | 0, s => s
  | fuel + 1, s =>
    let k := s.car.imgSector
    if k < s.stagedSectors ∧ !s.car.imgLeft.isEmpty ∧ (s.car.imgLeft.all fun t => decide (k ≤ t.2 + 1)) then
      imageRun fuel (sendSector k { s with car := { s.car with imgSector := k + 1 } })
    else s

/-- The transfer ends with its last target. -/
def imageEnd (s : State) : State := if s.car.imgLeft.isEmpty then s.put F.CAR_STAT_IMGBUSY 0 else s

/-- CAR_CMD.IMAGE. -/
def carImageOp : State → State := leadCmd fun s =>
  if s.updCondButMode || s.on F.CAR_STAT_IMGBUSY then s.flag F.CAR_STAT_BADVAL
  else
    let me := s.get F.CAR_STAT_INDEX
    let ts := bitsSet 64 (s.carProg 1)
    let own := if ts.contains me then 2 ^ me else 0
    let s1 := setCarSet 5 0 (setCarSet 4 own { s with car := { s.car with
      imgSector := 0, imgLeft := (ts.filter (· != me)).map fun i => (i, 0) } })
    imageEnd (imageRun 20 (s1.flag F.CAR_STAT_IMGBUSY))

/-- IMAGE: a packet is written to the staging area; its sector is erased with its first packet and read back with its last.
`bad` gives bytes that read back wrong. A chip on which a condition of R368 holds fails the sector. -/
def imageRx (off : Nat) (bytes : List Byte) (last : Bool) (bad : List (Nat × Byte)) (s : State) : State :=
  let k := off / 4096
  if 64 ≤ k then s
  else if s.updCond ≠ 0 then s.emit (.sectorBack k false)
  else
    let s1 := if off % 4096 = 0 then hwErase (1536 + k) s else s
    let bs := (bytes ++ List.replicate 256 0).take 256
    let s2 := flsPut (stagingAt + off / 16 * 16) (withFaults bs bad) s1
    if last ∨ off % 4096 = 3840 then s2.emit (.sectorBack k (withFaults bs bad == bs)) else s2

/-- IMAGE_SECTOR_CONFIRM: a target's read-back of its next sector. -/
def imageConfirm (chip : Nat) (ok : Bool) (s : State) : State :=
  match s.car.imgLeft.find? (·.1 == chip) with
  | none => s
  | some (_, n) =>
    let rest := s.car.imgLeft.filter (·.1 != chip)
    if !ok then
      imageEnd (imageRun 20 (setCarSet 5 (s.carSet 5 ||| 2 ^ (chip % 64)) { s with car := { s.car with imgLeft := rest } }))
    else if n + 1 = s.stagedSectors then
      imageEnd (imageRun 20 (setCarSet 4 (s.carSet 4 ||| 2 ^ (chip % 64)) { s with car := { s.car with imgLeft := rest } }))
    else imageRun 20 { s with car := { s.car with imgLeft := rest ++ [(chip, n + 1)] } }

/-- CAR_CLRCNT. -/
def carClear (s : State) : State := forN 8 (fun k s => s.put (F.CAR_CNT_k_COUNT k) 0) s

/-- A write of a CAR register is in range (R301). -/
def carRange (off v : Nat) : Bool := off != R.CAR_CFG || decide (10 ≤ bits v 0 8)

end Sys2Proof.Machine
end

