-- ==== Sys2Proof/Machine/Tan.lean ====
section
/-!
DEFINITION. The Tandem (17_tandem.md, R302 to R324), the receiving of journal records apart (Machine/Remote.lean).
-/

namespace Sys2Proof.Machine

/-! ## The ownership line and the role (R303, R304) -/

/-- TAN_STAT.ROLE as R304 gives it, and the lead role that follows it (R299). -/
def tanRole (s : State) : State :=
  if !s.tandem then s
  else leadRole (s.put F.TAN_STAT_ROLE (if s.on F.TAN_STAT_OWN then 1 else if s.mode = Mode.shadow then 2 else 3))

/-- TDM_OWN is held: this chip or its partner pulls it low. -/
def State.lineHeld (s : State) : Bool := s.on F.TAN_STAT_OWN || s.tan.partnerLow

/-- The line as this chip samples it: `low` is the level that the partner alone causes. -/
def sampleLine (low : Bool) (s : State) : State :=
  let s1 := { s with tan := { s.tan with partnerLow := low } }
  s1.put F.TAN_STAT_LINE (b2n s1.lineHeld)

/-- Every mirrored write that R311 held lands: nothing is journalled any more. DEDUCED, log entry 94. -/
def dropHeld (s : State) : State :=
  let s1 := { s with tan := { s.tan with held := [], stalled := [] } }.put F.TAN_STAT_HELD 0
  forAll s.tan.held landHeld s1

/-- SYNC becomes LOST (R305): what waited for the partner waits no longer (R163), and an update in progress ends (R368).
DEDUCED, log entry 92. DEDUCED, log entry 95. -/
def syncLost (s : State) : State :=
  let s1 := { s with tan := { s.tan with joining := false, walking := false, lastCopy := none, hoArm := none, hoAt := none } }
  updWatch (laneRelease (ackRelease (leasesAlone (dropHeld (s1.put F.TAN_STAT_SYNC 3)))))

/-- SYNC becomes LOST where the pair was in sync or joining. DEDUCED, log entry 92. -/
def syncBreaks (s : State) : State := if s.get F.TAN_STAT_SYNC = 1 ∨ s.get F.TAN_STAT_SYNC = 2 then syncLost s else s

/-- This chip drives TDM_OWN. -/
def takeLine (s : State) : State := tanRole (s.puts [(F.TAN_STAT_OWN, 1), (F.TAN_STAT_LINE, 1)])

/-- This chip releases TDM_OWN; no chip being ACTIVE, the pair leaves sync (R305). -/
def dropLine (s : State) : State :=
  if s.on F.TAN_STAT_OWN then
    let s1 := { s with tan := { s.tan with tookLine := false } }.put F.TAN_STAT_OWN 0
    syncBreaks (tanRole (s1.put F.TAN_STAT_LINE (b2n s1.lineHeld)))
  else s

/-- The partner's heartbeat arrives on either path. -/
def State.partnerHeard (s : State) : Bool :=
  s.tan.hb.isSome && !(s.on (F.TAN_HB_p_LOST 0) && s.on (F.TAN_HB_p_LOST 1))

/-- The change from STANDBY to SERVE is refused of a chip in a Tandem (R304). -/
def State.ownRefused (s : State) : Bool := s.tandem && (s.tan.partnerLow || (s.on F.TAN_CFG_ROLEDEF && s.partnerHeard))

/-- The line and the pair as a mode is entered (R304, R309). A chip that stops applying records leaves sync. -/
def tanMode (m : Nat) (s : State) : State :=
  if !s.tandem then s
  else
    let s1 := if m = Mode.serve ∨ m = Mode.drain ∨ m = Mode.takeover then takeLine s else tanRole (dropLine s)
    let keeps := m == Mode.shadow || (m == Mode.standby && s1.tan.joining) || s1.on F.TAN_STAT_OWN
    let s2 := if m = Mode.shadow then { s1 with tan := { s1.tan with joining := false } } else s1
    if keeps then s2 else syncBreaks s2

/-- The MODE record of the ACTIVE (R307, R308). -/
def modeRecord (m : Nat) (estop : Bool) (s : State) : State :=
  journal 0x06 0 (leBytes 1 m ++ leBytes 1 (b2n estop) ++ leBytes 2 0 ++ leBytes 4 (s.get F.SF_DRAIN_SFN_SFN)) s

/-! ## Heartbeats (R313, R314) -/

/-- The Drover of the Tandem journal role. -/
def State.journalDrover (s : State) : Option Nat := (List.range 12).find? fun n => s.get (F.MAN_DRV_n_ROLE n) == 6

/-- Ask for a mode that both sides of the change keep the TICK block running (R31). -/
def requestMode (m : Nat) (s : State) : State :=
  { s with modePend := some ⟨m, false, if s.inTime then 1 else 2⟩ }.flag F.SYS_MODE_TRANS

/-- PARTNERLOST (R315, R331). -/
def partnerLost (s : State) : State := raiseVector 19 (s.flag F.TAN_STAT_PARTNERLOST)

/-- Both paths are lost (R315). DEDUCED, log entry 93. DEDUCED, log entry 149. -/
def pathsLost (s : State) : State :=
  let r := s.get F.TAN_STAT_ROLE
  if r = 1 then (if 2 ≤ s.tan.withheld then raiseFault FaultCode.fence 0 (dropLine s) else syncLost s)
  else if r = 2 then
    if s.lineHeld then raiseFault FaultCode.fence 0 s
    else
      match s.tan.lastMode with
      | some (m, _) =>
        if airMode m then requestMode Mode.takeover { takeLine s with tan := { s.tan with tookLine := true } }
        else partnerLost s
      | none => partnerLost s
  else partnerLost s

/-- HEARTBEAT_SEND: at grain 8 of the slot the heartbeat leaves on both paths, unless it was withheld at the tick. -/
def heartbeatSend (s : State) : State :=
  if !s.tandem || !s.tickRuns || s.tan.late || s.grain != 8 then s
  else
    s.emit (.heartbeat (s.tally.asn % 2 ^ 32) s.mode
      (s.get F.TAN_STAT_OWN + 2 * s.get F.TAN_CFG_ROLEDEF + 4 * b2n (s.get F.TAN_STAT_SYNC == 2))
      (s.get F.TAN_JSEQ_SENT_JSEQ) (s.get F.TAN_JSEQ_CONF_JSEQ))

/-- The heartbeat at a tick: `late`, the journal Drover owed its retirement seal, withholds it, and the second tick in a
row at which it is withheld loses both paths (R313, R314). DEDUCED, log entry 149. -/
def withholdTick (late : Bool) (s : State) : State :=
  if !s.tandem then s
  else
    let n := if late then s.tan.withheld + 1 else 0
    let t := { s with tan := { s.tan with late := late, withheld := n } }
    if n = 2 then pathsLost t else t

/-- What a heartbeat tells of the pair (R305): no chip is ACTIVE any more, or the partner shows itself out of sync. -/
def heartbeatSync (path : Nat) (h : Heartbeat) (s : State) : State :=
  if s.get F.TAN_STAT_ROLE = 1 then
    (if s.get F.TAN_STAT_SYNC = 2 ∧ path = 0 ∧ !h.insync then syncLost s else s)
  else if !h.own then syncBreaks s
  else s

/-- HEARTBEAT_RECEIVE: the path is restored; where the other stays lost, one path is lost and the other is not. -/
def heartbeatRx (path : Fin 2) (h : Heartbeat) (s : State) : State :=
  if !s.tandem then s
  else
    let was := s.on (F.TAN_HB_p_LOST path)
    let s1 := s.puts [(F.TAN_HB_p_MISS path, 0), (F.TAN_HB_p_LOST path, 0)]
    let s2 := { s1 with tan := { s1.tan with
      hb := some h, seen0 := s1.tan.seen0 || path == 0, seen1 := s1.tan.seen1 || path == 1 } }
    let other := 1 - path.val
    let s3 := if was ∧ s2.on (F.TAN_HB_p_LOST other) then raiseFault FaultCode.tanPath other s2 else s2
    updWatch (heartbeatSync path h s3)

/-- One more miss on path `p`. -/
def pathMiss (p : Nat) (s : State) : State :=
  let s1 := (s.inc (F.TAN_HB_p_MISS p)).inc (F.TAN_CNT_k_COUNT (3 + p))
  if s1.get (F.TAN_HB_p_MISS p) = 3 then s1.flag (F.TAN_HB_p_LOST p) else s1

/-- HEARTBEAT_MISS: grain HBWIN of the slot has come; each path without a heartbeat in the slot is missed. DEDUCED, log
entry 92. -/
def heartbeatMiss (low : Bool) (s : State) : State :=
  if !s.tandem || !s.tickRuns || decide (s.grain < s.get F.TAN_CFG_HBWIN) then s
  else
    let s0 := sampleLine low s
    let new := fun p t => !s.on (F.TAN_HB_p_LOST p) && State.on t (F.TAN_HB_p_LOST p)
    let s1 := if s0.tan.seen0 then s0 else pathMiss 0 s0
    let s2 := if s1.tan.seen1 then s1 else pathMiss 1 s1
    let t := { s2 with tan := { s2.tan with seen0 := true, seen1 := true } }
    if !(new 0 t || new 1 t) then t
    else if t.on (F.TAN_HB_p_LOST 0) && t.on (F.TAN_HB_p_LOST 1) then pathsLost t
    else raiseFault FaultCode.tanPath (if new 0 t then 0 else 1) t

/-! ## Confirmations (R163, R165, R309, R311, R320) -/

/-- TAN_RTT: a confirmation of the record last sent. -/
def showRtt (s : State) : State :=
  let ns := min 65535 ((s.tally.clock - s.tan.sentAt) * 125 / 4)
  s.puts [(F.TAN_RTT_NS, ns), (F.TAN_RTT_MAX, max ns (s.get F.TAN_RTT_MAX))]

/-- The last COPY record is confirmed: the pair is in sync (R320). DEDUCED, log entry 163. -/
def joinComplete (s : State) : State :=
  match s.tan.lastCopy with
  | some j =>
    if s.get F.TAN_STAT_SYNC = 1 ∧ s.confirmed j then
      { s with tan := { s.tan with lastCopy := none } }.put F.TAN_STAT_SYNC 2
    else s
  | none => s

/-- JOURNAL_CONFIRMATION: every record up to `j` is applied, or LEASE record `j` stands in the partner's flash. -/
def journalConfirm (j : Nat) (persisted : Bool) (s : State) : State :=
  if !s.journals then s
  else if persisted then leaseConfirmed j s
  else if s.confirmed j then s
  else
    let s1 := s.put F.TAN_JSEQ_CONF_JSEQ j
    let s2 := if j = s.get F.TAN_JSEQ_SENT_JSEQ then showRtt s1 else s1
    let n := s2.tan.segs.length
    let s3 := if s2.confirmed s2.tan.tickSeq then
        { s2 with tan := { s2.tan with segs := s2.tan.segs.drop (n - 2) } } else s2
    laneRelease (joinComplete (releaseHeld (s3.tan.held.length + 1) s3))

/-! ## Joining (R320) -/

/-- The next granule, from `a` on, of a mirrored bay. -/
def State.nextMirror (s : State) (a : Nat) : Option Nat :=
  let from_ := (List.range 8).filterMap fun c =>
    let b := s.bayBase c / 16
    let e := b + s.baySize c / 16
    if s.mirrored c && decide (max a b < e) then some (max a b) else none
  from_.min?

/-- TAN_CMD.JOIN on a chip in STANDBY, or the partner's request for it on the ACTIVE. `same` says that the partner's active
MID and TAN_MIRROR equal this chip's. DESIGN CHOICE, log entry 72. -/
def tanJoin (partner same : Bool) (s : State) : State :=
  if !s.tandem then s
  else
    let sync := s.get F.TAN_STAT_SYNC
    let bad := !same || !s.on F.TAN_STAT_TLUP || sync == 1 || sync == 2
    if partner then
      if bad || s.get F.TAN_STAT_ROLE != 1 then s
      else
        let s1 := { s with tan := { s.tan with walking := true, lastCopy := none, segs := [0] } }
        s1.puts [(F.TAN_STAT_SYNC, 1), (F.TAN_COPY_ADDR, (s1.nextMirror 0).getD 0)]
    else if s.mode ≠ Mode.standby ∨ !((s.tan.hb.map (·.own)).getD false && s.partnerHeard) then s.flag F.TAN_STAT_BADCMD
    else if bad then s.flag F.TAN_STAT_JOINBAD
    else
      ({ s with tan := { s.tan with joining := true, log := [], logAt := 0, lastMode := none } }.put F.TAN_STAT_SYNC 1).emit .join

/-- Send granule `g` as a COPY record; a poisoned granule carries FLAGS bit 0 and zeros. -/
def copyGranule (g : Nat) (s : State) : State :=
  let r := serRead Master.tandem (16 * g) 16 s
  sendRec 0x02 (b2n r.2.1) (leBytes 4 g ++ if r.2.1 then List.replicate 16 0 else r.1) r.2.2

/-- The walk moves to the first mirrored granule from `a`, or ends. -/
def copyNext (a : Nat) (s : State) : State :=
  match s.nextMirror a with
  | some n => s.put F.TAN_COPY_ADDR n
  | none => { s with tan := { s.tan with walking := false, lastCopy := some (s.get F.TAN_JSEQ_SENT_JSEQ) } }

/-- JOIN_COPY_STEP: the walk sends its next granule. -/
def joinCopyStep (s : State) : State :=
  if !s.journals || !s.tan.walking || !s.logRoom 32 then s
  else
    copyNext (s.get F.TAN_COPY_ADDR + 1) (copyGranule (s.get F.TAN_COPY_ADDR) s)

/-! ## Handing over (R321) -/

/-- TAN_CMD.HANDOVER. -/
def tanHandover (s : State) : State :=
  if !s.tandem then s
  else if s.get F.TAN_STAT_ROLE ≠ 1 ∨ s.get F.TAN_STAT_SYNC ≠ 2 ∨ !airMode s.mode ∨ s.tan.hoArm.isSome ∨ s.tan.hoAt.isSome then
    s.flag F.TAN_STAT_BADCMD
  else { s with tan := { s.tan with hoArm := some (if s.inTime then 1 else 2) } }

/-- The handover tick: two ticks on, moved later while its slot lies in a beacon span. -/
def State.handoverIn (s : State) : Nat :=
  let span := max (s.bspan false) (s.bspan true)
  let n := max 1 s.sfLen
  ((List.range n).find? fun k => !decide ((s.tally.slot + 2 + k) % n < span)).getD 0 + 2

/-- HANDOVER_DEADLINE: on the ACTIVE, grain L - 3 of the slot before the handover tick has come without the partner's
confirmation; on the partner, the ACTIVE's cancellation arrives. -/
def handoverDeadline (s : State) : State :=
  match s.tan.hoAt with
  | none => s
  | some (a, j) =>
    let due := s.get F.TAN_STAT_ROLE == 1 && (s.tally.asn + 1) % 2 ^ 40 == a && decide (s.slotLen ≤ s.grain + 3) &&
      !s.confirmed j
    if due || s.get F.TAN_STAT_ROLE != 1 then
      { s with tan := { s.tan with hoAt := none } }.flag F.TAN_STAT_HOFAIL
    else s

/-! ## Fetching (R322) -/

/-- TAN_CMD.FETCH. -/
def tanFetch (s : State) : State :=
  if !s.tandem then s
  else if s.get F.TAN_STAT_ROLE ≠ 1 ∨ s.get F.TAN_STAT_SYNC ≠ 2 ∨ s.on F.TAN_FETCH_BUSY then s.flag F.TAN_STAT_BADCMD
  else (s.flag F.TAN_FETCH_BUSY).emit (.fetch (s.get F.TAN_FETCH_ADDR))

/-- FETCH_ANSWER: the partner's granule, written whole; one marked poison changes nothing. DEDUCED, log entry 96. -/
def fetchAnswer (g : Nat) (bytes : List Byte) (poison : Bool) (s : State) : State :=
  if !s.on F.TAN_FETCH_BUSY then s
  else
    let s1 := s.put F.TAN_FETCH_BUSY 0
    if poison || !s1.inMirror (16 * g) then s1
    else writeG Master.sec (16 * g) ((bytes ++ List.replicate 16 0).take 16) s1

/-- FETCH_REQUEST: the partner answers with the granule as it holds it. DEDUCED, log entry 96. -/
def fetchRequest (g : Nat) (s : State) : State :=
  let r := serRead Master.tandem (16 * g) 16 s
  r.2.2.emit (.fetched g (if r.2.1 then List.replicate 16 0 else r.1) r.2.1)

/-! ## Takeover (R318, R319) -/

/-- The records of the tail: those after the latest TICK record. -/
def tailOf (l : List JRec) : List JRec := (l.reverse.takeWhile (·.ty != 0x07)).reverse

/-- The latest TICK record. -/
def lastTick (l : List JRec) : Option JRec := l.reverse.find? (·.ty == 0x07)

/-- TAN_TAIL and TAN_TAILSEQ show the log. DESIGN CHOICE, log entry 50. -/
def showTail (s : State) : State :=
  s.puts [(F.TAN_TAIL_COUNT, min 65535 (tailOf s.tan.log).length), (F.TAN_TAILSEQ_JSEQ, ((lastTick s.tan.log).map (·.jseq)).getD 0)]

/-- The tail fails its check (R318). -/
def State.replayBad (s : State) : Bool :=
  match lastTick s.tan.log with
  | none => true
  | some t => decide (4 < (s.tally.asn + 2 ^ 40 - numAt t.body 0 5) % 2 ^ 40) ||
      (tailOf s.tan.log).any fun r => r.ty == 0x01 && !s.inMirror (16 * bits (numAt r.body 0 4) 0 21)

/-- What entry to TAKEOVER does beside the change of mode. -/
def takeoverEntered (s : State) : State :=
  let s1 := countersToLease (tokenResetAll (syncLost s))
  let s2 := { s1 with tan := { s1.tan with tookLine := false, takeoverSlots := 0 } }
  let s3 := raiseVector 19 (showTail (s2.inc (F.TAN_CNT_k_COUNT 5)))
  if s3.replayBad then raiseFault FaultCode.replayBad 0 s3 else s3

/-- TAN_CMD.REPLAYDONE. DEDUCED, log entry 93. -/
def replayDone (s : State) : State :=
  if !s.tandem then s
  else
    match s.tan.lastMode with
    | some (m, drain) =>
      if s.mode = Mode.takeover ∧ airMode m ∧ s.modePend.isNone then
        requestMode m (if m = Mode.drain then s.put F.SF_DRAIN_SFN_SFN drain else s)
      else s.flag F.TAN_STAT_BADCMD
    | none => s.flag F.TAN_STAT_BADCMD

/-- REPLAY_TIMEOUT. -/
def replayTimeout (s : State) : State :=
  if s.mode = Mode.takeover ∧ s.modePend.isNone ∧ s.get F.TAN_CFG_REPLAYMAX ≤ s.tan.takeoverSlots then
    raiseFault FaultCode.replayBad 0 s
  else s

/-! ## The link (R305) and the tick -/

/-- TANDEM_LINK_DOWN and TANDEM_LINK_UP. -/
def linkDown (s : State) : State := if s.tandem then syncBreaks (s.put F.TAN_STAT_TLUP 0) else s
def tandemLinkUp (s : State) : State := if s.tandem then s.put F.TAN_STAT_TLUP 1 else s

/-- Start the interval of a TICK record and send it (R307, R308, R311); `ho` is the handover tick's ASN. DEDUCED, log
entry 75. -/
def tickRecord (ho : Option Nat) (s : State) : State :=
  if !s.journals then s
  else
    let body := leBytes 5 s.tally.asn ++ leBytes 4 s.tally.sfn ++ leBytes 2 s.tally.slot ++ leBytes 1 s.mode ++
      leBytes 4 (ho.getD 0)
    let s1 := sendRec 0x07 (2 * b2n ho.isSome) body { s with tan := { s.tan with segs := s.tan.segs ++ [0] } }
    { s1 with tan := { s1.tan with tickSeq := s1.get F.TAN_JSEQ_SENT_JSEQ } }

/-- The TICK record of a tick; a HANDOVER command applied at this tick chooses its tick (R321). DEDUCED, log entry 75. -/
def tickJournal (s : State) : State :=
  match s.tan.hoArm with
  | some n =>
    if n ≤ 1 then
      let a := (s.tally.asn + s.handoverIn) % 2 ^ 40
      let s1 := tickRecord (some (a % 2 ^ 32)) ({ s with tan := { s.tan with hoArm := none } }.put F.TAN_HOASN_ASN (a % 2 ^ 32))
      { s1 with tan := { s1.tan with hoAt := some (a, s1.get F.TAN_JSEQ_SENT_JSEQ) } }
    else tickRecord none { s with tan := { s.tan with hoArm := some (n - 1) } }
  | none => tickRecord none s

/-- The comparison of R317 at a tick; `low` is the level of the line. -/
def ownLineCheck (low : Bool) (s : State) : State :=
  let either := s.on F.TAN_STAT_OWN || (s.tan.hb.map (·.own)).getD false
  if low != either then raiseFault FaultCode.tanPath 2 (raiseVector 19 (s.flag F.TAN_STAT_OWNBAD)) else s

/-- The Tandem at a tick (R307, R317, R319). -/
def tanTick (low : Bool) (s : State) : State :=
  if !s.tandem then s
  else
    let s1 := sampleLine (low && !s.on F.TAN_STAT_OWN) (ownLineCheck low s)
    tickJournal { s1 with tan := { s1.tan with
      seen0 := false, seen1 := false
      takeoverSlots := if s1.mode = Mode.takeover then s1.tan.takeoverSlots + 1 else 0 } }

/-- The handover tick is this tick. -/
def State.handoverNow (s : State) : Bool := (s.tan.hoAt.map (·.1)) == some s.tally.asn

/-- TAN_CTL.CLRCNT. -/
def tanClear (s : State) : State := (forN 8 (fun k s => s.put (F.TAN_CNT_k_COUNT k) 0) s).put F.TAN_RTT_MAX 0

/-- A write of a TAN register is in range (R324). -/
def tanRange (off v : Nat) (s : State) : Bool :=
  if off = R.TAN_CFG then
    decide (80 ≤ bits v 0 12) && decide (bits v 0 12 ≤ 4000) && decide (1 ≤ bits v 16 3) && decide (bits v 16 3 ≤ 4) &&
      decide (1 ≤ bits v 24 8) && decide (bits v 24 8 ≤ 150)
  else if off = R.TAN_FETCH then s.inMirror (16 * bits v 0 21)
  else true

end Sys2Proof.Machine
end

