-- ==== Sys2Proof/Machine/Timers.lean ====
section
/-!
DEFINITION. Timer channels and the real-time clock (22_timers_rtc.md, R404 to R419).
-/

namespace Sys2Proof.Machine

/-! ## Timer channels (R404 to R409) -/

/-- The compare event of channel `n`. -/
def tmrCompare (n : Nat) (s : State) : State := produce (Prod.tmrCompare n) (s.flag (F.TMR_n_STAT_CMPF n))

/-- COUNT takes a value of this period; a match with CMP fires (R405). -/
def tmrSet (n v : Nat) (s : State) : State :=
  let s1 := s.put (F.TMR_n_COUNT_VALUE n) v
  if v = s.get (F.TMR_n_CMP_VALUE n) ∧ v < s.tmrPeriod n then tmrCompare n s1 else s1

/-- The wrap of channel `n`, the channel it may drive apart. -/
def tmrWrap1 (n : Nat) (s : State) : State :=
  let s1 := produce (Prod.tmrWrap n) ((s.put (F.TMR_n_COUNT_VALUE n) 0).flag (F.TMR_n_STAT_WRAPF n))
  let s2 := tmrSet n 0 s1
  s2.when (s2.on (F.TMR_n_CFG_ONESHOT n)) (·.put (F.TMR_n_STAT_RUN n) 0)

/-- One step of a channel that drives no other. -/
def tmrStep1 (n : Nat) (s : State) : State :=
  if !s.on (F.TMR_n_STAT_RUN n) then s
  else if s.tmrPeriod n ≤ s.get (F.TMR_n_COUNT_VALUE n) + 1 then tmrWrap1 n s
  else tmrSet n (s.get (F.TMR_n_COUNT_VALUE n) + 1) s

/-- The wrap of channel `n`: an odd channel above it with SRC = 3 steps. -/
def tmrWrapOp (n : Nat) (s : State) : State :=
  let s1 := tmrWrap1 n s
  if n % 2 = 0 ∧ s1.get (F.TMR_n_CFG_SRC (n + 1)) = 3 then tmrStep1 (n + 1) s1 else s1

/-- One step of channel `n`. -/
def tmrStep (n : Nat) (s : State) : State :=
  if !s.on (F.TMR_n_STAT_RUN n) then s
  else if s.tmrPeriod n ≤ s.get (F.TMR_n_COUNT_VALUE n) + 1 then tmrWrapOp n s
  else tmrSet n (s.get (F.TMR_n_COUNT_VALUE n) + 1) s

/-- The channel counts grains or microseconds. -/
def State.tmrTimed (s : State) (n : Nat) : Bool := s.on (F.TMR_n_STAT_RUN n) && decide (s.get (F.TMR_n_CFG_SRC n) ≤ 1)

/-- COMPARE_MATCH: a running channel's next step brings COUNT to CMP. -/
def compareMatch (n : Nat) (s : State) : State :=
  if s.tmrTimed n ∧ s.get (F.TMR_n_COUNT_VALUE n) + 1 = s.get (F.TMR_n_CMP_VALUE n) ∧
      s.get (F.TMR_n_CMP_VALUE n) < s.tmrPeriod n then tmrStep n s else s

/-- TIMER_WRAP: a running channel's next step ends its period. -/
def timerWrap (n : Nat) (s : State) : State :=
  if s.tmrTimed n ∧ s.get (F.TMR_n_COUNT_VALUE n) + 1 = s.tmrPeriod n then tmrStep n s else s

/-- A channel starts: COUNT takes PHASE modulo PERIOD (R408). -/
def tmrStart (n : Nat) (s : State) : State :=
  tmrSet n (s.get (F.TMR_n_PHASE_VALUE n) % s.tmrPeriod n) (s.put (F.TMR_n_STAT_RUN n) 1)

/-- Note or forget a start that waits for a tick: the ticks still to pass. -/
def tmrAtTick (n : Fin 16) (left : Nat) (s : State) : State := { s with timers := s.timers.set n ⟨left⟩ }

/-- The channels of a mask. -/
def maskTimers (m : Nat) : List (Fin 16) := (List.finRange 16).filter fun n => bitOf m n

/-- TMR_START. -/
def tmrStartOp (mask : Nat) (atTick : Bool) (s : State) : State :=
  if !atTick then forAll (maskTimers mask) (fun n s => tmrStart n s) s
  else if !s.tickRuns then s.flag F.TMR_STAT_BADCMD
  else forAll (maskTimers mask) (tmrAtTick · (if s.inTime then 1 else 2)) s

/-- TMR_STOP: a start that waits for a tick is taken back too. -/
def tmrStopOp (mask : Nat) (s : State) : State :=
  forAll (maskTimers mask) (fun n s => (tmrAtTick n 0 s).put (F.TMR_n_STAT_RUN n) 0) s

/-- TMR_n_CMP (R406). -/
def tmrCmpWrite (n v : Nat) (s : State) : State :=
  let s1 := s.put (F.TMR_n_CMP_VALUE n) v
  if s.on (F.TMR_n_STAT_RUN n) ∧ v ≤ s.get (F.TMR_n_COUNT_VALUE n) ∧ v < s.tmrPeriod n then tmrCompare n s1 else s1

/-- TMR_n_PERIOD (R407). -/
def tmrPeriodWrite (n v : Nat) (s : State) : State :=
  let s1 := s.put (F.TMR_n_PERIOD_VALUE n) v
  if s.on (F.TMR_n_STAT_RUN n) ∧ s1.tmrPeriod n ≤ s.get (F.TMR_n_COUNT_VALUE n) then tmrWrapOp n s1 else s1

/-- The slot tick: channels that wait for it start, and running channels of SRC 2 step. -/
def tmrTick (s : State) : State :=
  let due := (List.finRange 16).filter fun n => s.timers[n].startAtTick == 1
  let s1 := forAll ((List.range 16).filter fun n => s.on (F.TMR_n_STAT_RUN n) && s.get (F.TMR_n_CFG_SRC n) == 2)
    (fun n s => tmrStep n s) s
  let s2 := { s1 with timers := s1.timers.map fun t => ⟨t.startAtTick - 1⟩ }
  forAll due (fun n s => tmrStart n s) s2

/-! ## The calendar (R410) -/

/-- Days of the Gregorian cycle. -/
def cycleDays : Nat := 146097

/-- The number of a date in the cycle, 0 for 2000-01-01. -/
def dayNo (c : Cal) : Nat :=
  let y := if c.month ≤ 2 then (c.year + 399) % 400 else c.year
  let doy := (153 * (if c.month ≤ 2 then c.month + 9 else c.month - 3) + 2) / 5 + c.day - 1
  (365 * y + y / 4 - y / 100 + doy + 60) % cycleDays

/-- The date (year since 2000, month, day) of a day number. -/
def dateOf (n : Nat) : Nat × Nat × Nat :=
  let e := (n + cycleDays - 60) % cycleDays
  let y := (e - e / 1460 + e / 36524 - e / 146096) / 365
  let doy := e - (365 * y + y / 4 - y / 100)
  let mp := (5 * doy + 2) / 153
  let m := if mp < 10 then mp + 3 else mp - 9
  ((y + if m ≤ 2 then 1 else 0) % 400, m, doy - (153 * mp + 2) / 5 + 1)

/-- Second of the day. -/
def daySec (c : Cal) : Nat := 3600 * c.hour + 60 * c.min + c.sec

/-- Instant `a` is later than `b`. -/
def Cal.later (a b : Cal) : Bool := decide (86400 * dayNo b + daySec b < 86400 * dayNo a + daySec a)

/-- The day of the week, 1 Monday to 7 Sunday; 2000-01-01 is a Saturday. -/
def dow (c : Cal) : Nat := (dayNo c + 5) % 7 + 1

/-- Leap years (R410), and the days of a month. -/
def leap (y : Nat) : Bool := y % 4 == 0 && (y % 100 != 0 || y % 400 == 0)
def monthDays (y m : Nat) : Nat :=
  if m = 2 then (if leap y then 29 else 28) else if m = 4 ∨ m = 6 ∨ m = 9 ∨ m = 11 then 30 else 31

/-- The next second. -/
def Cal.next (c : Cal) : Cal :=
  if c.sec < 59 then { c with sec := c.sec + 1 }
  else if c.min < 59 then { c with min := c.min + 1, sec := 0 }
  else if c.hour < 23 then { c with hour := c.hour + 1, min := 0, sec := 0 }
  else if c.day < monthDays c.year c.month then { c with day := c.day + 1, hour := 0, min := 0, sec := 0 }
  else if c.month < 12 then { c with month := c.month + 1, day := 1, hour := 0, min := 0, sec := 0 }
  else { year := (c.year + 1) % 400, month := 1, day := 1, hour := 0, min := 0, sec := 0 }

/-- Two BCD digits, and a number as BCD. -/
def bcd2 (v : Nat) : Nat := v / 16 % 16 * 10 + v % 16
def toBcd (v : Nat) : Nat := v / 1000 * 4096 + v / 100 % 10 * 256 + v / 10 % 10 * 16 + v % 10
def bcdOk (v : Nat) : Bool := [0, 1, 2, 3].all fun i => decide (v / 16 ^ i % 16 ≤ 9)
def bcd4 (v : Nat) : Nat := bcd2 (v / 256) * 100 + bcd2 v

/-! ## The alarm (R414, R415) -/

/-- Alarm fields: for each of seconds, minutes, hours, day, month, year, the value it must have, or none where masked. -/
def State.alarm (s : State) : List (Option Nat) :=
  let f := fun i v => if bitOf (s.get F.RTC_ALARM_CTL_MASK) i then none else some v
  [f 0 (bcd2 (s.get F.RTC_ALARM_TIME_SEC)), f 1 (bcd2 (s.get F.RTC_ALARM_TIME_MIN)),
    f 2 (bcd2 (s.get F.RTC_ALARM_TIME_HOUR)), f 3 (bcd2 (s.get F.RTC_ALARM_DATE_DAY)),
    f 4 (bcd2 (s.get F.RTC_ALARM_DATE_MONTH)), f 5 (bcd4 (s.get F.RTC_ALARM_DATE_YEAR))]

/-- An alarm field agrees with a value. -/
def agrees (l : List (Option Nat)) (i v : Nat) : Bool :=
  match l.getD i none with
  | none => true
  | some x => x == v

/-- The calendar matches. -/
def alarmMatch (l : List (Option Nat)) (c : Cal) : Bool :=
  agrees l 0 c.sec && agrees l 1 c.min && agrees l 2 c.hour && agrees l 3 c.day && agrees l 4 c.month &&
    agrees l 5 (2000 + c.year)

/-- Some second of a day from `lo` to `hi` matches the time fields. -/
def timeMatch (l : List (Option Nat)) (lo hi : Nat) : Bool :=
  (List.range 24).any fun h => agrees l 2 h && (List.range 60).any fun m => agrees l 1 m && (List.range 60).any fun x =>
    agrees l 0 x && decide (lo ≤ 3600 * h + 60 * m + x) && decide (3600 * h + 60 * m + x ≤ hi)

/-- Some instant after `a` and before `b` matches. -/
def skippedMatch (l : List (Option Nat)) (a b : Cal) : Bool :=
  (List.range (dayNo b - dayNo a + 1)).any fun k =>
    let d := dateOf (dayNo a + k)
    let lo := if k = 0 then daySec a + 1 else 0
    let hi := if dayNo a + k = dayNo b then daySec b else 86400
    agrees l 5 (2000 + d.1) && agrees l 4 d.2.1 && agrees l 3 d.2.2 && decide (0 < hi) && timeMatch l lo (hi - 1)

/-- Fire the alarm. -/
def fireAlarm (s : State) : State := produce Prod.rtcAlarm (s.flag F.RTC_STAT_ALARMF)

/-- RTC_SECOND (R410, R414). -/
def rtcSecond (s : State) : State :=
  let n := s.rtc.now.next
  let wrap := s.rtc.now.later n
  let fire := s.on F.RTC_ALARM_CTL_EN && alarmMatch s.alarm n && n.later s.rtc.watermark && !wrap
  let mark := if wrap ∨ n.later s.rtc.watermark then n else s.rtc.watermark
  let s1 := { s with rtc := { s.rtc with now := n, sub := 0, watermark := mark } }
  (s1.when wrap (·.flag F.RTC_STAT_WRAP)).when fire fireAlarm

/-! ## Reading and setting (R412, R413, R415) -/

/-- RTC_CAPTURE.GO. -/
def rtcCaptureOp (s : State) : State := s.flag F.RTC_STAT_CAPBUSY

/-- RTC_CAPTURE_DONE: the calendar and the 1/256 s count of one instant. -/
def rtcCaptureDone (sub : Nat) (s : State) : State :=
  if !s.on F.RTC_STAT_CAPBUSY then s
  else
    let c := s.rtc.now
    { s with rtc := { s.rtc with sub := sub } }.puts
      [(F.RTC_CAP_TIME_SEC, toBcd c.sec), (F.RTC_CAP_TIME_MIN, toBcd c.min), (F.RTC_CAP_TIME_HOUR, toBcd c.hour),
        (F.RTC_CAP_TIME_SUB, sub), (F.RTC_CAP_DATE_DAY, toBcd c.day), (F.RTC_CAP_DATE_MONTH, toBcd c.month),
        (F.RTC_CAP_DATE_DOW, dow c), (F.RTC_CAP_DATE_YEAR, toBcd (2000 + c.year)), (F.RTC_STAT_CAPBUSY, 0)]

/-- The staged instant with the seconds written; none where R413 refuses it. -/
def State.stagedCal (s : State) (sec : Nat) : Option Cal :=
  let raw := [sec, s.get F.RTC_STG_HM_MIN, s.get F.RTC_STG_HM_HOUR, s.get F.RTC_STG_DATE_DAY, s.get F.RTC_STG_DATE_MONTH,
    s.get F.RTC_STG_DATE_YEAR]
  let year := bcd4 (s.get F.RTC_STG_DATE_YEAR)
  let c : Cal := ⟨year - 2000, bcd2 (s.get F.RTC_STG_DATE_MONTH), bcd2 (s.get F.RTC_STG_DATE_DAY),
    bcd2 (s.get F.RTC_STG_HM_HOUR), bcd2 (s.get F.RTC_STG_HM_MIN), bcd2 sec⟩
  if raw.all bcdOk ∧ c.sec ≤ 59 ∧ c.min ≤ 59 ∧ c.hour ≤ 23 ∧ 1 ≤ c.month ∧ c.month ≤ 12 ∧ 2000 ≤ year ∧ year ≤ 2399 ∧
      1 ≤ c.day ∧ c.day ≤ monthDays c.year c.month then some c else none

/-- RTC_STG_SEC: the commit. -/
def rtcCommitOp (sec : Nat) (s : State) : State :=
  if s.on F.RTC_STAT_SETBUSY then s.flag F.RTC_STAT_BUSYWR
  else
    match s.stagedCal (sec % 128) with
    | none => s.flag F.RTC_STAT_BADDATE
    | some c => { s with rtc := { s.rtc with commit := some c } }.flag F.RTC_STAT_SETBUSY

/-- RTC_COMMIT_DONE (R413, R415). No instant that the calendar has already shown fires again. DEDUCED, log entry 152. -/
def rtcCommitDone (s : State) : State :=
  match s.rtc.commit with
  | none => s
  | some n =>
    let old := if s.rtc.watermark.later s.rtc.now then s.rtc.watermark else s.rtc.now
    let fwd := n.later old
    let en := s.on F.RTC_ALARM_CTL_EN && fwd
    let skip := en && skippedMatch s.alarm old n
    let hit := en && alarmMatch s.alarm n
    let s1 := { s with rtc := { s.rtc with now := n, sub := 0, wakeCount := 0, commit := none, watermark := if fwd then n else old } }
    let s2 := s1.puts [(F.RTC_STAT_SETBUSY, 0), (F.RTC_STAT_LOST, 0)]
    (s2.when skip (·.flag F.RTC_STAT_ALARM_SKIPPED)).when (skip || hit) fireAlarm

/-- A write of an alarm register sets the watermark to the present instant. DEDUCED, log entry 91. -/
def rtcMark (s : State) : State := { s with rtc := { s.rtc with watermark := s.rtc.now } }

/-! ## Wake and backup supply (R416 to R418) -/

/-- RTC_WAKE.PERIOD: the count restarts. -/
def rtcWakeWrite (p : Nat) (s : State) : State :=
  if 22118400 < p then s.flag F.RTC_STAT_BADVAL
  else { s with rtc := { s.rtc with wakeCount := 0 } }.put F.RTC_WAKE_PERIOD p

/-- RTC_WAKE: the count reaches PERIOD. -/
def rtcWake (s : State) : State :=
  if s.on F.RTC_WAKE_PERIOD then
    let s1 := { s with rtc := { s.rtc with wakeCount := 0 } }
    produce Prod.rtcWake ((s1.flag F.RTC_STAT_WAKEF).inc F.RTC_STAT_WAKECNT)
  else s

/-- BACKUP_LOSS (R417): the block takes its reset values, BATLOW apart, and the calendar starts at 2000-01-01. DEDUCED,
log entry 105. -/
def backupLoss (s : State) : State :=
  let low := s.get F.RTC_STAT_BATLOW
  let s1 := { s with
    regs := s.regs.filter fun p => !(decide (0x160000 ≤ p.1) && decide (p.1 < 0x170000))
    rtc := Rtc.init }
  s1.puts [(F.RTC_STAT_BATLOW, low), (F.RTC_STAT_LOST, 1)]

/-- BATTERY_LOW and BACKUP_SUPPLY_RETURN. -/
def batteryLow (low : Bool) (s : State) : State := s.put F.RTC_STAT_BATLOW (b2n low)

/-- A write of word `v` to a TMR or RTC register is in range (R419). SRC = 3, and PAIR, belong to one parity each.
DEDUCED, log entry 154. -/
def tmrRange (off v : Nat) : Bool :=
  let n := (off - 0x150100) / 32
  if 0x150100 ≤ off ∧ off < 0x150300 ∧ (off - 0x150100) % 32 = 0 then
    !(n % 2 == 0 && bits v 0 2 == 3) && !(n % 2 == 1 && bitOf v 3)
  else true

def rtcRange (off v : Nat) : Bool := off != R.RTC_WAKE || decide (bits v 0 25 ≤ 22118400)

end Sys2Proof.Machine
end

