-- ==== Sys2Proof/Machine/Modes.lean ====
section
/-!
DEFINITION. Operating modes and resets (02_modes_faults.md, R30 to R42): mode requests and changes, SAFE entry, the reset
sources and sequence, and the secure boot (19_trust.md, R354).
-/

namespace Sys2Proof.Machine

/-! ## What a mode change does -/

/-- The TICK block starts (R187, R257, R298, R458): the slot it runs on in is taken to be as long as the one before. -/
def tickStart (s : State) : State :=
  let t0 := s.tally.clock - s.tally.pos
  let s1 := { s with
    tally := { s.tally with whole := false, nextPrep := 0, nextRet := 0 }, car := { s.car with missed := 0, tick := none }
    ftx := { s.ftx with tick0 := t0, tick1 := t0 - 4 * s.slotLen } }
  laneStart 1 (laneStart 0 (tokenResetAll (s1.puts
    [(F.CAR_STAT_FARSKEW, 0), (F.TICK_SEALED_PREP, 0), (F.TICK_SEALED_RETIRE, 0)])))

/-- The TICK block stops (R75, R169, R458). -/
def tickStop (s : State) : State :=
  laneQuit 1 (laneQuit 0 (sfDrop { s with
    tally := { s.tally with whole := false, nextPrep := 0, nextRet := 0 }
    txl := none, rxp := none, prog0 := none, prog1 := none }))

/-- The receivers at a change to mode `m` (R85, R459). -/
def rxModeChange (was m : Nat) (s : State) : State :=
  if rxMode m then (if rxMode was then s else rxPowerUp s) else rxPowerDown s

/-- Cancel the air items staged for the slot that begins now (R19, R83). DEDUCED, log entry 99. -/
def cancelStaged (s : State) : State :=
  let mine := fun p : Staged => isAirReg p.field.off && p.left == 1
  ({ s with staged := s.staged.filter fun p => !mine p, txl := none }).add F.TICK_CANCEL_COUNT
    (((s.staged.filter mine).map itemCount).sum)

/-- The transmitters at a change to mode `m` (R78, R83, R112, R319). -/
def txModeChange (was m : Nat) (estop : Bool) (s : State) : State :=
  if airMode m then
    (if airMode was then s else { s with sf := { s.sf with air := was == Mode.takeover } })
  else
    let s1 := if estop then cancelStaged (txEstop s) else s
    if airMode was then ackDiscard (dropPlanned { s1 with txl := none, sf := { s1.sf with air := false } }) else s1

/-- The block enters mode `m` (R30, R57, R85, R112, R169, R304, R307, R331). DEDUCED, log entry 102. -/
def enterMode (m : Nat) (estop : Bool) (s : State) : State :=
  let was := s.mode
  let s0 := modeRecord m estop s
  let s1 := { s0 with modePend := none }.puts [(F.SYS_MODE_MODE_PREV, was), (F.SYS_MODE_MODE_CUR, m), (F.SYS_MODE_TRANS, 0),
    (F.SYS_MODE_PERS, b2n (recoveryMode m))]
  let s2 := txModeChange was m estop (rxModeChange was m s1)
  let s3 := if tickMode m && !tickMode was then tickStart s2 else if !tickMode m && tickMode was then tickStop s2 else s2
  let s4 := if m = Mode.configure ∨ m = Mode.safe ∨ estop then manModeCancel s3 else s3
  raiseVector 17 (updWatch (tanMode m s4))

/-- A mode change other than SAFE entry and a reset: every Drover takes the new personality and enters MODE, and a chip that
a wave reset may have returned with it (R295). -/
def changeMode (m : Nat) (estop : Bool) (s : State) : State :=
  let was := s.mode
  let s1 := modeVectors m (enterMode m estop s)
  let s2 := if was = Mode.calibrate ∧ m = Mode.configure then calLoad s1 else s1
  returnReport (if m = Mode.configure ∧ (s2.isLead ∨ s2.ownHost) then enumStart s2 else s2)

/-! ## Requests (R31, R32) -/

/-- Slot index and SFN of the slot that begins `k` ticks from now. -/
def State.slotIn (s : State) (k : Nat) : Nat × Nat :=
  let n := max 1 s.sfLen
  ((s.tally.slot + k) % n, (s.tally.sfn + (s.tally.slot + k) / n) % 2 ^ 32)

/-- Ticks to a request's tick of effect. -/
def State.effectIn (s : State) : Nat := if s.inTime then 1 else 2

/-- A Manifest is active, the settings and the calibration allow STANDBY, and the air format agrees (R32, R292, R379,
R399). What refuses it shows it. -/
def standbyRefused (s : State) : Option State :=
  if s.on F.UPD_STAT_NEWER_SETTINGS then some s
  else if !s.on F.CAL_STAT_VALID then some (s.flag F.CAL_STAT_NOCAL)
  else if !s.on F.MAN_STAT_ACTIVE_VALID then some s
  else if !s.formatAgrees then some (s.flag F.CAR_STAT_FMTBAD)
  else none

/-- The notice of a DRAIN suffices (R79). -/
def State.drainOk (s : State) : Bool :=
  let a := (s.slotIn s.effectIn).2
  let n := (s.get F.SF_DRAIN_SFN_SFN + 2 ^ 32 - a) % 2 ^ 32
  decide (s.sleepMax ≤ n) && decide (n < 2 ^ 31)

/-- The return from DRAIN would take effect by the tick that starts slot 0 of ENDSFN (R32, R81). -/
def State.undrainOk (s : State) : Bool :=
  let e := s.slotIn s.effectIn
  let n := (s.sf.endSfn + 2 ^ 32 - e.2) % 2 ^ 32
  (decide (1 ≤ n) && decide (n < 2 ^ 31)) || (n == 0 && e.1 == 0)

/-- A request that the table of R32 takes; else the state that shows the refusal, SYS_ERR.BADMODE apart. DEDUCED, log
entry 98. -/
def judgeRequest (t : Nat) (estop : Bool) (s : State) : Option State :=
  let m := s.mode
  if m = Mode.boot ∧ t = Mode.test then
    (if s.on F.SYS_STRAP_BOOT && decide (s.fuses.life < 2) then none else some s)
  else if m = Mode.configure ∧ t = Mode.calibrate then (if s.on F.TRU_LOCK_CAL then some s else none)
  else if m = Mode.calibrate ∧ t = Mode.configure then none
  else if m = Mode.configure ∧ t = Mode.standby then standbyRefused s
  else if m = Mode.standby ∧ (t = Mode.configure ∨ t = Mode.listen ∨ t = Mode.serve) then none
  else if m = Mode.listen ∧ t = Mode.standby then none
  else if m = Mode.serve ∧ t = Mode.drain then (if s.drainOk then none else some (s.flag F.SF_ERR_NOTICE))
  else if m = Mode.drain ∧ t = Mode.serve then (if s.undrainOk then none else some s)
  else if airMode m ∧ t = Mode.standby then (if estop then none else some s)
  else if m = Mode.standby ∧ t = Mode.shadow then
    (if s.tandem && s.get F.TAN_STAT_SYNC == 2 && (s.tan.hb.map (·.own)).getD false then none else some s)
  else if m = Mode.shadow ∧ t = Mode.standby then none
  else some s

/-- A request waits for its tick, or for its condition (R31). One for DRAIN takes ENDSFN (R79); in DRAIN it stands. -/
def pendMode (t : Nat) (estop : Bool) (s : State) : State :=
  let s1 := s.when (t == Mode.drain) fun u => { u with sf := { u.sf with endSfn := u.get F.SF_DRAIN_SFN_SFN } }
  { s1 with modePend := some ⟨t, estop, if tickMode s.mode && tickMode t then s.effectIn else 0⟩ }.flag F.SYS_MODE_TRANS

/-- Leave CALIBRATE for CONFIGURE at once: its RUN is complete or has been aborted (R32). DEDUCED, log entry 98. -/
def calLeave (s : State) : State := if s.mode = Mode.calibrate then changeMode Mode.configure false s else s

/-- CAL_CMD.ABORT by the host ends a RUN and with it CALIBRATE (R32). -/
def calAbortCmd (s : State) : State := if s.cal.run.isSome then calLeave (calAbortOp s) else s

/-- A write of SYS_MODE_REQ. A request that leaves CALIBRATE aborts a RUN in progress (R32). -/
def modeRequestOp (v : Nat) (s : State) : State :=
  let t := bits v 0 4
  let s1 := s.puts [(F.SYS_MODE_REQ_TARGET, t), (F.SYS_MODE_REQ_ESTOP, bits v 4 1)]
  if !bitOf v 5 then s1
  else if s.on F.SYS_MODE_TRANS then s1.flag F.SYS_ERR_BUSY
  else
    match judgeRequest t (bitOf v 4) s1 with
    | some r => r.flag F.SYS_ERR_BADMODE
    | none => pendMode t (airMode s.mode && t == Mode.standby) (s1.when (s.mode == Mode.calibrate) calAbortOp)

/-- SURVEY_END: the survey of LISTEN has run its time. DESIGN CHOICE, log entry 100. -/
def surveyEnd (s : State) : State :=
  if s.mode = Mode.listen ∧ !s.on F.SYS_MODE_TRANS then pendMode Mode.standby false s else s

/-! ## The change itself -/

/-- Carry out a waiting change other than TAKEOVER (R304: STANDBY to SERVE may find the line held). DEDUCED, log entry 98. -/
def runChange (p : ModePend) (s : State) : State :=
  if p.target = Mode.serve ∧ s.mode = Mode.standby ∧ s.ownRefused then
    (({ s with modePend := none }.put F.SYS_MODE_TRANS 0).flag F.SYS_ERR_BADMODE).flag F.TAN_STAT_BADCMD
  else changeMode p.target p.estop s

/-- The moment of a waiting change has come: its condition is met, or its tick is now. DEDUCED, log entry 98. -/
def State.changeDue (s : State) (p : ModePend) : Bool :=
  if p.left = 0 then !(s.mode == Mode.calibrate && s.cal.commit.isSome)
  else p.left == 1 && s.tickRuns && decide (4 * s.slotLen ≤ s.tally.pos + 1)

/-- MODE_CHANGE and EMERGENCY_STOP: a waiting change of its kind takes effect. -/
def modeChangeOp (estop low : Bool) (s : State) : State :=
  match s.modePend with
  | none => s
  | some p =>
    if s.changeDue p && p.estop == estop && p.target != Mode.takeover then runChange p (if s.tandem then sampleLine low s else s)
    else s

/-- What a tick does to a waiting change: one due at this tick takes effect, TAKEOVER apart, which becomes due. -/
def modeTick (low : Bool) (s : State) : State :=
  match s.modePend with
  | none => s
  | some p =>
    if p.left = 0 then s
    else if p.left = 1 ∧ p.target ≠ Mode.takeover then runChange p (if s.tandem then sampleLine low s else s)
    else { s with modePend := some { p with left := p.left - 1 } }

/-- TAKEOVER_ENTRY (R318, R321): at a planned handover the line is sampled first; found held, the chip stays SHADOW.
DEDUCED, log entry 95. -/
def takeoverEntry (low : Bool) (s : State) : State :=
  match s.modePend with
  | none => s
  | some p =>
    if p.target ≠ Mode.takeover ∨ p.left ≠ 0 ∨ s.mode ≠ Mode.shadow then s
    else if !s.tan.tookLine && low then { sampleLine low s with modePend := none }.put F.SYS_MODE_TRANS 0
    else takeoverEntered (changeMode Mode.takeover false s)

/-- The end of DRAIN (R80, R331): slot 0 of ENDSFN + 1 begins. -/
def drainEnd (s : State) : State :=
  if s.mode = Mode.drain ∧ s.tally.slot = 0 ∧ s.tally.sfn = (s.sf.endSfn + 1) % 2 ^ 32 then
    raiseVector 22 (changeMode Mode.standby false s)
  else s

/-- The handover tick (R321): the ACTIVE releases the line and is SHADOW; its partner's TAKEOVER is due. DEDUCED, log
entry 95. -/
def handoverTick (s : State) : State :=
  if !s.handoverNow then s
  else
    let s1 := { s with tan := { s.tan with hoAt := none } }
    if s.get F.TAN_STAT_ROLE = 1 then
      changeMode Mode.shadow false (dropLine (s1.inc (F.TAN_CNT_k_COUNT 6)))
    else if s.mode = Mode.shadow then
      { s1 with modePend := some ⟨Mode.takeover, false, 0⟩ }.flag F.SYS_MODE_TRANS
    else s1

/-! ## SAFE (R39, R40, R42) -/

/-- HANDLER_TMO: the active fault is not acknowledged in time. -/
def handlerTmoOp (s : State) : State :=
  if s.on F.SYS_FAULT_CUR_VALID && !s.faults.safe &&
      decide (s.faults.since + 3200 * max 1 (s.get F.SYS_FAULT_CFG_TMO) ≤ s.tally.clock) then
    raiseSafe FaultCode.handlerTmo 0 s
  else s

/-- SAFE_ENTRY. -/
def safeEntryOp (s : State) : State :=
  if s.faults.wait ≠ .due ∨ s.mode = Mode.reset then s
  else
    let s0 := { s with faults := { s.faults with wait := .none, safeEntered := true, aborted := none } }
    let s1 := laneStop 1 (laneStop 0 (txSafe s0))
    let s2 := dmaSafeStop (ciphWipe (dropLine s1))
    let s3 := enterMode Mode.safe false s2
    let s4 := forDrovers (fun n s => (dueVector n 4 24 s).put (F.DRV_n_STAT_PERS n) 1) s3
    raiseVector 16 (s4.put F.SYS_RSTCAUSE_SAFECODE (s4.get F.SYS_FAULT_CUR_CODE))

/-- The wait of a FENCE at a tick (R316): at the second one the transmitters are turned off and SAFE entry is due. -/
def fenceTick (s : State) : State :=
  match s.faults.wait with
  | .fence k =>
    if k ≤ 1 then laneStop 1 (laneStop 0 (txSafe { s with faults := { s.faults with wait := .due } }))
    else { s with faults := { s.faults with wait := .fence (k - 1) } }
  | _ => s

/-! ## Resets (R34, R35, R203, R395) -/

/-- A register that a whole-chip reset keeps: the real-time clock, and without power-on SYS_RSTCAUSE and SER_REMAP.
DEDUCED, log entry 28. -/
def keptReg (por : Bool) (off : Nat) : Bool :=
  off / 0x10000 == 0x16 || (!por && (off == R.SYS_RSTCAUSE ||
    ((List.range 16).any fun b => (List.range 8).any fun k => off == R.SER_REMAP_b_k b k)))

/-- The store at a reset: zero but for the LOG bay, which only power-on clears. DEDUCED, log entry 28. -/
def keptSerai (por : Bool) (m : Serai) : Serai :=
  if por then Serai.init
  else { Serai.init with
    mem := m.mem.filter fun p => inLog p.1
    poison := m.poison.filter fun g => inLog (16 * g)
    errs := m.errs.filter fun p => inLog (16 * p.1) }

/-- A whole-chip reset begins: every source holds the block in RESET until it is released. DEDUCED, log entry 28.
DEDUCED, log entry 29. DESIGN CHOICE, log entry 97. -/
def wholeReset (por : Bool) (cause : Field) (s : State) : State :=
  let safe := s.mode == Mode.safe
  let c := rbumpCut s
  let r := { State.reset with
    pending := c.pending, regs := c.regs.filter fun p => keptReg por p.1, ser := keptSerai por c.ser,
    faults := { Faults.init with log := if por then [] else c.faults.log },
    tally := { Tally.init with clock := c.tally.clock }, straps := c.straps, rtc := c.rtc,
    fls := { Fls.init with words := c.fls.words }, fuses := c.fuses, out := c.out, free := c.free,
    tan := { Tan.init with partnerLow := c.tan.partnerLow }
    car := { Car.init with owesReturn := !por && cause == F.SYS_RSTCAUSE_CARAVAN } }
  if por then r else (r.flag cause).when safe (·.flag F.SYS_RSTCAUSE_FROMSAFE)

/-- A write of SYS_RESET. -/
def softResetOp (v : Nat) (s : State) : State :=
  if bits v 0 16 = 0x6A3C then wholeReset false F.SYS_RSTCAUSE_SOFT s else s.flag F.SYS_ERR_BADKEY

/-- RESET_RELEASE: the straps are latched with the overrides of the option area, and the erase journal is read (R35). An
effective STRAP_HOST of 0b11 shows as 0 (DESIGN CHOICE, log entry 119). DESIGN CHOICE, log entry 1. -/
def resetReleaseOp (pins : Straps) (s : State) : State :=
  if s.rst ≠ .held then s
  else
    let s1 := flsScan { s with rst := .running, straps := pins }
    let r := s1.strapRec
    let host := r.1.host.getD pins.host
    s1.puts [(F.SYS_STRAP_HOST, if host = 3 then 0 else host), (F.SYS_STRAP_BOOT, r.1.boot.getD (b2n pins.boot)),
      (F.SYS_STRAP_TANDEM, r.1.tandem.getD (b2n pins.tandem)), (F.SYS_STRAP_PIN_HOST, pins.host),
      (F.SYS_STRAP_PIN_BOOT, b2n pins.boot), (F.SYS_STRAP_PIN_TANDEM, b2n pins.tandem),
      (F.SYS_STRAP_OVR, b2n r.1.host.isSome + 2 * b2n r.1.boot.isSome + 4 * b2n r.1.tandem.isSome),
      (F.TAN_CFG_ROLEDEF, r.1.roledef), (F.FLS_STAT_OPTBAD, b2n r.2)]

/-- RESET_SEQUENCE_COMPLETE: BOOT, with Drover 0 released into the boot ROM in recovery decode. -/
def resetCompleteOp (s : State) : State :=
  if s.rst ≠ .running then s
  else
    let s1 := trustBoot { s with rst := .done }
    s1.puts [(F.SYS_MODE_MODE_CUR, Mode.boot), (F.DRV_n_STAT_STATE 0, stRun)]

/-! ## Secure boot (R354, R367, R379, R399) -/

/-- Step 7: the image starts, which changes the mode to CONFIGURE; Drover 0 enters its active bank at START (R208). -/
def startImage (img : List Byte) (s : State) : State := startDrover 0 (changeMode Mode.configure false (bootShow img s))

/-- The boot ROM's first steps: the calibration records and the lease records. -/
def bootBegin (s : State) : State := cellToLease (leaseScan (calBoot { s with tru := { s.tru with booted := true } }))

/-- The steps that look for an image and start it. -/
def bootLoad (host : List Byte) (s : State) : State :=
  if s.fuses.life = Life.blank ∨ s.fuses.life = Life.retired ∨ !s.on F.TRU_STAT_OWNPUBOK then s
  else
    let r := if s.on F.SYS_STRAP_BOOT then bootHost host s else bootFlash s
    match r.1 with
    | some img => startImage img r.2
    | none => r.2

/-- SECURE_BOOT: the steps of the boot ROM. `noise` says that the start-up test fails, `host` is the image that the host
streams when STRAP_BOOT is 1. -/
def secureBootOp (noise : Bool) (host : List Byte) (s : State) : State :=
  if s.mode ≠ Mode.boot ∨ s.tru.booted then s
  else if noise then noiseFail (bootBegin s)
  else bootLoad host (drawNonce (burnIdentity (fillPools ((bootBegin s).flag F.TRU_STAT_DRBGOK))))

end Sys2Proof.Machine
end

