-- ==== Sys2Proof/Machine/HostIf.lean ====
section
/-!
DEFINITION. The host interfaces (18_host.md, R325 to R344): the MSI-X table, PERSTN and Function Level Reset, and the host
rings.
-/

namespace Sys2Proof.Machine

/-! ## MSI-X (R327, R332, R343) -/

/-- Send the message of every pending entry that nothing masks. -/
def msixFlush (s : State) : State :=
  if !s.on F.HST_LINK_MSIXEN || s.on F.HST_LINK_FMASK then s
  else
    (List.finRange 64).foldl (fun s v =>
      if s.ep.pba.contains v.val && !s.ep.msix[v].masked then
        ({ s with ep := { s.ep with pba := ndel v s.ep.pba } }.emit (.msix v)).inc (F.HST_CNT_k_COUNT 2)
      else s) s

/-- Word `w` of a table entry: address, data and vector control. -/
def MsixEntry.word (e : MsixEntry) (w : Nat) : Nat :=
  if w = 0 then e.addrLo else if w = 1 then e.addrHi else if w = 2 then e.data else b2n e.masked

/-- A table entry with word `w` written. -/
def MsixEntry.setWord (e : MsixEntry) (w v : Nat) : MsixEntry :=
  if w = 0 then { e with addrLo := v } else if w = 1 then { e with addrHi := v }
  else if w = 2 then { e with data := v } else { e with masked := bitOf v 0 }

/-- A host write to the MSI-X table. -/
def msixWrite (e : Fin 64) (w v : Nat) (s : State) : State :=
  msixFlush { s with ep := { s.ep with msix := s.ep.msix.set e (s.ep.msix[e].setWord w v) } }

/-- MSIX_UNMASK: the host unmasks an entry, or the function. -/
def msixUnmask (e : Option (Fin 64)) (s : State) : State :=
  match e with
  | some k => msixWrite k 3 0 s
  | none => msixFlush (s.put F.HST_LINK_FMASK 0)

/-- A host write of the Message Control word: bit 15 enables MSI-X, bit 14 masks the function (PRESUMED, log entry 46). -/
def msixControl (v : Nat) (s : State) : State :=
  msixFlush (s.puts [(F.HST_LINK_MSIXEN, bits v 15 1), (F.HST_LINK_FMASK, bits v 14 1)])

/-- PERSTN and Function Level Reset (R326, R329, R343): the table, the pending bits and the link state are cleared, and the
link trains anew; with STRAP_HOST 0b01 it stays down. -/
def endpointReset (speed width : Nat) (s : State) : State :=
  let up := s.get F.SYS_STRAP_HOST != 1
  { s with ep := Endpoint.init }.puts [(F.HST_LINK_SPEED, if up then speed else 0), (F.HST_LINK_WIDTH, if up then width else 0),
    (F.HST_LINK_MSIXEN, 0), (F.HST_LINK_FMASK, 0)]

/-! ## Host rings (R335 to R337) -/

/-- How far a doorbell of ring `r` may move HOST: to the entries that DEV has given it. -/
def State.ringRoom (s : State) (r : Nat) : Nat :=
  let n := max 1 (s.get (F.HST_RING_r_LEN r))
  let dev := s.get (F.HST_RING_r_DEV r)
  let host := s.get (F.HST_RING_r_HOST r)
  if s.get (F.HST_RING_r_DIR r) = 0 then (dev + n - host) % n else n - 1 - (host + n - dev) % n

/-- A doorbell of ring `r` with index `v` (R335). HST_CNT_0 counts every doorbell, refused or not (DEDUCED, log entry 47).
DEDUCED, log entry 78. -/
def doorbell (r v : Nat) (s : State) : State :=
  let n := s.get (F.HST_RING_r_LEN r)
  let s1 := s.inc (F.HST_CNT_k_COUNT 0)
  if n ≤ v ∨ s.ringRoom r < (v + n - s.get (F.HST_RING_r_HOST r)) % n then
    (s1.flag F.HST_STAT_BADDB).inc (F.HST_CNT_k_COUNT 1)
  else
    let d := s.get (F.HST_RING_r_DROVER r)
    (s1.put (F.HST_RING_r_HOST r) v).when (decide (d < 12)) (evin d 8)

/-- A write by Drover `d` of the DEV index of ring `r` (R336, R454): it waits behind the Drover's Serai writes that are not
visible yet. DEDUCED, log entry 155. -/
def devWrite (d : Fin 12) (r : Fin 16) (v : Nat) (s : State) : State :=
  if s.get (F.HST_RING_r_LEN r) ≤ v then s.flag F.SYS_ERR_RINGIDX
  else afterWrites d (.dev r) v s

/-- A ring of `n` entries at `base` lies within the HOST bay (R337). -/
def State.ringInBay (s : State) (base n : Nat) : Bool :=
  decide (s.bayBase Bay.host ≤ base) && decide (base + 64 * n ≤ s.bayBase Bay.host + s.baySize Bay.host) && base % 64 == 0

/-- A write of word `v` to the HST register at `off` is in range (R337, R344). DEDUCED, log entry 78. -/
def hstRange (off v : Nat) (s : State) : Bool :=
  if off = R.HST_ALLOW then s.inBay Bay.host (bits v 0 25) && bits v 0 25 % 64 == 0
  else if off = R.HST_ALLOWN then decide (bits v 0 14 ≤ 8192)
  else if 0x100100 ≤ off ∧ off < 0x100200 then
    let r := (off - 0x100100) / 16
    if off % 16 = 0 then s.ringInBay (bits v 0 25) (s.get (F.HST_RING_r_LEN r))
    else if off % 16 = 4 then s.ringInBay (s.get (F.HST_RING_r_BASE r)) (bits v 0 16)
    else true
  else true

/-- HST_CTL.CLRCNT. -/
def hstClear (s : State) : State := forN 6 (fun k s => s.put (F.HST_CNT_k_COUNT k) 0) s

end Sys2Proof.Machine
end

