-- ==== Sys2Proof/Machine/RegRead.lean ====
section
/-!
DEFINITION. What a read of a device register returns: the stored word, with the fields that the chip computes at the
moment of the read (R9, R28), and the reads that change state.
-/

namespace Sys2Proof.Machine

/-- The syllable that DRV_n_IADDR names (R223). -/
def iword (n : Fin 12) (s : State) : Nat :=
  let bank := (s.get (F.DRV_n_STAT_BANK n) + s.get (F.DRV_n_IADDR_BANK n)) % 2
  let d := s.drovers[n]
  (sget (fun _ => (0 : BitVec 64)) (if bank = 0 then d.bank0 else d.bank1) (s.get (F.DRV_n_IADDR_ADDR n))).toNat

/-- The four bytes that DRV_n_LADDR names (R223). -/
def lword (n : Fin 12) (s : State) : Nat :=
  let a := s.get (F.DRV_n_LADDR_ADDR n) / 4 * 4
  leNat ((List.range 4).map fun i => localByte n (a + i) s)

/-- A fixed-function writer is programming the flash (FLS_STAT.HWBUSY). DEDUCED, log entry 69. -/
def State.hwBusy (s : State) : Bool :=
  s.sec.leases.any (fun l => !l.flashOk && !l.retry) || !s.sec.persist.isEmpty || s.cal.commit.isSome

/-- A DRV register's read (R223): instruction and local data read zero where debug is locked. -/
def drvRead (off : Nat) (s : State) : Option Nat :=
  if h : 0xA0100 ≤ off ∧ off < 0xA0400 then
    let n : Fin 12 := ⟨(off - 0xA0100) / 64, by omega⟩
    let o := (off - 0xA0100) % 64
    if o = 0x2C then some (if s.debugLocked then 0 else lword n s)
    else if o = 0x34 then some (if s.debugLocked then 0 else iword n s % 2 ^ 32)
    else if o = 0x38 then some (if s.debugLocked then 0 else iword n s / 2 ^ 32)
    else none
  else none

/-- The number a BBL register shows of the phase model (R183): PHASE as it stands at the read. -/
def bblRead (off : Nat) (s : State) : Option Nat :=
  if off = R.BBL_l_PHASE 0 then some (ofSigned 24 (s.phaseNow 0).round)
  else if off = R.BBL_l_PHASE 1 then some (ofSigned 24 (s.phaseNow 1).round)
  else none

/-- A register whose fields the chip computes at the read: the whole word. DEDUCED, log entry 69. -/
def computedWord (off w : Nat) (s : State) : Option Nat :=
  if off = R.TICK_LIVE then some s.tally.pos
  else if off = R.MAN_SLOT_n 0 then some (slotBase 0)
  else if off = R.MAN_SLOT_n 1 then some (slotBase 1)
  else if off = R.SF_STAT then
    some (setBits (setBits (setBits w 2 1 (b2n (s.mode == Mode.drain))) 4 4 (s.bspan false)) 8 4 (s.bspan true))
  else if off = R.FTX_STAT then some (setBits w 0 4 s.txPend)
  else if 0x500D0 ≤ off ∧ off < 0x500E0 then some (s.airUs ((off - 0x500D0) / 4))
  else if off = R.NT_LOST then some (s.ntLostCount % 2 ^ 15)
  else if off = R.SEC_STAT then some (setBits w 5 1 (b2n (!s.ftx.held.isEmpty)))
  else if off = R.SEC_BCNKEY then some (s.get (F.CIPH_KR_k_KEYIDX 0) + 256 * s.get (F.CIPH_KR_k_VALID 0))
  else if off = R.SEC_JSEQ then
    some (s.get F.TAN_JSEQ_SENT_JSEQ % 2 ^ 16 + 2 ^ 16 * (s.get F.TAN_JSEQ_CONF_JSEQ % 2 ^ 16))
  else if off = R.DMA_STAT then some (setBits w 4 1 (b2n s.dmaIdle))
  else if 0xD0100 ≤ off ∧ off < 0xD0500 ∧ off % 64 = 0xC then some (setBits w 16 7 (s.dmaHeld ((off - 0xD0100) / 64)))
  else if off = R.HST_PCIID then some (Config.vendorId % 2 ^ 16 + 2 ^ 16 * 0x0812)
  else if off = R.UPD_ERR then some (setBits w 8 8 s.updCond)
  else if 0x120040 ≤ off ∧ off < 0x120070 then
    let n := (off - 0x120040) / 4
    let h := s.hof n (s.get (F.DRV_n_STAT_BANK n))
    some (h.1 % 2 ^ 16 + 2 ^ 16 * (h.2 % 2 ^ 16))
  else if off = R.FLS_STAT then some (setBits w 1 1 (b2n s.hwBusy))
  else if off = R.TMR_STAT then
    some (setBits w 0 16 ((List.range 16).foldl (fun a n => a + s.get (F.TMR_n_STAT_RUN n) * 2 ^ n) 0))
  else if off / 0x10000 = 0xA then drvRead off s
  else if off / 0x10000 = 8 then bblRead off s
  else if off / 0x10000 = 0xF ∧ !s.tandem then
    some (if off = R.TAN_STAT then setBits (resetWord off).toNat F.TAN_STAT_ROLE.lo F.TAN_STAT_ROLE.w 0
      else if off = R.TAN_CFG then
        setBits (resetWord off).toNat F.TAN_CFG_ROLEDEF.lo F.TAN_CFG_ROLEDEF.w (s.get F.TAN_CFG_ROLEDEF)
      else (resetWord off).toNat)
  else none

/-- The word a read of the register at `off` returns; a place without a register reads zero. DESIGN CHOICE, log entry 9. -/
def readWord (off : Nat) (s : State) : Word :=
  match fieldsAt off with
  | none => 0
  | some _ => BitVec.ofNat 32 ((computedWord off (s.reg off).toNat s).getD (s.reg off).toNat)

/-- Step DRV_n_LADDR after an access to DRV_n_LDATA. -/
def ladvance (n : Nat) (s : State) : State :=
  if s.on (F.DRV_n_LADDR_INC n) then s.put (F.DRV_n_LADDR_ADDR n) ((s.get (F.DRV_n_LADDR_ADDR n) + 4) % 2 ^ 15) else s

/-- What a read does to the state: FIFO and window reads, random words and local access. -/
def readEffect (off : Nat) (s : State) : State :=
  if off = R.SPI_i_RXD 0 then spiRxd 0 s
  else if off = R.SPI_i_RXD 1 then spiRxd 1 s
  else if off = R.SPI_MW_DATA then mwRead none s
  else if off = R.TRU_RAND then randRead s
  else if 0xA0100 ≤ off ∧ off < 0xA0400 then
    let o := (off - 0xA0100) % 64
    let n := (off - 0xA0100) / 64
    if o = 0x2C ∨ o = 0x34 ∨ o = 0x38 then
      if s.debugLocked then s.flag F.DRV_STAT_DBGLOCK else s.when (o == 0x2C) (ladvance n)
    else s
  else s

/-- A read: the word and the state after. The window and the registers that a read fills show what this read brought. -/
def readReg (off : Nat) (s : State) : Word × State :=
  let pre := off / 0x10000 == 0xA
  let t := readEffect off s
  (if pre then readWord off s else readWord off t, t)

end Sys2Proof.Machine
end

