-- ==== Sys2Proof/Machine/RegWrite.lean ====
section
/-!
DEFINITION. Writes of device registers by host software, a Drover or the lead (R9 to R13, R33, R310, R453, R454): the
access classes, the ranges of each block, the command registers, and the REG records of a Tandem.
-/

namespace Sys2Proof.Machine

/-! ## Ranges -/

/-- The 25-bit Serai byte offset at bit 0 of a word lies in the store (10_serai.md). -/
def offsetOk (v : Nat) : Bool := decide (bits v 0 25 < serSize)

/-- The register holds a Serai byte offset at bit 0: its BASE, BUF or OFFSET field. -/
def holdsOffset (off : Nat) : Bool := ((fieldsAt off).getD []).any fun f => f.lo == 0 && f.w == 25

/-- A CIPH register's range (R254): the limits only fall. -/
def ciphRange (off v : Nat) (s : State) : Bool :=
  if off = R.CIPH_CFG then decide (1 ≤ bits v 0 8)
  else if off = R.CIPH_LIMIT_SESS then decide (1 ≤ v) && decide (v ≤ s.get F.CIPH_LIMIT_SESS_LIMIT)
  else if off = R.CIPH_LIMIT_JOIN then decide (1 ≤ v) && decide (v ≤ s.get F.CIPH_LIMIT_JOIN_LIMIT)
  else if 0xB0040 ≤ off ∧ off < 0xB0080 ∧ off % 16 = 0 then bits v 0 25 % 32 == 0
  else true

/-- An SHP register's range (R268). -/
def shpRange (off v : Nat) : Bool :=
  if off = R.SHP_NODEPOL then decide (2048 ≤ bits v 16 16)
  else if off = R.SHP_RING_j_0 0 ∨ off = R.SHP_RING_j_0 1 then bits v 0 25 % 32 == 0
  else if 0xC0040 ≤ off ∧ off < 0xC0140 then
    let n := (off - 0xC0040) / 16
    if off % 16 = 4 then decide (2048 ≤ bits v 0 24)
    else if off % 16 = 8 ∧ n < 8 then decide (bits v 0 16 ≤ bits v 16 16)
    else if off % 16 = 12 then decide (1 ≤ bits v 0 12)
    else true
  else true

/-- A DMA register's range (R270). -/
def dmaRange (off v : Nat) : Bool :=
  if 0xD0100 ≤ off ∧ off < 0xD0500 then
    if off % 64 = 0 then decide (1 ≤ bits v 2 7) && decide (bits v 2 7 ≤ 64)
    else if off % 64 = 4 then bits v 0 25 % 32 == 0
    else true
  else true

/-- An FLS or CAL register's range (R403). -/
def flsRange (off v : Nat) : Bool :=
  if off = R.FLS_ADDR then bits v 0 23 % 16 == 0
  else if off = R.FLS_SER ∨ off = R.CAL_SER then bits v 0 25 % 16 == 0
  else if off = R.FLS_LEN then decide (16 ≤ bits v 0 13) && decide (bits v 0 13 ≤ 4096) && bits v 0 13 % 16 == 0
  else true

/-- An event channel word names known codes and an owner that exists (R438). -/
def evtRange (off v : Nat) : Bool :=
  if 0x170100 ≤ off ∧ off < 0x170300 then
    if off % 8 = 0 then knownProducer (bits v 0 16) && (consumerOf (bits v 16 16)).isSome
    else decide (bits v 8 4 < 12) || bits v 8 4 == 15
  else true

/-- A BBL register's range, with the lane's own GMAX and TXOFF (R191). -/
def laneRange (off v : Nat) (s : State) : Bool :=
  let l := if off < 0x80200 then 0 else 1
  bblRange off v (s.get (F.BBL_l_GUARD_GMAX l)) (s.get (F.BBL_l_TMPL_TXOFF l))

/-- The flag that a write out of range sets, none where the write is in range (R12). DEDUCED, log entry 80. -/
def rangeFlag (off v : Nat) (s : State) : Option Field :=
  let bad (ok : Bool) (f : Field) : Option Field := if ok && (!holdsOffset off || offsetOk v) then none else some f
  match off / 0x10000 with
  | 0x3 => bad (sfRange off v) F.SF_ERR_BADVAL
  | 0x5 => bad (ftxRange off v) F.FTX_STAT_BADVAL
  | 0x8 => bad (laneRange off v s) F.BBL_STAT_BADVAL
  | 0xB => bad (ciphRange off v s) F.CIPH_STAT_BADVAL
  | 0xC => bad (shpRange off v) F.SHP_STAT_BADVAL
  | 0xD => bad (dmaRange off v) F.DMA_STAT_BADVAL
  | 0xE => bad (carRange off v) F.CAR_STAT_BADVAL
  | 0xF => bad (tanRange off v s) F.TAN_STAT_BADVAL
  | 0x10 => bad (hstRange off v s) F.HST_STAT_BADVAL
  | 0x11 => bad (truRange off v) F.TRU_STAT_BADVAL
  | 0x12 => bad (updRange off v) F.UPD_STAT_BADVAL
  | 0x13 => bad (flsRange off v) F.FLS_STAT_BADVAL
  | 0x14 => bad (flsRange off v) F.CAL_STAT_BADVAL
  | 0x15 => bad (tmrRange off v) F.TMR_STAT_BADVAL
  | 0x16 => bad (rtcRange off v) F.RTC_STAT_BADVAL
  | 0x17 => bad (evtRange off v) F.EVT_STAT_BADVAL
  | 0x18 => bad (spiRange off v) (F.SPI_i_STAT_BADVAL (if off < 0x180200 then 0 else 1))
  | _ => none

/-! ## The access classes (R9, R11, R13, R453) -/

/-- The block, unit, channel or port that holds the register runs (R13). -/
def State.runs (s : State) (off : Nat) : Bool :=
  match off / 0x10000 with
  | 1 | 3 | 5 | 6 | 7 | 8 | 0xC | 0xF | 0x10 => s.tickRuns
  | 4 => rxMode s.mode
  | 0xB => s.get (F.CIPH_u_CLAIM_OWNER ((off - 0xB0040) / 16 % 4)) != 0xF
  | 0x15 => s.on (F.TMR_n_STAT_RUN ((off - 0x150100) / 32))
  | 0x18 => s.on (F.SPI_i_CFG_EN ((off - 0x180100) / 256))
  | _ => false

/-- The boundary of an RW-S field (R22, R457). -/
def boundaryOf (off : Nat) : Boundary := if off = R.SF_BCN ∨ off = R.SF_JOIN then .lastSlot else .superframe

/-- A field of the word `v` written under its class; an RW-F field keeps its value while the block runs. -/
def writeField (off v : Nat) (owner : Option Nat) (runs : Bool) (s : State) (f : FieldSpec) : State :=
  let g : Field := ⟨off, f.lo, f.w⟩
  let x := bits v f.lo f.w
  match f.acc with
  | .ro | .wc => s
  | .rwl => s.put g x
  | .rwt => stage g x .tick owner s
  | .rws => stage g x (boundaryOf off) owner s
  | .rwf => if runs then s else s.put g x
  | .w1c => s.put g (s.get g - (s.get g &&& x))

/-- An RW-F field of a running block is written with another value. -/
def frozenWrite (off v : Nat) (fs : List FieldSpec) (s : State) : Bool :=
  s.runs off && fs.any fun f => f.acc == .rwf && bits v f.lo f.w != s.get ⟨off, f.lo, f.w⟩

/-- A write of the fields `fs` of a register. -/
def writeFields (off v : Nat) (owner : Option Nat) (fs : List FieldSpec) (s : State) : State :=
  fs.foldl (writeField off v owner (s.runs off)) (s.when (frozenWrite off v fs s) (·.flag F.SYS_ERR_FROZENWR))

/-! ## The journal (R307, R310) -/

/-- The LEN field of the ring whose index `off` holds (R454). -/
def ringLen (off : Nat) : Option Field :=
  let at_ (base n w : Nat) : Bool := decide (base ≤ off) && decide (off < base + 16 * n) && off % 16 == (base + 4 * w) % 16
  if at_ 0x40100 2 2 || at_ 0x50060 2 2 || at_ 0x60020 2 2 || at_ 0x70030 2 2 || at_ 0xC0010 2 2 || at_ 0xB0040 4 2 ||
      at_ 0x80130 1 2 || at_ 0x80230 1 2 || at_ 0x100100 16 2 then some ⟨off - 4, 0, 16⟩
  else if at_ 0x40200 12 3 then some ⟨off - 8, 0, 16⟩
  else none

/-- A field whose changes the ACTIVE journals. DEDUCED, log entry 48. -/
def journalled (off : Nat) (f : FieldSpec) : Bool :=
  let b := off / 0x10000
  (b == 3 || b == 4 || b == 5 || b == 6 || b == 7 || b == 8 || b == 0xC) && (ringLen off).isNone &&
    (f.acc == .rwl || f.acc == .rwt || f.acc == .rws || (f.acc == .wc && off % 0x10000 != 0))

/-- A journalled field takes a change from the word `v`: staged writes and commands always do (DEDUCED, log entry 48). -/
def changes (off v : Nat) (s : State) (f : FieldSpec) : Bool :=
  journalled off f &&
    (match f.acc with
    | .rwl => bits v f.lo f.w != s.get ⟨off, f.lo, f.w⟩
    | .wc => bits v f.lo f.w != 0
    | _ => true)

/-! ## Command registers -/

/-- The writer as the owner of what it stages (R456): host writes belong to no Drover. -/
def ownerOf : Writer → Option Nat
  | .drover n => some n
  | _ => none

/-- Do `f` where bit `i` of `v` is 1. -/
def onBit (v i : Nat) (f : State → State) (s : State) : State := if bitOf v i then f s else s

/-- SYS command registers. -/
def sysWrite (off v : Nat) (s : State) : State :=
  if off = R.SYS_MODE_REQ then modeRequestOp v s
  else if off = R.SYS_RESET then softResetOp v s
  else if off = R.SYS_FAULT_ACK then onBit v 0 ackFault s
  else if off = R.SYS_FAULT_CFG then
    onBit v 16 (·.setReg R.SYS_FAULT_LOST 0) (s.puts [(F.SYS_FAULT_CFG_TMO, bits v 0 8), (F.SYS_FAULT_CFG_ESCAL, bits v 8 8)])
  else s

/-- TICK command registers. A seal comes from a Drover; a host write of TICK_SEAL seals nothing (DEDUCED, log entry 49). -/
def tickWrite (who : Writer) (off v : Nat) (s : State) : State :=
  if off = R.TICK_TRIM then trimWrite (bits v 0 24) s
  else if off = R.TICK_SLEW then slewRequest (toSigned 24 v) s
  else if off = R.TICK_CAPTURE then onBit v 0 (captureTally (captureBank who)) s
  else if off = R.TICK_SEAL then
    match who with
    | .drover n => sealWrite n (bits v 0 8) (bitOf v 8) s
    | _ => s
  else onBit v 0 tickLoadGo s

/-- TICK_CTL: SRC and CLRCNT (R16). -/
def tickCtl (v : Nat) (s : State) : State :=
  let was := s.tickSrc
  let s1 := writeFields R.TICK_CTL v none [⟨0, 2, .rwf, 0⟩] s
  onBit v 2 tickClear (if s1.tickSrc = was then s1 else newSrc s1)

/-- MAN_LOAD and MAN_SWITCH. -/
def manWrite (off v : Nat) (s : State) : State :=
  if off = R.MAN_LOAD then onBit v 2 manDiscardOp (onBit v 1 manActivateOp (onBit v 0 manCheckOp s))
  else onBit v 1 manSwitchCancelOp (onBit v 0 manSwitchArmOp s)

/-- SER_SPARECMD.GO (R202, R203): a row that is spared already or does not exist, or a bank without a free spare, is
refused. DEDUCED, log entry 70. -/
def spareCmd (s : State) : State :=
  let b := s.get F.SER_SPARECMD_BANK
  let r := s.get F.SER_SPARECMD_ROW
  if 1535 < r ∨ s.rowSpared b r ∨ ((List.range 8).all fun k => s.spareUsed b k) then s.flag F.SER_STAT_SPAREBAD
  else spareStart b r s

/-- DRV registers of Drover `n` at `o` (R220, R222, R223). DEDUCED, log entry 70. -/
def drvWrite (n : Fin 12) (o v : Nat) (s : State) : State :=
  if o = 0 then
    let s1 := s.put (F.DRV_n_CTL_BRKEN n) (bits v 3 1)
    let step := fun t : State =>
      if t.debugLocked then t.flag F.DRV_STAT_DBGLOCK
      else if t.get (F.DRV_n_STAT_STATE n) ≠ stHalted then t.flag F.DRV_STAT_BADCMD
      else t.modDrv n fun d => { d with step := true }
    onBit v 2 step (onBit v 1 (drvResumeOp n) (onBit v 0 (drvHaltOp n) s1))
  else if o = 0x20 then onBit v 1 (switchCancel n) (onBit v 0 (switchArm n) s)
  else if o = 0x2C then
    let st := s.get (F.DRV_n_STAT_STATE n)
    if s.debugLocked then s.flag F.DRV_STAT_DBGLOCK
    else if st = stRun ∨ st = stWait then s.flag F.DRV_STAT_RUNWR
    else
      let a := s.get (F.DRV_n_LADDR_ADDR n) / 4 * 4
      ladvance n (forAll (List.range 4) (fun i s => setLocalByte n (a + i) (BitVec.ofNat 8 (v / 256 ^ i)) s) s)
  else s

/-- CIPH_u_CLAIM (R240): claims and drops come from Drovers. -/
def claimWrite (who : Writer) (u : Fin 4) (v : Nat) (s : State) : State :=
  match who with
  | .drover n => onBit v 5 (ciphDrop u n) (onBit v 4 (ciphClaim u n) s)
  | _ => s

/-- The channel of a DMA register, where its writer owns it and the block serves (R269, R270). DEDUCED, log entry 71. -/
def dmaWrite (who : Writer) (n : Fin 16) (o v : Nat) (s : State) : State :=
  if 8 < o ∨ (o = 8 ∧ !s.dmaServes) then s
  else if !s.dmaOwned n who then s.flag F.DMA_STAT_NOTOWNER
  else if o = 8 then onBit v 2 (dmaStopOp n) (onBit v 1 (dmaResumeOp n) (onBit v 0 (dmaGoOp n) s))
  else if !(dmaRange (0xD0100 + 64 * n + o) v && (o != 4 || offsetOk v)) then s.flag F.DMA_STAT_BADVAL
  else if o = 0 then s.puts [(F.DMA_n_CFG_PRIO n, bits v 0 2), (F.DMA_n_CFG_LINES n, bits v 2 7)]
  else if o = 4 then s.put (F.DMA_n_HEAD_OFFSET n) (bits v 0 25)
  else s

/-- CAR_CMD.RESET (R295): the lead resets the chips of the first wave, itself among them. -/
def carResetCmd (s : State) : State :=
  let t := carResetOp s
  if s.isLead ∧ !s.on F.CAR_STAT_RWAVE ∧ bitOf t.car.wave (s.get F.CAR_STAT_INDEX) then
    wholeReset false F.SYS_RSTCAUSE_CARAVAN t
  else t

/-- RESET_WAVE_2 (R295): the lead resets the chips of the second wave, itself among them. -/
def resetWave2Cmd (s : State) : State :=
  let t := resetWave2 s
  if s.get F.CAR_STAT_RWAVE = 1 ∧ t.get F.CAR_STAT_RWAVE = 2 ∧ bitOf t.car.wave (s.get F.CAR_STAT_INDEX) then
    wholeReset false F.SYS_RSTCAUSE_CARAVAN t
  else t

/-- CAR_CMD. -/
def carWrite (v : Nat) (s : State) : State :=
  onBit v 4 carImageOp (onBit v 3 carAbortOp (onBit v 2 carResetCmd (onBit v 1 carSnapOp (onBit v 0 carEnum s))))

/-- TAN_CMD. Whether the partner holds the same Manifest and mirror setting is not in this chip: a free value here, an
operand of the row TAN_JOIN. DESIGN CHOICE, log entry 72. -/
def tanWrite (v : Nat) (s : State) : State :=
  let join := fun t : State =>
    let r := t.fresh 2
    tanJoin false (r.1 == 1) r.2
  onBit v 3 tanFetch (onBit v 2 replayDone (onBit v 1 tanHandover (onBit v 0 join s)))

/-- TRU commands. -/
def truWrite (off v : Nat) (s : State) : State :=
  if off = R.TRU_LOCKSET then updWatch (lockSet v s)
  else onBit v 3 rbumpOp (onBit v 2 setpubOp (onBit v 1 claimOp (onBit v 0 ownerGo s)))

/-- UPD commands. -/
def updWrite (off v : Nat) (s : State) : State :=
  if off = R.UPD_CTL then onBit v 1 (updAbort 0x11) (onBit v 0 updClear s)
  else onBit v 2 updFinish (onBit v 1 updChunk (onBit v 0 updHeader s))

/-- FLS_CMD. -/
def flsWrite (v : Nat) (s : State) : State :=
  onBit v 5 flsOptwriteOp (onBit v 4 flsResumeOp (onBit v 3 flsSuspendOp (onBit v 2 flsEraseOp (onBit v 1 flsProgramOp
    (onBit v 0 (flsReadOp (bitOf v 6)) s)))))

/-- CAL_CMD. -/
def calWrite (v : Nat) (s : State) : State := onBit v 2 calCommitOp (onBit v 1 calAbortCmd (onBit v 0 calRunOp s))

/-- TMR command registers and the registers whose write may fire an event. -/
def tmrWrite (off v : Nat) (fs : List FieldSpec) (s : State) : State :=
  let n := (off - 0x150100) / 32
  if off = R.TMR_START then tmrStartOp (bits v 0 16) (bitOf v 16) s
  else if off = R.TMR_STOP then tmrStopOp (bits v 0 16) s
  else if off % 32 = 8 ∧ 0x150100 ≤ off then tmrPeriodWrite n v s
  else if off % 32 = 12 ∧ 0x150100 ≤ off then tmrCmpWrite n v s
  else if off % 32 = 24 ∧ 0x150100 ≤ off then onBit v 0 (tmrCapture n) s
  else writeFields off v none fs s

/-- RTC registers (R412 to R416). -/
def rtcWrite (off v : Nat) (fs : List FieldSpec) (s : State) : State :=
  if off = R.RTC_CAPTURE then onBit v 0 rtcCaptureOp s
  else if off = R.RTC_STG_DATE ∨ off = R.RTC_STG_HM then
    if s.on F.RTC_STAT_SETBUSY then s.flag F.RTC_STAT_BUSYWR else writeFields off v none fs s
  else if off = R.RTC_STG_SEC then rtcCommitOp (bits v 0 7) s
  else if off = R.RTC_ALARM_TIME ∨ off = R.RTC_ALARM_DATE ∨ off = R.RTC_ALARM_CTL then rtcMark (writeFields off v none fs s)
  else if off = R.RTC_WAKE then rtcWakeWrite (bits v 0 25) s
  else if off = R.RTC_STAT then
    (writeFields off v none fs s).when (bitOf v 4) (·.put F.RTC_STAT_WAKECNT 0)
  else writeFields off v none fs s

/-- A channel's configuration (R422, R427, R428, R438). DEDUCED, log entry 71. -/
def chanWrite (who : Writer) (c : Fin 64) (w v : Nat) (fs : List FieldSpec) (s : State) : State :=
  let off := 0x170100 + 8 * c + 4 * w
  if s.on (F.EVT_CH_c_LOCKED c) then s.flag F.EVT_STAT_LOCKWR
  else if s.on F.EVT_CTL_CN404 && s.get (F.EVT_CH_c_OWNER c) != writerNo who then s.flag F.EVT_STAT_OWNWR
  else if !evtRange off v then s.flag F.EVT_STAT_BADVAL
  else if w = 0 then (if s.on (F.EVT_CH_c_STANDING c) then s else writeFields off v none fs s)
  else onBit v 2 (·.flag (F.EVT_CH_c_LOCKED c)) (writeFields off v none fs s)

/-- EVT_CTL.CLRCNT. -/
def evtClear (s : State) : State :=
  (forN 64 (fun c s => s.setReg (R.EVT_CNT_c c) 0) s).put F.EVT_LOOP_COUNT 0

/-- SPI registers (R430 to R438). -/
def spiWrite (off v : Nat) (fs : List FieldSpec) (s : State) : State :=
  if off = R.SPI_MW_CFG then onBit v 2 mwInval (writeFields off v none fs s)
  else if off = R.SPI_MW_DATA then s.flag (F.SPI_i_STAT_MWWR 0)
  else if off < 0x180100 then writeFields off v none fs s
  else
    let i : Fin 2 := if off < 0x180200 then 0 else 1
    if s.spiHost i then s
    else if off % 256 = 8 then onBit v 1 (spiFlush i) (onBit v 0 (spiGo i []) s)
    else if off % 256 = 16 then spiTxd i v s
    else if off % 256 = 0 then spiDisable i (writeFields off v none fs s)
    else writeFields off v none fs s

/-- SER_CTL.CLRCNT. -/
def serClear (s : State) : State := forN 6 (fun k s => s.put (F.SER_CNT_k_COUNT k) 0) s

/-- The counters that a block's CTL register clears, and the bit that does so. -/
def clearOf (off : Nat) : Option (Nat × (State → State)) :=
  match off with
  | 0x40000 => some (5, frxClear)
  | 0x50000 => some (0, ftxClear)
  | 0x60000 => some (0, ntClear)
  | 0x70000 => some (0, secClear)
  | 0x80000 => some (0, bblClear)
  | 0x90000 => some (1, serClear)
  | 0xB0000 => some (0, ciphClear)
  | 0xC0000 => some (0, shpClear)
  | 0xD0000 => some (0, dmaClear)
  | 0xE0000 => some (0, carClear)
  | 0xF0000 => some (0, tanClear)
  | 0x100000 => some (0, hstClear)
  | 0x130000 => some (0, flsClear)
  | 0x170000 => some (0, evtClear)
  | 0x180000 => some (0, spiClear)
  | _ => none

/-! ## Ring indices (R454) -/

/-- A ring index below LEN is written. A cipher unit's WR takes the writes of Drovers alone (R240), and DEV too (R336); who
may write is judged before the index (DESIGN CHOICE, log entry 114). -/
def indexWrite (who : Writer) (off v : Nat) (s : State) : State :=
  let x := bits v 0 16
  if off / 0x10000 = 0x10 then
    match who with
    | .drover d => devWrite d ⟨(off - 0x100100) / 16 % 16, by omega⟩ x s
    | _ => s
  else if off = R.FTX_ACKRING_j_2 0 then ackWrWrite 0 x s
  else if off = R.FTX_ACKRING_j_2 1 then ackWrWrite 1 x s
  else if off = R.BBL_l_SEND_2 0 then laneWrWrite 0 x s
  else if off = R.BBL_l_SEND_2 1 then laneWrWrite 1 x s
  else
    let len := (ringLen off).getD ⟨off, 0, 0⟩
    let owner := s.get (F.CIPH_u_CLAIM_OWNER ((off - 0xB0040) / 16 % 4))
    if off / 0x10000 = 0xB && (ownerOf who).isNone then s
    else if off / 0x10000 = 0xB && owner != 0xF && ownerOf who != some owner then s.flag F.CIPH_STAT_NOTOWNER
    else if s.get len ≤ x then s.flag F.SYS_ERR_RINGIDX
    else s.put ⟨off, 0, 16⟩ x

/-! ## The write -/

/-- SF registers with commands or rules of their own (R81, R75). -/
def sfWrite (off v : Nat) (fs : List FieldSpec) (s : State) : State :=
  if off = R.SF_DRAIN_SFN ∧ s.mode = Mode.drain then s.flag F.SF_ERR_DRAINWR
  else if off = R.SF_CHANGE then onBit v 0 (sfArmOp (bitOf v 1)) (writeFields off v none fs s)
  else writeFields off v none fs s

/-- BBL registers with commands or rules of their own: a member's hop mask comes from its parent (R182). -/
def bblWrite (who : Writer) (off v : Nat) (fs : List FieldSpec) (s : State) : State :=
  let l : Fin 2 := if off < 0x80200 then 0 else 1
  if off = R.BBL_l_CMD l then onBit v 0 (researchOp l) s
  else if off = R.BBL_l_HOP l ∧ s.get (F.BBL_l_CFG_ROLE l) = 1 then s
  else writeFields off v (ownerOf who) fs s

/-- Word 0 or 1 of a descriptor ring is written: its SEQ restarts (R109). A write that a running block ignores writes
nothing. -/
def ringRestart (off v : Nat) (fs : List FieldSpec) (s t : State) : State :=
  if 0x40200 ≤ off ∧ off < 0x402C0 ∧ off % 16 < 8 ∧ !frozenWrite off v fs s then
    { t with frx := { t.frx with seq := t.frx.seq.set ((off - 0x40200) / 16) 0 } }
  else t

/-- The write of a word that the mode, the range and the mirror let through, by the register's own rule. DESIGN CHOICE,
log entry 9. -/
def writeBlock (who : Writer) (off v : Nat) (fs : List FieldSpec) (s : State) : State :=
  match off / 0x10000 with
  | 0x0 =>
    if off = R.SYS_MODE_REQ ∨ off = R.SYS_RESET ∨ off = R.SYS_FAULT_ACK ∨ off = R.SYS_FAULT_CFG then sysWrite off v s
    else writeFields off v none fs s
  | 0x1 =>
    if off = R.TICK_CTL then tickCtl v s
    else if off = R.TICK_TRIM ∨ off = R.TICK_SLEW ∨ off = R.TICK_CAPTURE ∨ off = R.TICK_SEAL ∨ off = R.TICK_LOAD then
      tickWrite who off v s
    else writeFields off v none fs s
  | 0x2 => if off = R.MAN_LOAD ∨ off = R.MAN_SWITCH then manWrite off v s else writeFields off v none fs s
  | 0x3 => sfWrite off v fs s
  | 0x4 => ringRestart off v fs s (writeFields off v (ownerOf who) fs s)
  | 0x5 => if off = R.FTX_DPD then onBit v 2 dpdReseedOp (writeFields off v none fs s) else writeFields off v (ownerOf who) fs s
  | 0x8 => bblWrite who off v fs s
  | 0x9 =>
    if off = R.SER_SPARECMD then onBit v 15 spareCmd (writeFields off v none fs s) else writeFields off v none fs s
  | 0xA =>
    if h : 0xA0100 ≤ off ∧ off < 0xA0400 then
      let n : Fin 12 := ⟨(off - 0xA0100) / 64, by omega⟩
      let o := (off - 0xA0100) % 64
      if o = 0 ∨ o = 0x20 ∨ o = 0x2C then drvWrite n o v s else writeFields off v none fs s
    else writeFields off v none fs s
  | 0xB =>
    if h : 0xB0020 ≤ off ∧ off < 0xB0030 then claimWrite who ⟨(off - 0xB0020) / 4, by omega⟩ v s
    else writeFields off v none fs s
  | 0xD =>
    if h : 0xD0100 ≤ off ∧ off < 0xD0500 then dmaWrite who ⟨(off - 0xD0100) / 64, by omega⟩ ((off - 0xD0100) % 64) v s
    else if off = R.DMA_STAT then
      onBit v 0 (busErrClear s.dmaIdle) (writeFields off (clrBit v 0) none fs s)
    else writeFields off v none fs s
  | 0xE =>
    if off = R.CAR_CMD then carWrite v s
    else if off = R.CAR_SFPHASE_k 0 then s
    else writeFields off v none fs s
  | 0xF => if off = R.TAN_CMD then tanWrite v s else writeFields off v none fs s
  | 0x10 =>
    if 0x100200 ≤ off ∧ off < 0x100240 then doorbell ((off - 0x100200) / 4) (bits v 0 16) s
    else writeFields off v none fs s
  | 0x11 => if off = R.TRU_LOCKSET ∨ off = R.TRU_CMD then truWrite off v s else writeFields off v none fs s
  | 0x12 =>
    if off = R.UPD_CTL ∨ off = R.UPD_CMD then updWrite off v s
    else if off = R.UPD_HOLDUP_MIN then updWatch (writeFields off v none fs s)
    else writeFields off v none fs s
  | 0x13 => if off = R.FLS_CMD then flsWrite v s else writeFields off v none fs s
  | 0x14 => if off = R.CAL_CMD then calWrite v s else writeFields off v none fs s
  | 0x15 => tmrWrite off v fs s
  | 0x16 => rtcWrite off v fs s
  | 0x17 =>
    if h : 0x170100 ≤ off ∧ off < 0x170300 then
      chanWrite who ⟨(off - 0x170100) / 8, by omega⟩ ((off - 0x170100) % 8 / 4) v fs s
    else if off = R.EVT_FIRE then swFire who (bits v 0 6) s
    else writeFields off v none fs s
  | 0x18 => spiWrite off v fs s
  | _ => writeFields off v (ownerOf who) fs s

/-- CLRCNT of a block's CTL register. -/
def clearBy (off v : Nat) (s : State) : State :=
  match clearOf off with
  | some (i, f) => onBit v i f s
  | none => s

/-- A register's own rule discards the write: ENDSFN in DRAIN, and a member's hop mask. -/
def State.discards (s : State) (off : Nat) : Bool :=
  (off == R.SF_DRAIN_SFN && s.mode == Mode.drain) ||
    ((List.range 2).any fun l => off == R.BBL_l_HOP l && s.get (F.BBL_l_CFG_ROLE l) == 1)

/-- Whose range rule comes after an owner's (R270, R428). DEDUCED, log entry 71. -/
def ownedFirst (off : Nat) : Bool :=
  (decide (0xD0100 ≤ off) && decide (off < 0xD0500)) || (decide (0x170100 ≤ off) && decide (off < 0x170300))

/-- A write past the mode's check: range (R12), then the register's own rule; the ACTIVE journals it (R307). A write out of
range that would also change an RW-F field is shown as out of range alone (DESIGN CHOICE, log entry 113). -/
def writeChecked (who : Writer) (off v : Nat) (fs : List FieldSpec) (s : State) : State :=
  match (if ownedFirst off then none else rangeFlag off v s) with
  | some f => s.flag f
  | none =>
    if (ringLen off).isSome then indexWrite who off v s
    else
      let rec_ := fs.any (changes off v s) && !s.discards off
      let s1 := clearBy off v (writeBlock who off v fs s)
      if rec_ then journal 0x03 0 (leBytes 4 off ++ leBytes 4 v) s1 else s1

/-- The modes let a write of the register at `off` through: none in RESET, and in SAFE only SYS_RESET, SYS_FAULT_ACK and
the W1C fields of SYS (R33, R34). -/
def State.writable (s : State) (off : Nat) : Bool :=
  s.mode != Mode.reset && (s.mode != Mode.safe ||
    off == R.SYS_RESET || off == R.SYS_FAULT_ACK || off == R.SYS_ERR || off == R.SYS_RSTCAUSE)

/-- SAFE accepts the writes of host software alone (R33). -/
def State.barred (s : State) (who : Writer) : Bool := s.mode == Mode.safe && (ownerOf who).isSome

/-- Host software, a Drover or the lead writes the register at `off`. A SHADOW or a chip being joined discards the
journalled fields (R310); a chip outside a Tandem has no TAN block (R302), and the SPI_1 registers of a host port take no
write (R430). -/
def writeReg (who : Writer) (off v : Nat) (s : State) : State :=
  if !s.writable off || s.barred who then s
  else
    match fieldsAt off with
    | none => s
    | some fs =>
      if off / 0x10000 = 0xF ∧ !s.tandem then s
      else if off / 0x100 = 0x1802 ∧ s.spiHost 1 then s
      else if s.isMirror && fs.any (journalled off) then
        clearBy off v ((writeFields off v none (fs.filter fun f => !journalled off f) s).inc (F.TAN_CNT_k_COUNT 7))
      else writeChecked who off v fs s

end Sys2Proof.Machine
end

