-- ==== Sys2Proof/Machine/Remote.lean ====
section
/-!
DEFINITION. Accesses that come from outside the chip: the host's spaces and the Serai aperture (R207, R325 to R329), the
packets of remote access (R285, R286), the frames of the SPI host (R338 to R340), and the journal records that a SHADOW or
a joining chip applies (R309).
-/

namespace Sys2Proof.Machine

/-! ## The Serai aperture (R207) -/

/-- The Serai offset of a place in the aperture. -/
def State.aperture (s : State) (off : Nat) : Nat := min 384 (s.get F.SER_APER_BASE) * 65536 + (off - 0x800000)

/-- An access of `n` bytes at a place of the aperture would pass the last offset. -/
def State.pastEnd (s : State) (off n : Nat) : Bool := decide (serSize < s.aperture off + n)

/-- A read through the aperture: the bytes, whether the completion is marked poisoned, and the state after. Poison answers
all ones (R200), and an access that would pass the last offset reads zero. DEDUCED, log entry 74. -/
def apertureRead (off n : Nat) (s : State) : List Byte × Bool × State :=
  if s.pastEnd off n then (List.replicate n 0, false, s)
  else
    let r := serRead Master.host (s.aperture off) n s
    (if r.2.1 then List.replicate n 0xFF else r.1, r.2.1, r.2.2)

/-- A write through the aperture: discarded where it would pass the last offset. -/
def apertureWrite (off : Nat) (bs : List Byte) (s : State) : State :=
  if s.pastEnd off bs.length then s else serWrite Master.host (s.aperture off) bs s

/-! ## Accesses to this chip's own space (R325) -/

/-- An access that is not an aligned 32-bit one completes with Unsupported Request. DEDUCED, log entry 67. -/
def unsupported (s : State) : State := s.inc (F.HST_CNT_k_COUNT 3)

/-- A 32-bit write to this chip's space. -/
def localWrite (who : Writer) (off v : Nat) (s : State) : State :=
  if s.mode = Mode.reset then s
  else if 0x800000 ≤ off then apertureWrite off (leBytes 4 v) s
  else if off % 4 ≠ 0 then unsupported s
  else writeReg who off v s

/-- A CN404 channel that is SECURE shows the host zeros in its route and its counts (R428). -/
def State.hides (s : State) (off : Nat) : Bool :=
  s.on F.EVT_CTL_CN404 &&
    ((decide (0x170100 ≤ off) && decide (off < 0x170300) && s.on (F.EVT_CH_c_SECURE ((off - 0x170100) / 8))) ||
      (decide (0x170400 ≤ off) && decide (off < 0x170500) && s.on (F.EVT_CH_c_SECURE ((off - 0x170400) / 4))))

/-- A 32-bit read of this chip's space by the host or the lead. -/
def localRead (off : Nat) (s : State) : Word × State :=
  if 0x800000 ≤ off then
    let r := apertureRead off 4 s
    (BitVec.ofNat 32 (leNat r.1), r.2.2)
  else if s.hides off then (0, s)
  else readReg off s

/-! ## The Caravan window (R285, R286, R327 to R329) -/

/-- The window and the doorbell aliases are served: with STRAP_HOST 0b10 only by the acting lead (R329). -/
def State.windowServed (s : State) : Bool := s.get F.SYS_STRAP_HOST != 2 || s.get F.CAR_STAT_ROLE == 3

/-- The write of a word to chip `c` (R285, R286, R328). -/
def chipWrite (c off v : Nat) (s : State) : State :=
  if c = s.get F.CAR_STAT_INDEX then localWrite .host off v s
  else if s.get F.CAR_STAT_SIZE ≤ c then s.flag F.HST_STAT_NOCHIP
  else if s.reaches c then s.sendTo c (if 0x800000 ≤ off then .swrite off (leBytes 4 v) else .rwr off (BitVec.ofNat 32 v))
  else (s.flag F.CAR_STAT_RTMO).inc (F.CAR_CNT_k_COUNT 2)

/-- A host write of a word. The endpoint serves nothing with STRAP_HOST 0b01. -/
def hostWrite (sp : Space) (addr v : Nat) (s : State) : State :=
  if s.mode = Mode.reset ∨ s.get F.SYS_STRAP_HOST = 1 then s
  else
    match sp with
    | .bar0 => localWrite .host (addr % 2 ^ 24) v s
    | .bar2 => if s.windowServed then chipWrite (addr / 2 ^ 24 % 64) (addr % 2 ^ 24) v s else s.flag F.HST_STAT_NOTLEAD
    | .bar4 =>
      if h : addr < 0x400 then msixWrite ⟨addr / 16, by omega⟩ (addr % 16 / 4) v s
      else if 0x4000 ≤ addr ∧ addr < 0x5000 then
        if s.windowServed then chipWrite ((addr - 0x4000) / 64) (R.HST_DB_r (addr % 64 / 4)) v s
        else s.flag F.HST_STAT_NOTLEAD
      else s
    | .cfg => if addr = 0 then msixControl v s else s

/-- A register write by whoever makes it: the host through one of its spaces, a Drover or the lead at the chip's own
register address. -/
def anyWrite (who : Writer) (sp : Space) (addr v : Nat) (s : State) : State :=
  match who with
  | .host => hostWrite sp addr v s
  | w => localWrite w addr v s

/-- HOST_APERTURE_ACCESS: a write of bytes, or a read that completes with bytes, at a place of BAR0 or of the window. -/
def apertureAccess (sp : Space) (addr n : Nat) (data : Option (List Byte)) (s : State) : State :=
  let off := addr % 2 ^ 24
  let c := if sp = .bar2 then addr / 2 ^ 24 % 64 else s.get F.CAR_STAT_INDEX
  if s.mode = Mode.reset ∨ off < 0x800000 ∨ !(sp == .bar0 || sp == .bar2) ∨ s.get F.SYS_STRAP_HOST = 1 then s
  else if sp = .bar2 ∧ !s.windowServed then
    let t := s.flag F.HST_STAT_NOTLEAD
    if data.isSome then t else t.emit (.hostData (List.replicate n 0xFF))
  else if c = s.get F.CAR_STAT_INDEX then
    match data with
    | some bs => apertureWrite off bs s
    | none =>
      let r := apertureRead off n s
      r.2.2.emit (if r.2.1 then .hostPoison r.1 else .hostData r.1)
  else if s.get F.CAR_STAT_SIZE ≤ c then
    let t := s.flag F.HST_STAT_NOCHIP
    if data.isSome then t else t.emit (.hostData (List.replicate n 0xFF))
  else
    match data with
    | some bs => if s.reaches c then s.sendTo c (.swrite off bs) else (s.flag F.CAR_STAT_RTMO).inc (F.CAR_CNT_k_COUNT 2)
    | none => s.sendTo c (.sread off n)

/-! ## Packets of remote access -/

/-- A member's report to the lead: bits of a chip set or of HST_RPEND are added (R288, R294, R295, R333). DEDUCED, log
entry 77. -/
def reportRx (off v : Nat) (s : State) : State :=
  if 0x100030 ≤ off ∧ off < 0x100038 then
    let h := (off - 0x100030) / 4
    let old := s.get (F.HST_RPEND_h_BITS h)
    let t := s.put (F.HST_RPEND_h_BITS h) (old ||| v)
    if old ||| v = old then t else raiseVector 31 t
  else if 0xE0040 ≤ off ∧ off < 0xE0070 then
    let k := (off - 0xE0040) / 8
    let h := (off - 0xE0040) / 4 % 2
    let t := s.put (F.CAR_SET_s_h_CHIPS k h) (s.get (F.CAR_SET_s_h_CHIPS k h) ||| v)
    if k = 3 then resetReturned (v * 2 ^ (32 * h)) (carRecord off v t) else t
  else raiseVector 18 s

/-- The report registers: chip sets, RPEND and REJOIN. -/
def isReport (off : Nat) : Bool :=
  (decide (0x100030 ≤ off) && decide (off < 0x100038)) || (decide (0xE0040 ≤ off) && decide (off < 0xE0070)) ||
    off == R.CAR_REJOIN

/-- RWR: a report to the lead, which SAFE discards as it discards every register write (R33), or a write by the lead for the
host. -/
def rwrRx (off v : Nat) (s : State) : State :=
  if s.mode = Mode.reset then s
  else if s.isLead ∧ isReport off then (if s.mode = Mode.safe then s else reportRx off v s)
  else localWrite .remote off v s

/-- RRD: the answer is an RCPL packet to the chip that asked. -/
def rrdRx (origin off : Nat) (s : State) : State :=
  if s.mode = Mode.reset then s
  else
    let r := localRead off s
    r.2.sendTo origin (.rcpl r.1)

/-- SDATA: an aperture write, or a read that is answered with the bytes. -/
def sdataRx (origin off n : Nat) (data : Option (List Byte)) (s : State) : State :=
  if s.mode = Mode.reset ∨ off < 0x800000 then s
  else
    match data with
    | some bs => apertureWrite off bs s
    | none =>
      let r := apertureRead off (min n 256) s
      r.2.2.sendTo origin (.swrite off r.1)

/-- REMOTE_TIMEOUT: 100 µs have passed without a completion (R286). DESIGN CHOICE, log entry 108. -/
def remoteTimeout (s : State) : State :=
  (((s.flag F.CAR_STAT_RTMO).inc (F.CAR_CNT_k_COUNT 2)).emit (.hostRead 0xFFFFFFFF))

/-! ## The SPI host (R338 to R340) -/

/-- SPI1 serves the host and the chip is out of RESET. -/
def State.spiServed (s : State) : Bool := s.get F.SYS_STRAP_HOST == 1 && s.mode != Mode.reset

/-- Byte `i` of a frame. -/
def fb (f : List Byte) (i : Nat) : Nat := (f.getD i 0).toNat

/-- Words, chip index and address that a READ or WRITE frame names. -/
def frameWords (f : List Byte) : Nat := fb f 0 % 64 + 1
def frameChip (f : List Byte) : Nat := fb f 1 % 64
def frameAddr (f : List Byte) : Nat := fb f 2 + 256 * fb f 3 + 65536 * fb f 4

/-- Bytes with their CRC behind them, low byte first. -/
def withCrc (bs : List Byte) : List Byte := bs ++ leBytes 2 (crc16 0 bs)

/-- One reading of consecutive words of this chip. -/
def readWords : Nat → Nat → State → List Byte × State
  | 0, _, s => ([], s)
  | n + 1, off, s =>
    let r := localRead off s
    let t := readWords n (off + 4) r.2
    (leBytes 4 r.1.toNat ++ t.1, t.2)

/-- A refused frame. DEDUCED, log entry 73. -/
def spiRefuse (s : State) : State := (s.inc (F.HST_CNT_k_COUNT 5)).emit (.hostData [0])

/-- READ. Words of another chip are asked for one by one, and their completions answer (R328, R340). DEDUCED, log entry
73. -/
def spiRead (f : List Byte) (s : State) : State :=
  if !s.spiServed ∨ fb f 0 / 64 ≠ 0 then s
  else if f.length ≠ 7 ∨ crc16 0 f ≠ 0 ∨ frameAddr f % 4 ≠ 0 then spiRefuse s
  else
    let c := frameChip f
    let n := frameWords f
    let s1 := s.inc (F.HST_CNT_k_COUNT 4)
    if c = s.get F.CAR_STAT_INDEX then
      let r := readWords n (frameAddr f) s1
      r.2.emit (.hostData (0x5A :: withCrc r.1))
    else if s.get F.CAR_STAT_SIZE ≤ c then
      (s1.flag F.HST_STAT_NOCHIP).emit (.hostData (0x5A :: withCrc (List.replicate (4 * n) 0xFF)))
    else forAll (List.range n) (fun k s => s.sendTo c (.rrd (frameAddr f + 4 * k))) s1

/-- WRITE: the words are applied together, after 0xA5. DEDUCED, log entry 73. -/
def spiHostWrite (f : List Byte) (s : State) : State :=
  if !s.spiServed ∨ fb f 0 / 64 ≠ 1 then s
  else if f.length ≠ 7 + 4 * frameWords f ∨ crc16 0 f ≠ 0 ∨ frameAddr f % 4 ≠ 0 then (spiRefuse s).flag F.HST_STAT_SPIBAD
  else
    let s1 := (s.inc (F.HST_CNT_k_COUNT 4)).emit (.hostData [0xA5])
    forAll (List.range (frameWords f))
      (fun k s => chipWrite (frameChip f) (frameAddr f + 4 * k) (leNat ((f.drop (5 + 4 * k)).take 4)) s) s1

/-- STATUS. -/
def spiStatus (f : List Byte) (s : State) : State :=
  if !s.spiServed ∨ fb f 0 / 64 ≠ 2 then s
  else
    (s.inc (F.HST_CNT_k_COUNT 4)).emit (.hostData (withCrc
      (leBytes 4 (s.get (F.HST_VPEND_h_BITS 0)) ++ leBytes 4 (s.get (F.HST_VPEND_h_BITS 1)))))

/-! ## Journal records received (R308, R309, R311) -/

/-- A record as it arrives; none where its length or CRC is wrong. DESIGN CHOICE, log entry 108. -/
def parseRec (b : List Byte) : Option JRec :=
  let n := numAt b 2 2
  if b.length = n + 12 ∧ numAt b (8 + n) 4 = crc32 (b.take (8 + n)) then
    some ⟨numAt b 0 1, numAt b 1 1, numAt b 4 4, (b.drop 8).take n⟩
  else none

/-- The bytes of a record. -/
def recWire (r : JRec) : List Byte :=
  let h := leBytes 1 r.ty ++ leBytes 1 r.flags ++ leBytes 2 r.body.length ++ leBytes 4 r.jseq ++ r.body
  h ++ leBytes 4 (crc32 h)

/-- A granule that holds the USED of a Ledger key slot, written by the partner, goes to this chip's cache too (R245).
DEDUCED, log entry 144. -/
def usageCache (g : Nat) (s : State) : State :=
  let base := s.bayBase Bay.ledger / 16
  let j := (g - base) % 16
  if s.inBay Bay.ledger (16 * g) && (j == 4 || j == 6) then
    match slotKey (s.bytesAt (16 * (g - 1)) 32) 0 false with
    | some k => cachePut ⟨k.wkey.take 8, k.keyidx, k.used, (s.cached k).2, false⟩ s
    | none => s
  else s

/-- GRAN and COPY. The copy of the last mirrored granule brings a joining chip into sync (R320). DEDUCED, log entry 144.
-/
def applyGran (r : JRec) (s : State) : State :=
  let g := bits (numAt r.body 0 4) 0 21
  let s0 := if bitOf r.flags 0 then poisonGranule g s else writeG Master.tandem (16 * g) ((r.body.drop 4).take 16) s
  let s1 := s0.when (r.ty == 1) (usageCache g)
  if r.ty = 2 ∧ s1.tan.joining ∧ (s1.nextMirror (g + 1)).isNone then s1.put F.TAN_STAT_SYNC 2 else s1

/-- REG: the write, as the register's access classes take it on this chip; a record of the lead's reset programme is
followed (R295). DEDUCED, log entry 103. DEDUCED, log entry 148. -/
def applyReg (r : JRec) (s : State) : State :=
  let off := numAt r.body 0 4
  let v := numAt r.body 4 4
  if off = R.CAR_CMD then carFollow v s
  else if off = R.CAR_SET_s_h 3 0 ∨ off = R.CAR_SET_s_h 3 1 then reportRx off v s
  else
    match fieldsAt off with
    | some fs => writeChecked .remote off v fs s
    | none => s

/-- LEASE: the record goes to this chip's flash, which takes its time (LEASE_PERSISTED). -/
def applyLease (r : JRec) (s : State) : State :=
  { s with sec := { s.sec with persist := s.sec.persist ++
    [⟨numAt r.body 0 1, numAt r.body 2 2, numAt r.body 1 1, (r.body.drop 4).take 8, numAt r.body 12 4, false, true,
      r.jseq, false⟩] } }

/-- KEYUSE: the keyring entry and the lease cache. -/
def applyKeyuse (r : JRec) (s : State) : State :=
  let k := numAt r.body 0 1 % 64
  let n := numAt r.body 4 4
  let w := s.ringKey k
  let idx := s.get (F.CIPH_KR_k_KEYIDX k)
  let c := s.cached ⟨w, idx, n, s.get (F.CIPH_KR_k_LIMIT k), true⟩
  let s1 := s.put (F.CIPH_KR_k_USED k) n
  if s.on (F.CIPH_KR_k_VALID k) then cachePut ⟨w.take 8, idx, n, c.2, true⟩ s1 else s1

/-- TICK with HANDOVER: the tick at which this chip is to take over (R321). -/
def applyTick (r : JRec) (s : State) : State :=
  if bitOf r.flags 1 then
    let a := numAt r.body 0 5
    let d := (numAt r.body 12 4 + 2 ^ 32 - a % 2 ^ 32) % 2 ^ 32
    updWatch { s with tan := { s.tan with hoAt := some ((a + d) % 2 ^ 40, 0) } }
  else s

/-- What a record does beside its place in the log. DEDUCED, log entry 93. -/
def applyRec (low : Bool) (r : JRec) (s : State) : State :=
  if r.ty = 1 ∨ r.ty = 2 then applyGran r s
  else if r.ty = 3 then applyReg r s
  else if r.ty = 4 then applyLease r s
  else if r.ty = 5 then applyKeyuse r s
  else if r.ty = 6 then { s with tan := { s.tan with lastMode := some (numAt r.body 0 1, numAt r.body 4 4) } }
  else if r.ty = 7 then applyTick r s
  else if r.ty = 8 then pathsLost (sampleLine low s)
  else s

/-- The log from its second latest TICK record on (R311). -/
def trimLog (l : List JRec) : List JRec :=
  let after := tailOf l
  let upTo := (l.take (l.length - after.length)).reverse
  match upTo with
  | [] => l
  | t :: older => (match older.span (·.ty != 7) with
    | (_, []) => l
    | (mid, t2 :: _) => (t :: mid ++ [t2]).reverse ++ after)

/-- Write a record's bytes to the circular log in the JOURNAL bay (DESIGN CHOICE, log entry 50). -/
def logWrite (bs : List Byte) (s : State) : State :=
  let n := s.baySize Bay.journal
  if n = 0 then s
  else
    let at_ := s.tan.logAt % n
    let fit := n - at_
    let s1 := serWrite Master.tandem (s.bayBase Bay.journal + at_) (bs.take fit) s
    let s2 := serWrite Master.tandem (s.bayBase Bay.journal) (bs.drop fit) s1
    { s2 with tan := { s2.tan with logAt := (at_ + bs.length) % n } }

/-- The JSEQ that a record must carry; the first record of a join may carry any. -/
def State.seqOk (s : State) (r : JRec) : Bool :=
  match s.tan.log.getLast? with
  | none => true
  | some p => r.jseq == (p.jseq + 1) % 2 ^ 32

/-- The event of the Tandem journal role (R213). -/
def journalEvent (s : State) : State :=
  match s.journalDrover with
  | some n => evin n 9 s
  | none => s

/-- JOURNAL_RECORD: a record arrives at a SHADOW or a joining chip. -/
def journalRx (b : List Byte) (low : Bool) (s : State) : State :=
  if !s.isMirror ∨ !(s.get F.TAN_STAT_SYNC == 1 || s.get F.TAN_STAT_SYNC == 2) then s
  else
    match parseRec b with
    | none => journalEvent (syncLost s)
    | some r =>
      if !s.seqOk r then journalEvent (syncLost s)
      else
        let s1 := applyRec low r (logWrite b s)
        let s2 := { s1 with tan := { s1.tan with log := trimLog (s1.tan.log ++ [r]) } }
        journalEvent (showTail ((s2.inc (F.TAN_CNT_k_COUNT 1)).emit (.confirm r.jseq false)))

end Sys2Proof.Machine
end

