-- ==== Sys2Proof/Machine/Operands.lean ====
section
/-!
DEFINITION. The operands of Drover syllables (12_drover_instructions.md, R226 to R228) and the local window through which
they reach local RAM, the Serai and the device registers (R29, R209, R212).
-/

namespace Sys2Proof.Machine

/-! ## The local window (R209) -/

/-- Where a window address leads. -/
inductive Place where
  | loc (a : Nat)
  | serai (off : Nat)
  | reg (off : Nat)
  /-- past the end of the Serai, or a page without registers -/
  | nowhere
  deriving DecidableEq, Repr

/-- The window bases and the register page that a bundle goes by from its start (R210). -/
structure Windows where
  w0 : Nat
  w1 : Nat
  pg : Nat
  deriving DecidableEq, Repr

/-- Byte `a` of a Drover's local RAM and plain engine registers. -/
def Drover.byte (d : Drover) (a : Nat) : Nat := (sget (fun _ => (0 : Byte)) d.ram a).toNat

/-- The 2 bytes at `a`. -/
def Drover.pair (d : Drover) (a : Nat) : Nat := d.byte a + 256 * d.byte (a + 1)

/-- General byte `Gg` and pointer `Pp`. -/
def Drover.g (d : Drover) (g : Nat) : Nat := d.byte g
def Drover.p (d : Drover) (p : Nat) : Nat := d.pair (8 + 2 * p)

/-- W0, W1 and PG as they stand. -/
def Drover.windows (d : Drover) : Windows :=
  ⟨d.pair 0x20 + 65536 * d.byte 0x22, d.pair 0x24 + 65536 * d.byte 0x26, d.pair 0x28⟩

/-- A Serai byte, or nothing past its end. -/
def seraiPlace (off : Nat) : Place := if off < serSize then .serai off else .nowhere

/-- The place of window address `a` (R209). -/
def placeOf (w : Windows) (a : Nat) : Place :=
  if a < 0x8000 then .loc a
  else if a < 0xC000 then seraiPlace (w.w0 * 16 + (a - 0x8000))
  else if a < 0xF000 then seraiPlace (w.w1 * 16 + (a - 0xC000))
  else if w.pg < 0x190 then .reg (w.pg * 4096 + (a - 0xF000))
  else .nowhere

/-- The places of the `n` bytes of an operand from address `a` (R227). -/
def placesOf (w : Windows) (a n : Nat) : List Place := (List.range n).map fun i => placeOf w ((a + i) % 65536)

/-! ## Operand modes (R226) -/

/-- An operand, decoded. -/
inductive Operand where
  | direct (a : Nat)
  | imm (v : Nat)
  | disp (p : Nat) (d : Int)
  | postInc (p s : Nat)
  | preDec (p s : Nat)
  | indexed (p g k : Nat)
  | indirect (a : Nat)
  deriving DecidableEq, Repr

/-- Decode the 19 bits of an operand; none for mode 0b111 and for a G-index with bits [12:5] not zero. -/
def decodeOperand (o : BitVec 19) : Option Operand :=
  let v := o.toNat % 65536
  let p := v / 8192
  let low := v % 8192
  match o.toNat / 65536 with
  | 0 => some (.direct v)
  | 1 => some (.imm v)
  | 2 => some (.disp p (toSigned 13 low))
  | 3 => some (.postInc p low)
  | 4 => some (.preDec p low)
  | 5 => if low / 32 = 0 then some (.indexed p (low % 8) (low / 8)) else none
  | 6 => some (.indirect v)
  | _ => none

/-- The operand #0, which stands in every unused place (R225). -/
def immZero : BitVec 19 := 0x10000

def Operand.isImm : Operand → Bool
  | .imm _ => true
  | _ => false

/-- The pointer change of an operand: the pointer and the step, modulo 65,536. -/
def Operand.step : Operand → Option (Nat × Nat)
  | .postInc p s => some (p, s)
  | .preDec p s => some (p, 65536 - s)
  | _ => none

/-! ## Reading -/

/-- A bundle's reads as they go on: the state, whether poison was delivered, the Serai granules already read, and whether a
read of SPI_MW_DATA stalls (R436). -/
structure Reading where
  st : State
  poison : Bool
  seen : List Nat
  stall : Bool

/-- The latch takes the four bytes of a register. -/
def latchReg (n : Fin 12) (reg : Nat) (w : Word) (s : State) : State :=
  s.modDrv n fun d => { d with latch := some ⟨reg, [0, 1, 2, 3].map fun i => (i, w.extractLsb' (8 * i) 8)⟩ }

/-- The word of a register that the Drover reads at byte 0, and the state after: of the memory window, the word that a
fetch brought; none where the read must wait for one (R436). DEDUCED, log entry 59. -/
def regWord (n : Fin 12) (reg : Nat) (s : State) : Option (Word × State) :=
  if reg = R.SPI_MW_DATA then
    match s.drovers[n].mw with
    | some (some w) => some (w, s.modDrv n fun d => { d with mw := none })
    | some none => none
    | none => if s.mwServes && (s.mwLine (s.get F.SPI_MW_ADDR_ADDR)).isNone then none else some (readReg reg s)
  else some (readReg reg s)

/-- A read of one byte of a device register by a Drover: byte 0 latches the register, and the latch answers bytes 1 to 3
of the same register (R29). -/
def regByte (n : Fin 12) (off : Nat) (r : Reading) : Byte × Reading :=
  let reg := off / 4 * 4
  let i := off % 4
  if i = 0 then
    match regWord n reg r.st with
    | some (w, t) => (w.extractLsb' 0 8, { r with st := latchReg n reg w t })
    | none => (0, { r with stall := true })
  else
    match r.st.drovers[n].latch with
    | some l => if l.reg = reg then (sget (fun _ => 0) l.bytes i, r) else ((readWord reg r.st).extractLsb' (8 * i) 8, r)
    | none => ((readWord reg r.st).extractLsb' (8 * i) 8, r)

/-- A read of one byte of the Serai: a granule is decoded once in a bundle. -/
def seraiByte (n : Fin 12) (off : Nat) (r : Reading) : Byte × Reading :=
  let g := off / 16
  if r.seen.contains g then (r.st.byte off, r)
  else
    let d := decodeG n g r.st
    (d.2.byte off, { r with st := d.2, poison := r.poison || d.1, seen := r.seen ++ [g] })

/-- A read of one byte by Drover `n`. -/
def readPlace (n : Fin 12) (p : Place) (r : Reading) : Byte × Reading :=
  match p with
  | .loc a => (localByte n a r.st, r)
  | .serai off => seraiByte n off r
  | .reg off => regByte n off r
  | .nowhere => (0, r)

/-- Reads of consecutive bytes, the lowest address first. -/
def readPlaces (n : Fin 12) : List Place → Reading → List Byte × Reading
  | [], r => ([], r)
  | p :: ps, r =>
    let q := readPlace n p r
    let t := readPlaces n ps q.2
    (q.1 :: t.1, t.2)

/-- The effective address of an operand (R226), 0 for an immediate: `d` is the Drover at the bundle's start. -/
def effAddr (n : Fin 12) (d : Drover) (o : Operand) (r : Reading) : Nat × Reading :=
  match o with
  | .direct a => (a, r)
  | .imm _ => (0, r)
  | .disp p x => (((d.p p + x) % 65536).toNat, r)
  | .postInc p _ => (d.p p, r)
  | .preDec p s => ((d.p p + 65536 - s) % 65536, r)
  | .indexed p g k => ((d.p p + d.g g * 2 ^ k) % 65536, r)
  | .indirect a =>
    let q := readPlaces n (placesOf d.windows a 2) r
    (leNat q.1, q.2)

/-- The bytes of an immediate of width `w` (R227). -/
def immBytes (w v : Nat) : List Byte := if w = 1 then leBytes 1 (v % 256) else leBytes w v

/-! ## Writing -/

/-- The bytes staged for a register. -/
def Drover.staged (d : Drover) (reg : Nat) : List (Nat × Byte) :=
  match d.stage with
  | some l => if l.reg = reg then l.bytes else []
  | none => []

/-- The write at byte 0 has used what was staged for the register. -/
def Drover.unstage (d : Drover) (reg : Nat) : Drover :=
  match d.stage with
  | some l => if l.reg = reg then { d with stage := none } else d
  | none => d

/-- Write one byte of a device register (R212): bytes 1 to 3 are staged, byte 0 writes the register whole. -/
def writeRegByte (n : Fin 12) (off : Nat) (b : Byte) (s : State) : State :=
  let reg := off / 4 * 4
  let staged := s.drovers[n].staged reg
  if off % 4 = 0 then
    writeReg (.drover n) reg (leNat (b :: [1, 2, 3].map fun j => sget (fun _ => 0) staged j))
      (s.modDrv n fun d => d.unstage reg)
  else s.modDrv n fun d => { d with stage := some ⟨reg, sins (off % 4) b staged⟩ }

/-- Write the bytes of an operand, one Serai granule at a time. -/
def writePlaces (n : Fin 12) : List (Place × Byte) → State → State
  | [], s => s
  | (.serai off, b) :: rest, s => go off [b] rest s
  | (.loc a, b) :: rest, s => writePlaces n rest (setLocalByte n a b s)
  | (.reg off, b) :: rest, s => writePlaces n rest (writeRegByte n off b s)
  | (.nowhere, _) :: rest, s => writePlaces n rest s
where
  /-- gather the run of Serai bytes from `off`, the ones found so far reversed -/
  go (off : Nat) (acc : List Byte) : List (Place × Byte) → State → State
  | [], s => serWrite n off acc.reverse s
  | (.serai o, b) :: rest, s =>
    if o = off + acc.length then go off (b :: acc) rest s else go o [b] rest (serWrite n off acc.reverse s)
  | (.loc a, b) :: rest, s => writePlaces n rest (setLocalByte n a b (serWrite n off acc.reverse s))
  | (.reg o, b) :: rest, s => writePlaces n rest (writeRegByte n o b (serWrite n off acc.reverse s))
  | (.nowhere, _) :: rest, s => writePlaces n rest (serWrite n off acc.reverse s)

end Sys2Proof.Machine
end

