-- ==== Sys2Proof/Machine/Flags.lean ====
section
/-!
DEFINITION. The results of the M, A and B units and the repeat state RX that they read and leave (12_drover_instructions.md,
R229 to R232, R237, R238).
-/

namespace Sys2Proof.Machine

/-! ## Block repeat: RC, RS, RD and RX -/

/-- Store a byte of a Drover's plain local RAM. -/
def Drover.setByte (d : Drover) (a v : Nat) : Drover := { d with ram := sset (fun _ => 0) d.ram a (BitVec.ofNat 8 v) }

/-- Store 2 bytes. -/
def Drover.setPair (d : Drover) (a v : Nat) : Drover := (d.setByte a v).setByte (a + 1) (v / 256)

/-- RC, RS, RD. -/
def Drover.rc (d : Drover) : Nat := d.pair 0x18
def Drover.rs (d : Drover) : Nat := d.pair 0x1A
def Drover.rd (d : Drover) : Nat := d.pair 0x1C

/-- RX: CY, HIT, ACT, SELF and SPILL. -/
def Drover.cy (d : Drover) : Bool := bitOf (d.byte 0x1E) 0
def Drover.hit (d : Drover) : Bool := bitOf (d.byte 0x1E) 1
def Drover.act (d : Drover) : Bool := bitOf (d.byte 0x1E) 2
def Drover.self (d : Drover) : Bool := bitOf (d.byte 0x1E) 3
def Drover.spill (d : Drover) : Nat := d.byte 0x1F

/-- What a syllable does to RX beside its result (R229, R238). -/
inductive RxEffect where
  | none
  | hit
  | cy (c : Bool)
  | spill (v : Nat)
  deriving DecidableEq, Repr

/-- Store bit `i` of RX. -/
def Drover.setRx (d : Drover) (i : Nat) (b : Bool) : Drover :=
  d.setByte 0x1E (if b then setBit (d.byte 0x1E) i else clrBit (d.byte 0x1E) i)

/-- Apply an effect on RX. -/
def Drover.applyRx (d : Drover) : RxEffect → Drover
  | .none => d
  | .hit => d.setRx 1 true
  | .cy c => d.setRx 0 c
  | .spill v => d.setByte 0x1F v

/-! ## The A unit (R230, R238): bytes as numbers -/

/-- A signed byte limited to −128 to +127, as its pattern. -/
def limitByte (i : Int) : Nat := ofSigned 8 (satSigned 8 i)

/-- The byte rotated left by `n`. -/
def rolByte (x n : Nat) : Nat := (x * 2 ^ n + x * 2 ^ n / 256) % 256

/-- The lower or the higher of two bytes by a measure. -/
def byMeasure (le : Bool) (x y : Nat) : Nat := if le then x else y

/-- Result of A-unit opcode `op` outside a repeat. -/
def aluPlain (op x y : Nat) : Nat :=
  let n := y % 8
  match op with
  | 0x0 => (x + y) % 256
  | 0x1 => (x + 256 - y) % 256
  | 0x2 => x &&& y
  | 0x3 => x ||| y
  | 0x4 => x ^^^ y
  | 0x5 => limitByte (toSigned 8 x + toSigned 8 y)
  | 0x6 => x * 2 ^ n % 256
  | 0x7 => x / 2 ^ n
  | 0x8 => ofSigned 8 (toSigned 8 x / 2 ^ n)
  | 0x9 => rolByte x n
  | 0xA => rolByte x ((8 - n) % 8)
  | 0xB => min x y
  | 0xC => max x y
  | 0xD => byMeasure (toSigned 8 x ≤ toSigned 8 y) x y
  | 0xE => byMeasure (toSigned 8 y ≤ toSigned 8 x) x y
  | _ => min (x + y) 255

/-- Result of an A-unit opcode while ACT is 1 (R238), and what it does to RX. -/
def aluRepeat (op x y : Nat) (cy : Bool) (spill : Nat) : Nat × RxEffect :=
  let n := y % 8
  let c := b2n cy
  match op with
  | 0x0 => ((x + y + c) % 256, .cy (255 < x + y + c))
  | 0x1 => ((x + 512 - y - c) % 256, .cy (x < y + c))
  | 0x6 => ((x * 2 ^ n ||| spill / 2 ^ (8 - n)) % 256, .spill x)
  | 0x7 => (x / 2 ^ n ||| spill * 2 ^ (8 - n) % 256, .spill x)
  | _ => (aluPlain op x y, .none)

/-- Result of an A-unit opcode. -/
def alu (op x y : Nat) (act cy : Bool) (spill : Nat) : Nat × RxEffect :=
  if act then aluRepeat op x y cy spill else (aluPlain op x y, .none)

/-! ## The B unit (R231, R232) -/

/-- The low `n` bits of `x` reversed. -/
def revBits : Nat → Nat → Nat
  | 0, _ => 0
  | n + 1, x => x % 2 * 2 ^ n + revBits n (x / 2)

/-- Leading zeros of the low `n` bits. -/
def leadZeros : Nat → Nat → Nat
  | 0, _ => 0
  | n + 1, x => if bitOf x n then 0 else 1 + leadZeros n x

/-- Trailing zeros of the low `n` bits. -/
def trailZeros : Nat → Nat → Nat
  | 0, _ => 0
  | n + 1, x => if x % 2 = 1 then 0 else 1 + trailZeros n (x / 2)

/-- The mask of a field specification: lowest bit `f[2:0]`, width `f[5:3] + 1`, bits above 7 dropped. DEDUCED, log entry
56. -/
def fieldMask (f : Nat) : Nat := (2 ^ (f / 8 % 8 + 1) - 1) * 2 ^ (f % 8) % 256

/-- Result of B-unit opcode `op`; `z` is the destination's byte before, which BINS reads. -/
def bitUnit (op x y z : Nat) : Nat :=
  let b := BitVec.ofNat 8 y
  let n := if y % 16 = 0 ∨ 8 < y % 16 then 8 else y % 16
  let m := fieldMask y
  match op with
  | 0x0 => crcStep 16 0x8408 x b
  | 0x1 => crcStep 32 0xEDB88320 x b
  | 0x2 => crcStep 16 (x / 65536) (x % 65536) b
  | 0x3 => popcount 8 x % 2
  | 0x4 => revBits 8 x
  | 0x5 => revBits n x
  | 0x6 => popcount 8 x
  | 0x7 => leadZeros 8 x
  | 0x8 => x ||| 2 ^ (y % 8)
  | 0x9 => x &&& (255 - 2 ^ (y % 8))
  | 0xA => x / 2 ^ (y % 8) % 2
  | 0xB => x ^^^ 2 ^ (y % 8)
  | 0xC => (x &&& m) / 2 ^ (y % 8)
  | 0xD => (z &&& (255 - m)) ||| (x * 2 ^ (y % 8) &&& m)
  | _ => trailZeros 8 x

/-! ## Comparisons (R233) -/

/-- The test of compare opcode `op` (0 to 5) on two bytes. -/
def compareBytes (op x y : Nat) : Bool :=
  match op with
  | 0 => x == y
  | 1 => x != y
  | 2 => decide (toSigned 8 x < toSigned 8 y)
  | 3 => decide (toSigned 8 y ≤ toSigned 8 x)
  | 4 => decide (x < y)
  | _ => decide (y ≤ x)

end Sys2Proof.Machine
end

