-- ==== Sys2Proof/Machine/DroverIsa.lean ====
section
/-!
DEFINITION. The issue of one Drover bundle (11_drover_architecture.md, 12_drover_instructions.md): its checks, its reads,
its effects, the block repeat and the transfer that ends it.
-/

namespace Sys2Proof.Machine

/-! ## Syllables -/

/-- One syllable: unit (0 M, 1 A, 2 B, 3 C), opcode and operands. -/
structure Syl where
  u : Nat
  op : Nat
  x : BitVec 19
  y : BitVec 19
  z : BitVec 19
  deriving DecidableEq, Repr

/-- A syllable from its 64 bits; S is not part of it. -/
def decodeSyl (w : BitVec 64) : Syl :=
  ⟨bits w.toNat 61 2, bits w.toNat 57 4, w.extractLsb' 38 19, w.extractLsb' 19 19, w.extractLsb' 0 19⟩

/-- Put a syllable before the first one of its unit or a later unit. -/
def insertSyl (a : Syl) : List Syl → List Syl
  | [] => [a]
  | b :: t => if b.u < a.u then b :: insertSyl a t else a :: b :: t

/-- The bundle that a row of the opcode table names: its own syllable among the others. DEDUCED, log entry 52. -/
def rowBundle (a : Syl) (rest : List (BitVec 64)) : List Syl := insertSyl a (rest.map decodeSyl)

/-! ## What each opcode does with its operands (R229 to R235) -/

/-- The part an operand plays; numbers are widths in bytes. -/
inductive Role where
  | unused
  | src (w : Nat)
  | dst (w : Nat)
  /-- read and written -/
  | both (w : Nat)
  /-- its effective address only -/
  | addr
  | target
  /-- #0 or #1 of RET -/
  | kind
  deriving DecidableEq, Repr

/-- The operand parts of an opcode; none where it is undefined. -/
def roles (u op : Nat) (recovery : Bool) : Option (Role × Role × Role) :=
  match u with
  | 0 =>
    match op with
    | 0x0 | 0x9 => some (.src 1, .unused, .dst 1)
    | 0x1 => some (.src 2, .unused, .dst 2)
    | 0x2 => some (.src 4, .unused, .dst 4)
    | 0x3 | 0xA => some (.src 16, .unused, .dst 16)
    | 0x4 => some (.addr, .unused, .dst 2)
    | 0x5 => some (.both 1, .unused, .both 1)
    | 0x6 => some (.both 2, .unused, .both 2)
    | 0x7 | 0x8 => some (.src 1, .unused, .dst 2)
    | 0xB => some (.src 1, .unused, .dst 16)
    | 0xC | 0xD | 0xE => some (.src 1, .src 1, .unused)
    | _ => none
  | 1 => some (.src 1, .src 1, .dst 1)
  | 2 =>
    match op with
    | 0x0 => some (.src 2, .src 1, .dst 2)
    | 0x1 => some (.src 4, .src 1, .dst 4)
    | 0x2 => some (.src 4, .src 1, .dst 2)
    | 0x3 | 0x4 | 0x6 | 0x7 | 0xE => some (.src 1, .unused, .dst 1)
    | 0xD => some (.src 1, .src 1, .both 1)
    | 0xF => none
    | _ => some (.src 1, .src 1, .dst 1)
  | _ =>
    match op with
    | 0x6 | 0x7 => some (.src 1, .unused, .target)
    | 0x8 | 0x9 => some (.unused, .unused, .target)
    | 0xA => some (.kind, .unused, .unused)
    | 0xB => some (.src 2, .src 2, .src 1)
    | 0xC => some (.src 4, .unused, .unused)
    | 0xD => some (.src 1, .unused, .unused)
    | 0xE | 0xF => some (.unused, .unused, .unused)
    | _ => some (.src 1, .src 1, if recovery then .dst 1 else .target)

/-- A string opcode. -/
def Syl.isString (a : Syl) : Bool := a.u == 0 && decide (9 ≤ a.op) && decide (a.op ≤ 0xE)

/-! ## Checks before any effect (R211, R225 to R227) -/

/-- The operand is encoded as its part allows. -/
def roleOk (r : Role) (o : BitVec 19) : Bool :=
  match r with
  | .unused => o == immZero
  | .kind => o == immZero || o == 0x10001
  | .target => (decodeOperand o).isSome
  | .src w => ((decodeOperand o).map fun d => !(d.isImm && w == 16)).getD false
  | .dst _ | .both _ | .addr => ((decodeOperand o).map fun d => !d.isImm).getD false

/-- A syllable is legal in the present decode. -/
def Syl.legal (rec_ : Bool) (a : Syl) : Bool :=
  match roles a.u a.op rec_ with
  | none => false
  | some (x, y, z) => roleOk x a.x && roleOk y a.y && roleOk z a.z

/-- The memory reads that an operand counts for (R227). -/
def readCount (r : Role) (o : BitVec 19) : Nat :=
  match decodeOperand o with
  | some (.indirect _) => 1 + own
  | some (.imm _) => 0
  | _ => own
where
  own : Nat := match r with
    | .src _ | .both _ | .target => 1
    | _ => 0

/-- The memory writes that an operand counts for. -/
def writeCount : Role → Nat
  | .dst _ | .both _ => 1
  | _ => 0

/-- Reads and writes of a syllable. -/
def Syl.counts (rec_ : Bool) (a : Syl) : Nat × Nat :=
  match roles a.u a.op rec_ with
  | none => (0, 0)
  | some (x, y, z) =>
    (readCount x a.x + readCount y a.y + readCount z a.z, writeCount x + writeCount y + writeCount z)

/-- The units of a bundle rise. -/
def unitsRise : List Syl → Bool
  | a :: b :: t => decide (a.u < b.u) && unitsRise (b :: t)
  | _ => true

/-- The trap that a bundle at `pc` takes before it has any effect: 0 none. DEDUCED, log entry 53. -/
def staticTrap (rec_ : Bool) (pc : Nat) (b : List Syl) : Nat :=
  if 8192 < pc + b.length then 5
  else if !unitsRise b || decide (4 < b.length) || decide (6 < (b.map fun a => (a.counts rec_).1).sum) ||
      decide (3 < (b.map fun a => (a.counts rec_).2).sum) then 2
  else if !b.all (·.legal rec_) then 1
  else 0

/-! ## Operands read -/

/-- An operand after the reads: its value, effective address and places. -/
structure Val where
  v : Nat
  ea : Nat
  ps : List Place

/-- Read one operand. A 16-byte operand lies on a multiple of 16. -/
def readOperand (n : Fin 12) (d : Drover) (r : Role) (o : BitVec 19) (g : Reading) : Val × Reading :=
  match decodeOperand o with
  | none => (⟨0, 0, []⟩, g)
  | some (.imm v) =>
    (⟨match r with
      | .src w => leNat (immBytes w v)
      | _ => v, 0, []⟩, g)
  | some p =>
    let e := effAddr n d p g
    let at_ (w : Nat) : List Place := placesOf d.windows (if w = 16 then e.1 / 16 * 16 else e.1) w
    let read (w : Nat) : Val × Reading :=
      let q := readPlaces n (at_ w) e.2
      (⟨leNat q.1, e.1, at_ w⟩, q.2)
    match r with
    | .src w | .both w => read w
    | .target => read 2
    | .dst w => (⟨0, e.1, at_ w⟩, e.2)
    | .addr | .unused | .kind => (⟨0, e.1, []⟩, e.2)

/-- A syllable with its operands read. -/
structure Ready where
  syl : Syl
  x : Val
  y : Val
  z : Val

/-- Read the operands of every syllable, in unit order. -/
def readBundle (n : Fin 12) (d : Drover) (rec_ : Bool) : List Syl → Reading → List Ready × Reading
  | [], g => ([], g)
  | a :: t, g =>
    match roles a.u a.op rec_ with
    | none => readBundle n d rec_ t g
    | some (rx, ry, rz) =>
      let x := readOperand n d rx a.x g
      let y := readOperand n d ry a.y x.2
      let z := readOperand n d rz a.z y.2
      let rest := readBundle n d rec_ t z.2
      (⟨a, x.1, y.1, z.1⟩ :: rest.1, rest.2)

/-! ## Effects -/

/-- Write a value to places, the least significant byte first. -/
def writeVal (n : Fin 12) (ps : List Place) (v : Nat) (s : State) : State :=
  writePlaces n (ps.zip (leBytes ps.length v)) s

/-- The writes of an M-unit syllable. DEDUCED, log entry 57. -/
def moveUnit (n : Fin 12) (r : Ready) (s : State) : State :=
  let hit (c : Bool) : State := s.when c (·.modDrv n (·.applyRx .hit))
  match r.syl.op with
  | 0x4 => writeVal n r.z.ps r.x.ea s
  | 0x5 | 0x6 => writeVal n r.z.ps r.x.v (writeVal n r.x.ps r.z.v s)
  | 0x8 => writeVal n r.z.ps (ofSigned 16 (toSigned 8 r.x.v)) s
  | 0xB => writePlaces n (r.z.ps.zip (List.replicate 16 (BitVec.ofNat 8 r.x.v))) s
  | 0xD => hit (r.x.v == r.y.v)
  | 0xC | 0xE => hit (r.x.v != r.y.v)
  | _ => writeVal n r.z.ps r.x.v s

/-- What a syllable writes; `d` is the Drover as the bundle found it. Transfers are not among it. DEDUCED, log entry 57. -/
def sylWrite (n : Fin 12) (d : Drover) (rec_ : Bool) (s : State) (r : Ready) : State :=
  match r.syl.u with
  | 0 => moveUnit n r s
  | 1 =>
    let q := alu r.syl.op r.x.v r.y.v d.act d.cy d.spill
    (writeVal n r.z.ps q.1 s).modDrv n (·.applyRx q.2)
  | 2 => writeVal n r.z.ps (bitUnit r.syl.op r.x.v r.y.v r.z.v) s
  | _ =>
    if r.syl.op < 6 ∧ rec_ then writeVal n r.z.ps (b2n (compareBytes r.syl.op r.x.v r.y.v)) s
    else if r.syl.op = 0xD then swFire (.drover n) (r.x.v % 64) s
    else s

/-- The pointer changes of a syllable (R228). -/
def Syl.steps (rec_ : Bool) (a : Syl) : List (Nat × Nat) :=
  match roles a.u a.op rec_ with
  | none => []
  | some _ => [a.x, a.y, a.z].filterMap fun o => (decodeOperand o).bind Operand.step

/-- Add the steps to the pointers as the writes left them. -/
def stepPointers (l : List (Nat × Nat)) (d : Drover) : Drover :=
  l.foldl (fun d p => d.setPair (8 + 2 * p.1) ((d.p p.1 + p.2) % 65536)) d

/-! ## Transfers -/

/-- How a bundle ends. -/
inductive Ending where
  | fall
  | goto (t : Nat)
  | call (t : Nat)
  | ret
  | iret
  | rep (c y z : Nat)
  | wait (m : Nat)
  | soft
  | halt
  deriving DecidableEq, Repr

/-- The ending that a C-unit syllable asks for (R233 to R236). -/
def endingOf (rec_ locked : Bool) (r : Ready) : Ending :=
  if r.syl.u < 3 then .fall
  else
    match r.syl.op with
    | 0x6 => if r.x.v = 0 then .goto r.z.v else .fall
    | 0x7 => if r.x.v ≠ 0 then .goto r.z.v else .fall
    | 0x8 => .goto r.z.v
    | 0x9 => .call r.z.v
    | 0xA => if r.x.v = 1 then .iret else .ret
    | 0xB => .rep r.x.v r.y.v r.z.v
    | 0xC => .wait r.x.v
    | 0xD => .fall
    | 0xE => .soft
    | 0xF => if locked then .soft else .halt
    | op => if !rec_ && compareBytes op r.x.v r.y.v then .goto r.z.v else .fall

/-- The ending of a bundle: its last syllable's. -/
def bundleEnd (rec_ locked : Bool) (l : List Ready) : Ending :=
  match l.getLast? with
  | some r => endingOf rec_ locked r
  | none => .fall

/-- The trap of an ending: 0 none. `next` is the address after the bundle. DEDUCED, log entry 53. DEDUCED, log entry 54. -/
def endTrap (d : Drover) (inh : Bool) (next : Nat) : Ending → Nat
  | .goto t => if 8191 < t then 5 else 0
  | .call t => if d.rstk.length = 8 then 3 else if 8191 < t then 5 else 0
  | .ret => if d.rstk.isEmpty then 4 else 0
  | .iret => if inh then 0 else 1
  | .rep _ y z => if y < next ∨ 8191 < y ∨ 4 ≤ z then 1 else 0
  | _ => 0

/-- The address goes to the PC; an address above 8,191 traps IADDR at its fetch. DEDUCED, log entry 54. -/
def goTo (n : Fin 12) (t : Nat) (s : State) : State :=
  if t ≤ 8191 then s.put (F.DRV_n_PC_PC n) t else trap n 5 t t s

/-- Bits ACT and SELF of RX become 0. -/
def Drover.endRepeat (d : Drover) : Drover := (d.setRx 2 false).setRx 3 false

/-- A taken transfer ends the repeat in progress (R237). -/
def Drover.leaveRepeat (d : Drover) : Drover := if d.act then d.endRepeat else d

/-- The loop-back decision at the end of the bundle that starts at `pc` (R237): the Drover after it and the address to
continue at. -/
def loopBack (pc next : Nat) (d : Drover) : Drover × Nat :=
  if d.act && d.rd % 8192 == pc then
    let rc := (d.rc + 65535) % 65536
    let d1 := d.setPair 0x18 rc
    if rc = 0 || d.hit then (d1.endRepeat, next) else (d1, d.rs % 8192)
  else (d, next)

/-- A bundle completes without a transfer. -/
def complete (n : Fin 12) (pc next : Nat) (s : State) : State :=
  let r := loopBack pc next s.drovers[n]
  goTo n r.2 (s.modDrv n fun _ => r.1)

/-- The active bank of a Drover. -/
def State.bank (s : State) (n : Fin 12) : List (Nat × BitVec 64) :=
  if s.get (F.DRV_n_STAT_BANK n) = 0 then s.drovers[n].bank0 else s.drovers[n].bank1

/-- The syllable words from address `a` up to and including the first with S = 1. DEDUCED, log entry 52. -/
def fetchFrom (bank : List (Nat × BitVec 64)) : Nat → Nat → List (BitVec 64)
  | 0, _ => []
  | fuel + 1, a =>
    let w := sget (fun _ => 0) bank a
    if w.getLsbD 63 then [w] else w :: fetchFrom bank fuel (a + 1)

/-- The address after the bundle that starts at `a`. -/
def afterBundle (bank : List (Nat × BitVec 64)) (a : Nat) : Nat := a + (fetchFrom bank (8192 - a) a).length

/-- REP issues (R237). -/
def startRep (c y z next : Nat) (d : Drover) : Drover :=
  if c = 0 then ((d.setPair 0x18 0).setRx 1 false).endRepeat
  else (((d.setPair 0x18 c).setPair 0x1A next).setPair 0x1C y).setPair 0x1E (4 + z % 2 + 256 * (if bitOf z 1 then 0xFF else 0))

/-- The start of the bundle whose WAIT ends at `next`, where it issues at `pc`: RD, where the bundle there ends with this
WAIT and an interrupt has returned to it (R214, R237). DEDUCED, log entry 55. -/
def waitStart (n : Fin 12) (pc next : Nat) (s : State) : Nat :=
  let d := s.drovers[n]
  let rd := d.rd % 8192
  if d.act && decide (rd < pc) && decide (pc ≤ rd + 3) && afterBundle (s.bank n) rd == next then rd else pc

/-- The effect of a bundle's ending, after all else. DEDUCED, log entry 54. -/
def finish (n : Fin 12) (pc next : Nat) (e : Ending) (s : State) : State :=
  match e with
  | .fall => complete n pc next s
  | .goto t => goTo n t (s.modDrv n (·.leaveRepeat))
  | .call t => goTo n t (s.modDrv n fun d => { d.leaveRepeat with rstk := d.rstk ++ [next] })
  | .ret =>
    goTo n (s.drovers[n].rstk.getLast?.getD 0) (s.modDrv n fun d => { d.leaveRepeat with rstk := d.rstk.dropLast })
  | .iret =>
    let t := s.drovers[n].spc
    let s1 := interruptReturn n s
    if t ≤ 8191 then s1 else trap n 5 t t s1
  | .rep c y z =>
    let s1 := s.modDrv n (startRep c y z next)
    if c = 0 then goTo n (afterBundle (s1.bank n) y) s1 else complete n pc next s1
  | .wait m =>
    let from_ := waitStart n pc next s
    if s.get (F.DRV_n_EVPEND_PEND n) &&& m ≠ 0 then complete n from_ next s
    else (s.modDrv n fun d => { d with waitMask := m, waitFrom := from_ }).puts
      [(F.DRV_n_STAT_STATE n, stWait), (F.DRV_n_PC_PC n, next - 1)]
  | .soft =>
    let r := loopBack pc next s.drovers[n]
    trap n 7 pc r.2 (s.modDrv n fun _ => r.1)
  | .halt =>
    let r := loopBack pc next s.drovers[n]
    (s.modDrv n fun _ => r.1).puts [(F.DRV_n_PC_PC n, r.2), (F.DRV_n_STAT_STATE n, stHalted)]

/-! ## Issue -/

/-- A bundle that issues at the bundle boundary: the string syllables that have no effect are left out, and the repeat
that a string starts is in force (R237). -/
def startString (pc : Nat) (b : List Syl) (d : Drover) : List Syl × Drover :=
  if d.act || !b.any (·.isString) then (b, d)
  else if d.rc = 0 then (b.filter (!·.isString), d)
  else (b, ((d.setPair 0x1A pc).setPair 0x1C pc).setByte 0x1E (d.byte 0x1E % 2 + 12))

/-- A trap of a bundle that has no effect: what its reads did in the Serai stands. DEDUCED, log entry 58. -/
def trapBundle (n : Fin 12) (cause pc : Nat) (seen : List Nat) (s : State) : State :=
  trap n cause pc pc (forAll seen (fun g s => (decodeG n g s).2) s)

/-- The boundary after a bundle: a HALT of meanwhile takes effect, or a vector that came due is entered. DEDUCED, log entry
61. -/
def boundary (n : Fin 12) (s : State) : State :=
  let halt := s.drovers[n].halt
  let s1 := s.modDrv n fun d => { d with issuing := false, halt := false }
  let st := s1.get (F.DRV_n_STAT_STATE n)
  if st = stRun ∨ st = stWait then
    if halt then (s1.modDrv n fun d => { d with waitMask := 0 }).put (F.DRV_n_STAT_STATE n) stHalted
    else (takeDue n s1).getD s1
  else s1

/-- Drover `n` issues the bundle `b` at its PC. DEDUCED, log entry 53. -/
def issueBundle (n : Fin 12) (b : List Syl) (s : State) : State :=
  let pc := s.get (F.DRV_n_PC_PC n)
  let next := pc + b.length
  let rec_ := s.on (F.DRV_n_STAT_PERS n)
  let t := staticTrap rec_ pc b
  if t ≠ 0 then boundary n (trapBundle n t pc [] (s.modDrv n fun d => { d with issuing := true }))
  else
    let s0 := s.modDrv n fun d => { d with issuing := true }
    let st := startString pc b s0.drovers[n]
    let q := readBundle n st.2 rec_ st.1 ⟨s0.modDrv n fun _ => st.2, false, [], false⟩
    let e := bundleEnd rec_ s.debugLocked q.1
    let c := if q.2.poison then 6 else endTrap st.2 (s.on (F.DRV_n_STAT_INH n)) next e
    if q.2.stall then
      if s.drovers[n].mw = none then (mwRead (some n) s).modDrv n fun d => { d with mw := some none } else s
    else if c ≠ 0 then boundary n (trapBundle n c pc q.2.seen s0)
    else
      let s1 := q.1.foldl (sylWrite n st.2 rec_) q.2.st
      if !s1.drovers[n].issuing then s1
      else
        let s2 := s1.modDrv n (stepPointers (st.1.flatMap (Syl.steps rec_)))
        boundary n (finish n pc next e s2)

/-- Drover `n` issues at this boundary: it runs, no SAFE fault has aborted the handler it runs (R39), none of its writes is
held (R311), no enabled input interrupts it and no breakpoint stands at its PC. DEDUCED, log entry 60. DEDUCED, log entry
125. -/
def canIssue (n : Fin 12) (s : State) : Bool :=
  s.get (F.DRV_n_STAT_STATE n) == stRun && s.faults.aborted != some n && !s.drvHeld n && !interruptReady n s &&
    !(s.on (F.DRV_n_CTL_BRKEN n) && s.get (F.DRV_n_BRK_ADDR n) == s.get (F.DRV_n_PC_PC n))

/-- A WAIT ends once an input of its mask is pending (R236). DEDUCED, log entry 55. -/
def waitReleaseOp (n : Fin 12) (s : State) : State :=
  let d := s.drovers[n]
  if s.get (F.DRV_n_STAT_STATE n) = stWait ∧ s.get (F.DRV_n_EVPEND_PEND n) &&& d.waitMask ≠ 0 then
    complete n d.waitFrom (s.get (F.DRV_n_PC_PC n) + 1)
      ((s.modDrv n fun d => { d with waitMask := 0 }).put (F.DRV_n_STAT_STATE n) stRun)
  else s

/-- INTERRUPT_ENTRY (R214). DEDUCED, log entry 55. -/
def interruptEntryOp (n : Fin 12) (s : State) : State :=
  if interruptReady n s then enterVector n 5 40 (s.get (F.DRV_n_PC_PC n)) s else s

/-- BREAKPOINT_HALT (R222). DEDUCED, log entry 60. -/
def breakpointOp (n : Fin 12) (s : State) : State :=
  if s.get (F.DRV_n_STAT_STATE n) = stRun ∧ s.on (F.DRV_n_CTL_BRKEN n) ∧
      s.get (F.DRV_n_BRK_ADDR n) = s.get (F.DRV_n_PC_PC n) then s.put (F.DRV_n_STAT_STATE n) stHalted
  else s

/-- STEP's one bundle from the active bank, or one vector entry, and HALTED again (R222). DEDUCED, log entry 60. -/
def stepOnce (n : Fin 12) (s : State) : State :=
  let s0 := (s.modDrv n fun d => { d with step := false }).put (F.DRV_n_STAT_STATE n) stRun
  let s1 :=
    match takeDue n s0 with
    | some t => t
    | none =>
      if interruptReady n s0 then interruptEntryOp n s0
      else issueBundle n ((fetchFrom (s0.bank n) (8193 - s0.get (F.DRV_n_PC_PC n)) (s0.get (F.DRV_n_PC_PC n))).map decodeSyl) s0
  let st := s1.get (F.DRV_n_STAT_STATE n)
  if st = stRun ∨ st = stWait then s1.put (F.DRV_n_STAT_STATE n) stHalted else s1

/-- Issue every bundle that a STEP has asked for. -/
def runSteps : Nat → State → State
  | 0, s => s
  | fuel + 1, s =>
    match (List.finRange 12).find? fun n => s.drovers[n].step with
    | some n => runSteps fuel (stepOnce n s)
    | none => s

/-- The bundle of a row of the opcode table issues, where the Drover issues at all. DEDUCED, log entry 52. -/
def issueRow (n : Fin 12) (a : Syl) (rest : List (BitVec 64)) (s : State) : State :=
  if canIssue n s then runSteps 12 (issueBundle n (rowBundle a rest) s) else s

/-- A register write, and the bundles that a write of the DRV block asks for. -/
def writeAndStep (who : Writer) (off v : Nat) (s : State) : State :=
  if off / 0x10000 = 0xA then runSteps 12 (writeReg who off v s) else writeReg who off v s

end Sys2Proof.Machine
end

