-- ==== Sys2Proof/Machine/SlotTick.lean ====
section
/-!
DEFINITION. The slot tick (R18 to R26, R456 to R458): everything that a tick does, in the order of the moments table of
01_slot_tick.md.
-/

namespace Sys2Proof.Machine

/-! ## Staged writes (R11, R19, R22, R456, R457) -/

/-- The staged writes that a tick applies: those of the tick, and at slot 0 those of the superframe start, in the order in
which they were made within each kind. -/
def dueWrites (s : State) : List Staged × State :=
  let a := if s.tally.slot = 0 then takeStaged .superframe s else ([], s)
  let b := takeStaged .tick a.2
  (a.1 ++ b.1, b.2)

/-- The write of an air item register that a tick applies last: its owner and the air items it carries. -/
def airWrite (off : Nat) (due : List Staged) : Option (Option Nat × Nat) :=
  match (due.filter fun p => p.field.off == off).getLast? with
  | none => none
  | some l =>
    let last := fun f : Nat => ((due.filter fun p => p.field.off == off && p.field.lo == f).getLast?.map itemCount).getD 0
    some (l.owner, last 0 + if off = R.FTX_TXL then last 25 else 0)

/-- The items of an air item register for the slot that begins (R456): none without a write, and none where their Drover
missed its preparation seal, which cancels and counts them (R19). -/
def airItems (off : Nat) (due : List Staged) (missed : List Nat) (s : State) : Option AirRef × State :=
  match airWrite off due with
  | none => (none, s)
  | some (owner, n) =>
    if (owner.map missed.contains).getD false then (none, s.add F.TICK_CANCEL_COUNT n)
    else
      let w := (s.reg off).toNat
      (some ⟨bits w 0 25, bits w 25 7, owner⟩, s)

/-- Apply the staged writes of a tick and take the air items of the slot that begins. -/
def airStaged (missed : List Nat) (s : State) : State :=
  let d := dueWrites s
  let s1 := d.1.foldl (fun s p => s.put p.field p.value) d.2
  let s2 := forAll (stagedClasses d.1) tokenReset s1
  let a := airItems R.FTX_TXL d.1 missed s2
  let b := airItems R.FRX_RXP d.1 missed a.2
  let c := airItems (R.BBL_l_PROG 0) d.1 missed b.2
  let e := airItems (R.BBL_l_PROG 1) d.1 missed c.2
  { e.2 with txl := a.1, rxp := b.1, prog0 := c.1, prog1 := e.1 }

/-! ## The schedule and the Manifest -/

/-- The channel plan of the coming superframe: the new Manifest's where the air side of a switch begins it. -/
def State.planNext (s : State) : List PlanChan :=
  if s.on F.MAN_STAT_NEXT && s.man.armT == (s.tally.sfn + 1) % 2 ^ 32 then planOf (s.slotBody s.shadowSlot) else s.man.plan

/-- The armed switch and the announced change at a tick (R52 to R57, R75, R76). -/
def scheduleTick (s : State) : State :=
  let s1 := manTick (sfArmTick s)
  let s2 := if s1.airSwitchDue then
      let t := airSide s1
      if t.sf.retune then rxRetune t else t
    else s1
  let s3 := ntEpoch (sfApply s2)
  if airMode s3.mode ∧ s3.tally.slot = 0 then { s3 with sf := { s3.sf with air := true } } else s3

/-- At the tick that starts the last slot the beacon's values are latched (R457). -/
def beaconTick (s : State) : State :=
  if s.tally.slot + 1 = s.sfLen then
    let t := bcnBoundary s
    bcnLatch t.planNext t
  else s

/-! ## The blocks -/

/-- What the modes, the Tandem and the containment of faults do at a tick; what a withheld heartbeat asks for waits for a
later tick, so it comes last. -/
def modesTick (low late : Bool) (s : State) : State :=
  updWatch (withholdTick late (fenceTick (drainEnd (modeTick low (handoverTick (tanTick low s))))))

/-- What the radio blocks do with the items of the slot that begins. -/
def radioTick (s : State) : State := laneTick 1 (laneTick 0 (laneRelease (joinsTick (rxProgramme (ftxTick s)))))

/-- What the other blocks do at a tick, and the tick's event (R213, R421); `waits` names the Drovers that wait on it. -/
def blocksTick (waits : Fin 12 → Bool) (s : State) : State :=
  let s1 := tmrTick (snapTick (carTick (leaseRetryTick s)))
  produce Prod.slotTick (evinAll 0 (forDrovers (imageSwitchTick waits) s1))

/-- The Drovers that owed a seal of a kind in the slot just ended and did not give it (R19, R458). -/
def State.owing (s : State) (need given : Field) : List Nat :=
  if s.tally.whole then missedSeals (s.get need) (s.get given) else []

/-- SLOT_TICK: the slot runs to its end, and the next one begins. DESIGN CHOICE, log entry 3. DESIGN CHOICE, log entry 8.
DEDUCED, log entry 75. DEDUCED, log entry 101. -/
def slotTick (inp : TickIn) (s : State) : State :=
  if !s.tickRuns then s
  else
    let len := s.slotLen
    let s0 := s.elapse (4 * len - s.tally.pos)
    let missed := s0.owing F.TICK_NEEDSEAL_PREP F.TICK_SEALED_PREP
    let late := (s0.journalDrover.map (s0.owing F.TICK_NEEDSEAL_RETIRE F.TICK_SEALED_RETIRE).contains).getD false
    let s1 := newSeals (advanceTally (ringLoad (judgeSeals (frxMeasure inp s0))))
    let s2 := tokenCredit len (modesTick inp.ownLow late s1)
    blocksTick (fun n => waitsOnTick n s0) (radioTick (beaconTick (airStaged missed (scheduleTick s2))))

end Sys2Proof.Machine
end

