-- ==== Sys2Proof/Machine/Rows.lean ====
section
/-!
DEFINITION. The shapes that the meanings of the opcode table's rows share: a command some time after the one before it, a
register write, a register read with an effect, and the issue of a Drover bundle.
-/

namespace Sys2Proof.Machine

/-- What exec answers. -/
abbrev Answer := Host.Outcome State Fault Refusal

/-- A command that comes `dt` quarter grains after the one before it. DESIGN CHOICE, log entry 3. DESIGN CHOICE, log entry
4. DESIGN CHOICE, log entry 16. -/
def cmd (dt : Nat) (f : State → State) (s : State) : Answer := .next (f (s.elapse dt))

/-- A command that is a write of word `v` to the register at `off`. DESIGN CHOICE, log entry 11. -/
def wrCmd (dt : Nat) (who : Writer) (off v : Nat) (s : State) : Answer := cmd dt (writeAndStep who off v) s

/-- The word that leaves a register's fields as they stand and asks for no command: its command and W1C fields are 0.
DESIGN CHOICE, log entry 11. -/
def State.heldWord (s : State) (off : Nat) : Nat :=
  (((fieldsAt off).getD []).filter fun f => f.acc == .rwl || f.acc == .rwf || f.acc == .rwt || f.acc == .rws).foldr
    (fun f w => s.get ⟨off, f.lo, f.w⟩ * 2 ^ f.lo + w) 0

/-- A command bit of a register is written, its other fields as they stand. -/
def setBitBy (who : Writer) (off bit : Nat) (s : State) : State := writeAndStep who off (setBit (s.heldWord off) bit) s

/-- A command bit of a register is written by the host. DESIGN CHOICE, log entry 11. -/
def setBitOp (off bit : Nat) (s : State) : State := setBitBy .host off bit s

/-- A read that changes state: the host's completes with the word. A Drover's read is a bundle of its own. -/
def readOp (who : Writer) (off : Nat) (s : State) : State :=
  if s.mode = Mode.reset then s
  else
    let r := readReg off s
    match who with
    | .host => r.2.emit (.hostRead r.1)
    | _ => r.2

/-- A read of SPI_MW_DATA: one that misses completes with MW_FETCH_DONE (R436). -/
def mwReadOp (who : Writer) (s : State) : State :=
  if s.mwServes && (s.mwLine (s.get F.SPI_MW_ADDR_ADDR)).isNone then
    match who with
    | .drover n => if s.drovers[n].mw = none then (mwRead (some n) s).modDrv n fun d => { d with mw := some none } else s
    | _ => mwRead none s
  else readOp who R.SPI_MW_DATA s

/-- The row's bundle issues on Drover `n`. -/
def isaCmd (n : Fin 12) (a : Syl) (rest : List (BitVec 64)) (s : State) : Answer := .next (issueRow n a rest s)

end Sys2Proof.Machine
end

