-- ==== Sys2Proof/Machine/CmdCar.lean ====
section
/-!
DEFINITION. Commands of the Caravan (16_caravan.md).
-/

namespace Sys2Proof.Machine

/-- CAR_ENUM (R283). -/
def execCarEnum (dt : Nat) (who : Writer) (s : State) : Answer := wrCmd dt who R.CAR_CMD 1 s

/-- ENUM (R283). -/
def execEnum (a : Arrival) (next count size : Nat) (s : State) : Answer :=
  cmd a.dt (fun s => neighbourPkt a.head (enumRx a.head next count size) (twoLeads s)) s

/-- ENUM_TIMEOUT (R283). -/
def execEnumTimeout (dt : Nat) (east west : Nat) (s : State) : Answer :=
  cmd dt (Sys2Proof.Machine.enumTimeout east west) s

/-- PING (R287). -/
def execPing (dt : Nat) (s : State) : Answer := cmd dt pingSend s

/-- PING_RECEIVE (R287). -/
def execPingReceive (dt : Nat) (port : Fin 2) (rtt : Nat) (s : State) : Answer := cmd dt (pingRx port rtt) s

/-- TICK_PACKET_SEND (R288). -/
def execTickPacketSend (dt : Nat) (s : State) : Answer := cmd dt tickSend s

/-- TICK_PACKET (R288). -/
def execTickPacket (dt late : Nat) (h : PktHead) (ttt asn sfn slot slotlen sflen res : Nat) (s : State) : Answer :=
  cmd dt (neighbourPkt h (tickRx late h ttt asn sfn slot slotlen sflen res)) s

/-- RWR (R285). -/
def execRwr (a : Arrival) (addr : Nat) (v : Word) (s : State) : Answer :=
  cmd a.dt (receivePkt a.head (.rwr addr v) fun t => runSteps 12 (rwrRx addr v.toNat t)) s

/-- RRD (R285). -/
def execRrd (dt : Nat) (h : PktHead) (addr : Nat) (s : State) : Answer :=
  cmd dt (receivePkt h (.rrd addr) (rrdRx h.origin addr)) s

/-- RCPL (R285). -/
def execRcpl (a : Arrival) (v : Word) (s : State) : Answer :=
  cmd a.dt (receivePkt a.head (.rcpl v) fun t => t.emit (.hostRead v)) s

/-- SDATA (R285). -/
def execSdata (dt : Nat) (h : PktHead) (addr len : Nat) (data : Option (List Byte)) (s : State) : Answer :=
  cmd dt (receivePkt h ((data.map (.swrite addr)).getD (.sread addr len)) (sdataRx h.origin addr len data)) s

/-- REMOTE_TIMEOUT (R286). -/
def execRemoteTimeout (dt : Nat) (s : State) : Answer := cmd dt Sys2Proof.Machine.remoteTimeout s

/-- BCAST (R293). -/
def execBcast (a : Arrival) (b : Bcast) (s : State) : Answer := cmd a.dt (receivePkt a.head (.bcast b) (bcastRx b)) s

/-- BARQ (R293). -/
def execBarq (dt : Nat) (h : PktHead) (s : State) : Answer := cmd dt (receivePkt h .barq (barqRx h.origin)) s

/-- BARA (R293). -/
def execBara (dt : Nat) (h : PktHead) (ready : Bool) (s : State) : Answer :=
  cmd dt (receivePkt h (.bara ready) (baraRx h.origin ready)) s

/-- BARRIER_TIMEOUT (R293). -/
def execBarrierTimeout (dt : Nat) (s : State) : Answer := cmd dt Sys2Proof.Machine.barrierTimeout s

/-- CAR_SNAP (R294). -/
def execCarSnap (dt : Nat) (who : Writer) (s : State) : Answer := wrCmd dt who R.CAR_CMD 2 s

/-- SNAP (R294). -/
def execSnap (a : Arrival) (asn : Nat) (s : State) : Answer := cmd a.dt (receivePkt a.head (.snap asn) (snapRx asn)) s

/-- CAR_RESET (R295). -/
def execCarReset (dt : Nat) (who : Writer) (s : State) : Answer := wrCmd dt who R.CAR_CMD 4 s

/-- CAR_ABORT (R295). -/
def execCarAbort (dt : Nat) (who : Writer) (s : State) : Answer := wrCmd dt who R.CAR_CMD 8 s

/-- RESET_WAVE_2 (R295). -/
def execResetWave2 (dt : Nat) (s : State) : Answer := cmd dt resetWave2Cmd s

/-- CAR_IMAGE (R300). -/
def execCarImage (dt : Nat) (who : Writer) (s : State) : Answer := wrCmd dt who R.CAR_CMD 16 s

/-- IMAGE (R300). -/
def execImage (a : Arrival) (off : Nat) (bytes : List Byte) (last : Bool) (bad : List (Nat × Byte))
    (s : State) : Answer :=
  cmd a.dt (receivePkt a.head (.image off bytes) (imageRx off bytes last bad)) s

/-- IMAGE_SECTOR_CONFIRM (R300). -/
def execImageSectorConfirm (dt : Nat) (chip : Nat) (ok : Bool) (s : State) : Answer := cmd dt (imageConfirm chip ok) s

/-- PORT_DOWN (R296). -/
def execPortDown (dt : Nat) (p : Fin 2) (s : State) : Answer := cmd dt (Sys2Proof.Machine.portDown p) s

/-- LINK (R296). -/
def execLink (dt : Nat) (h : PktHead) (port : Nat) (up : Bool) (s : State) : Answer :=
  cmd dt (receivePkt h (.link port up) (linkRx h.origin port up)) s

/-- ISOLATION (R297). -/
def execIsolation (dt : Nat) (s : State) : Answer := cmd dt isolate s

/-- LINK_UP (R298). -/
def execLinkUp (dt : Nat) (p : Fin 2) (err : Int) (sameAsn : Bool) (s : State) : Answer :=
  cmd dt (Sys2Proof.Machine.linkUp p err sameAsn) s

/-- CAR_CLRCNT (R9). -/
def execCarClrcnt (dt : Nat) (s : State) : Answer := cmd dt (setBitOp R.CAR_CTL 0) s

end Sys2Proof.Machine
end

