-- ==== Sys2Proof/Machine/CmdEvt.lean ====
section
/-!
DEFINITION. Commands of the event fabric and the serial ports (23_events_serial.md).
-/

namespace Sys2Proof.Machine

/-- PENDING_DELIVERY (R425). -/
def execPendingDelivery (dt : Nat) (c : Fin 64) (s : State) : Answer := cmd dt (deliverPending c) s

/-- EVT_FIRE (R423). -/
def execEvtFire (dt : Nat) (who : Writer) (c : Fin 64) (s : State) : Answer := wrCmd dt who R.EVT_FIRE c s

/-- EVT_LOCK (R427). -/
def execEvtLock (dt : Nat) (who : Writer) (c : Fin 64) (s : State) : Answer :=
  cmd dt (setBitBy who (R.EVT_CH_c_1 c) 2) s

/-- EVT_CLRCNT (R9). -/
def execEvtClrcnt (dt : Nat) (s : State) : Answer := cmd dt (setBitOp R.EVT_CTL 0) s

/-- SPI_GO (R432). -/
def execSpiGo (dt : Nat) (i : Fin 2) (miso : List Nat) (s : State) : Answer :=
  cmd dt (fun t => if t.writable (R.SPI_i_CMD i) && !t.spiHost i then Sys2Proof.Machine.spiGo i miso t else t) s

/-- MASTER_FRAME_END (R432). -/
def execMasterFrameEnd (dt : Nat) (i : Fin 2) (s : State) : Answer := cmd dt (masterEnd i) s

/-- SPI_FLUSH (R431). -/
def execSpiFlush (dt : Nat) (who : Writer) (i : Fin 2) (s : State) : Answer := wrCmd dt who (R.SPI_i_CMD i) 2 s

/-- SPI_TXD_WRITE (R431). -/
def execSpiTxdWrite (dt : Nat) (who : Writer) (i : Fin 2) (v : Word) (s : State) : Answer :=
  wrCmd dt who (R.SPI_i_TXD i) v.toNat s

/-- SPI_RXD_READ (R431). -/
def execSpiRxdRead (dt : Nat) (who : Writer) (i : Fin 2) (s : State) : Answer := cmd dt (readOp who (R.SPI_i_RXD i)) s

/-- CSN_FALL (R433). -/
def execCsnFall (dt : Nat) (i : Fin 2) (s : State) : Answer := cmd dt (Sys2Proof.Machine.csnFall i) s

/-- CSN_RISE (R435). -/
def execCsnRise (dt : Nat) (i : Fin 2) (edges : Nat) (s : State) : Answer :=
  cmd dt (Sys2Proof.Machine.csnRise i edges) s

/-- MW_DATA_READ (R436). -/
def execMwDataRead (dt : Nat) (who : Writer) (s : State) : Answer := cmd dt (mwReadOp who) s

/-- MW_FETCH_DONE (R436). -/
def execMwFetchDone (dt : Nat) (bytes : List Byte) (s : State) : Answer := cmd dt (mwDone bytes) s

/-- MW_INVAL (R437). -/
def execMwInval (dt : Nat) (s : State) : Answer := cmd dt (setBitOp R.SPI_MW_CFG 2) s

/-- SPI_CLRCNT (R9). -/
def execSpiClrcnt (dt : Nat) (s : State) : Answer := cmd dt (setBitOp R.SPI_CTL 0) s

/-- SPI_SLAVE_WORD (R433). -/
def execSpiSlaveWord (dt : Nat) (i : Fin 2) (mosi : Nat) (s : State) : Answer := cmd dt (slaveWord i mosi) s

end Sys2Proof.Machine
end

