-- ==== Sys2Proof/Machine/CmdField.lean ====
section
/-!
DEFINITION. Commands of the field receivers, transmitters and node timing (05_field_receive.md to 07_node_timing.md).
-/

namespace Sys2Proof.Machine

/-- SHR_DETECT (R94). -/
def execShrDetect (dt : Nat) (src : Fin 2) (chan : Fin 64) (lag : Nat) (chest : List Byte) (s : State) : Answer :=
  cmd dt (Sys2Proof.Machine.shrDetect src chan lag chest) s

/-- PHR_RECEIVED (R108). -/
def execPhrReceived (dt : Nat) (src : Fin 2) (chan : Fin 64) (stream : Fin 2) (phr : BitVec 16) (rssi cfo : Int)
    (s : State) : Answer :=
  cmd dt (Sys2Proof.Machine.phrReceived src chan stream phr.toNat rssi cfo) s

/-- FRAME_END (R110). -/
def execFrameEnd (dt : Nat) (src : Fin 2) (chan : Fin 64) (stream : Fin 2) (lag : Nat) (psdu : List Byte) (sinr : Int)
    (s : State) : Answer :=
  cmd dt (Sys2Proof.Machine.frameEnd src chan stream lag psdu sinr) s

/-- EARLY_DESCRIPTOR (R111). -/
def execEarlyDescriptor (dt : Nat) (src : Fin 2) (chan : Fin 64) (stream : Fin 2) (psdu : List Byte)
    (s : State) : Answer :=
  cmd dt (Sys2Proof.Machine.earlyDescriptor src chan stream psdu) s

/-- AGC_FAST_STEP (R88). -/
def execAgcFastStep (dt : Nat) (port : Fin 16) (s : State) : Answer := cmd dt (agcFast port) s

/-- FRX_CLRCNT (R9). -/
def execFrxClrcnt (dt : Nat) (s : State) : Answer := cmd dt (setBitOp R.FRX_CTL 5) s

/-- LIST_FRAME_START (R460). -/
def execListFrameStart (dt : Nat) (out : Fin 4) (grant : Bool) (s : State) : Answer :=
  cmd dt (Sys2Proof.Machine.listFrameStart out grant) s

/-- CARRIER_END (R119). -/
def execCarrierEnd (dt : Nat) (out : Fin 4) (chan : Fin 64) (s : State) : Answer :=
  cmd dt (Sys2Proof.Machine.carrierEnd out chan) s

/-- GRANT_WITHDRAWN (R128). -/
def execGrantWithdrawn (dt : Nat) (s : State) : Answer := cmd dt Sys2Proof.Machine.grantWithdrawn s

/-- ACK_RING_WR_WRITE (R125). -/
def execAckRingWrWrite (dt : Nat) (who : Writer) (ring : Fin 2) (v : Word) (s : State) : Answer :=
  wrCmd dt who (R.FTX_ACKRING_j_2 ring) v.toNat s

/-- ACK_WR_EFFECT (R163). -/
def execAckWrEffect (dt : Nat) (ring : Fin 2) (s : State) : Answer := cmd dt (Sys2Proof.Machine.ackWrEffect ring) s

/-- ACK_SEND (R125). -/
def execAckSend (dt : Nat) (out : Fin 4) (chan : Fin 64) (grant : Bool) (s : State) : Answer :=
  cmd dt (Sys2Proof.Machine.ackSend out chan grant) s

/-- DPD_UPDATE_DONE (R123). -/
def execDpdUpdateDone (dt : Nat) (out : Fin 4) (err : Nat) (s : State) : Answer := cmd dt (dpdDone out err) s

/-- DPD_RESEED (R124). -/
def execDpdReseed (dt : Nat) (s : State) : Answer := cmd dt (setBitOp R.FTX_DPD 2) s

/-- FTX_CLRCNT (R9). -/
def execFtxClrcnt (dt : Nat) (s : State) : Answer := cmd dt (setBitOp R.FTX_CTL 0) s

/-- NT_INIT (R144). -/
def execNtInit (dt : Nat) (s : State) : Answer := cmd dt (ntServe 1) s

/-- NT_UPDATE (R136). -/
def execNtUpdate (dt : Nat) (s : State) : Answer := cmd dt (ntServe 2) s

/-- NT_PREDICT (R134). -/
def execNtPredict (dt : Nat) (s : State) : Answer := cmd dt (ntServe 3) s

/-- NT_MISS (R142). -/
def execNtMiss (dt : Nat) (s : State) : Answer := cmd dt (ntServe 4) s

/-- NT_CLEAR (R144). -/
def execNtClear (dt : Nat) (s : State) : Answer := cmd dt (ntServe 5) s

/-- NT_CLRCNT (R9). -/
def execNtClrcnt (dt : Nat) (s : State) : Answer := cmd dt (setBitOp R.NT_CTL 0) s

end Sys2Proof.Machine
end

