-- ==== Sys2Proof/Machine/CmdFls.lean ====
section
/-!
DEFINITION. Commands of the flash, calibration, timers and the real-time clock (21_flash_calibration.md, 22_timers_rtc.md).
-/

namespace Sys2Proof.Machine

/-- FLS_READ (R383). -/
def execFlsRead (dt : Nat) (s : State) : Answer := cmd dt (setBitOp R.FLS_CMD 0) s

/-- MARGIN_READ (R384). -/
def execMarginRead (dt : Nat) (s : State) : Answer := wrCmd dt .host R.FLS_CMD 0x41 s

/-- READ_DONE (R384). -/
def execReadDone (dt : Nat) (errs : List (Nat × Nat)) (weak : Nat) (s : State) : Answer :=
  cmd dt (flsReadDone errs weak) s

/-- FLS_PROGRAM (R385). -/
def execFlsProgram (dt : Nat) (s : State) : Answer := cmd dt (setBitOp R.FLS_CMD 1) s

/-- PROGRAM_DONE (R385). -/
def execProgramDone (dt : Nat) (s : State) : Answer := cmd dt flsProgramDone s

/-- FLS_ERASE (R386). -/
def execFlsErase (dt : Nat) (s : State) : Answer := cmd dt (setBitOp R.FLS_CMD 2) s

/-- ERASE_PULSE_DONE (R386). -/
def execErasePulseDone (dt : Nat) (verify : Bool) (s : State) : Answer := cmd dt (flsPulse verify) s

/-- FLS_SUSPEND (R388). -/
def execFlsSuspend (dt : Nat) (s : State) : Answer := cmd dt (setBitOp R.FLS_CMD 3) s

/-- FLS_RESUME (R388). -/
def execFlsResume (dt : Nat) (s : State) : Answer := cmd dt (setBitOp R.FLS_CMD 4) s

/-- OPTWRITE (R396). -/
def execOptwrite (dt : Nat) (s : State) : Answer := cmd dt (setBitOp R.FLS_CMD 5) s

/-- OPTWRITE_DONE (R396). -/
def execOptwriteDone (dt : Nat) (bad : List (Nat × Byte)) (s : State) : Answer := cmd dt (flsOptDone bad) s

/-- FLS_CLRCNT (R9). -/
def execFlsClrcnt (dt : Nat) (s : State) : Answer := cmd dt (setBitOp R.FLS_CTL 0) s

/-- PFAILN_FALL (R394). -/
def execPfailnFall (dt : Nat) (s : State) : Answer := cmd dt (fun t => calPfail (flsPfail t)) s

/-- FLASH_CLOSE_DONE (R394). -/
def execFlashCloseDone (dt : Nat) (s : State) : Answer := cmd dt flsClose s

/-- CAL_RUN (R400). -/
def execCalRun (dt : Nat) (s : State) : Answer := cmd dt (setBitOp R.CAL_CMD 0) s

/-- CAL_RUN_DONE (R400). -/
def execCalRunDone (dt : Nat) (meas : List Byte) (pps : Bool) (fail : Option (Fin 7)) (s : State) : Answer :=
  cmd dt (fun t => if t.cal.run.isSome then calLeave (Sys2Proof.Machine.calRunDone meas pps fail t) else t) s

/-- CAL_ABORT (R400). -/
def execCalAbort (dt : Nat) (s : State) : Answer := cmd dt (setBitOp R.CAL_CMD 1) s

/-- CAL_COMMIT (R401). -/
def execCalCommit (dt : Nat) (s : State) : Answer := cmd dt (setBitOp R.CAL_CMD 2) s

/-- CAL_COMMIT_DONE (R401). -/
def execCalCommitDone (dt : Nat) (bad : List (Nat × Byte)) (s : State) : Answer :=
  cmd dt (Sys2Proof.Machine.calCommitDone bad) s

/-- TMR_START (R408). -/
def execTmrStart (dt : Nat) (who : Writer) (mask : Nat) (atTick : Bool) (s : State) : Answer :=
  wrCmd dt who R.TMR_START (mask % 2 ^ 16 + 2 ^ 16 * b2n atTick) s

/-- TMR_STOP (R408). -/
def execTmrStop (dt : Nat) (who : Writer) (mask : Nat) (s : State) : Answer := wrCmd dt who R.TMR_STOP (mask % 2 ^ 16) s

/-- TMR_CAPTURE (R409). -/
def execTmrCapture (dt : Nat) (who : Writer) (n : Fin 16) (s : State) : Answer := wrCmd dt who (R.TMR_n_CMD n) 1 s

/-- TMR_CMP_WRITE (R406). -/
def execTmrCmpWrite (dt : Nat) (who : Writer) (n : Fin 16) (v : Word) (s : State) : Answer :=
  wrCmd dt who (R.TMR_n_CMP n) v.toNat s

/-- TMR_PERIOD_WRITE (R407). -/
def execTmrPeriodWrite (dt : Nat) (who : Writer) (n : Fin 16) (v : Word) (s : State) : Answer :=
  wrCmd dt who (R.TMR_n_PERIOD n) v.toNat s

/-- COMPARE_MATCH (R405). -/
def execCompareMatch (dt : Nat) (n : Fin 16) (s : State) : Answer := cmd dt (Sys2Proof.Machine.compareMatch n) s

/-- TIMER_WRAP (R405). -/
def execTimerWrap (dt : Nat) (n : Fin 16) (s : State) : Answer := cmd dt (Sys2Proof.Machine.timerWrap n) s

/-- RTC_CAPTURE (R412). -/
def execRtcCapture (dt : Nat) (s : State) : Answer := wrCmd dt .host R.RTC_CAPTURE 1 s

/-- RTC_CAPTURE_DONE (R412). -/
def execRtcCaptureDone (dt : Nat) (sub : Fin 256) (s : State) : Answer :=
  cmd dt (Sys2Proof.Machine.rtcCaptureDone sub) s

/-- RTC_COMMIT (R413). -/
def execRtcCommit (dt : Nat) (who : Writer) (v : Word) (s : State) : Answer := wrCmd dt who R.RTC_STG_SEC v.toNat s

/-- RTC_COMMIT_DONE (R413). -/
def execRtcCommitDone (dt : Nat) (s : State) : Answer := cmd dt Sys2Proof.Machine.rtcCommitDone s

/-- RTC_SECOND (R410). -/
def execRtcSecond (dt : Nat) (s : State) : Answer := cmd dt Sys2Proof.Machine.rtcSecond s

/-- RTC_WAKE (R416). -/
def execRtcWake (dt : Nat) (s : State) : Answer := cmd dt Sys2Proof.Machine.rtcWake s

/-- RTC_ALARM_WRITE (R414). -/
def execRtcAlarmWrite (dt : Nat) (who : Writer) (addr : Nat) (v : Word) (s : State) : Answer :=
  cmd dt (fun t => if addr = R.RTC_ALARM_TIME ∨ addr = R.RTC_ALARM_DATE ∨ addr = R.RTC_ALARM_CTL then
    writeReg who addr v.toNat t else t) s

/-- RTC_WAKE_WRITE (R416). -/
def execRtcWakeWrite (dt : Nat) (who : Writer) (v : Word) (s : State) : Answer := wrCmd dt who R.RTC_WAKE v.toNat s

/-- BACKUP_LOSS (R417). -/
def execBackupLoss (dt : Nat) (s : State) : Answer := cmd dt Sys2Proof.Machine.backupLoss s

/-- BATTERY_LOW (R417). -/
def execBatteryLow (dt : Nat) (s : State) : Answer := cmd dt (Sys2Proof.Machine.batteryLow true) s

/-- BACKUP_SUPPLY_RETURN (R417). -/
def execBackupSupplyReturn (dt : Nat) (s : State) : Answer := cmd dt (Sys2Proof.Machine.batteryLow false) s

end Sys2Proof.Machine
end

