-- ==== Sys2Proof/Machine/CmdHost.lean ====
section
/-!
DEFINITION. Commands of the host interfaces, of trust and of updates (18_host.md to 20_update.md).
-/

namespace Sys2Proof.Machine

/-- DOORBELL (R335). -/
def execDoorbell (dt : Nat) (who : Writer) (ring : Fin 16) (v : Word) (s : State) : Answer :=
  wrCmd dt who (R.HST_DB_r ring) v.toNat s

/-- DEV_WRITE (R336). -/
def execDevWrite (dt : Nat) (d : Fin 12) (ring : Fin 16) (v : Word) (s : State) : Answer :=
  wrCmd dt (.drover d) (R.HST_RING_r_2 ring) v.toNat s

/-- SPI_READ (R338). -/
def execSpiRead (dt : Nat) (frame : List Byte) (s : State) : Answer := cmd dt (Sys2Proof.Machine.spiRead frame) s

/-- SPI_WRITE (R339). -/
def execSpiWrite (dt : Nat) (frame : List Byte) (s : State) : Answer :=
  cmd dt (fun t => runSteps 12 (spiHostWrite frame t)) s

/-- SPI_STATUS (R338). -/
def execSpiStatus (dt : Nat) (frame : List Byte) (s : State) : Answer := cmd dt (Sys2Proof.Machine.spiStatus frame) s

/-- HST_CLRCNT (R9). -/
def execHstClrcnt (dt : Nat) (s : State) : Answer := cmd dt (setBitOp R.HST_CTL 0) s

/-- MSIX_UNMASK (R332). -/
def execMsixUnmask (dt : Nat) (e : Option (Fin 64)) (s : State) : Answer := cmd dt (Sys2Proof.Machine.msixUnmask e) s

/-- NOISE_HEALTH_FAIL (R346). -/
def execNoiseHealthFail (dt : Nat) (s : State) : Answer := cmd dt noiseFail s

/-- DRBG_RESEED (R347). -/
def execDrbgReseed (dt : Nat) (s : State) : Answer := cmd dt Sys2Proof.Machine.drbgReseed s

/-- DRBG_RESTART (R346). -/
def execDrbgRestart (dt : Nat) (s : State) : Answer := cmd dt Sys2Proof.Machine.drbgRestart s

/-- SECURE_BOOT (R354). -/
def execSecureBoot (dt : Nat) (noise : Bool) (host : List Byte) (s : State) : Answer :=
  cmd dt (secureBootOp noise host) s

/-- TRU_CLAIM (R351). -/
def execTruClaim (dt : Nat) (s : State) : Answer := cmd dt (setBitOp R.TRU_CMD 1) s

/-- SETPUB (R350). -/
def execSetpub (dt : Nat) (s : State) : Answer := cmd dt (setBitOp R.TRU_CMD 2) s

/-- RBUMP (R356). -/
def execRbump (dt : Nat) (s : State) : Answer := cmd dt (setBitOp R.TRU_CMD 3) s

/-- RBUMP_COMPLETE (R356). -/
def execRbumpComplete (dt : Nat) (s : State) : Answer := cmd dt rbumpDone s

/-- IMPORT (R359). -/
def execImportKeys (dt : Nat) (s : State) : Answer :=
  cmd dt (fun t => if t.writable R.TRU_CMD then ownerRow 1 t else t) s

/-- LOCK (R351). -/
def execLock (dt : Nat) (s : State) : Answer := cmd dt (fun t => if t.writable R.TRU_CMD then ownerRow 2 t else t) s

/-- RETIRE (R353). -/
def execRetire (dt : Nat) (s : State) : Answer := cmd dt (fun t => if t.writable R.TRU_CMD then ownerRow 3 t else t) s

/-- UNLOCK (R362). -/
def execUnlock (dt : Nat) (s : State) : Answer := cmd dt (fun t => if t.writable R.TRU_CMD then ownerRow 4 t else t) s

/-- LOCKDEF (R362). -/
def execLockdef (dt : Nat) (s : State) : Answer := cmd dt (fun t => if t.writable R.TRU_CMD then ownerRow 5 t else t) s

/-- OWNER_COMMAND_DONE (R357). -/
def execOwnerCommandDone (dt : Nat) (s : State) : Answer := cmd dt ownerDone s

/-- TRU_LOCKSET (R362). -/
def execTruLockset (dt : Nat) (who : Writer) (v : Word) (s : State) : Answer := wrCmd dt who R.TRU_LOCKSET v.toNat s

/-- TRU_RAND_READ (R347). -/
def execTruRandRead (dt : Nat) (who : Writer) (s : State) : Answer := cmd dt (readOp who R.TRU_RAND) s

/-- JTAG_INSTRUCTION (R352). -/
def execJtagInstruction (dt : Nat) (j : Jtag) (s : State) : Answer := cmd dt (jtagOp j) s

/-- HEADER (R371). -/
def execHeader (dt : Nat) (s : State) : Answer := cmd dt (setBitOp R.UPD_CMD 0) s

/-- CHUNK (R372). -/
def execChunk (dt : Nat) (s : State) : Answer := cmd dt (setBitOp R.UPD_CMD 1) s

/-- CHUNK_DONE (R372). -/
def execChunkDone (dt : Nat) (s : State) : Answer := cmd dt updChunkDone s

/-- FINISH (R373). -/
def execFinish (dt : Nat) (s : State) : Answer := cmd dt (setBitOp R.UPD_CMD 2) s

/-- UPD_ABORT (R374). -/
def execUpdAbort (dt : Nat) (s : State) : Answer := cmd dt (setBitOp R.UPD_CTL 1) s

/-- UPD_CLRCNT (R9). -/
def execUpdClrcnt (dt : Nat) (s : State) : Answer := cmd dt (setBitOp R.UPD_CTL 0) s

/-- HOLDUP_SAMPLE (R374). -/
def execHoldupSample (dt : Nat) (mv : Nat) (s : State) : Answer := cmd dt (Sys2Proof.Machine.holdupSample mv) s

end Sys2Proof.Machine
end

