-- ==== Sys2Proof/Machine/CmdIsa.lean ====
section
/-!
DEFINITION. The Drover instruction set (12_drover_instructions.md): each command is the issue of a bundle by a running Drover, given by
the operands of its own syllable and the other syllables of the bundle.
-/

namespace Sys2Proof.Machine

/-- MOV (R229). -/
def execMov (d : Fin 12) (x y z : BitVec 19) (rest : List (BitVec 64)) (s : State) : Answer :=
  isaCmd d ⟨0, 0, x, y, z⟩ rest s

/-- MOV2 (R229). -/
def execMov2 (d : Fin 12) (x y z : BitVec 19) (rest : List (BitVec 64)) (s : State) : Answer :=
  isaCmd d ⟨0, 1, x, y, z⟩ rest s

/-- MOV4 (R229). -/
def execMov4 (d : Fin 12) (x y z : BitVec 19) (rest : List (BitVec 64)) (s : State) : Answer :=
  isaCmd d ⟨0, 2, x, y, z⟩ rest s

/-- MOVG (R229). -/
def execMovg (d : Fin 12) (x y z : BitVec 19) (rest : List (BitVec 64)) (s : State) : Answer :=
  isaCmd d ⟨0, 3, x, y, z⟩ rest s

/-- LEA (R229). -/
def execLea (d : Fin 12) (x y z : BitVec 19) (rest : List (BitVec 64)) (s : State) : Answer :=
  isaCmd d ⟨0, 4, x, y, z⟩ rest s

/-- XCH (R229). -/
def execXch (d : Fin 12) (x y z : BitVec 19) (rest : List (BitVec 64)) (s : State) : Answer :=
  isaCmd d ⟨0, 5, x, y, z⟩ rest s

/-- XCH2 (R229). -/
def execXch2 (d : Fin 12) (x y z : BitVec 19) (rest : List (BitVec 64)) (s : State) : Answer :=
  isaCmd d ⟨0, 6, x, y, z⟩ rest s

/-- MOVZ (R229). -/
def execMovz (d : Fin 12) (x y z : BitVec 19) (rest : List (BitVec 64)) (s : State) : Answer :=
  isaCmd d ⟨0, 7, x, y, z⟩ rest s

/-- MOVS (R229). -/
def execMovs (d : Fin 12) (x y z : BitVec 19) (rest : List (BitVec 64)) (s : State) : Answer :=
  isaCmd d ⟨0, 8, x, y, z⟩ rest s

/-- SMOV (R229). -/
def execSmov (d : Fin 12) (x y z : BitVec 19) (rest : List (BitVec 64)) (s : State) : Answer :=
  isaCmd d ⟨0, 9, x, y, z⟩ rest s

/-- SMOVG (R229). -/
def execSmovg (d : Fin 12) (x y z : BitVec 19) (rest : List (BitVec 64)) (s : State) : Answer :=
  isaCmd d ⟨0, 10, x, y, z⟩ rest s

/-- SFILLG (R229). -/
def execSfillg (d : Fin 12) (x y z : BitVec 19) (rest : List (BitVec 64)) (s : State) : Answer :=
  isaCmd d ⟨0, 11, x, y, z⟩ rest s

/-- SCMP (R229). -/
def execScmp (d : Fin 12) (x y z : BitVec 19) (rest : List (BitVec 64)) (s : State) : Answer :=
  isaCmd d ⟨0, 12, x, y, z⟩ rest s

/-- SCAN (R229). -/
def execScan (d : Fin 12) (x y z : BitVec 19) (rest : List (BitVec 64)) (s : State) : Answer :=
  isaCmd d ⟨0, 13, x, y, z⟩ rest s

/-- SCANN (R229). -/
def execScann (d : Fin 12) (x y z : BitVec 19) (rest : List (BitVec 64)) (s : State) : Answer :=
  isaCmd d ⟨0, 14, x, y, z⟩ rest s

/-- ADD (R238). -/
def execAdd (d : Fin 12) (x y z : BitVec 19) (rest : List (BitVec 64)) (s : State) : Answer :=
  isaCmd d ⟨1, 0, x, y, z⟩ rest s

/-- SUB (R238). -/
def execSub (d : Fin 12) (x y z : BitVec 19) (rest : List (BitVec 64)) (s : State) : Answer :=
  isaCmd d ⟨1, 1, x, y, z⟩ rest s

/-- AND (R230). -/
def execAnd (d : Fin 12) (x y z : BitVec 19) (rest : List (BitVec 64)) (s : State) : Answer :=
  isaCmd d ⟨1, 2, x, y, z⟩ rest s

/-- OR (R230). -/
def execOr (d : Fin 12) (x y z : BitVec 19) (rest : List (BitVec 64)) (s : State) : Answer :=
  isaCmd d ⟨1, 3, x, y, z⟩ rest s

/-- XOR (R230). -/
def execXor (d : Fin 12) (x y z : BitVec 19) (rest : List (BitVec 64)) (s : State) : Answer :=
  isaCmd d ⟨1, 4, x, y, z⟩ rest s

/-- ADDSS (R230). -/
def execAddss (d : Fin 12) (x y z : BitVec 19) (rest : List (BitVec 64)) (s : State) : Answer :=
  isaCmd d ⟨1, 5, x, y, z⟩ rest s

/-- SHL (R238). -/
def execShl (d : Fin 12) (x y z : BitVec 19) (rest : List (BitVec 64)) (s : State) : Answer :=
  isaCmd d ⟨1, 6, x, y, z⟩ rest s

/-- SHR (R238). -/
def execShr (d : Fin 12) (x y z : BitVec 19) (rest : List (BitVec 64)) (s : State) : Answer :=
  isaCmd d ⟨1, 7, x, y, z⟩ rest s

/-- SAR (R230). -/
def execSar (d : Fin 12) (x y z : BitVec 19) (rest : List (BitVec 64)) (s : State) : Answer :=
  isaCmd d ⟨1, 8, x, y, z⟩ rest s

/-- ROL (R230). -/
def execRol (d : Fin 12) (x y z : BitVec 19) (rest : List (BitVec 64)) (s : State) : Answer :=
  isaCmd d ⟨1, 9, x, y, z⟩ rest s

/-- ROR (R230). -/
def execRor (d : Fin 12) (x y z : BitVec 19) (rest : List (BitVec 64)) (s : State) : Answer :=
  isaCmd d ⟨1, 10, x, y, z⟩ rest s

/-- MIN (R230). -/
def execMin (d : Fin 12) (x y z : BitVec 19) (rest : List (BitVec 64)) (s : State) : Answer :=
  isaCmd d ⟨1, 11, x, y, z⟩ rest s

/-- MAX (R230). -/
def execMax (d : Fin 12) (x y z : BitVec 19) (rest : List (BitVec 64)) (s : State) : Answer :=
  isaCmd d ⟨1, 12, x, y, z⟩ rest s

/-- MINS (R230). -/
def execMins (d : Fin 12) (x y z : BitVec 19) (rest : List (BitVec 64)) (s : State) : Answer :=
  isaCmd d ⟨1, 13, x, y, z⟩ rest s

/-- MAXS (R230). -/
def execMaxs (d : Fin 12) (x y z : BitVec 19) (rest : List (BitVec 64)) (s : State) : Answer :=
  isaCmd d ⟨1, 14, x, y, z⟩ rest s

/-- ADDSU (R230). -/
def execAddsu (d : Fin 12) (x y z : BitVec 19) (rest : List (BitVec 64)) (s : State) : Answer :=
  isaCmd d ⟨1, 15, x, y, z⟩ rest s

/-- CRC16 (R232). -/
def execCrc16 (d : Fin 12) (x y z : BitVec 19) (rest : List (BitVec 64)) (s : State) : Answer :=
  isaCmd d ⟨2, 0, x, y, z⟩ rest s

/-- CRC32 (R232). -/
def execCrc32 (d : Fin 12) (x y z : BitVec 19) (rest : List (BitVec 64)) (s : State) : Answer :=
  isaCmd d ⟨2, 1, x, y, z⟩ rest s

/-- CRCP (R232). -/
def execCrcp (d : Fin 12) (x y z : BitVec 19) (rest : List (BitVec 64)) (s : State) : Answer :=
  isaCmd d ⟨2, 2, x, y, z⟩ rest s

/-- PAR (R231). -/
def execPar (d : Fin 12) (x y z : BitVec 19) (rest : List (BitVec 64)) (s : State) : Answer :=
  isaCmd d ⟨2, 3, x, y, z⟩ rest s

/-- BREV (R231). -/
def execBrev (d : Fin 12) (x y z : BitVec 19) (rest : List (BitVec 64)) (s : State) : Answer :=
  isaCmd d ⟨2, 4, x, y, z⟩ rest s

/-- BREVN (R231). -/
def execBrevn (d : Fin 12) (x y z : BitVec 19) (rest : List (BitVec 64)) (s : State) : Answer :=
  isaCmd d ⟨2, 5, x, y, z⟩ rest s

/-- POPC (R231). -/
def execPopc (d : Fin 12) (x y z : BitVec 19) (rest : List (BitVec 64)) (s : State) : Answer :=
  isaCmd d ⟨2, 6, x, y, z⟩ rest s

/-- CLZ (R231). -/
def execClz (d : Fin 12) (x y z : BitVec 19) (rest : List (BitVec 64)) (s : State) : Answer :=
  isaCmd d ⟨2, 7, x, y, z⟩ rest s

/-- BSET (R231). -/
def execBset (d : Fin 12) (x y z : BitVec 19) (rest : List (BitVec 64)) (s : State) : Answer :=
  isaCmd d ⟨2, 8, x, y, z⟩ rest s

/-- BCLR (R231). -/
def execBclr (d : Fin 12) (x y z : BitVec 19) (rest : List (BitVec 64)) (s : State) : Answer :=
  isaCmd d ⟨2, 9, x, y, z⟩ rest s

/-- BTST (R231). -/
def execBtst (d : Fin 12) (x y z : BitVec 19) (rest : List (BitVec 64)) (s : State) : Answer :=
  isaCmd d ⟨2, 10, x, y, z⟩ rest s

/-- BTOG (R231). -/
def execBtog (d : Fin 12) (x y z : BitVec 19) (rest : List (BitVec 64)) (s : State) : Answer :=
  isaCmd d ⟨2, 11, x, y, z⟩ rest s

/-- BEXT (R231). -/
def execBext (d : Fin 12) (x y z : BitVec 19) (rest : List (BitVec 64)) (s : State) : Answer :=
  isaCmd d ⟨2, 12, x, y, z⟩ rest s

/-- BINS (R231). -/
def execBins (d : Fin 12) (x y z : BitVec 19) (rest : List (BitVec 64)) (s : State) : Answer :=
  isaCmd d ⟨2, 13, x, y, z⟩ rest s

/-- CTZ (R231). -/
def execCtz (d : Fin 12) (x y z : BitVec 19) (rest : List (BitVec 64)) (s : State) : Answer :=
  isaCmd d ⟨2, 14, x, y, z⟩ rest s

/-- CBEQ (R233). DEDUCED, log entry 63. -/
def execCbeq (d : Fin 12) (x y z : BitVec 19) (rest : List (BitVec 64)) (s : State) : Answer :=
  isaCmd d ⟨3, 0, x, y, z⟩ rest s

/-- CBNE (R233). -/
def execCbne (d : Fin 12) (x y z : BitVec 19) (rest : List (BitVec 64)) (s : State) : Answer :=
  isaCmd d ⟨3, 1, x, y, z⟩ rest s

/-- CBLT (R233). -/
def execCblt (d : Fin 12) (x y z : BitVec 19) (rest : List (BitVec 64)) (s : State) : Answer :=
  isaCmd d ⟨3, 2, x, y, z⟩ rest s

/-- CBGE (R233). -/
def execCbge (d : Fin 12) (x y z : BitVec 19) (rest : List (BitVec 64)) (s : State) : Answer :=
  isaCmd d ⟨3, 3, x, y, z⟩ rest s

/-- CBLTU (R233). -/
def execCbltu (d : Fin 12) (x y z : BitVec 19) (rest : List (BitVec 64)) (s : State) : Answer :=
  isaCmd d ⟨3, 4, x, y, z⟩ rest s

/-- CBGEU (R233). -/
def execCbgeu (d : Fin 12) (x y z : BitVec 19) (rest : List (BitVec 64)) (s : State) : Answer :=
  isaCmd d ⟨3, 5, x, y, z⟩ rest s

/-- SEQ (R235). DEDUCED, log entry 63. -/
def execSeq (d : Fin 12) (x y z : BitVec 19) (rest : List (BitVec 64)) (s : State) : Answer :=
  isaCmd d ⟨3, 0, x, y, z⟩ rest s

/-- SNE (R235). -/
def execSne (d : Fin 12) (x y z : BitVec 19) (rest : List (BitVec 64)) (s : State) : Answer :=
  isaCmd d ⟨3, 1, x, y, z⟩ rest s

/-- SLT (R235). -/
def execSlt (d : Fin 12) (x y z : BitVec 19) (rest : List (BitVec 64)) (s : State) : Answer :=
  isaCmd d ⟨3, 2, x, y, z⟩ rest s

/-- SGE (R235). -/
def execSge (d : Fin 12) (x y z : BitVec 19) (rest : List (BitVec 64)) (s : State) : Answer :=
  isaCmd d ⟨3, 3, x, y, z⟩ rest s

/-- SLTU (R235). -/
def execSltu (d : Fin 12) (x y z : BitVec 19) (rest : List (BitVec 64)) (s : State) : Answer :=
  isaCmd d ⟨3, 4, x, y, z⟩ rest s

/-- SGEU (R235). -/
def execSgeu (d : Fin 12) (x y z : BitVec 19) (rest : List (BitVec 64)) (s : State) : Answer :=
  isaCmd d ⟨3, 5, x, y, z⟩ rest s

/-- BZ (R233). -/
def execBz (d : Fin 12) (x y z : BitVec 19) (rest : List (BitVec 64)) (s : State) : Answer :=
  isaCmd d ⟨3, 6, x, y, z⟩ rest s

/-- BNZ (R233). -/
def execBnz (d : Fin 12) (x y z : BitVec 19) (rest : List (BitVec 64)) (s : State) : Answer :=
  isaCmd d ⟨3, 7, x, y, z⟩ rest s

/-- JMP (R234). -/
def execJmp (d : Fin 12) (x y z : BitVec 19) (rest : List (BitVec 64)) (s : State) : Answer :=
  isaCmd d ⟨3, 8, x, y, z⟩ rest s

/-- CALL (R233). -/
def execCall (d : Fin 12) (x y z : BitVec 19) (rest : List (BitVec 64)) (s : State) : Answer :=
  isaCmd d ⟨3, 9, x, y, z⟩ rest s

/-- RET (R233). -/
def execRet (d : Fin 12) (x y z : BitVec 19) (rest : List (BitVec 64)) (s : State) : Answer :=
  isaCmd d ⟨3, 10, x, y, z⟩ rest s

/-- REP (R237). -/
def execRep (d : Fin 12) (x y z : BitVec 19) (rest : List (BitVec 64)) (s : State) : Answer :=
  isaCmd d ⟨3, 11, x, y, z⟩ rest s

/-- WAIT (R236). -/
def execWait (d : Fin 12) (x y z : BitVec 19) (rest : List (BitVec 64)) (s : State) : Answer :=
  isaCmd d ⟨3, 12, x, y, z⟩ rest s

/-- FIRE (R233). -/
def execFire (d : Fin 12) (x y z : BitVec 19) (rest : List (BitVec 64)) (s : State) : Answer :=
  isaCmd d ⟨3, 13, x, y, z⟩ rest s

/-- TRAP (R217). -/
def execTrap (d : Fin 12) (x y z : BitVec 19) (rest : List (BitVec 64)) (s : State) : Answer :=
  isaCmd d ⟨3, 14, x, y, z⟩ rest s

/-- HALT (R236). -/
def execHalt (d : Fin 12) (x y z : BitVec 19) (rest : List (BitVec 64)) (s : State) : Answer :=
  isaCmd d ⟨3, 15, x, y, z⟩ rest s

/-- INTERRUPT_RETURN (R215). DEDUCED, log entry 63. -/
def execInterruptReturn (d : Fin 12) (rest : List (BitVec 64)) (s : State) : Answer :=
  isaCmd d ⟨3, 10, 0x10001, immZero, immZero⟩ rest s

end Sys2Proof.Machine
end

