-- ==== Sys2Proof/Machine/CmdLane.lean ====
section
/-!
DEFINITION. Commands of the backbone lanes (09_backbone_lanes.md).
-/

namespace Sys2Proof.Machine

/-- LANE_SLOT_START (R170). -/
def execLaneSlotStart (dt : Nat) (l : Fin 2) (s : State) : Answer := cmd dt (Sys2Proof.Machine.laneSlotStart l) s

/-- LANE_CALIBRATION_END (R172). -/
def execLaneCalibrationEnd (dt : Nat) (l : Fin 2) (s : State) : Answer := cmd dt (laneCalEnd l) s

/-- LANE_TX_START (R174). -/
def execLaneTxStart (dt : Nat) (l : Fin 2) (grant : Bool) (s : State) : Answer :=
  cmd dt (Sys2Proof.Machine.laneTxStart l grant) s

/-- LANE_SEND_ENTRY (R177). -/
def execLaneSendEntry (dt : Nat) (l : Fin 2) (grant : Bool) (s : State) : Answer :=
  cmd dt (Sys2Proof.Machine.laneSendEntry l grant) s

/-- LANE_WINDOW_CLOSE (R179). -/
def execLaneWindowClose (dt : Nat) (l : Fin 2) (s : State) : Answer := cmd dt (Sys2Proof.Machine.laneWindowClose l) s

/-- LANE_FRAME_RECEIVED (R180). -/
def execLaneFrameReceived (dt : Nat) (l : Fin 2) (lagS lagE phr : Nat) (psdu : List Byte) (rssi sinr cfo : Int)
    (s : State) : Answer :=
  cmd dt (laneFrame l lagS lagE phr psdu rssi sinr cfo) s

/-- REACQ_END (R185). -/
def execReacqEnd (dt : Nat) (l : Fin 2) (s : State) : Answer := cmd dt (Sys2Proof.Machine.reacqEnd l) s

/-- SEARCH_DWELL_END (R186). -/
def execSearchDwellEnd (dt : Nat) (l : Fin 2) (s : State) : Answer := cmd dt (dwellEnd l) s

/-- RESEARCH (R187). -/
def execResearch (dt : Nat) (who : Writer) (l : Fin 2) (s : State) : Answer := wrCmd dt who (R.BBL_l_CMD l) 1 s

/-- BACKGROUND_CALIBRATION_STEP (R172). -/
def execBackgroundCalibrationStep (dt : Nat) (l : Fin 2) (kind : Fin 4) (abort : Bool) (s : State) : Answer :=
  cmd dt (bgStep l kind abort) s

/-- CALIBRATION_OVERDUE (R173). -/
def execCalibrationOverdue (dt : Nat) (l : Fin 2) (kind : Fin 4) (s : State) : Answer := cmd dt (bgOverdue l kind) s

/-- BBL_CLRCNT (R9). -/
def execBblClrcnt (dt : Nat) (s : State) : Answer := cmd dt (setBitOp R.BBL_CTL 0) s

/-- LANE_TX_END (R174). -/
def execLaneTxEnd (dt : Nat) (l : Fin 2) (s : State) : Answer := cmd dt (Sys2Proof.Machine.laneTxEnd l) s

end Sys2Proof.Machine
end

