-- ==== Sys2Proof/Machine/CmdMan.lean ====
section
/-!
DEFINITION. Commands of the Manifest and the air schedule (03_manifest.md, 04_air_schedule.md).
-/

namespace Sys2Proof.Machine

/-- MAN_CHECK (R45). -/
def execManCheck (dt : Nat) (s : State) : Answer := cmd dt (setBitOp R.MAN_LOAD 0) s

/-- MAN_CHECK_DONE (R45). -/
def execManCheckDone (dt : Nat) (s : State) : Answer := cmd dt manCheckDoneOp s

/-- MAN_ACTIVATE (R49). -/
def execManActivate (dt : Nat) (s : State) : Answer := cmd dt (setBitOp R.MAN_LOAD 1) s

/-- MAN_DISCARD (R48). -/
def execManDiscard (dt : Nat) (s : State) : Answer := cmd dt (setBitOp R.MAN_LOAD 2) s

/-- MAN_SWITCH_ARM (R50). -/
def execManSwitchArm (dt : Nat) (s : State) : Answer := cmd dt (setBitOp R.MAN_SWITCH 0) s

/-- MAN_SWITCH_CANCEL (R53). -/
def execManSwitchCancel (dt : Nat) (s : State) : Answer := cmd dt (setBitOp R.MAN_SWITCH 1) s

/-- SUBGHZ_RETUNE_END (R93). -/
def execSubghzRetuneEnd (dt : Nat) (s : State) : Answer :=
  cmd dt (fun t => { t with sf := { t.sf with retune := false } }) s

/-- SF_CHANGE_ARM (R75). -/
def execSfChangeArm (dt : Nat) (who : Writer) (v : Word) (s : State) : Answer :=
  wrCmd dt who R.SF_CHANGE (setBit v.toNat 0) s

end Sys2Proof.Machine
end

