-- ==== Sys2Proof/Machine/CmdSec.lean ====
section
/-!
DEFINITION. Commands of frame security and the cipher units (08_frame_security.md, 13_cipher_units.md).
-/

namespace Sys2Proof.Machine

/-- SEC_CHECK (R157). -/
def execSecCheck (dt : Nat) (s : State) : Answer := cmd dt (secServe 1) s

/-- SEC_COMMIT (R158). -/
def execSecCommit (dt : Nat) (s : State) : Answer := cmd dt (secServe 2) s

/-- TAKE (R164). -/
def execTake (dt : Nat) (s : State) : Answer := cmd dt (secServe 3) s

/-- TAKECELL (R164). -/
def execTakecell (dt : Nat) (s : State) : Answer := cmd dt (secServe 4) s

/-- LEASE_RAISE (R165). -/
def execLeaseRaise (dt : Nat) (bad : List (Nat × Byte)) (s : State) : Answer := cmd dt (leaseRaiseOp bad) s

/-- SEC_INIT (R151). -/
def execSecInit (dt : Nat) (s : State) : Answer := cmd dt (secServe 5) s

/-- ROTATE (R153). -/
def execRotate (dt : Nat) (s : State) : Answer := cmd dt (secServe 6) s

/-- FREE (R168). -/
def execFree (dt : Nat) (s : State) : Answer := cmd dt (secServe 7) s

/-- SEC_CLRCNT (R9). -/
def execSecClrcnt (dt : Nat) (s : State) : Answer := cmd dt (setBitOp R.SEC_CTL 0) s

/-- CIPH_CLAIM (R240). -/
def execCiphClaim (dt : Nat) (d : Fin 12) (u : Fin 4) (s : State) : Answer :=
  wrCmd dt (.drover d) (R.CIPH_u_CLAIM u) 16 s

/-- CIPH_DROP (R240). -/
def execCiphDrop (dt : Nat) (d : Fin 12) (u : Fin 4) (s : State) : Answer :=
  wrCmd dt (.drover d) (R.CIPH_u_CLAIM u) 32 s

/-- SEL (R244). -/
def execSel (dt : Nat) (u : Fin 4) (s : State) : Answer := cmd dt (ciServe u 1) s

/-- NONCE (R242). -/
def execNonce (dt : Nat) (u : Fin 4) (s : State) : Answer := cmd dt (ciServe u 2) s

/-- B0 (R242). -/
def execB0 (dt : Nat) (u : Fin 4) (s : State) : Answer := cmd dt (ciServe u 3) s

/-- MAC (R242). -/
def execMac (dt : Nat) (u : Fin 4) (s : State) : Answer := cmd dt (ciServe u 4) s

/-- CIPH_STARVED (R253). -/
def execCiphStarved (dt : Nat) (u : Fin 4) (s : State) : Answer := cmd dt (ciStarved u) s

/-- CTR (R249). -/
def execCtr (dt : Nat) (u : Fin 4) (s : State) : Answer := cmd dt (ciServe u 5) s

/-- FINAL (R250). -/
def execFinalTag (dt : Nat) (u : Fin 4) (s : State) : Answer := cmd dt (ciServe u 6) s

/-- KEYIN (R252). -/
def execKeyin (dt : Nat) (u : Fin 4) (s : State) : Answer := cmd dt (ciServe u 7) s

/-- OPEN (R251). -/
def execOpenCopy (dt : Nat) (u : Fin 4) (s : State) : Answer := cmd dt (ciServe u 8) s

/-- RAW (R249). -/
def execRaw (dt : Nat) (u : Fin 4) (s : State) : Answer := cmd dt (ciServe u 9) s

/-- RELEASE (R242). -/
def execRelease (dt : Nat) (u : Fin 4) (s : State) : Answer := cmd dt (ciServe u 10) s

/-- CIPH_CLRCNT (R9). -/
def execCiphClrcnt (dt : Nat) (s : State) : Answer := cmd dt (setBitOp R.CIPH_CTL 0) s

/-- CIPH_POOL_REFILL (R253). -/
def execCiphPoolRefill (dt : Nat) (u : Fin 4) (s : State) : Answer := cmd dt (ciRefill u) s

/-- LEASE_PERSISTED (R309). -/
def execLeasePersisted (dt : Nat) (j : Nat) (own : Option (List (Nat × Byte))) (s : State) : Answer :=
  match own with
  | none => cmd dt (leaseConfirmed j) s
  | some bad => cmd dt (leasePersistOwn j bad) s

end Sys2Proof.Machine
end

