-- ==== Sys2Proof/Machine/CmdSer.lean ====
section
/-!
DEFINITION. Commands of the Serai, of Drover control, of shaping and of DMA (10_serai.md, 11_drover_architecture.md, 14_shaping.md, 15_dma.md).
-/

namespace Sys2Proof.Machine

/-- SCRUB_READ (R201). -/
def execScrubRead (dt : Nat) (upset : Option (Nat × Nat)) (s : State) : Answer := cmd dt (scrubOp upset) s

/-- ROW_SPARE_DONE (R202). -/
def execRowSpareDone (dt : Nat) (s : State) : Answer := cmd dt spareDone s

/-- SER_SPARECMD (R203). -/
def execSerSparecmd (dt : Nat) (who : Writer) (v : Word) (s : State) : Answer :=
  wrCmd dt who R.SER_SPARECMD (setBit v.toNat 15) s

/-- HOST_APERTURE_ACCESS (R207). -/
def execHostApertureAccess (dt : Nat) (sp : Space) (addr len : Nat) (data : Option (List Byte))
    (s : State) : Answer :=
  cmd dt (apertureAccess sp addr len data) s

/-- SER_CLRCNT (R9). -/
def execSerClrcnt (dt : Nat) (s : State) : Answer := cmd dt (setBitOp R.SER_CTL 1) s

/-- WAIT_RELEASE (R236). -/
def execWaitRelease (dt : Nat) (d : Fin 12) (s : State) : Answer := cmd dt (waitReleaseOp d) s

/-- INTERRUPT_ENTRY (R214). -/
def execInterruptEntry (dt : Nat) (d : Fin 12) (s : State) : Answer := cmd dt (interruptEntryOp d) s

/-- BREAKPOINT_HALT (R222). -/
def execBreakpointHalt (dt : Nat) (d : Fin 12) (s : State) : Answer := cmd dt (breakpointOp d) s

/-- DRV_HALT (R222). -/
def execDrvHalt (dt : Nat) (who : Writer) (d : Fin 12) (s : State) : Answer := cmd dt (setBitBy who (R.DRV_n_CTL d) 0) s

/-- DRV_RESUME (R222). -/
def execDrvResume (dt : Nat) (who : Writer) (d : Fin 12) (s : State) : Answer :=
  cmd dt (setBitBy who (R.DRV_n_CTL d) 1) s

/-- DRV_STEP (R222). -/
def execDrvStep (dt : Nat) (who : Writer) (d : Fin 12) (s : State) : Answer := cmd dt (setBitBy who (R.DRV_n_CTL d) 2) s

/-- DRV_SWITCH_ARM (R220). -/
def execDrvSwitchArm (dt : Nat) (who : Writer) (d : Fin 12) (s : State) : Answer := wrCmd dt who (R.DRV_n_SWITCH d) 1 s

/-- DRV_SWITCH_CANCEL (R220). -/
def execDrvSwitchCancel (dt : Nat) (who : Writer) (d : Fin 12) (s : State) : Answer :=
  wrCmd dt who (R.DRV_n_SWITCH d) 2 s

/-- DRV_LDATA_ACCESS (R223). -/
def execDrvLdataAccess (dt : Nat) (who : Writer) (d : Fin 12) (v : Option Word) (s : State) : Answer :=
  match v with
  | some w => wrCmd dt who (R.DRV_n_LDATA d) w.toNat s
  | none => cmd dt (readOp who (R.DRV_n_LDATA d)) s

/-- EVOUT_WRITE (R423). DEDUCED, log entry 68. -/
def execEvoutWrite (dt : Nat) (d : Fin 12) (c : Fin 64) (s : State) : Answer :=
  cmd dt (fun t => if t.get (F.DRV_n_STAT_STATE d) = stRun then setLocalByte d 0x38 (BitVec.ofNat 8 c) t else t) s

/-- ENQ (R264). -/
def execEnq (dt : Nat) (s : State) : Answer := cmd dt (shpServe 1) s

/-- ADMIT (R265). -/
def execShpAdmit (dt : Nat) (s : State) : Answer := cmd dt (shpServe 2) s

/-- SHP_DONE (R266). -/
def execShpDone (dt : Nat) (s : State) : Answer := cmd dt (shpServe 3) s

/-- POLICE (R261). -/
def execPolice (dt : Nat) (s : State) : Answer := cmd dt (shpServe 4) s

/-- SHP_CLRCNT (R9). -/
def execShpClrcnt (dt : Nat) (s : State) : Answer := cmd dt (setBitOp R.SHP_CTL 0) s

/-- DMA_GO (R273). -/
def execDmaGo (dt : Nat) (who : Writer) (n : Fin 16) (s : State) : Answer := wrCmd dt who (R.DMA_n_CMD n) 1 s

/-- DMA_RESUME (R279). -/
def execDmaResume (dt : Nat) (who : Writer) (n : Fin 16) (s : State) : Answer := wrCmd dt who (R.DMA_n_CMD n) 2 s

/-- DMA_STOP (R280). -/
def execDmaStop (dt : Nat) (who : Writer) (n : Fin 16) (s : State) : Answer := wrCmd dt who (R.DMA_n_CMD n) 4 s

/-- COPY (R273). -/
def execCopy (dt : Nat) (n : Fin 16) (hsrc hdst : List Byte) (s : State) : Answer := cmd dt (dmaServe n (waybill n 1 hsrc hdst)) s

/-- FILL (R273). -/
def execFill (dt : Nat) (n : Fin 16) (s : State) : Answer := cmd dt (dmaServe n (waybill n 2 [] [])) s

/-- COMPARE (R273). -/
def execCompare (dt : Nat) (n : Fin 16) (hsrc hdst : List Byte) (s : State) : Answer := cmd dt (dmaServe n (waybill n 3 hsrc hdst)) s

/-- WAYBILL_COMPLETE (R276). -/
def execWaybillComplete (dt : Nat) (n : Fin 16) (s : State) : Answer := cmd dt (dmaServe n (waybillDone n)) s

/-- BUS_ERROR (R278). -/
def execBusError (dt : Nat) (cause addr : Nat) (s : State) : Answer := cmd dt (Sys2Proof.Machine.busError cause addr) s

/-- BUSERR_CLEAR (R279). -/
def execBuserrClear (dt : Nat) (who : Writer) (s : State) : Answer := wrCmd dt who R.DMA_STAT 1 s

/-- DMA_CLRCNT (R9). -/
def execDmaClrcnt (dt : Nat) (s : State) : Answer := cmd dt (setBitOp R.DMA_CTL 0) s

/-- DMA_DRAIN_DONE (R280). -/
def execDmaDrainDone (dt : Nat) (n : Fin 16) (s : State) : Answer := cmd dt (dmaServe n (dmaDrained n)) s

end Sys2Proof.Machine
end

