-- ==== Sys2Proof/Machine/CmdTan.lean ====
section
/-!
DEFINITION. Commands of the Tandem (17_tandem.md).
-/

namespace Sys2Proof.Machine

/-- HEARTBEAT_SEND (R313). -/
def execHeartbeatSend (dt : Nat) (s : State) : Answer := cmd dt Sys2Proof.Machine.heartbeatSend s

/-- HEARTBEAT_RECEIVE (R314). Path 0 is the Tandem link; on path 1, the Caravan, the heartbeat is a ring packet (R284). -/
def execHeartbeatReceive (dt : Nat) (path : Option PktHead) (asn mode : Nat) (own roledef insync : Bool)
    (s : State) : Answer :=
  let hb : Heartbeat := ⟨asn, mode, own, roledef, insync⟩
  match path with
  | none => cmd dt (heartbeatRx 0 hb) s
  | some h => cmd dt (receivePkt h .hbeat (heartbeatRx 1 hb)) s

/-- HEARTBEAT_MISS (R314). -/
def execHeartbeatMiss (dt : Nat) (low : Bool) (s : State) : Answer := cmd dt (Sys2Proof.Machine.heartbeatMiss low) s

/-- TAKEOVER_ENTRY (R318). -/
def execTakeoverEntry (dt : Nat) (low : Bool) (s : State) : Answer := cmd dt (Sys2Proof.Machine.takeoverEntry low) s

/-- REPLAYDONE (R319). -/
def execReplaydone (dt : Nat) (s : State) : Answer := wrCmd dt .host R.TAN_CMD 4 s

/-- REPLAY_TIMEOUT (R319). -/
def execReplayTimeout (dt : Nat) (s : State) : Answer := cmd dt Sys2Proof.Machine.replayTimeout s

/-- JOURNAL_RECORD (R309). -/
def execJournalRecord (dt : Nat) (bytes : List Byte) (low : Bool) (s : State) : Answer := cmd dt (journalRx bytes low) s

/-- JOURNAL_CONFIRMATION (R309). -/
def execJournalConfirmation (dt : Nat) (j : Nat) (persisted : Bool) (s : State) : Answer :=
  cmd dt (fun t => journalEvent (journalConfirm j persisted t)) s

/-- TAN_JOIN (R320). -/
def execTanJoin (dt : Nat) (partner same : Bool) (s : State) : Answer :=
  cmd dt (fun t => if partner || t.writable R.TAN_CMD then Sys2Proof.Machine.tanJoin partner same t else t) s

/-- JOIN_COPY_STEP (R320). -/
def execJoinCopyStep (dt : Nat) (s : State) : Answer := cmd dt Sys2Proof.Machine.joinCopyStep s

/-- TAN_HANDOVER (R321). -/
def execTanHandover (dt : Nat) (s : State) : Answer := wrCmd dt .host R.TAN_CMD 2 s

/-- HANDOVER_DEADLINE (R321). -/
def execHandoverDeadline (dt : Nat) (s : State) : Answer := cmd dt Sys2Proof.Machine.handoverDeadline s

/-- TAN_FETCH (R322). -/
def execTanFetch (dt : Nat) (s : State) : Answer := wrCmd dt .host R.TAN_CMD 8 s

/-- FETCH_ANSWER (R322). -/
def execFetchAnswer (dt : Nat) (addr : Nat) (bytes : List Byte) (poison : Bool) (s : State) : Answer :=
  cmd dt (Sys2Proof.Machine.fetchAnswer addr bytes poison) s

/-- TANDEM_LINK_DOWN (R305). -/
def execTandemLinkDown (dt : Nat) (s : State) : Answer := cmd dt linkDown s

/-- TAN_CLRCNT (R9). -/
def execTanClrcnt (dt : Nat) (s : State) : Answer := cmd dt (setBitOp R.TAN_CTL 0) s

/-- TANDEM_LINK_UP (R305). -/
def execTandemLinkUp (dt : Nat) (s : State) : Answer := cmd dt Sys2Proof.Machine.tandemLinkUp s

/-- FETCH_REQUEST (R322). -/
def execFetchRequest (dt : Nat) (addr : Nat) (s : State) : Answer := cmd dt (Sys2Proof.Machine.fetchRequest addr) s

end Sys2Proof.Machine
end

