-- ==== Sys2Proof/Machine/CmdTick.lean ====
section
/-!
DEFINITION. Commands on registers at large, the slot tick and the modes (01_slot_tick.md, 02_modes_faults.md).
-/

namespace Sys2Proof.Machine

/-- REGISTER_WRITE (R9). -/
def execRegisterWrite (dt : Nat) (who : Writer) (sp : Space) (addr : Nat) (v : Word) (s : State) : Answer :=
  cmd dt (fun t => runSteps 12 (anyWrite who sp addr v.toNat t)) s

/-- RING_INDEX_WRITE (R454). -/
def execRingIndexWrite (dt : Nat) (who : Writer) (addr : Nat) (v : Word) (s : State) : Answer :=
  cmd dt (fun t => if (ringLen addr).isSome then writeReg who addr v.toNat t else t) s

/-- UNSUPPORTED_REQUEST (R325). -/
def execUnsupportedRequest (dt : Nat) (addr len : Nat) (s : State) : Answer :=
  cmd dt (fun t => if t.mode = Mode.reset ∨ (len = 4 ∧ addr % 4 = 0) then t else unsupported t) s

/-- SLOT_TICK (R22). -/
def execSlotTick (inp : TickIn) (s : State) : Answer := .next (Sys2Proof.Machine.slotTick inp s)

/-- TICK_SEAL (R18). -/
def execTickSeal (dt : Nat) (d : Fin 12) (v : Word) (s : State) : Answer := wrCmd dt (.drover d) R.TICK_SEAL v.toNat s

/-- REFERENCE_LOSS (R14). -/
def execReferenceLoss (dt : Nat) (s : State) : Answer :=
  cmd dt (fun t => if t.mode = Mode.reset then t else raiseFault FaultCode.refloss 0 t) s

/-- PPS_EDGE (R16). -/
def execPpsEdge (dt : Nat) (s : State) : Answer := cmd dt ppsEdgeOp s

/-- PPS_MISSING (R16). -/
def execPpsMissing (dt : Nat) (s : State) : Answer := cmd dt ppsMissingOp s

/-- TICK_TRIM_WRITE (R17). -/
def execTickTrimWrite (dt : Nat) (who : Writer) (v : Word) (s : State) : Answer := wrCmd dt who R.TICK_TRIM v.toNat s

/-- TICK_SLEW_REQUEST (R16). -/
def execTickSlewRequest (dt : Nat) (who : Writer) (v : Word) (s : State) : Answer := wrCmd dt who R.TICK_SLEW v.toNat s

/-- TICK_CAPTURE (R26). -/
def execTickCapture (dt : Nat) (who : Writer) (s : State) : Answer := wrCmd dt who R.TICK_CAPTURE 1 s

/-- TICK_LOAD (R25). -/
def execTickLoad (dt : Nat) (s : State) : Answer := cmd dt (setBitOp R.TICK_LOAD 0) s

/-- TICK_CLRCNT (R9). -/
def execTickClrcnt (dt : Nat) (s : State) : Answer := cmd dt (setBitOp R.TICK_CTL 2) s

/-- MODE_REQUEST (R32). -/
def execModeRequest (dt : Nat) (who : Writer) (v : Word) (s : State) : Answer := wrCmd dt who R.SYS_MODE_REQ v.toNat s

/-- MODE_CHANGE (R31). -/
def execModeChange (dt : Nat) (low : Bool) (s : State) : Answer := cmd dt (modeChangeOp false low) s

/-- EMERGENCY_STOP (R83). -/
def execEmergencyStop (dt : Nat) (low : Bool) (s : State) : Answer := cmd dt (modeChangeOp true low) s

/-- SURVEY_END (R32). -/
def execSurveyEnd (dt : Nat) (s : State) : Answer := cmd dt Sys2Proof.Machine.surveyEnd s

/-- POWER_ON_RESET (R34). -/
def execPowerOnReset (dt : Nat) (s : State) : Answer := cmd dt (wholeReset true F.SYS_RSTCAUSE_POR) s

/-- PIN_RESET (R34). -/
def execPinReset (dt : Nat) (s : State) : Answer := cmd dt (wholeReset false F.SYS_RSTCAUSE_PIN) s

/-- SOFT_RESET (R34). -/
def execSoftReset (dt : Nat) (who : Writer) (v : Word) (s : State) : Answer := wrCmd dt who R.SYS_RESET v.toNat s

/-- CARAVAN_RESET (R295). -/
def execCaravanReset (a : Arrival) (s : State) : Answer :=
  cmd a.dt (receivePkt a.head .reset (wholeReset false F.SYS_RSTCAUSE_CARAVAN)) s

/-- PERSTN (R343). -/
def execPerstn (dt : Nat) (speed width : Nat) (s : State) : Answer := cmd dt (endpointReset speed width) s

/-- FUNCTION_LEVEL_RESET (R326). -/
def execFunctionLevelReset (dt : Nat) (speed width : Nat) (s : State) : Answer := cmd dt (endpointReset speed width) s

/-- RESET_RELEASE (R34). -/
def execResetRelease (dt : Nat) (pins : Straps) (s : State) : Answer := cmd dt (resetReleaseOp pins) s

/-- RESET_SEQUENCE_COMPLETE (R34). -/
def execResetSequenceComplete (dt : Nat) (s : State) : Answer := cmd dt resetCompleteOp s

/-- HANDLER_TMO (R40). -/
def execHandlerTmo (dt : Nat) (s : State) : Answer := cmd dt handlerTmoOp s

/-- FAULT_ACK (R38). -/
def execFaultAck (dt : Nat) (s : State) : Answer := cmd dt (setBitOp R.SYS_FAULT_ACK 0) s

/-- SAFE_ENTRY (R42). -/
def execSafeEntry (dt : Nat) (s : State) : Answer := cmd dt safeEntryOp s

/-- SYS_CLRLOST (R9). -/
def execSysClrlost (dt : Nat) (s : State) : Answer := cmd dt (setBitOp R.SYS_FAULT_CFG 16) s

/-- SUPPLY_OUT_OF_RANGE (R440). -/
def execSupplyOutOfRange (dt : Nat) (s : State) : Answer :=
  cmd dt (fun t => if t.mode = Mode.reset then t else raiseFault FaultCode.supply 0 t) s

/-- TEMPERATURE_UPDATE (R451). -/
def execTemperatureUpdate (dt : Nat) (t : Int) (s : State) : Answer := cmd dt (temperatureOp t) s

end Sys2Proof.Machine
end

