-- ==== Sys2Proof/Machine/Dispatch.lean ====
section
/-!
DEFINITION. The dispatch of commands: one arm per row of the opcode table, each one direct call of that row's meaning.
-/

namespace Sys2Proof.Machine

def exec (i : Instr) (s : State) : Host.Outcome State Fault Refusal :=
  match i with
  | .registerWrite dt who sp addr v => Sys2Proof.Machine.execRegisterWrite dt who sp addr v s
  | .ringIndexWrite dt who addr v => Sys2Proof.Machine.execRingIndexWrite dt who addr v s
  | .unsupportedRequest dt addr len => Sys2Proof.Machine.execUnsupportedRequest dt addr len s
  | .slotTick inp => Sys2Proof.Machine.execSlotTick inp s
  | .tickSeal dt d v => Sys2Proof.Machine.execTickSeal dt d v s
  | .referenceLoss dt => Sys2Proof.Machine.execReferenceLoss dt s
  | .ppsEdge dt => Sys2Proof.Machine.execPpsEdge dt s
  | .ppsMissing dt => Sys2Proof.Machine.execPpsMissing dt s
  | .tickTrimWrite dt who v => Sys2Proof.Machine.execTickTrimWrite dt who v s
  | .tickSlewRequest dt who v => Sys2Proof.Machine.execTickSlewRequest dt who v s
  | .tickCapture dt who => Sys2Proof.Machine.execTickCapture dt who s
  | .tickLoad dt => Sys2Proof.Machine.execTickLoad dt s
  | .tickClrcnt dt => Sys2Proof.Machine.execTickClrcnt dt s
  | .modeRequest dt who v => Sys2Proof.Machine.execModeRequest dt who v s
  | .modeChange dt low => Sys2Proof.Machine.execModeChange dt low s
  | .emergencyStop dt low => Sys2Proof.Machine.execEmergencyStop dt low s
  | .surveyEnd dt => Sys2Proof.Machine.execSurveyEnd dt s
  | .powerOnReset dt => Sys2Proof.Machine.execPowerOnReset dt s
  | .pinReset dt => Sys2Proof.Machine.execPinReset dt s
  | .softReset dt who v => Sys2Proof.Machine.execSoftReset dt who v s
  | .caravanReset a => Sys2Proof.Machine.execCaravanReset a s
  | .perstn dt speed width => Sys2Proof.Machine.execPerstn dt speed width s
  | .functionLevelReset dt speed width => Sys2Proof.Machine.execFunctionLevelReset dt speed width s
  | .resetRelease dt pins => Sys2Proof.Machine.execResetRelease dt pins s
  | .resetSequenceComplete dt => Sys2Proof.Machine.execResetSequenceComplete dt s
  | .handlerTmo dt => Sys2Proof.Machine.execHandlerTmo dt s
  | .faultAck dt => Sys2Proof.Machine.execFaultAck dt s
  | .safeEntry dt => Sys2Proof.Machine.execSafeEntry dt s
  | .sysClrlost dt => Sys2Proof.Machine.execSysClrlost dt s
  | .manCheck dt => Sys2Proof.Machine.execManCheck dt s
  | .manCheckDone dt => Sys2Proof.Machine.execManCheckDone dt s
  | .manActivate dt => Sys2Proof.Machine.execManActivate dt s
  | .manDiscard dt => Sys2Proof.Machine.execManDiscard dt s
  | .manSwitchArm dt => Sys2Proof.Machine.execManSwitchArm dt s
  | .manSwitchCancel dt => Sys2Proof.Machine.execManSwitchCancel dt s
  | .subghzRetuneEnd dt => Sys2Proof.Machine.execSubghzRetuneEnd dt s
  | .sfChangeArm dt who v => Sys2Proof.Machine.execSfChangeArm dt who v s
  | .shrDetect dt src chan lag chest => Sys2Proof.Machine.execShrDetect dt src chan lag chest s
  | .phrReceived dt src chan stream phr rssi cfo => Sys2Proof.Machine.execPhrReceived dt src chan stream phr rssi cfo s
  | .frameEnd dt src chan stream lag psdu sinr => Sys2Proof.Machine.execFrameEnd dt src chan stream lag psdu sinr s
  | .earlyDescriptor dt src chan stream psdu => Sys2Proof.Machine.execEarlyDescriptor dt src chan stream psdu s
  | .agcFastStep dt port => Sys2Proof.Machine.execAgcFastStep dt port s
  | .frxClrcnt dt => Sys2Proof.Machine.execFrxClrcnt dt s
  | .listFrameStart dt out grant => Sys2Proof.Machine.execListFrameStart dt out grant s
  | .carrierEnd dt out chan => Sys2Proof.Machine.execCarrierEnd dt out chan s
  | .grantWithdrawn dt => Sys2Proof.Machine.execGrantWithdrawn dt s
  | .ackRingWrWrite dt who ring v => Sys2Proof.Machine.execAckRingWrWrite dt who ring v s
  | .ackWrEffect dt ring => Sys2Proof.Machine.execAckWrEffect dt ring s
  | .ackSend dt out chan grant => Sys2Proof.Machine.execAckSend dt out chan grant s
  | .dpdUpdateDone dt out err => Sys2Proof.Machine.execDpdUpdateDone dt out err s
  | .dpdReseed dt => Sys2Proof.Machine.execDpdReseed dt s
  | .ftxClrcnt dt => Sys2Proof.Machine.execFtxClrcnt dt s
  | .ntInit dt => Sys2Proof.Machine.execNtInit dt s
  | .ntUpdate dt => Sys2Proof.Machine.execNtUpdate dt s
  | .ntPredict dt => Sys2Proof.Machine.execNtPredict dt s
  | .ntMiss dt => Sys2Proof.Machine.execNtMiss dt s
  | .ntClear dt => Sys2Proof.Machine.execNtClear dt s
  | .ntClrcnt dt => Sys2Proof.Machine.execNtClrcnt dt s
  | .secCheck dt => Sys2Proof.Machine.execSecCheck dt s
  | .secCommit dt => Sys2Proof.Machine.execSecCommit dt s
  | .take dt => Sys2Proof.Machine.execTake dt s
  | .takecell dt => Sys2Proof.Machine.execTakecell dt s
  | .leaseRaise dt bad => Sys2Proof.Machine.execLeaseRaise dt bad s
  | .secInit dt => Sys2Proof.Machine.execSecInit dt s
  | .rotate dt => Sys2Proof.Machine.execRotate dt s
  | .free dt => Sys2Proof.Machine.execFree dt s
  | .secClrcnt dt => Sys2Proof.Machine.execSecClrcnt dt s
  | .laneSlotStart dt l => Sys2Proof.Machine.execLaneSlotStart dt l s
  | .laneCalibrationEnd dt l => Sys2Proof.Machine.execLaneCalibrationEnd dt l s
  | .laneTxStart dt l grant => Sys2Proof.Machine.execLaneTxStart dt l grant s
  | .laneSendEntry dt l grant => Sys2Proof.Machine.execLaneSendEntry dt l grant s
  | .laneWindowClose dt l => Sys2Proof.Machine.execLaneWindowClose dt l s
  | .laneFrameReceived dt l lagS lagE phr psdu rssi sinr cfo => Sys2Proof.Machine.execLaneFrameReceived dt l lagS lagE phr psdu rssi sinr cfo s
  | .reacqEnd dt l => Sys2Proof.Machine.execReacqEnd dt l s
  | .searchDwellEnd dt l => Sys2Proof.Machine.execSearchDwellEnd dt l s
  | .research dt who l => Sys2Proof.Machine.execResearch dt who l s
  | .backgroundCalibrationStep dt l kind abort => Sys2Proof.Machine.execBackgroundCalibrationStep dt l kind abort s
  | .calibrationOverdue dt l kind => Sys2Proof.Machine.execCalibrationOverdue dt l kind s
  | .bblClrcnt dt => Sys2Proof.Machine.execBblClrcnt dt s
  | .scrubRead dt upset => Sys2Proof.Machine.execScrubRead dt upset s
  | .rowSpareDone dt => Sys2Proof.Machine.execRowSpareDone dt s
  | .serSparecmd dt who v => Sys2Proof.Machine.execSerSparecmd dt who v s
  | .hostApertureAccess dt sp addr len data => Sys2Proof.Machine.execHostApertureAccess dt sp addr len data s
  | .serClrcnt dt => Sys2Proof.Machine.execSerClrcnt dt s
  | .mov d x y z rest => Sys2Proof.Machine.execMov d x y z rest s
  | .mov2 d x y z rest => Sys2Proof.Machine.execMov2 d x y z rest s
  | .mov4 d x y z rest => Sys2Proof.Machine.execMov4 d x y z rest s
  | .movg d x y z rest => Sys2Proof.Machine.execMovg d x y z rest s
  | .lea d x y z rest => Sys2Proof.Machine.execLea d x y z rest s
  | .xch d x y z rest => Sys2Proof.Machine.execXch d x y z rest s
  | .xch2 d x y z rest => Sys2Proof.Machine.execXch2 d x y z rest s
  | .movz d x y z rest => Sys2Proof.Machine.execMovz d x y z rest s
  | .movs d x y z rest => Sys2Proof.Machine.execMovs d x y z rest s
  | .smov d x y z rest => Sys2Proof.Machine.execSmov d x y z rest s
  | .smovg d x y z rest => Sys2Proof.Machine.execSmovg d x y z rest s
  | .sfillg d x y z rest => Sys2Proof.Machine.execSfillg d x y z rest s
  | .scmp d x y z rest => Sys2Proof.Machine.execScmp d x y z rest s
  | .scan d x y z rest => Sys2Proof.Machine.execScan d x y z rest s
  | .scann d x y z rest => Sys2Proof.Machine.execScann d x y z rest s
  | .add d x y z rest => Sys2Proof.Machine.execAdd d x y z rest s
  | .sub d x y z rest => Sys2Proof.Machine.execSub d x y z rest s
  | .and d x y z rest => Sys2Proof.Machine.execAnd d x y z rest s
  | .or d x y z rest => Sys2Proof.Machine.execOr d x y z rest s
  | .xor d x y z rest => Sys2Proof.Machine.execXor d x y z rest s
  | .addss d x y z rest => Sys2Proof.Machine.execAddss d x y z rest s
  | .shl d x y z rest => Sys2Proof.Machine.execShl d x y z rest s
  | .shr d x y z rest => Sys2Proof.Machine.execShr d x y z rest s
  | .sar d x y z rest => Sys2Proof.Machine.execSar d x y z rest s
  | .rol d x y z rest => Sys2Proof.Machine.execRol d x y z rest s
  | .ror d x y z rest => Sys2Proof.Machine.execRor d x y z rest s
  | .min d x y z rest => Sys2Proof.Machine.execMin d x y z rest s
  | .max d x y z rest => Sys2Proof.Machine.execMax d x y z rest s
  | .mins d x y z rest => Sys2Proof.Machine.execMins d x y z rest s
  | .maxs d x y z rest => Sys2Proof.Machine.execMaxs d x y z rest s
  | .addsu d x y z rest => Sys2Proof.Machine.execAddsu d x y z rest s
  | .crc16 d x y z rest => Sys2Proof.Machine.execCrc16 d x y z rest s
  | .crc32 d x y z rest => Sys2Proof.Machine.execCrc32 d x y z rest s
  | .crcp d x y z rest => Sys2Proof.Machine.execCrcp d x y z rest s
  | .par d x y z rest => Sys2Proof.Machine.execPar d x y z rest s
  | .brev d x y z rest => Sys2Proof.Machine.execBrev d x y z rest s
  | .brevn d x y z rest => Sys2Proof.Machine.execBrevn d x y z rest s
  | .popc d x y z rest => Sys2Proof.Machine.execPopc d x y z rest s
  | .clz d x y z rest => Sys2Proof.Machine.execClz d x y z rest s
  | .bset d x y z rest => Sys2Proof.Machine.execBset d x y z rest s
  | .bclr d x y z rest => Sys2Proof.Machine.execBclr d x y z rest s
  | .btst d x y z rest => Sys2Proof.Machine.execBtst d x y z rest s
  | .btog d x y z rest => Sys2Proof.Machine.execBtog d x y z rest s
  | .bext d x y z rest => Sys2Proof.Machine.execBext d x y z rest s
  | .bins d x y z rest => Sys2Proof.Machine.execBins d x y z rest s
  | .ctz d x y z rest => Sys2Proof.Machine.execCtz d x y z rest s
  | .cbeq d x y z rest => Sys2Proof.Machine.execCbeq d x y z rest s
  | .cbne d x y z rest => Sys2Proof.Machine.execCbne d x y z rest s
  | .cblt d x y z rest => Sys2Proof.Machine.execCblt d x y z rest s
  | .cbge d x y z rest => Sys2Proof.Machine.execCbge d x y z rest s
  | .cbltu d x y z rest => Sys2Proof.Machine.execCbltu d x y z rest s
  | .cbgeu d x y z rest => Sys2Proof.Machine.execCbgeu d x y z rest s
  | .seq d x y z rest => Sys2Proof.Machine.execSeq d x y z rest s
  | .sne d x y z rest => Sys2Proof.Machine.execSne d x y z rest s
  | .slt d x y z rest => Sys2Proof.Machine.execSlt d x y z rest s
  | .sge d x y z rest => Sys2Proof.Machine.execSge d x y z rest s
  | .sltu d x y z rest => Sys2Proof.Machine.execSltu d x y z rest s
  | .sgeu d x y z rest => Sys2Proof.Machine.execSgeu d x y z rest s
  | .bz d x y z rest => Sys2Proof.Machine.execBz d x y z rest s
  | .bnz d x y z rest => Sys2Proof.Machine.execBnz d x y z rest s
  | .jmp d x y z rest => Sys2Proof.Machine.execJmp d x y z rest s
  | .call d x y z rest => Sys2Proof.Machine.execCall d x y z rest s
  | .ret d x y z rest => Sys2Proof.Machine.execRet d x y z rest s
  | .interruptReturn d rest => Sys2Proof.Machine.execInterruptReturn d rest s
  | .rep d x y z rest => Sys2Proof.Machine.execRep d x y z rest s
  | .wait d x y z rest => Sys2Proof.Machine.execWait d x y z rest s
  | .waitRelease dt d => Sys2Proof.Machine.execWaitRelease dt d s
  | .fire d x y z rest => Sys2Proof.Machine.execFire d x y z rest s
  | .trap d x y z rest => Sys2Proof.Machine.execTrap d x y z rest s
  | .halt d x y z rest => Sys2Proof.Machine.execHalt d x y z rest s
  | .interruptEntry dt d => Sys2Proof.Machine.execInterruptEntry dt d s
  | .breakpointHalt dt d => Sys2Proof.Machine.execBreakpointHalt dt d s
  | .drvHalt dt who d => Sys2Proof.Machine.execDrvHalt dt who d s
  | .drvResume dt who d => Sys2Proof.Machine.execDrvResume dt who d s
  | .drvStep dt who d => Sys2Proof.Machine.execDrvStep dt who d s
  | .drvSwitchArm dt who d => Sys2Proof.Machine.execDrvSwitchArm dt who d s
  | .drvSwitchCancel dt who d => Sys2Proof.Machine.execDrvSwitchCancel dt who d s
  | .drvLdataAccess dt who d v => Sys2Proof.Machine.execDrvLdataAccess dt who d v s
  | .evoutWrite dt d c => Sys2Proof.Machine.execEvoutWrite dt d c s
  | .ciphClaim dt d u => Sys2Proof.Machine.execCiphClaim dt d u s
  | .ciphDrop dt d u => Sys2Proof.Machine.execCiphDrop dt d u s
  | .sel dt u => Sys2Proof.Machine.execSel dt u s
  | .nonce dt u => Sys2Proof.Machine.execNonce dt u s
  | .b0 dt u => Sys2Proof.Machine.execB0 dt u s
  | .mac dt u => Sys2Proof.Machine.execMac dt u s
  | .ciphStarved dt u => Sys2Proof.Machine.execCiphStarved dt u s
  | .ctr dt u => Sys2Proof.Machine.execCtr dt u s
  | .finalTag dt u => Sys2Proof.Machine.execFinalTag dt u s
  | .keyin dt u => Sys2Proof.Machine.execKeyin dt u s
  | .openCopy dt u => Sys2Proof.Machine.execOpenCopy dt u s
  | .raw dt u => Sys2Proof.Machine.execRaw dt u s
  | .release dt u => Sys2Proof.Machine.execRelease dt u s
  | .ciphClrcnt dt => Sys2Proof.Machine.execCiphClrcnt dt s
  | .enq dt => Sys2Proof.Machine.execEnq dt s
  | .shpAdmit dt => Sys2Proof.Machine.execShpAdmit dt s
  | .shpDone dt => Sys2Proof.Machine.execShpDone dt s
  | .police dt => Sys2Proof.Machine.execPolice dt s
  | .shpClrcnt dt => Sys2Proof.Machine.execShpClrcnt dt s
  | .dmaGo dt who n => Sys2Proof.Machine.execDmaGo dt who n s
  | .dmaResume dt who n => Sys2Proof.Machine.execDmaResume dt who n s
  | .dmaStop dt who n => Sys2Proof.Machine.execDmaStop dt who n s
  | .copy dt n hsrc hdst => Sys2Proof.Machine.execCopy dt n hsrc hdst s
  | .fill dt n => Sys2Proof.Machine.execFill dt n s
  | .compare dt n hsrc hdst => Sys2Proof.Machine.execCompare dt n hsrc hdst s
  | .waybillComplete dt n => Sys2Proof.Machine.execWaybillComplete dt n s
  | .busError dt cause addr => Sys2Proof.Machine.execBusError dt cause addr s
  | .buserrClear dt who => Sys2Proof.Machine.execBuserrClear dt who s
  | .dmaClrcnt dt => Sys2Proof.Machine.execDmaClrcnt dt s
  | .carEnum dt who => Sys2Proof.Machine.execCarEnum dt who s
  | .enum a next count size => Sys2Proof.Machine.execEnum a next count size s
  | .enumTimeout dt east west => Sys2Proof.Machine.execEnumTimeout dt east west s
  | .ping dt => Sys2Proof.Machine.execPing dt s
  | .pingReceive dt port rtt => Sys2Proof.Machine.execPingReceive dt port rtt s
  | .tickPacketSend dt => Sys2Proof.Machine.execTickPacketSend dt s
  | .tickPacket dt late h ttt asn sfn slot slotlen sflen res => Sys2Proof.Machine.execTickPacket dt late h ttt asn sfn slot slotlen sflen res s
  | .rwr a addr v => Sys2Proof.Machine.execRwr a addr v s
  | .rrd dt h addr => Sys2Proof.Machine.execRrd dt h addr s
  | .rcpl a v => Sys2Proof.Machine.execRcpl a v s
  | .sdata dt h addr len data => Sys2Proof.Machine.execSdata dt h addr len data s
  | .remoteTimeout dt => Sys2Proof.Machine.execRemoteTimeout dt s
  | .bcast a b => Sys2Proof.Machine.execBcast a b s
  | .barq dt h => Sys2Proof.Machine.execBarq dt h s
  | .bara dt h ready => Sys2Proof.Machine.execBara dt h ready s
  | .barrierTimeout dt => Sys2Proof.Machine.execBarrierTimeout dt s
  | .carSnap dt who => Sys2Proof.Machine.execCarSnap dt who s
  | .snap a asn => Sys2Proof.Machine.execSnap a asn s
  | .carReset dt who => Sys2Proof.Machine.execCarReset dt who s
  | .carAbort dt who => Sys2Proof.Machine.execCarAbort dt who s
  | .resetWave2 dt => Sys2Proof.Machine.execResetWave2 dt s
  | .carImage dt who => Sys2Proof.Machine.execCarImage dt who s
  | .image a off bytes last bad => Sys2Proof.Machine.execImage a off bytes last bad s
  | .imageSectorConfirm dt chip ok => Sys2Proof.Machine.execImageSectorConfirm dt chip ok s
  | .portDown dt p => Sys2Proof.Machine.execPortDown dt p s
  | .link dt h port up => Sys2Proof.Machine.execLink dt h port up s
  | .isolation dt => Sys2Proof.Machine.execIsolation dt s
  | .linkUp dt p err sameAsn => Sys2Proof.Machine.execLinkUp dt p err sameAsn s
  | .carClrcnt dt => Sys2Proof.Machine.execCarClrcnt dt s
  | .heartbeatSend dt => Sys2Proof.Machine.execHeartbeatSend dt s
  | .heartbeatReceive dt path asn mode own roledef insync => Sys2Proof.Machine.execHeartbeatReceive dt path asn mode own roledef insync s
  | .heartbeatMiss dt low => Sys2Proof.Machine.execHeartbeatMiss dt low s
  | .takeoverEntry dt low => Sys2Proof.Machine.execTakeoverEntry dt low s
  | .replaydone dt => Sys2Proof.Machine.execReplaydone dt s
  | .replayTimeout dt => Sys2Proof.Machine.execReplayTimeout dt s
  | .journalRecord dt bytes low => Sys2Proof.Machine.execJournalRecord dt bytes low s
  | .journalConfirmation dt j persisted => Sys2Proof.Machine.execJournalConfirmation dt j persisted s
  | .tanJoin dt partner same => Sys2Proof.Machine.execTanJoin dt partner same s
  | .joinCopyStep dt => Sys2Proof.Machine.execJoinCopyStep dt s
  | .tanHandover dt => Sys2Proof.Machine.execTanHandover dt s
  | .handoverDeadline dt => Sys2Proof.Machine.execHandoverDeadline dt s
  | .tanFetch dt => Sys2Proof.Machine.execTanFetch dt s
  | .fetchAnswer dt addr bytes poison => Sys2Proof.Machine.execFetchAnswer dt addr bytes poison s
  | .tandemLinkDown dt => Sys2Proof.Machine.execTandemLinkDown dt s
  | .tanClrcnt dt => Sys2Proof.Machine.execTanClrcnt dt s
  | .doorbell dt who ring v => Sys2Proof.Machine.execDoorbell dt who ring v s
  | .devWrite dt d ring v => Sys2Proof.Machine.execDevWrite dt d ring v s
  | .spiRead dt frame => Sys2Proof.Machine.execSpiRead dt frame s
  | .spiWrite dt frame => Sys2Proof.Machine.execSpiWrite dt frame s
  | .spiStatus dt frame => Sys2Proof.Machine.execSpiStatus dt frame s
  | .hstClrcnt dt => Sys2Proof.Machine.execHstClrcnt dt s
  | .noiseHealthFail dt => Sys2Proof.Machine.execNoiseHealthFail dt s
  | .drbgReseed dt => Sys2Proof.Machine.execDrbgReseed dt s
  | .secureBoot dt noise host => Sys2Proof.Machine.execSecureBoot dt noise host s
  | .truClaim dt => Sys2Proof.Machine.execTruClaim dt s
  | .setpub dt => Sys2Proof.Machine.execSetpub dt s
  | .rbump dt => Sys2Proof.Machine.execRbump dt s
  | .rbumpComplete dt => Sys2Proof.Machine.execRbumpComplete dt s
  | .importKeys dt => Sys2Proof.Machine.execImportKeys dt s
  | .lock dt => Sys2Proof.Machine.execLock dt s
  | .retire dt => Sys2Proof.Machine.execRetire dt s
  | .unlock dt => Sys2Proof.Machine.execUnlock dt s
  | .lockdef dt => Sys2Proof.Machine.execLockdef dt s
  | .ownerCommandDone dt => Sys2Proof.Machine.execOwnerCommandDone dt s
  | .truLockset dt who v => Sys2Proof.Machine.execTruLockset dt who v s
  | .truRandRead dt who => Sys2Proof.Machine.execTruRandRead dt who s
  | .jtagInstruction dt j => Sys2Proof.Machine.execJtagInstruction dt j s
  | .header dt => Sys2Proof.Machine.execHeader dt s
  | .chunk dt => Sys2Proof.Machine.execChunk dt s
  | .chunkDone dt => Sys2Proof.Machine.execChunkDone dt s
  | .finish dt => Sys2Proof.Machine.execFinish dt s
  | .updAbort dt => Sys2Proof.Machine.execUpdAbort dt s
  | .updClrcnt dt => Sys2Proof.Machine.execUpdClrcnt dt s
  | .flsRead dt => Sys2Proof.Machine.execFlsRead dt s
  | .marginRead dt => Sys2Proof.Machine.execMarginRead dt s
  | .readDone dt errs weak => Sys2Proof.Machine.execReadDone dt errs weak s
  | .flsProgram dt => Sys2Proof.Machine.execFlsProgram dt s
  | .programDone dt => Sys2Proof.Machine.execProgramDone dt s
  | .flsErase dt => Sys2Proof.Machine.execFlsErase dt s
  | .erasePulseDone dt verify => Sys2Proof.Machine.execErasePulseDone dt verify s
  | .flsSuspend dt => Sys2Proof.Machine.execFlsSuspend dt s
  | .flsResume dt => Sys2Proof.Machine.execFlsResume dt s
  | .optwrite dt => Sys2Proof.Machine.execOptwrite dt s
  | .optwriteDone dt bad => Sys2Proof.Machine.execOptwriteDone dt bad s
  | .flsClrcnt dt => Sys2Proof.Machine.execFlsClrcnt dt s
  | .pfailnFall dt => Sys2Proof.Machine.execPfailnFall dt s
  | .flashCloseDone dt => Sys2Proof.Machine.execFlashCloseDone dt s
  | .calRun dt => Sys2Proof.Machine.execCalRun dt s
  | .calRunDone dt meas pps fail => Sys2Proof.Machine.execCalRunDone dt meas pps fail s
  | .calAbort dt => Sys2Proof.Machine.execCalAbort dt s
  | .calCommit dt => Sys2Proof.Machine.execCalCommit dt s
  | .calCommitDone dt bad => Sys2Proof.Machine.execCalCommitDone dt bad s
  | .tmrStart dt who mask atTick => Sys2Proof.Machine.execTmrStart dt who mask atTick s
  | .tmrStop dt who mask => Sys2Proof.Machine.execTmrStop dt who mask s
  | .tmrCapture dt who n => Sys2Proof.Machine.execTmrCapture dt who n s
  | .tmrCmpWrite dt who n v => Sys2Proof.Machine.execTmrCmpWrite dt who n v s
  | .tmrPeriodWrite dt who n v => Sys2Proof.Machine.execTmrPeriodWrite dt who n v s
  | .compareMatch dt n => Sys2Proof.Machine.execCompareMatch dt n s
  | .timerWrap dt n => Sys2Proof.Machine.execTimerWrap dt n s
  | .rtcCapture dt => Sys2Proof.Machine.execRtcCapture dt s
  | .rtcCaptureDone dt sub => Sys2Proof.Machine.execRtcCaptureDone dt sub s
  | .rtcCommit dt who v => Sys2Proof.Machine.execRtcCommit dt who v s
  | .rtcCommitDone dt => Sys2Proof.Machine.execRtcCommitDone dt s
  | .rtcSecond dt => Sys2Proof.Machine.execRtcSecond dt s
  | .rtcWake dt => Sys2Proof.Machine.execRtcWake dt s
  | .rtcAlarmWrite dt who addr v => Sys2Proof.Machine.execRtcAlarmWrite dt who addr v s
  | .rtcWakeWrite dt who v => Sys2Proof.Machine.execRtcWakeWrite dt who v s
  | .backupLoss dt => Sys2Proof.Machine.execBackupLoss dt s
  | .batteryLow dt => Sys2Proof.Machine.execBatteryLow dt s
  | .pendingDelivery dt c => Sys2Proof.Machine.execPendingDelivery dt c s
  | .evtFire dt who c => Sys2Proof.Machine.execEvtFire dt who c s
  | .evtLock dt who c => Sys2Proof.Machine.execEvtLock dt who c s
  | .evtClrcnt dt => Sys2Proof.Machine.execEvtClrcnt dt s
  | .spiGo dt p miso => Sys2Proof.Machine.execSpiGo dt p miso s
  | .masterFrameEnd dt p => Sys2Proof.Machine.execMasterFrameEnd dt p s
  | .spiFlush dt who p => Sys2Proof.Machine.execSpiFlush dt who p s
  | .spiTxdWrite dt who p v => Sys2Proof.Machine.execSpiTxdWrite dt who p v s
  | .spiRxdRead dt who p => Sys2Proof.Machine.execSpiRxdRead dt who p s
  | .csnFall dt p => Sys2Proof.Machine.execCsnFall dt p s
  | .csnRise dt p edges => Sys2Proof.Machine.execCsnRise dt p edges s
  | .mwDataRead dt who => Sys2Proof.Machine.execMwDataRead dt who s
  | .mwFetchDone dt bytes => Sys2Proof.Machine.execMwFetchDone dt bytes s
  | .mwInval dt => Sys2Proof.Machine.execMwInval dt s
  | .spiClrcnt dt => Sys2Proof.Machine.execSpiClrcnt dt s
  | .supplyOutOfRange dt => Sys2Proof.Machine.execSupplyOutOfRange dt s
  | .temperatureUpdate dt t => Sys2Proof.Machine.execTemperatureUpdate dt t s
  | .tandemLinkUp dt => Sys2Proof.Machine.execTandemLinkUp dt s
  | .fetchRequest dt addr => Sys2Proof.Machine.execFetchRequest dt addr s
  | .leasePersisted dt j own => Sys2Proof.Machine.execLeasePersisted dt j own s
  | .drbgRestart dt => Sys2Proof.Machine.execDrbgRestart dt s
  | .ciphPoolRefill dt u => Sys2Proof.Machine.execCiphPoolRefill dt u s
  | .holdupSample dt mv => Sys2Proof.Machine.execHoldupSample dt mv s
  | .backupSupplyReturn dt => Sys2Proof.Machine.execBackupSupplyReturn dt s
  | .spiSlaveWord dt p mosi => Sys2Proof.Machine.execSpiSlaveWord dt p mosi s
  | .msixUnmask dt e => Sys2Proof.Machine.execMsixUnmask dt e s
  | .laneTxEnd dt l => Sys2Proof.Machine.execLaneTxEnd dt l s
  | .dmaDrainDone dt n => Sys2Proof.Machine.execDmaDrainDone dt n s

end Sys2Proof.Machine
end

