-- ==== Sys2Proof/Safety.lean ====
section
/-!
DEFINITION. What the statements call a sound state: every sparse list of the state stands in its one canonical form, so
that equal contents are equal data.
-/

namespace Sys2Proof.Machine

/-- The register file lists registers in ascending order and none at its reset value; the Serai and every Drover's local
bytes list offsets in ascending order and no zero byte. -/
structure State.Inv (s : State) : Prop where
  regs : swf resetWord s.regs = true
  mem : Memory.wf s.ser.mem = true
  ram : ∀ n : Fin 12, swf (fun _ => (0 : Byte)) s.drovers[n].ram = true

/-- `s` with the command `c` at the front of its queue. -/
def State.ask (s : State) (c : Instr) : State := { s with pending := c :: s.pending }

end Sys2Proof.Machine
end

