-- ==== Sys2Proof/Certificates/Slice0/Obligations.lean ====
section
/-!
DEFINITION. The statements for the provers, one `Obligations.<Name>` each, and the words they share.

A command is spoken of as it comes: `u` is the state in which it comes, once the quarter grains after the command before
it have passed (`State.elapse`), and `t` is the state it leaves.
-/

namespace Sys2Proof.Claims

open Sys2Proof.Machine

/-- Wherever `pre` holds of the state in which the command comes, exec answers a next state, of which `post` holds. -/
def Runs (c : Nat → Instr) (pre : State → Prop) (post : State → State → Prop) : Prop :=
  ∀ (s : State) (dt : Nat), pre (s.elapse dt) → ∃ t, exec (c dt) s = .next t ∧ post (s.elapse dt) t

/-- The frame of a command that changes registers alone: all that is no register stands, and so does every register but
those at `offs`. -/
abbrev OnlyRegs (offs : List Nat) (u t : State) : Prop :=
  t = { u with regs := t.regs } ∧ ∀ o, o ∉ offs → t.reg o = u.reg o

/-- Every register stands but those at `offs`. -/
abbrev KeepsRegs (offs : List Nat) (u t : State) : Prop := ∀ o, o ∉ offs → t.reg o = u.reg o

/-- Every byte of the Serai stands. -/
abbrev KeepsMem (u t : State) : Prop := t.ser = u.ser

/-- Registers that the fault manager, the event fabric, the vectors and the event inputs of the Drovers change: the fault
slots and counters of SYS, capture bank 13, the EVPEND words, HST_VPEND, HST_CNT_2, the timers and the EVT block. -/
def signalReg (o : Nat) : Bool :=
  [R.SYS_FAULT_CUR, R.SYS_FAULT_PEND, R.SYS_FAULT_LOST, R.HST_VPEND_h 0, R.HST_VPEND_h 1, R.HST_CNT_k 2].contains o ||
    (decide (0x101D0 ≤ o) && decide (o < 0x101E0)) || ((List.range 12).any fun n => o == R.DRV_n_EVPEND n) ||
    o / 0x10000 == 0x15 || o / 0x10000 == 0x17

/-- The Serai stands but for the LOG bay, which takes the records of faults (R36). -/
abbrev KeepsButLog (u t : State) : Prop :=
  t.ser = { u.ser with mem := t.ser.mem, poison := t.ser.poison, errs := t.ser.errs } ∧
  (∀ a, inLog a = false → t.byte a = u.byte a) ∧
  (∀ g, inLog (16 * g) = false → (t.ser.poison.contains g = u.ser.poison.contains g ∧
    sget (fun _ => 0) t.ser.errs g = sget (fun _ => 0) u.ser.errs g))

/-- The frame of a command that changes the registers at `offs` and may signal: produce events, raise vectors and raise
faults, whose records the LOG bay takes. -/
abbrev Signals (offs : List Nat) (u t : State) : Prop :=
  t = { u with regs := t.regs, evPend := t.evPend, ep := t.ep, out := t.out, faults := t.faults, ser := t.ser } ∧
    KeepsButLog u t ∧ ∀ o, o ∉ offs → signalReg o = false → t.reg o = u.reg o

/-- The mode lets register writes through. -/
abbrev Writable (u : State) : Prop := u.mode ≠ Mode.reset ∧ u.mode ≠ Mode.safe

/-- A write of the register at `off` comes to the register's own rule: the mode lets it through, and the chip neither
mirrors nor journals. -/
abbrev Served (off : Nat) (u : State) : Prop := u.writable off = true ∧ u.isMirror = false ∧ u.journals = false

/-- No write and no command waits for room in the partner's log. -/
abbrev Unheld (u : State) : Prop := u.tan.held = [] ∧ u.tan.stalled = []

/-- Nothing but plain storage stands at the `n` bytes from `off`: no stored error and no poison anywhere, no SAFE entry, a
chip outside a Tandem with nothing that waits for one, below the MANIFEST bay. -/
abbrev Storage (off n : Nat) (u : State) : Prop :=
  u.ser.poison = [] ∧ u.ser.errs = [] ∧ u.faults.safeEntered = false ∧ u.tandem = false ∧ Unheld u ∧ off + n ≤ 0x1700000

/-- Plain storage, and none of it in the security groups of a Ledger entry, which the SEC unit alone writes (R156). -/
abbrev Open (off n : Nat) (u : State) : Prop :=
  Storage off n u ∧ ∀ a, off ≤ a → a < off + n → u.inBay Bay.ledger a = true →
    (a - u.bayBase Bay.ledger) / 16 % 16 = 0 ∨ 7 ≤ (a - u.bayBase Bay.ledger) / 16 % 16

/-- The `n` bytes from `off` and the `m` bytes from `at_` lie apart. -/
abbrev Apart (off n at_ m : Nat) : Prop := off + n ≤ at_ ∨ at_ + m ≤ off

/-- The little-endian number of the `n` bytes of the Serai at `off`. -/
def num (off n : Nat) (u : State) : Nat := leNat (u.bytesAt off n)

end Sys2Proof.Claims

open Sys2Proof Sys2Proof.Machine Sys2Proof.Claims
/-! ## The block as a whole -/

/-- A step runs the command at the front of the queue on the state with the queue's rest. -/
def Obligations.StepRunsFrontCommand : Prop :=
  ∀ (c : Instr) (s : State), step (s.ask c) = exec c s

/-- No command faults and none is refused: for every constructor of Instr, all 329, and every state, exec answers a next
state, and its queue is the one it found. -/
def Obligations.EveryCommandLeavesTheQueue : Prop :=
  ∀ (c : Instr) (s : State), ∃ t, exec c s = .next t ∧ t.pending = s.pending

/-- The canonical form of the registers, of the Serai and of the Drovers' local bytes is kept by every step. -/
def Obligations.EveryStepKeepsCanonicalForm : Prop :=
  ∀ s t : State, s.Inv → step s = .next t → t.Inv

/-- The state after reset is in canonical form. -/
def Obligations.ResetIsCanonical : Prop := State.reset.Inv

/-! ## Registers at large (00_scope.md) -/

namespace Sys2Proof.Claims

/-- Registers whose write does more than their fields' access classes say: commands, and registers with a rule of their
own. -/
def ownRule (off : Nat) : Bool :=
  [R.SYS_MODE_REQ, R.SYS_RESET, R.SYS_FAULT_ACK, R.SYS_FAULT_CFG, R.TICK_CTL, R.TICK_TRIM, R.TICK_SLEW, R.TICK_CAPTURE,
    R.TICK_SEAL, R.TICK_LOAD, R.MAN_LOAD, R.MAN_SWITCH, R.SF_DRAIN_SFN, R.SF_CHANGE, R.FTX_DPD, R.BBL_l_HOP 0, R.BBL_l_HOP 1,
    R.BBL_l_CMD 0, R.BBL_l_CMD 1, R.SER_SPARECMD, R.DMA_STAT, R.CAR_CMD, R.CAR_SFPHASE_k 0, R.TAN_CMD, R.TRU_LOCKSET,
    R.TRU_CMD, R.UPD_CTL, R.UPD_CMD, R.UPD_HOLDUP_MIN, R.FLS_CMD, R.CAL_CMD, R.TMR_START, R.TMR_STOP, R.EVT_FIRE,
    R.SPI_MW_CFG, R.SPI_MW_DATA].contains off ||
  off / 0x10000 == 0x16 || (clearOf off).isSome ||
  [(0xA0100, 0xA0400), (0xB0020, 0xB0030), (0xD0100, 0xD0500), (0x100200, 0x100240), (0x150100, 0x150300),
    (0x170100, 0x170300), (0x180100, 0x180300)].any fun p => decide (p.1 ≤ off) && decide (off < p.2)

/-- No Drover has a STEP to run. -/
abbrev NoStep (u : State) : Prop := ∀ n : Fin 12, u.drovers[n].step = false

/-- Word 0 or 1 of a Drover's receive ring, whose write restarts the ring's SEQ (R109). -/
abbrev RingHead (off : Nat) : Prop := 0x40200 ≤ off ∧ off < 0x402C0 ∧ off % 16 < 8

/-- What a write of `v` makes of field `f` of the register at `off` (R9, R453). -/
abbrev FieldTakes (off : Nat) (v : Word) (u t : State) (f : FieldSpec) : Prop :=
  let old := u.get ⟨off, f.lo, f.w⟩
  let new := t.get ⟨off, f.lo, f.w⟩
  match f.acc with
  | .ro | .wc | .rwt | .rws => new = old
  | .rwl => new = v.toNat / 2 ^ f.lo % 2 ^ f.w
  | .rwf => new = if u.runs off then old else v.toNat / 2 ^ f.lo % 2 ^ f.w
  | .w1c => ∀ i < f.w, new.testBit i = (old.testBit i && !v.toNat.testBit (f.lo + i))

/-- A write changes an RW-F field of a running block. -/
abbrev Frozen (off : Nat) (v : Word) (fs : List FieldSpec) (u : State) : Prop :=
  u.runs off = true ∧ ∃ f ∈ fs, f.acc = .rwf ∧ v.toNat / 2 ^ f.lo % 2 ^ f.w ≠ u.get ⟨off, f.lo, f.w⟩

/-- The fields of `fs` that a write stages, with the values they are to take. -/
def stagedOf (off : Nat) (v : Word) (fs : List FieldSpec) : List (Field × Nat) :=
  (fs.filter fun f => f.acc == .rwt || f.acc == .rws).map fun f => (⟨off, f.lo, f.w⟩, v.toNat / 2 ^ f.lo % 2 ^ f.w)

end Sys2Proof.Claims

/-- REGISTER_WRITE: the host's write, or a Drover's, of any register without a rule of its own is discarded whole where it
is out of range, with the block's flag set (R12); else it gives each field what its access class says, and sets FROZENWR
where it would change a frozen field. It leaves every other register as it was, and all state but the registers, the
staged writes and the SEQ of a receive ring whose word 0 or 1 it is. -/
def Obligations.RegisterWriteByClass : Prop :=
  ∀ (off : Nat) (fs : List FieldSpec) (who : Writer) (v : Word), fieldsAt off = some fs → ownRule off = false →
    ringLen off = none → who ≠ .remote → off % 4 = 0 →
    Runs (.registerWrite · who .bar0 off v)
      (fun u => Served off u ∧ u.barred who = false ∧ NoStep u ∧ u.get F.SYS_STRAP_HOST ≠ 1 ∧
        (off / 0x10000 ≠ 0xF ∨ u.tandem = true))
      (fun u t =>
        match rangeFlag off v.toNat u with
        | some f => t = u.flag f
        | none =>
          (∀ f ∈ fs, FieldTakes off v u t f) ∧
          (off ≠ R.SYS_ERR → (t.get F.SYS_ERR_FROZENWR = 1 ↔ Frozen off v fs u ∨ u.get F.SYS_ERR_FROZENWR = 1)) ∧
          KeepsRegs [off, R.SYS_ERR] u t ∧
          t = { u with regs := t.regs, staged := t.staged, frx := { u.frx with seq := t.frx.seq } } ∧
          (¬RingHead off → t.frx = u.frx) ∧
          ∃ l, t.staged = u.staged ++ l ∧ l.map (fun p => (p.field, p.value)) = stagedOf off v fs)

/-- In RESET no register write has an effect; in SAFE none of a Drover has one, and none of the host's but those of
SYS_RESET, SYS_FAULT_ACK and the W1C fields of SYS (R33, R34). -/
def Sys2Proof.Claims.ResetAndSafeDiscardWrites : Prop :=
  ∀ (who : Writer) (off : Nat) (v : Word), who ≠ .remote → off < 0x800000 → off % 4 = 0 →
    Runs (.registerWrite · who .bar0 off v)
      (fun u => u.get F.SYS_STRAP_HOST ≠ 1 ∧ NoStep u ∧ (u.mode = Mode.reset ∨
        u.mode = Mode.safe ∧ (who ≠ .host ∨ off ∉ [R.SYS_RESET, R.SYS_FAULT_ACK, R.SYS_ERR, R.SYS_RSTCAUSE])))
      (fun u t => t = u)

namespace Sys2Proof.Claims

/-- Ring indices that software writes, with the LEN each stands under: those whose write only moves the index. -/
abbrev PlainIndex (i len : Field) : Prop :=
  (∃ k < 2, i = F.FRX_POOL_k_WR k ∧ len = F.FRX_POOL_k_LEN k) ∨ (∃ n < 12, i = F.FRX_RING_n_RD n ∧ len = F.FRX_RING_n_LEN n) ∨
  (∃ j < 2, i = F.NT_RING_j_WR j ∧ len = F.NT_RING_j_LEN j) ∨ (∃ j < 2, i = F.SEC_RING_j_WR j ∧ len = F.SEC_RING_j_LEN j) ∨
  (∃ j < 2, i = F.SHP_RING_j_WR j ∧ len = F.SHP_RING_j_LEN j) ∨ (∃ c < 4, i = F.CIPH_RING_u_WR c ∧ len = F.CIPH_RING_u_LEN c)

/-- And those whose write starts work: the acknowledgement rings and the lanes' send rings. -/
abbrev WorkIndex (i len : Field) : Prop :=
  (∃ j < 2, i = F.FTX_ACKRING_j_WR j ∧ len = F.FTX_ACKRING_j_LEN j) ∨
  (∃ l < 2, i = F.BBL_l_SEND_WR l ∧ len = F.BBL_l_SEND_LEN l)

end Sys2Proof.Claims

/-- RING_INDEX_WRITE and DEV_WRITE (R454): an index of LEN or above is discarded whole and sets RINGIDX; one below LEN is the
new index. A cipher unit's ring takes a Drover's write while the unit is free or his. -/
def Obligations.RingIndexBelowLen : Prop :=
  (∀ (i len : Field) (who : Writer) (v : Word), PlainIndex i len → who ≠ .remote →
    Runs (.ringIndexWrite · who i.off v)
      (fun u => Served i.off u ∧ ∀ c < 4, i = F.CIPH_RING_u_WR c →
        ∃ d : Fin 12, who = .drover d ∧ (u.get (F.CIPH_u_CLAIM_OWNER c) = 0xF ∨ u.get (F.CIPH_u_CLAIM_OWNER c) = d))
      (fun u t =>
        if v.toNat % 2 ^ 16 < u.get len then t.get i = v.toNat % 2 ^ 16 ∧ OnlyRegs [i.off] u t
        else t.get F.SYS_ERR_RINGIDX = 1 ∧ OnlyRegs [R.SYS_ERR] u t)) ∧
  (∀ (i len : Field) (who : Writer) (v : Word), WorkIndex i len → who ≠ .remote →
    Runs (.ringIndexWrite · who i.off v) (fun u => Served i.off u ∧ u.get len ≤ v.toNat % 2 ^ 16)
      (fun u t => t.get F.SYS_ERR_RINGIDX = 1 ∧ OnlyRegs [R.SYS_ERR] u t)) ∧
  ∀ (d : Fin 12) (r : Fin 16) (v : Word),
    Runs (.devWrite · d r v)
      (fun u => Served (R.HST_RING_r_2 r) u ∧ u.get (F.HST_RING_r_DROVER r) = d ∧ u.get (F.HST_RING_r_LEN r) ≤ v.toNat % 2 ^ 16)
      (fun u t => t.get F.SYS_ERR_RINGIDX = 1 ∧ OnlyRegs [R.SYS_ERR] u t)

/-- UNSUPPORTED_REQUEST: an access that is not an aligned 32-bit one changes nothing but its count in HST_CNT_3. -/
def Sys2Proof.Claims.UnsupportedRequestCounts : Prop :=
  ∀ addr len : Nat, (len ≠ 4 ∨ addr % 4 ≠ 0) →
    Runs (.unsupportedRequest · addr len) (fun u => u.mode ≠ Mode.reset)
      (fun u t => t.get (F.HST_CNT_k_COUNT 3) = min (u.get (F.HST_CNT_k_COUNT 3) + 1) (2 ^ 32 - 1) ∧
        OnlyRegs [R.HST_CNT_k 3] u t)

/-- Accesses that reach no register: in RESET and SAFE writes are discarded, and an unsupported request is counted. -/
def Obligations.DiscardedAccessesShow : Prop :=
  Sys2Proof.Claims.ResetAndSafeDiscardWrites ∧ Sys2Proof.Claims.UnsupportedRequestCounts

/-! ## The slot tick (01_slot_tick.md) -/

/-- SLOT_TICK: while the TICK block runs and no TICK packet sets the Tally, the slot that begins is at grain 0 and carries
the values of a pending TICK_LOAD, else the next ASN and slot index, and at slot 0 the next SFN; outside those modes the
row does nothing. -/
def Obligations.SlotTickAdvancesTally : Prop :=
  ∀ (inp : TickIn) (s : State), s.get F.TICK_CTL_SRC ≠ 2 →
    ∃ t, exec (.slotTick inp) s = .next t ∧
      (s.tickRuns = false → t = s) ∧
      (s.tickRuns = true → t.tally.pos = 0 ∧ t.tally.load = none ∧
        (t.tally.slot, t.tally.asn, t.tally.sfn) =
          match s.tally.load with
          | some l => l
          | none =>
            if s.tally.slot + 1 < s.get F.SF_SFLEN_LEN then (s.tally.slot + 1, (s.tally.asn + 1) % 2 ^ 40, s.tally.sfn)
            else (0, (s.tally.asn + 1) % 2 ^ 40, (s.tally.sfn + 1) % 2 ^ 32))

/-- TICK_SEAL (R18): up to grain L - 3 a seal that carries its slot's ASN8 counts for the slot in progress, after it for
the next one; any other seal, and any while the TICK block does not run, sets STALESEAL. A preparation seal closes the
slot that comes next, a retirement seal the slot before it (the model's reading, log entry 10). -/
def Obligations.SealsCountInTime : Prop :=
  ∀ (d : Fin 12) (v : Word), Runs (.tickSeal · d v) Writable
    (fun u t =>
      let late := u.slotLen < u.tally.pos / 4 + 3
      let due := u.tally.asn + if late then 1 else 0
      let retire := v.getLsbD 8
      let right := v.toNat % 256 = (if retire then due + 2 ^ 40 - 1 else due + 1) % 256
      if u.tickRuns = true ∧ right then
        if late then
          t = { u with tally := { u.tally with
            nextPrep := if retire then u.tally.nextPrep else setBit u.tally.nextPrep d
            nextRet := if retire then setBit u.tally.nextRet d else u.tally.nextRet } }
        else
          (t.get (if retire then F.TICK_SEALED_RETIRE else F.TICK_SEALED_PREP)).testBit d = true ∧
            (∀ e < 12, e ≠ d.val → (t.get (if retire then F.TICK_SEALED_RETIRE else F.TICK_SEALED_PREP)).testBit e =
              (u.get (if retire then F.TICK_SEALED_RETIRE else F.TICK_SEALED_PREP)).testBit e) ∧
            t.get (if retire then F.TICK_SEALED_PREP else F.TICK_SEALED_RETIRE) =
              u.get (if retire then F.TICK_SEALED_PREP else F.TICK_SEALED_RETIRE) ∧ OnlyRegs [R.TICK_SEALED] u t
      else t.get F.TICK_STAT_STALESEAL = 1 ∧ OnlyRegs [R.TICK_STAT] u t)

/-- TICK_TRIM_WRITE (R17): TICK_TRIM takes a write only while SRC is 0 (or 3, which is treated as 0). -/
def Sys2Proof.Claims.TrimOnlyWithoutSource : Prop :=
  ∀ (who : Writer) (v : Word), Runs (.tickTrimWrite · who v) Writable
    (fun u t => if u.get F.TICK_CTL_SRC = 0 ∨ u.get F.TICK_CTL_SRC = 3
      then t.get F.TICK_TRIM_TRIM = v.toNat % 2 ^ 24 ∧ OnlyRegs [R.TICK_TRIM] u t else t = u)

/-- TICK_SLEW_REQUEST (R16): while SRC is 0 the request is added to the phase change still to come, where the sum fits the
register; with another source it has no effect. -/
def Sys2Proof.Claims.SlewAddsToRemainder : Prop :=
  ∀ (who : Writer) (v : Word), Runs (.tickSlewRequest · who v)
    (fun u => Writable u ∧ -(2 ^ 23) ≤ u.getS F.TICK_SLEWREM_REM + (v.toNat : Int).bmod (2 ^ 24) ∧
      u.getS F.TICK_SLEWREM_REM + (v.toNat : Int).bmod (2 ^ 24) < 2 ^ 23)
    (fun u t => if u.get F.TICK_CTL_SRC = 0 ∨ u.get F.TICK_CTL_SRC = 3
      then t.getS F.TICK_SLEWREM_REM = u.getS F.TICK_SLEWREM_REM + (v.toNat : Int).bmod (2 ^ 24) ∧
        OnlyRegs [R.TICK_SLEWREM] u t
      else t = u)

/-- Steering from software: TRIM writes, and SLEW adds to what is left of the slew. -/
def Obligations.TrimAndSlewSteerTheClock : Prop :=
  Sys2Proof.Claims.TrimOnlyWithoutSource ∧ Sys2Proof.Claims.SlewAddsToRemainder


namespace Sys2Proof.Claims

/-- The registers of capture bank `b`. -/
def bankRegs (b : Nat) : List Nat := [R.TICK_CAP_b_0 b, R.TICK_CAP_b_1 b, R.TICK_CAP_b_2 b, R.TICK_CAP_b_3 b]

/-- Bank `b` of `t` holds the Tally of `u` as it stands at one instant, under a sequence number one higher. -/
abbrev BankHolds (b : Nat) (u t : State) : Prop :=
  t.get (F.TICK_CAP_b_QUARTER b) = u.tally.pos % 4 ∧ t.get (F.TICK_CAP_b_GRAIN b) = u.tally.pos / 4 ∧
  t.get (F.TICK_CAP_b_SLOT b) = u.tally.slot ∧
  t.get (F.TICK_CAP_b_ASNL b) + 2 ^ 32 * t.get (F.TICK_CAP_b_ASNH b) = u.tally.asn ∧
  t.get (F.TICK_CAP_b_SFN b) = u.tally.sfn ∧ t.get (F.TICK_CAP_b_VALID b) = 1 ∧
  t.get (F.TICK_CAP_b_SEQ b) = (u.get (F.TICK_CAP_b_SEQ b) + 1) % 2 ^ 12

/-- The Tally's numbers lie in their ranges. -/
abbrev TallyInRange (u : State) : Prop :=
  u.tally.pos < 2 ^ 20 ∧ u.tally.slot < 2 ^ 12 ∧ u.tally.asn < 2 ^ 40 ∧ u.tally.sfn < 2 ^ 32

end Sys2Proof.Claims

/-- TICK_CAPTURE (R26): the whole Tally of one instant goes to the writer's bank: n for Drover n, 12 for the host. -/
def Obligations.CaptureLatchesWholeTally : Prop :=
  ∀ who : Writer, who ≠ .remote → Runs (.tickCapture · who) (fun u => Writable u ∧ TallyInRange u)
    (fun u t =>
      let b := match who with | .drover n => n.val | _ => 12
      BankHolds b u t ∧ OnlyRegs (bankRegs b) u t)

/-- TICK_LOAD (R25): refused with LOADREF while the TICK block runs or SRC is 2; else the three TICK_LOAD words wait for
the next tick. -/
def Sys2Proof.Claims.LoadWaitsForTick : Prop :=
  Runs (.tickLoad ·) Writable
    (fun u t =>
      if u.tickRuns = true ∨ u.get F.TICK_CTL_SRC = 2 then t.get F.TICK_STAT_LOADREF = 1 ∧ OnlyRegs [R.TICK_STAT] u t
      else t = { u with tally := { u.tally with load := some (u.get F.TICK_LOAD_ASNH_SLOT,
        u.get F.TICK_LOAD_ASNL_ASN + 2 ^ 32 * u.get F.TICK_LOAD_ASNH_ASN, u.get F.TICK_LOAD_SFN_SFN) } })

/-- PPS_EDGE (R16, R26): the edge captures the Tally into bank 14, TICK_PPS_ERR shows the distance of the second mark from
PPS_OFFSET, limited to 16 bits, and neither the Tally nor the grain count moves while the TICK block runs. With SRC 1 the
eighth edge in a row within 250 ns locks, and the fourth in a row off by more than 2 us ends the lock. PPS_MISSING: with
SRC 1 the lock state is HOLDOVER and PPSLOST is set; with another source nothing changes. -/
def Sys2Proof.Claims.PpsEdgesLock : Prop :=
  Runs (.ppsEdge ·) (fun u => u.mode ≠ Mode.reset ∧ TallyInRange u)
    (fun u t =>
      let e := phaseError u.tally.second (u.get F.TICK_PPS_OFFSET_OFFSET)
      BankHolds 14 u t ∧ t.getS F.TICK_PPS_ERR_ERR = max (-32768) (min e 32767) ∧
      (t.tally.pos, t.tally.slot, t.tally.asn, t.tally.sfn, t.tally.load) =
        (u.tally.pos, u.tally.slot, u.tally.asn, u.tally.sfn, u.tally.load) ∧
      (u.tickRuns = true → t.tally.second = u.tally.second) ∧
      (u.get F.TICK_CTL_SRC = 1 → u.get F.TICK_STAT_LOCK = 1 →
        t.get F.TICK_STAT_LOCK = if e.natAbs < 8 ∧ u.tally.goodEdges = 7 then 2 else 1) ∧
      (u.get F.TICK_CTL_SRC = 1 → u.get F.TICK_STAT_LOCK = 2 →
        t.get F.TICK_STAT_LOCK = if 64 < e.natAbs ∧ u.tally.outliers = 3 then 1 else 2) ∧
      (u.get F.TICK_CTL_SRC = 1 → u.get F.TICK_STAT_LOCK = 3 → t.get F.TICK_STAT_LOCK = 1) ∧
      Signals ([R.TICK_PPS_ERR, R.TICK_STAT, R.TICK_TRIM, R.TICK_SLEWREM] ++ bankRegs 14)
        { u with tally := t.tally, free := t.free } t) ∧
  Runs (.ppsMissing ·) (fun _ => True)
    (fun u t => if u.get F.TICK_CTL_SRC = 1 then
        t.get F.TICK_STAT_LOCK = 3 ∧ t.get F.TICK_STAT_PPSLOST = 1 ∧
          OnlyRegs [R.TICK_STAT] { u with tally := { u.tally with goodEdges := 0, outliers := 0 } } t
      else t = u)

/-- A load of the Tally waits for a tick, and PPS edges lock the clock. -/
def Obligations.LoadsAndEdgesSetTheClock : Prop :=
  Sys2Proof.Claims.LoadWaitsForTick ∧ Sys2Proof.Claims.PpsEdgesLock


namespace Sys2Proof.Claims

/-- A counter row: every field of `fields` reads 0, and nothing changes but the registers at `offs`. -/
abbrev Clears (c : Nat → Instr) (pre : State → Prop) (fields : List Field) (offs : List Nat) : Prop :=
  Runs c pre (fun u t => (∀ f ∈ fields, t.get f = 0) ∧ OnlyRegs offs u t)

/-- The fields `f 0` to `f (n - 1)`. -/
def each {α : Type} (n : Nat) (f : Nat → α) : List α := (List.range n).map f

end Sys2Proof.Claims

/-- The CLRCNT rows of R9: each counter of its block reads 0 afterwards, and nothing else changes. TAN_RTT keeps its latest
time and loses its maximum; EVT_LOOP keeps its last loop and loses its count; the times of FTX_AIR_o start again. -/
def Obligations.CountersClear : Prop :=
  Clears (.tickClrcnt ·) Writable
    (each 12 F.TICK_MISS_n_PREP ++ each 12 F.TICK_MISS_n_RETIRE ++ [F.TICK_CANCEL_COUNT, F.TICK_PPS_ERR_OUTLIERS])
    (each 12 R.TICK_MISS_n ++ [R.TICK_CANCEL, R.TICK_PPS_ERR]) ∧
  Clears (.sysClrlost ·) Writable [F.SYS_FAULT_LOST_COUNT, F.SYS_FAULT_LOST_NOTES] [R.SYS_FAULT_LOST] ∧
  Clears (.frxClrcnt ·) (Served R.FRX_CTL)
    ([F.FRX_CNT_RX24_COUNT, F.FRX_CNT_RXSG_COUNT, F.FRX_CNT_PAIR_PAIRED, F.FRX_CNT_PAIR_REFUSED] ++
      each 7 F.FRX_CNT_DROP_k_COUNT ++ each 6 F.FRX_CNT_PAIRREF_r_COUNT)
    ([R.FRX_CNT_RX24, R.FRX_CNT_RXSG, R.FRX_CNT_PAIR] ++ each 7 R.FRX_CNT_DROP_k ++ each 6 R.FRX_CNT_PAIRREF_r) ∧
  Runs (.ftxClrcnt ·) (Served R.FTX_CTL) (fun u t =>
    (∀ k < 8, t.get (F.FTX_CNT_k_COUNT k) = 0) ∧ (∀ o < 4, readWord (R.FTX_AIR_o o) t = 0) ∧
      OnlyRegs (each 8 R.FTX_CNT_k) { u with ftx := t.ftx } t ∧ t.ftx = { u.ftx with outs := t.ftx.outs }) ∧
  Clears (.ntClrcnt ·) (Served R.NT_CTL) (each 6 F.NT_CNT_k_COUNT) (each 6 R.NT_CNT_k) ∧
  Clears (.secClrcnt ·) (Served R.SEC_CTL) (each 11 F.SEC_CNT_k_COUNT) (each 11 R.SEC_CNT_k) ∧
  Clears (.bblClrcnt ·) (Served R.BBL_CTL) (each 8 (F.BBL_l_CNT_k_COUNT 0) ++ each 8 (F.BBL_l_CNT_k_COUNT 1))
    (each 8 (R.BBL_l_CNT_k 0) ++ each 8 (R.BBL_l_CNT_k 1)) ∧
  Clears (.serClrcnt ·) Writable (each 6 F.SER_CNT_k_COUNT) (each 6 R.SER_CNT_k) ∧
  Clears (.ciphClrcnt ·) Writable (each 8 F.CIPH_CNT_k_COUNT) (each 8 R.CIPH_CNT_k) ∧
  Clears (.shpClrcnt ·) (Served R.SHP_CTL) (each 8 F.SHP_CNT_k_COUNT) (each 8 R.SHP_CNT_k) ∧
  Clears (.dmaClrcnt ·) Writable (each 16 F.DMA_n_CNT_DONE ++ each 16 F.DMA_n_CNT_HALTS) (each 16 R.DMA_n_CNT) ∧
  Clears (.carClrcnt ·) Writable (each 8 F.CAR_CNT_k_COUNT) (each 8 R.CAR_CNT_k) ∧
  Runs (.tanClrcnt ·) (fun u => Writable u ∧ u.tandem = true) (fun u t =>
    (∀ k < 8, t.get (F.TAN_CNT_k_COUNT k) = 0) ∧ t.get F.TAN_RTT_MAX = 0 ∧ t.get F.TAN_RTT_NS = u.get F.TAN_RTT_NS ∧
      OnlyRegs (each 8 R.TAN_CNT_k ++ [R.TAN_RTT]) u t) ∧
  Clears (.hstClrcnt ·) Writable (each 6 F.HST_CNT_k_COUNT) (each 6 R.HST_CNT_k) ∧
  Clears (.updClrcnt ·) Writable (each 6 F.UPD_CNT_k_COUNT) (each 6 R.UPD_CNT_k) ∧
  Clears (.flsClrcnt ·) Writable (each 8 F.FLS_CNT_k_COUNT) (each 8 R.FLS_CNT_k) ∧
  Runs (.evtClrcnt ·) Writable (fun u t =>
    (∀ c < 64, t.get (F.EVT_CNT_c_DELIV c) = 0 ∧ t.get (F.EVT_CNT_c_LOST c) = 0) ∧ t.get F.EVT_LOOP_COUNT = 0 ∧
      t.get F.EVT_LOOP_CHANNEL = u.get F.EVT_LOOP_CHANNEL ∧ t.get F.EVT_LOOP_ORIGIN = u.get F.EVT_LOOP_ORIGIN ∧
      t.get F.EVT_LOOP_HOPS = u.get F.EVT_LOOP_HOPS ∧ OnlyRegs (each 64 R.EVT_CNT_c ++ [R.EVT_LOOP]) u t) ∧
  Clears (.spiClrcnt ·) Writable
    (each 2 F.SPI_i_CNT_FRAMES ++ each 2 F.SPI_i_CNT_ERRORS ++ [F.SPI_MW_CNT_HITS, F.SPI_MW_CNT_MISSES])
    (each 2 R.SPI_i_CNT ++ [R.SPI_MW_CNT])
/-! ## Faults, modes and resets (02_modes_faults.md) -/

namespace Sys2Proof.Claims

/-- The fault slot at register `o` shows an active fault: code, severity, source, and the ASN's low byte while the TICK
block runs. -/
abbrev SlotShows (o code sev src : Nat) (u t : State) : Prop :=
  t.get ⟨o, 0, 8⟩ = code ∧ t.get ⟨o, 8, 2⟩ = sev ∧ t.get ⟨o, 10, 6⟩ = src ∧ t.get ⟨o, 31, 1⟩ = 1 ∧
    t.get ⟨o, 16, 8⟩ = if u.tickRuns = true then u.tally.asn % 256 else 0

/-- A fault's record stands in its granule of the LOG bay, and no other byte of the Serai changes (R36). -/
abbrev Recorded (code sev src : Nat) (u t : State) : Prop :=
  t.faults.log = u.faults.log ++ [⟨code, sev, src, u.stamp⟩] ∧
  t.bytesAt (recordPlace u.faults.log.length) 16 = (List.range 16).map (Config.faultByte code sev src u.stamp) ∧
  (∀ a, Apart (recordPlace u.faults.log.length) 16 a 1 → t.byte a = u.byte a) ∧ KeepsButLog u t

/-- The handler is aborted (R39): an entry that waits at input 10 of its Drover is forgotten, and the Drover that runs it
is held. -/
abbrev HandlerAborted (u t : State) : Prop :=
  t.faults.aborted = u.handling ∧ ∀ n, u.faultDrover = some n →
    (t.get (F.DRV_n_EVPEND_PEND n)).testBit 10 = false ∧
    ∀ k < 32, k ≠ 10 → (t.get (F.DRV_n_EVPEND_PEND n)).testBit k = (u.get (F.DRV_n_EVPEND_PEND n)).testBit k

/-- The register that shows the inputs of the fault role's Drover. -/
def handlerInputs (u : State) : List Nat :=
  match u.faultDrover with
  | some n => [R.DRV_n_EVPEND n]
  | none => []

/-- A SAFE fault of source 0 is raised in `u` (R36, R39, R455): it is logged; the first takes SYS_FAULT_CUR, empties the
pending slot, aborts the handler and makes SAFE entry due; a later one is counted in LOST, and ends the wait of a FENCE. -/
abbrev SafeRaised (code : Nat) (u t : State) : Prop :=
  Recorded code 3 0 u t ∧ t.faults.safe = true ∧
  (u.faults.safe = false → SlotShows R.SYS_FAULT_CUR code 3 0 u t ∧ t.reg R.SYS_FAULT_PEND = 0 ∧ t.faults.wait = .due ∧
    HandlerAborted u t ∧
    OnlyRegs ([R.SYS_FAULT_CUR, R.SYS_FAULT_PEND] ++ handlerInputs u) { u with faults := t.faults, ser := t.ser } t) ∧
  (u.faults.safe = true → t.get F.SYS_FAULT_LOST_COUNT = min (u.get F.SYS_FAULT_LOST_COUNT + 1) 65535 ∧
    t.faults.wait = (match u.faults.wait with | .fence _ => .due | w => w) ∧
    OnlyRegs [R.SYS_FAULT_LOST] { u with faults := t.faults, ser := t.ser } t)

/-- The fault handler's Drover `n` is told of a fault at its input 10. -/
abbrev HandlerEntered (n : Nat) (t : State) : Prop := (t.get (F.DRV_n_EVPEND_PEND n)).testBit 10 = true

end Sys2Proof.Claims

/-- REFERENCE_LOSS (R14), SUPPLY_OUT_OF_RANGE (R440), HANDLER_TMO once the active fault has stood TMO x 100 us
unacknowledged (R40), and TEMPERATURE_UPDATE where it reaches +115 degrees (R451) raise a SAFE fault. -/
def Sys2Proof.Claims.SafeFaultsTakeCur : Prop :=
  Runs (.referenceLoss ·) (fun u => u.mode ≠ Mode.reset) (SafeRaised 0x01) ∧
  Runs (.supplyOutOfRange ·) (fun u => u.mode ≠ Mode.reset) (SafeRaised 0x02) ∧
  Runs (.handlerTmo ·)
    (fun u => u.get F.SYS_FAULT_CUR_VALID = 1 ∧ u.faults.safe = false ∧
      u.faults.since + 3200 * max 1 (u.get F.SYS_FAULT_CFG_TMO) ≤ u.tally.clock)
    (SafeRaised 0x11) ∧
  ∀ x : Int, 460 ≤ x → x < 2048 → Runs (.temperatureUpdate · x)
    (fun u => u.getS F.CAL_TEMP_TEMP < 460 ∧ u.cal.warned = true)
    (fun u t => SafeRaised 0x04 (u.putS F.CAL_TEMP_TEMP x) t ∧ t.getS F.CAL_TEMP_TEMP = x)

/-- TEMPERATURE_UPDATE (R451, in quarter degrees): CAL_TEMP shows the temperature, and nothing else happens below +105
degrees. At +105 THERM_WARN, a MAJOR fault, finds its place by the table of R37, and not again before the temperature has
been below +103. -/
def Sys2Proof.Claims.ThermalWarningFindsItsPlace : Prop :=
  (∀ x : Int, -2048 ≤ x → x < 420 → Runs (.temperatureUpdate · x) (fun _ => True)
    (fun u t => t.getS F.CAL_TEMP_TEMP = x ∧ (x < 412 → t.cal.warned = false) ∧
      (412 ≤ x → t.cal.warned = u.cal.warned) ∧ OnlyRegs [R.CAL_TEMP] { u with cal := t.cal } t)) ∧
  (∀ x : Int, 420 ≤ x → x < 460 → Runs (.temperatureUpdate · x) (fun u => u.cal.warned = true)
    (fun u t => t.getS F.CAL_TEMP_TEMP = x ∧ t.cal = u.cal ∧ OnlyRegs [R.CAL_TEMP] u t)) ∧
  ∀ x : Int, 420 ≤ x → x < 460 → Runs (.temperatureUpdate · x) (fun u => u.cal.warned = false ∧ u.faults.safe = false)
    (fun u t =>
      t.getS F.CAL_TEMP_TEMP = x ∧ t.cal = { u.cal with warned := true } ∧
      t.faults.log.take (u.faults.log.length + 1) = u.faults.log ++ [⟨0x03, 2, 0, u.stamp⟩] ∧
      (u.get F.SYS_FAULT_CUR_VALID = 0 → u.get F.SYS_FAULT_CFG_ESCAL = 0 → ∀ n, u.faultDrover = some n →
        SlotShows R.SYS_FAULT_CUR 0x03 2 0 u t ∧ HandlerEntered n t) ∧
      (u.get F.SYS_FAULT_CUR_VALID = 1 → u.get F.SYS_FAULT_PEND_VALID = 0 →
        SlotShows R.SYS_FAULT_PEND 0x03 2 0 u t ∧ Recorded 0x03 2 0 u t ∧
          OnlyRegs [R.CAL_TEMP, R.SYS_FAULT_PEND] { u with cal := t.cal, faults := t.faults, ser := t.ser } t) ∧
      (u.get F.SYS_FAULT_CUR_VALID = 1 → u.get F.SYS_FAULT_PEND_VALID = 1 → u.get F.SYS_FAULT_PEND_SEV < 2 →
        SlotShows R.SYS_FAULT_PEND 0x03 2 0 u t ∧ t.get F.SYS_FAULT_LOST_COUNT = min (u.get F.SYS_FAULT_LOST_COUNT + 1) 65535 ∧
          t.reg R.SYS_FAULT_CUR = u.reg R.SYS_FAULT_CUR) ∧
      (u.get F.SYS_FAULT_CUR_VALID = 1 → u.get F.SYS_FAULT_PEND_VALID = 1 → 2 ≤ u.get F.SYS_FAULT_PEND_SEV →
        t.get F.SYS_FAULT_LOST_COUNT = min (u.get F.SYS_FAULT_LOST_COUNT + 1) 65535 ∧
          Recorded 0x03 2 0 u t ∧
          OnlyRegs [R.CAL_TEMP, R.SYS_FAULT_LOST] { u with cal := t.cal, faults := t.faults, ser := t.ser } t) ∧
      Signals [R.CAL_TEMP] { u with cal := t.cal } t)

/-- Where a fault is placed: SAFE faults in SYS_FAULT_CUR, others by the table of R37. -/
def Obligations.FaultsFindTheirPlace : Prop :=
  Sys2Proof.Claims.SafeFaultsTakeCur ∧ Sys2Proof.Claims.ThermalWarningFindsItsPlace


/-- FAULT_ACK (R38): with no fault active it has no effect, and it never clears a SAFE fault. Otherwise the active fault is
cleared; a pending one becomes active and the handler is entered again, unless its activation escalates or finds no
handler (R40, R41). -/
def Obligations.FaultAckPromotesPending : Prop :=
  Runs (.faultAck ·) (fun u => u.mode ≠ Mode.reset)
    (fun u t =>
      (u.faults.safe = true ∨ u.get F.SYS_FAULT_CUR_VALID = 0 → t = u) ∧
      (u.faults.safe = false → u.get F.SYS_FAULT_CUR_VALID = 1 → u.get F.SYS_FAULT_PEND_VALID = 0 →
        t.reg R.SYS_FAULT_CUR = 0 ∧ OnlyRegs [R.SYS_FAULT_CUR] u t) ∧
      (u.faults.safe = false → u.get F.SYS_FAULT_CUR_VALID = 1 → u.get F.SYS_FAULT_PEND_VALID = 1 →
        (u.get F.SYS_FAULT_PEND_SEV ≠ 2 ∨ u.get F.SYS_FAULT_CFG_ESCAL = 0) → ∀ n, u.faultDrover = some n →
        t.reg R.SYS_FAULT_CUR = u.reg R.SYS_FAULT_PEND ∧ t.reg R.SYS_FAULT_PEND = 0 ∧ HandlerEntered n t ∧
          Signals [] u t))

/-- SAFE_ENTRY (R42), once it is due: the mode is SAFE, no request waits, SAFECODE holds the fault, and every
Drover is in recovery decode. -/
def Obligations.SafeEntryTakesTheMode : Prop :=
  Runs (.safeEntry ·) (fun u => u.faults.wait = .due ∧ u.mode ≠ Mode.reset)
    (fun u t =>
      t.mode = Mode.safe ∧ t.get F.SYS_MODE_MODE_PREV = u.mode ∧ t.get F.SYS_MODE_TRANS = 0 ∧
      t.get F.SYS_RSTCAUSE_SAFECODE = t.get F.SYS_FAULT_CUR_CODE ∧
      (∀ n < 12, t.get (F.DRV_n_STAT_PERS n) = 1))

namespace Sys2Proof.Claims

/-- What a chip sends on the ring: nothing while it shows two leads (R282). -/
def spoken (u : State) (l : List Out) : List Out := if u.get F.CAR_STAT_TWOLEADS = 0 then l else []

/-- A ring packet has come in (R284): the copies before it that failed their CRC are counted in CAR_CNT_0, it is
acknowledged to the hop it came from, and where it goes on it leaves one hop further; nothing else changes. -/
abbrev Hopped (h : PktHead) (p : Packet) (u t : State) : Prop :=
  t.get (F.CAR_CNT_k_COUNT 0) = min (u.get (F.CAR_CNT_k_COUNT 0) + h.fails) (2 ^ 32 - 1) ∧
  t.out = u.out ++ spoken u (Out.hopAck h.port h.seq ::
    if u.goesOn h = true then [.relay (u.onPort h) h.origin h.dest (h.hops + 1) h.seq p] else []) ∧
  OnlyRegs [R.CAR_CNT_k 0] { u with out := t.out } t

/-- A whole-chip reset (R34): RESET with the source held; the queue, the real-time clock, the flash contents and the
fuses' burnt state stand; the registers are at their reset values but those of the clock, SYS_RSTCAUSE and, but for
power-on, SER_REMAP; so is the store, but for the LOG bay, which power-on clears too. -/
abbrev ChipReset (por : Bool) (u t : State) : Prop :=
  t.mode = Mode.reset ∧ t.rst = .held ∧ t.pending = u.pending ∧ t.rtc = u.rtc ∧
  (∀ o, o / 0x10000 ≠ 0x16 → o ≠ R.SYS_RSTCAUSE → (por = true ∨ ∀ b < 16, ∀ k < 8, o ≠ R.SER_REMAP_b_k b k) →
    t.reg o = resetWord o) ∧
  (∀ o, o / 0x10000 = 0x16 ∨ por = false ∧ (∃ b < 16, ∃ k < 8, o = R.SER_REMAP_b_k b k) → t.reg o = u.reg o) ∧
  (∀ a, t.byte a = if por = false ∧ 0x1600000 ≤ a ∧ a < 0x1700000 then u.byte a else 0) ∧
  t.staged = [] ∧ t.modePend = none ∧ t.tally = { Tally.init with clock := u.tally.clock } ∧
  t.drovers = Vector.replicate 12 Drover.init ∧ t.jtag = .bypass ∧ t.faults.log = if por then [] else u.faults.log

end Sys2Proof.Claims

/-- POWER_ON_RESET, PIN_RESET, CARAVAN_RESET on the chip it is for, and SOFT_RESET with its key (R34): a whole-chip reset,
with its cause beside those already held, and FROMSAFE where it ends SAFE; power-on shows POR alone. SOFT_RESET with
another key sets BADKEY; in SAFE a Drover's has no effect (R33). A CARAVAN_RESET for another chip is acknowledged and
relayed. -/
def Sys2Proof.Claims.WholeChipResets : Prop :=
  Runs (.powerOnReset ·) (fun _ => True)
    (fun u t => ChipReset true u t ∧ t.reg R.SYS_RSTCAUSE = 1) ∧
  Runs (.pinReset ·) (fun _ => True)
    (fun u t => ChipReset false u t ∧ t.reg R.SYS_RSTCAUSE = u.reg R.SYS_RSTCAUSE ||| (if u.mode = Mode.safe then 0x12 else 0x02)) ∧
  (∀ h : PktHead, Runs (.caravanReset ⟨·, h⟩) (fun u => u.mode ≠ Mode.reset ∧ u.isFor h = true)
    (fun u t => ∃ v, Hopped h .reset u v ∧ ChipReset false v t ∧ t.reg R.SYS_RSTCAUSE = u.reg R.SYS_RSTCAUSE ||| (if u.mode = Mode.safe then 0x18 else 0x08))) ∧
  (∀ h : PktHead, Runs (.caravanReset ⟨·, h⟩) (fun u => u.mode ≠ Mode.reset ∧ u.isFor h = false) (Hopped h .reset)) ∧
  (∀ h : PktHead, Runs (.caravanReset ⟨·, h⟩) (fun u => u.mode = Mode.reset) (fun u t => t = u)) ∧
  (∀ (who : Writer) (v : Word), v.toNat % 2 ^ 16 = 0x6A3C → Runs (.softReset · who v)
    (fun u => u.mode ≠ Mode.reset ∧ u.barred who = false)
    (fun u t => ChipReset false u t ∧ t.reg R.SYS_RSTCAUSE = u.reg R.SYS_RSTCAUSE ||| (if u.mode = Mode.safe then 0x14 else 0x04))) ∧
  (∀ (who : Writer) (v : Word), v.toNat % 2 ^ 16 ≠ 0x6A3C → Runs (.softReset · who v)
    (fun u => u.mode ≠ Mode.reset ∧ u.barred who = false)
    (fun u t => t.get F.SYS_ERR_BADKEY = 1 ∧ OnlyRegs [R.SYS_ERR] u t)) ∧
  ∀ (who : Writer) (v : Word), Runs (.softReset · who v) (fun u => u.barred who = true) (fun u t => t = u)

/-- PERSTN and FUNCTION_LEVEL_RESET (R326, R343): the MSI-X table and the pending bits are cleared and the link trains
anew; nothing else changes, so the air schedule goes on. -/
def Sys2Proof.Claims.EndpointResetKeepsTheChip : Prop :=
  ∀ speed width : Nat, speed < 4 → width < 8 → ∀ c ∈ [(Instr.perstn · speed width), (Instr.functionLevelReset · speed width)],
    Runs c (fun _ => True) (fun u t =>
      t.ep = Endpoint.init ∧ t.get F.HST_LINK_MSIXEN = 0 ∧ t.get F.HST_LINK_FMASK = 0 ∧
      (u.get F.SYS_STRAP_HOST ≠ 1 → t.get F.HST_LINK_SPEED = speed ∧ t.get F.HST_LINK_WIDTH = width) ∧
      (u.get F.SYS_STRAP_HOST = 1 → t.get F.HST_LINK_SPEED = 0 ∧ t.get F.HST_LINK_WIDTH = 0) ∧
      OnlyRegs [R.HST_LINK] { u with ep := t.ep } t)

/-- Whole-chip resets, and the endpoint's, which leaves the chip alone. -/
def Obligations.ResetsReachWhatTheyShould : Prop :=
  Sys2Proof.Claims.WholeChipResets ∧ Sys2Proof.Claims.EndpointResetKeepsTheChip


/-- RESET_RELEASE and RESET_SEQUENCE_COMPLETE (R34, R35): the straps are latched, each from its pin unless the option area
overrides it, HOST 0b11 standing for 0b00; the sequence ends in BOOT with Drover 0 released. -/
def Obligations.ResetSequenceEndsInBoot : Prop :=
  (∀ pins : Straps, Runs (.resetRelease · pins) (fun u => u.rst = .held)
    (fun u t => t.rst = .running ∧ t.mode = u.mode ∧ t.straps = pins ∧
      t.get F.SYS_STRAP_PIN_HOST = pins.host ∧ t.get F.SYS_STRAP_PIN_BOOT = b2n pins.boot ∧
      t.get F.SYS_STRAP_PIN_TANDEM = b2n pins.tandem ∧
      ((t.get F.SYS_STRAP_OVR).testBit 0 = false → t.get F.SYS_STRAP_HOST = if pins.host = 3 then 0 else pins.host) ∧
      ((t.get F.SYS_STRAP_OVR).testBit 1 = false → t.get F.SYS_STRAP_BOOT = b2n pins.boot) ∧
      ((t.get F.SYS_STRAP_OVR).testBit 2 = false → t.get F.SYS_STRAP_TANDEM = b2n pins.tandem))) ∧
  Runs (.resetSequenceComplete ·) (fun u => u.rst = .running)
    (fun _ t => t.rst = .done ∧ t.mode = Mode.boot ∧ t.get (F.DRV_n_STAT_STATE 0) = 1)

namespace Sys2Proof.Claims

/-- The transitions that a host request makes (R32): from, to, and whether ESTOP must be 1. -/
def transitions : List (Nat × Nat × Bool) :=
  [(Mode.boot, Mode.test, false), (Mode.configure, Mode.calibrate, false), (Mode.calibrate, Mode.configure, false),
    (Mode.configure, Mode.standby, false), (Mode.standby, Mode.configure, false), (Mode.standby, Mode.listen, false),
    (Mode.listen, Mode.standby, false), (Mode.standby, Mode.serve, false), (Mode.serve, Mode.drain, false),
    (Mode.drain, Mode.serve, false), (Mode.serve, Mode.standby, true), (Mode.drain, Mode.standby, true),
    (Mode.standby, Mode.shadow, false), (Mode.shadow, Mode.standby, false)]

end Sys2Proof.Claims

/-- MODE_REQUEST (R32): a request changes no mode by itself. While a change waits it sets BUSY; a transition that is not in
the table sets BADMODE; both leave what waits as it was. A transition without a condition of its own waits with TRANS set,
for the tick of R31 where the TICK block runs in both modes. -/
def Obligations.ModeRequestsFollowTheTable : Prop :=
  ∀ (who : Writer) (v : Word), Runs (.modeRequest · who v) Writable
    (fun u t =>
      let target := v.toNat % 16
      let estop := v.getLsbD 4
      t.mode = u.mode ∧ t.get F.SYS_MODE_REQ_TARGET = target ∧
      (v.getLsbD 5 = false → t.modePend = u.modePend ∧ OnlyRegs [R.SYS_MODE_REQ] u t) ∧
      (v.getLsbD 5 = true → u.get F.SYS_MODE_TRANS = 1 →
        t.get F.SYS_ERR_BUSY = 1 ∧ t.modePend = u.modePend ∧ OnlyRegs [R.SYS_MODE_REQ, R.SYS_ERR] u t) ∧
      (v.getLsbD 5 = true → u.get F.SYS_MODE_TRANS = 0 →
        (u.mode, target, estop) ∉ transitions → (estop = true → (u.mode, target, false) ∉ transitions) →
        t.get F.SYS_ERR_BADMODE = 1 ∧ t.modePend = u.modePend ∧ OnlyRegs [R.SYS_MODE_REQ, R.SYS_ERR] u t) ∧
      (v.getLsbD 5 = true → u.get F.SYS_MODE_TRANS = 0 →
        u.mode = Mode.standby ∧ (target = Mode.configure ∨ target = Mode.listen ∨ target = Mode.serve) ∨
          (u.mode = Mode.listen ∨ u.mode = Mode.shadow) ∧ target = Mode.standby ∨
          (u.mode = Mode.serve ∨ u.mode = Mode.drain) ∧ target = Mode.standby ∧ estop = true →
        t.get F.SYS_MODE_TRANS = 1 ∧
        t.modePend = some ⟨target, u.mode = Mode.serve ∨ u.mode = Mode.drain,
          if target = Mode.configure then 0 else if u.tally.pos / 4 + 3 ≤ u.slotLen then 1 else 2⟩ ∧
        OnlyRegs [R.SYS_MODE_REQ, R.SYS_MODE] { u with modePend := t.modePend } t))

/-- MODE_CHANGE and EMERGENCY_STOP (R30, R31, R83): the waiting change takes effect, at once or in the last quarter grain
of its slot. The mode is the target, PREV the mode before, TRANS is 0, and every Drover decodes for the new mode.
SURVEY_END asks for STANDBY from LISTEN in the same way. -/
def Obligations.ModeChangesTakeEffect : Prop :=
  (∀ (target : Nat) (estop low : Bool), target < 12 → target ≠ Mode.takeover →
    Runs (if estop then (.emergencyStop · low) else (.modeChange · low))
      (fun u => (u.modePend = some ⟨target, estop, 0⟩ ∧ u.mode ≠ Mode.calibrate ∨
          u.modePend = some ⟨target, estop, 1⟩ ∧ u.tickRuns = true ∧ 4 * u.slotLen ≤ u.tally.pos + 1) ∧
        ¬(target = Mode.serve ∧ u.mode = Mode.standby ∧ u.tandem = true))
      (fun u t => t.mode = target ∧ t.get F.SYS_MODE_MODE_PREV = u.mode ∧ t.get F.SYS_MODE_TRANS = 0 ∧
        t.get F.SYS_MODE_PERS = (if 5 ≤ target ∧ target ≤ 9 then 0 else 1) ∧
        (target ≠ Mode.configure → ∀ n < 12, t.get (F.DRV_n_STAT_PERS n) = if 5 ≤ target ∧ target ≤ 9 then 0 else 1))) ∧
  Runs (.surveyEnd ·) (fun u => u.mode = Mode.listen ∧ u.get F.SYS_MODE_TRANS = 0)
    (fun u t => t.mode = u.mode ∧ t.get F.SYS_MODE_TRANS = 1 ∧
      t.modePend = some ⟨Mode.standby, false, if u.tally.pos / 4 + 3 ≤ u.slotLen then 1 else 2⟩ ∧
      OnlyRegs [R.SYS_MODE] { u with modePend := t.modePend } t)
/-! ## The Manifest and the air schedule (03_manifest.md, 04_air_schedule.md) -/

namespace Sys2Proof.Claims

/-- The chip takes scheduled switches: STANDBY, LISTEN, SERVE, DRAIN or SHADOW, with no switch armed and no update
condition in the way. -/
abbrev MayArm (u : State) : Prop :=
  u.mode ∈ [Mode.standby, Mode.listen, Mode.serve, Mode.drain, Mode.shadow] ∧ u.on F.MAN_STAT_ARMED = false ∧ u.updCond = 0

/-- The superframes from the present one to SFN `sfn`, by R24's serial arithmetic. -/
def superframesTo (sfn : Nat) (u : State) : Nat := (sfn + 2 ^ 32 - u.tally.sfn) % 2 ^ 32

end Sys2Proof.Claims

/-- MAN_CHECK, MAN_DISCARD (R48) and MAN_CHECK_DONE (R45, R46): while a check runs or a switch is armed the commands set
BUSY; else a check begins, or the shadow is EMPTY. A check ends VERIFIED, with the body's MID, only for a body whose length
is a multiple of 16 from 64 to 130,560 and whose MAGIC, FORMAT and NSEC are right, on a chip that has an index set in
CHIPMASK and its Caravan's size from enumeration; or REFUSED with a code of the table; or it holds at SCOPE on a chip
without index or size. The active Manifest stands, and so does the Serai where no granule holds an error to correct. -/
def Obligations.ShadowChecks : Prop :=
  Runs (.manCheck ·) Writable (fun u t =>
    if u.get F.MAN_STAT_SHADOW = 1 ∨ u.on F.MAN_STAT_ARMED = true then t = u.flag F.MAN_ERR_BUSY
    else t = { u with man := { u.man with atScope := false } }.put F.MAN_STAT_SHADOW 1) ∧
  Runs (.manDiscard ·) Writable (fun u t =>
    if u.get F.MAN_STAT_SHADOW = 1 ∨ u.on F.MAN_STAT_ARMED = true then t = u.flag F.MAN_ERR_BUSY
    else t = (u.put F.MAN_STAT_SHADOW 0).put F.MAN_SHADOW_ID_MID 0) ∧
  Runs (.manCheckDone ·) (fun u => u.get F.MAN_STAT_SHADOW = 1) (fun u t =>
    let hdr := t.slotHdr u.shadowSlot
    let body := t.slotBody u.shadowSlot
    (t.get F.MAN_STAT_SHADOW = 1 ∧ t.man.atScope = true ∧ (u.get F.CAR_STAT_ROLE = 0 ∨ u.get F.CAR_STAT_SIZE = 0) ∨
      t.get F.MAN_STAT_SHADOW = 2 ∧ u.get F.CAR_STAT_ROLE ≠ 0 ∧ u.get F.CAR_STAT_SIZE ≠ 0 ∧ t.get F.MAN_SHADOW_ID_MID = leNat ((body.drop 8).take 4) ∧
        64 ≤ Hdr.bodyLen hdr ∧ Hdr.bodyLen hdr ≤ 130560 ∧
        Hdr.bodyLen hdr % 16 = 0 ∧ body.take 6 = [0x43, 0x4E, 0x4D, 0x46, 0x01, 0x00] ∧
        8 ≤ leNat ((body.drop 6).take 2) ∧ leNat ((body.drop 6).take 2) ≤ 16 ∧
        (leNat ((body.drop 16).take 8)).testBit (u.get F.CAR_STAT_INDEX) = true ∨
      t.get F.MAN_STAT_SHADOW = 3 ∧ t.get F.MAN_SHADOW_ID_MID = 0 ∧ 1 ≤ t.get F.MAN_ERR_CODE ∧ t.get F.MAN_ERR_CODE ≤ 0x0D ∧
        t.man = u.man) ∧
    t.get F.MAN_STAT_ACTIVE_SLOT = u.get F.MAN_STAT_ACTIVE_SLOT ∧ t.get F.MAN_STAT_ACTIVE_VALID = u.get F.MAN_STAT_ACTIVE_VALID ∧
    t.reg R.MAN_ACTIVE_ID = u.reg R.MAN_ACTIVE_ID ∧ (u.ser.errs = [] → t.ser = u.ser))

/-- MAN_ACTIVATE (R49): outside CONFIGURE, or with a shadow that is not VERIFIED, it sets BADSTATE. Otherwise the slots
exchange their roles, the former active Manifest is the VERIFIED shadow, LANES and CHANPLAN come from the new body, as the
read of its slot gives it; at an activation with no former active Manifest no byte of the Serai changes, where no granule
holds an error to correct. -/
def Sys2Proof.Claims.ActivationExchangesSlots : Prop :=
  Runs (.manActivate ·) Writable (fun u t =>
    if u.mode ≠ Mode.configure ∨ u.get F.MAN_STAT_SHADOW ≠ 2 then t = u.flag F.MAN_ERR_BADSTATE
    else
      let body := (slotRead u.shadowSlot u).slotBody u.shadowSlot
      t.get F.MAN_STAT_ACTIVE_SLOT = 1 - u.get F.MAN_STAT_ACTIVE_SLOT ∧ t.get F.MAN_STAT_ACTIVE_VALID = 1 ∧
      t.get F.MAN_ACTIVE_ID_MID = leNat ((body.drop 8).take 4) ∧
      t.get F.MAN_STAT_SHADOW = (if u.on F.MAN_STAT_ACTIVE_VALID = true then 2 else 0) ∧
      t.get F.MAN_SHADOW_ID_MID = (if u.on F.MAN_STAT_ACTIVE_VALID = true then u.get F.MAN_ACTIVE_ID_MID else 0) ∧
      t.man.lanes = lanesOf body ∧ t.man.plan = planOf body ∧ t.man.centre = centreOf body ∧ t.mode = u.mode ∧
      (u.on F.MAN_STAT_ACTIVE_VALID = false → u.ser.errs = [] → KeepsMem u t))

/-- MAN_SWITCH_ARM and MAN_SWITCH_CANCEL on the lead (R50, R53, R57): BADSTATE comes before TOOSOON, which a target fewer
than four superframes ahead sets; else the switch is armed for T and the arming broadcast. A cancellation before the tick
that starts T - 2 shows cause 1, is broadcast and raises vector 21; later it sets COMMITTED. On another chip they have no
effect. -/
def Sys2Proof.Claims.SwitchesArmAndCancel : Prop :=
  Runs (.manSwitchArm ·) (fun u => Writable u ∧ u.isLead = true) (fun u t =>
    let sfn := u.get F.MAN_SWITCH_SFN_SFN
    (¬MayArm u → t = u.flag F.MAN_ERR_BADSTATE) ∧
    (MayArm u → superframesTo sfn u < 4 ∨ 2 ^ 31 ≤ superframesTo sfn u → t = u.flag F.MAN_ERR_TOOSOON) ∧
    (MayArm u → 4 ≤ superframesTo sfn u → superframesTo sfn u < 2 ^ 31 →
      t.on F.MAN_STAT_ARMED = true ∧ t.on F.MAN_STAT_GO = false ∧ t.on F.MAN_STAT_NEXT = false ∧
      t.get F.MAN_SWITCH_SFN_SFN = sfn ∧ t.man = { u.man with armT := sfn, barOk := false, armAge := 0 } ∧
      (u.ser.errs = [] → u.ser.poison = [] →
        t.out = u.out ++ spoken u [.packet 0 0xFF (.bcast (.arm sfn)), .packet 1 0xFF (.bcast (.arm sfn))] ∧
        OnlyRegs [R.MAN_STAT, R.MAN_SWITCH_SFN, R.MAN_ERR, R.CAR_CNT_k 3] { u with man := t.man, out := t.out } t))) ∧
  Runs (.manSwitchCancel ·) (fun u => Writable u ∧ u.isLead = true) (fun u t =>
    (u.on F.MAN_STAT_ARMED = false → t = u) ∧
    (u.on F.MAN_STAT_ARMED = true → u.on F.MAN_STAT_GO = true ∨ superframesTo u.man.armT u ≤ 2 →
      t = u.flag F.MAN_ERR_COMMITTED) ∧
    (u.on F.MAN_STAT_ARMED = true → u.on F.MAN_STAT_GO = false → 2 < superframesTo u.man.armT u →
      t.on F.MAN_STAT_ARMED = false ∧ t.on F.MAN_STAT_CANCELLED = true ∧ t.get F.MAN_SWITCH_STAT_CAUSE = 1 ∧
      (let p := Packet.bcast (.cancel 1 (u.get F.MAN_SWITCH_STAT_MISSING))
       ∃ l, t.out = l ++ spoken u [.packet 0 0xFF p, .packet 1 0xFF p]) ∧
      Signals [R.MAN_STAT, R.MAN_SWITCH_STAT, R.SF_STAT, R.CAR_CNT_k 3] { u with man := t.man, sf := t.sf } t)) ∧
  Runs (.manSwitchArm ·) (fun u => Writable u ∧ u.isLead = false) (fun u t => t = u) ∧
  Runs (.manSwitchCancel ·) (fun u => Writable u ∧ u.isLead = false) (fun u t => t = u)

/-- Switching the Manifest: arming, cancelling and the exchange of the slots. -/
def Obligations.SwitchesArmAndActivate : Prop :=
  Sys2Proof.Claims.ActivationExchangesSlots ∧ Sys2Proof.Claims.SwitchesArmAndCancel


/-- SF_CHANGE_ARM (R75): refused with BADSTATE while a change is armed or the SF block does not run; else the arming waits
for the next tick, or the one after where it comes after grain L - 3. SUBGHZ_RETUNE_END (R55) ends the blanking of the
sub-GHz band and changes nothing else. -/
def Obligations.ScheduleChangeWaitsForTick : Prop :=
  (∀ (who : Writer) (v : Word), Runs (.sfChangeArm · who v) (Served R.SF_CHANGE) (fun u t =>
    if u.on F.SF_STAT_ARMED = true ∨ u.tickRuns = false then t = u.flag F.SF_ERR_BADSTATE
    else t = { u with sf := { u.sf with
      arm := some (if u.tally.pos / 4 + 3 ≤ u.slotLen then 1 else 2, v.getLsbD 1) } })) ∧
  Runs (.subghzRetuneEnd ·) (fun _ => True) (fun u t => t = { u with sf := { u.sf with retune := false } })

/-! ## Field receivers (05_field_receive.md) -/

namespace Sys2Proof.Claims

/-- A frame is in reception at a stream, its PHR in: PSDU length `len`, PHR bits `phr`. -/
abbrev InReception (src chan stream : Nat) (r : Rx) (len phr : Nat) (u : State) : Prop :=
  u.held src chan stream = some r ∧ r.src = src ∧ r.chan = chan ∧ r.stream = stream ∧ r.phr = some (len, phr)

/-- Descriptor ring `n` has room for one more entry (R109). -/
abbrev RingRoom (n : Nat) (u : State) : Prop :=
  0 < u.get (F.FRX_RING_n_LEN n) ∧
    (u.get (F.FRX_RING_n_WR n) + 1) % u.get (F.FRX_RING_n_LEN n) ≠ u.get (F.FRX_RING_n_RD n)

/-- Where the next descriptor of ring `n` goes. -/
def descAt (n : Nat) (u : State) : Nat := u.get (F.FRX_RING_n_BASE n) + 64 * u.get (F.FRX_RING_n_WR n)

/-- The frames in reception but those of one stream. -/
def otherRx (src chan stream : Nat) (u : State) : List Rx :=
  u.frx.rxs.filter fun x => !(x.src == src && x.chan == chan && x.stream == stream)

end Sys2Proof.Claims

/-- Start of the slot of ASN `asn`, this one or the one before: the clock of its tick. -/
def slotStart (asn : Nat) (u : State) : Nat :=
  if asn = u.tally.asn then u.tally.clock - u.tally.pos else u.tally.clock - u.tally.pos - (u.ftx.tick0 - u.ftx.tick1)

/-- The clock of the nominal SHR start of a frame whose SHR ended `lag` quarter grains ago. -/
def shrStart (src : Fin 2) (lag : Nat) (u : State) : Nat :=
  let t := u.ago (lag + u.rxDelay (decide (src.val = 1)))
  slotStart t.1 u + t.2

/-- A frame's preamble is whole, or a sub-GHz retune leaves at least 4 of its octets (R93). -/
abbrev PreambleLeft (src : Fin 2) (chan lag : Nat) (u : State) : Prop :=
  src.val = 1 → u.sf.blank ≤ shrStart src lag u + 16 * octet (u.phyOf true chan)

/-- SHR_DETECT (R93, R94, R98, R102, R103): an idle stream 0 takes the frame, attributed to a programme entry of its
channel whose window holds its start, or to no node where none does; with both streams busy the frame is counted in
FRX_CNT_DROP 4; a frame whose preamble a retune cut short is never seen.
AGC_FAST_STEP (R88, R89): the port falls by 6 dB and every frame of its band in reception carries GAINSTEP. -/
def Sys2Proof.Claims.ReceptionBegins : Prop :=
  (∀ (src : Fin 2) (chan : Fin 64) (lag : Nat) (chest : List Byte),
    Runs (.shrDetect · src chan lag chest) (fun u => u.chanRuns (decide (src.val = 1)) chan = true) (fun u t =>
      let ws := u.windows (decide (src.val = 1)) chan (shrStart src lag u)
      (¬PreambleLeft src chan lag u → t = u) ∧
      (PreambleLeft src chan lag u → u.held src chan 0 = none → ∃ r : Rx,
        t = { u with frx := { u.frx with rxs := u.frx.rxs ++ [r] } } ∧ r.src = src ∧ r.chan = chan ∧ r.stream = 0 ∧
        r.phr = none ∧ (r.asn, r.q) = u.ago (lag + u.rxDelay (decide (src.val = 1))) ∧ r.tick = slotStart r.asn u ∧
        r.gainstep = false ∧
        (ws = [] → r.inwin = false ∧ r.node = 0xFFFF) ∧
        (ws ≠ [] → r.inwin = true ∧ ∃ e ∈ ws, e.sub = decide (src.val = 1) ∧ e.chan = chan ∧ r.node = e.node)) ∧
      (PreambleLeft src chan lag u → (u.held src chan 0).isSome → (u.held src chan 1).isSome →
        t = u.inc (F.FRX_CNT_DROP_k_COUNT 4)))) ∧
  ∀ port : Fin 16, Runs (.agcFastStep · port) (fun _ => True) (fun u t =>
    let sub := decide (8 ≤ port.val)
    if u.rxOn sub = true ∧ u.on (if sub then F.FRX_AGCSG_AUTO else F.FRX_AGC24_AUTO) = true ∧ u.portOn port = true then
      t.get (F.FRX_GAIN_p_GAIN port) = u.get (F.FRX_GAIN_p_GAIN port) - 3 ∧
      t.frx = { u.frx with rxs := u.frx.rxs.map fun r => if decide (r.src = 1) = sub then { r with gainstep := true } else r } ∧
      OnlyRegs [R.FRX_GAIN_p port] { u with frx := t.frx } t
    else t = u)

/-- PHR_RECEIVED (R94, R95, R104, R108): a bad PHR ends the reception under FRX_CNT_DROP 3, an empty pool, or one whose
LEN is 0, under 0. Otherwise the frame takes a buffer: of the small pool up to 144 bytes, of the large one above, the latest
returned buffer first; and its RSSI is the power at the pins referred to the antenna. An O-QPSK PHR is one octet. -/
def Sys2Proof.Claims.PhrTakesABuffer : Prop :=
  ∀ (src : Fin 2) (chan : Fin 64) (stream : Fin 2) (phr : BitVec 16) (rssi cfo : Int) (r : Rx),
    Runs (.phrReceived · src chan stream phr rssi cfo)
      (fun u => u.held src chan stream = some r ∧ r.src = src ∧ r.chan = chan ∧ r.stream = stream ∧ r.phr = none)
      (fun u t =>
        let len := if r.phy = 0 then phr.toNat % 128 else phr.toNat % 2048
        let bits := if r.phy = 0 then phr.toNat % 256 else phr.toNat
        let power := u.atAntenna (decide (src.val = 1)) r.ports rssi
        let fcs := if phr.getLsbD 12 then 2 else 4
        let good := if r.phy = 0 then 5 ≤ len else phr.getLsbD 15 = false ∧ fcs < len
        let k := if len ≤ 144 then 0 else 1
        let back := if k = 0 then u.frx.ret0 else u.frx.ret1
        (¬good → t = { u with frx := { u.frx with rxs := otherRx src chan stream u } }.inc (F.FRX_CNT_DROP_k_COUNT 3)) ∧
        (good → u.get (F.FRX_POOL_k_LEN k) = 0 ∨ back = [] ∧ u.get (F.FRX_POOL_k_RD k) = u.get (F.FRX_POOL_k_WR k) →
          t = { u with frx := { u.frx with rxs := otherRx src chan stream u } }.inc (F.FRX_CNT_DROP_k_COUNT 0)) ∧
        (good → u.get (F.FRX_POOL_k_LEN k) ≠ 0 → ∀ b l, back = b :: l → ∃ x : Rx, x ∈ t.frx.rxs ∧
          x = { r with phr := some (len, bits), pool := k, buf := b, rssi := power, cfo := cfo } ∧
          otherRx src chan stream t = otherRx src chan stream u ∧ (if k = 0 then t.frx.ret0 else t.frx.ret1) = l ∧
          t = { u with frx := t.frx }) ∧
        (good → back = [] → u.get (F.FRX_POOL_k_LEN k) ≠ 0 → u.get (F.FRX_POOL_k_RD k) ≠ u.get (F.FRX_POOL_k_WR k) →
          Open (u.get (F.FRX_POOL_k_BASE k) + 4 * u.get (F.FRX_POOL_k_RD k)) 4 u →
          (∃ x : Rx, x ∈ t.frx.rxs ∧ x = { r with
            phr := some (len, bits), pool := k, rssi := power, cfo := cfo
            buf := num (u.get (F.FRX_POOL_k_BASE k) + 4 * u.get (F.FRX_POOL_k_RD k)) 4 u }) ∧
          t.get (F.FRX_POOL_k_RD k) = (u.get (F.FRX_POOL_k_RD k) + 1) % u.get (F.FRX_POOL_k_LEN k) ∧
          OnlyRegs [R.FRX_POOL_k_3 k] { u with frx := t.frx } t))

/-- The start of a reception, and its PHR, which takes a buffer. -/
def Obligations.ReceptionTakesABuffer : Prop :=
  Sys2Proof.Claims.ReceptionBegins ∧ Sys2Proof.Claims.PhrTakesABuffer


/-- A PSDU as it was before the transmitter whitened it, where its PHR says so (R95). -/
def Sys2Proof.Claims.plain (r : Rx) (phr : Nat) (psdu : List Byte) : List Byte :=
  if phrWhite r.phy phr then whiten psdu else psdu

/-- FRAME_END (R95, R96, R109, R110): a frame with a correct FCS is delivered: its PSDU, its whitening taken off, stands in
its buffer, and the descriptor that its Drover's ring shows names its length, channel, node, start of the sequence and buffer; the frame event of that
Drover fires, FRX_CNT counts the frame, and the reception is over. With KEEPBAD off a frame with a wrong FCS is counted in
FRX_CNT_DROP 2 and its buffer goes back to its pool. EARLY_DESCRIPTOR (R111) does so for the first 32 bytes of a longer
frame while it is still in reception. -/
def Obligations.FramesAreDelivered : Prop :=
  (∀ (src : Fin 2) (chan : Fin 64) (stream : Fin 2) (lag : Nat) (psdu : List Byte) (sinr : Int) (n : Fin 12) (r : Rx) (phr : Nat),
    Runs (.frameEnd · src chan stream lag psdu sinr)
      (fun u => InReception src chan stream r psdu.length phr u ∧ u.laneDrover src chan stream = some n ∧ RingRoom n u ∧
        Open r.buf (padded psdu).length u ∧ Open (descAt n u) 64 u ∧ Apart r.buf (padded psdu).length (descAt n u) 64 ∧
        fcsOk (fcsLen r.phy phr == 4) (plain r phr psdu) = true)
      (fun u t =>
        let d := descAt n u
        t.bytesAt r.buf psdu.length = plain r phr psdu ∧ num d 2 t = psdu.length % 2 ^ 16 ∧ num (d + 2) 1 t = 64 * src + chan ∧
        (num (d + 3) 1 t).testBit 0 = true ∧ (num (d + 3) 1 t).testBit 1 = decide (stream.val = 1) ∧
        num (d + 4) 2 t = r.node % 2 ^ 16 ∧ num (d + 24) 4 t = r.buf % 2 ^ 32 ∧
        (∀ a, Apart r.buf (padded psdu).length a 1 → Apart d 64 a 1 → t.byte a = u.byte a) ∧
        t.get (F.FRX_RING_n_WR n) = (u.get (F.FRX_RING_n_WR n) + 1) % u.get (F.FRX_RING_n_LEN n) ∧
        (t.get (F.DRV_n_EVPEND_PEND n)).testBit 1 = true ∧
        (let c := if src.val = 1 then F.FRX_CNT_RXSG_COUNT else F.FRX_CNT_RX24_COUNT
         t.get c = min (u.get c + 1) (2 ^ 32 - 1)) ∧
        t.frx.rxs = otherRx src chan stream u ∧
        t = { u with regs := t.regs, ser := t.ser, frx := t.frx } ∧
        KeepsRegs [R.FRX_RING_n_2 n, R.DRV_n_EVPEND n, R.FRX_CNT_RX24, R.FRX_CNT_RXSG, R.SF_CNT_OVERLONG, R.SF_CNT,
          R.SEC_CNT_k 7] u t)) ∧
  (∀ (src : Fin 2) (chan : Fin 64) (stream : Fin 2) (lag : Nat) (psdu : List Byte) (sinr : Int) (r : Rx) (phr : Nat),
    Runs (.frameEnd · src chan stream lag psdu sinr)
      (fun u => InReception src chan stream r psdu.length phr u ∧ r.early = false ∧ u.faults.safeEntered = false ∧
        u.on F.FRX_CTL_KEEPBAD = false ∧ fcsOk (fcsLen r.phy phr == 4) (plain r phr psdu) = false)
      (fun u t =>
        t = { u with frx := { u.frx with
          rxs := otherRx src chan stream u
          ret0 := if r.pool = 0 then (r.buf :: u.frx.ret0).take 128 else u.frx.ret0
          ret1 := if r.pool = 0 then u.frx.ret1 else (r.buf :: u.frx.ret1).take 128 } }.inc (F.FRX_CNT_DROP_k_COUNT 2))) ∧
  ∀ (src : Fin 2) (chan : Fin 64) (stream : Fin 2) (psdu : List Byte) (n : Fin 12) (r : Rx) (len phr : Nat),
    Runs (.earlyDescriptor · src chan stream psdu)
      (fun u => InReception src chan stream r len phr u ∧ r.early = false ∧ 32 < len ∧ u.on F.FRX_CTL_EARLY = true ∧
        psdu.length = 32 ∧ u.laneDrover src chan stream = some n ∧ RingRoom n u ∧ Open r.buf 32 u ∧
        Open (descAt n u) 64 u ∧ Apart r.buf 32 (descAt n u) 64)
      (fun u t =>
        let d := descAt n u
        t.bytesAt r.buf 32 = plain r phr psdu ∧ num d 2 t = len % 2 ^ 16 ∧ (num (d + 3) 1 t).testBit 5 = true ∧
        num (d + 24) 4 t = r.buf % 2 ^ 32 ∧ (∀ a, Apart r.buf 32 a 1 → Apart d 64 a 1 → t.byte a = u.byte a) ∧
        t.get (F.FRX_RING_n_WR n) = (u.get (F.FRX_RING_n_WR n) + 1) % u.get (F.FRX_RING_n_LEN n) ∧
        { r with early := true } ∈ t.frx.rxs ∧ otherRx src chan stream t = otherRx src chan stream u ∧
        (t.get (F.DRV_n_EVPEND_PEND n)).testBit 1 = true ∧
        t = { u with regs := t.regs, ser := t.ser, frx := t.frx } ∧
        KeepsRegs [R.FRX_RING_n_2 n, R.DRV_n_EVPEND n] u t)

/-! ## Field transmitters (06_field_transmit.md) -/

namespace Sys2Proof.Claims

/-- The planned carriers of output `o` that carry list frames. -/
def planned (o : Nat) (u : State) : List Carrier :=
  u.ftx.cars.filter fun c => c.out == o && !c.on && (c.kind == .data || c.kind == .beacon)

/-- Frame `c` leaves at the level of R114: its PSDU is what its buffer holds, the FCS written where the entry asks for it,
whitened where it asks for that; the output is busy and counts the frame in FTX_CNT `k`. -/
abbrev FrameLeaves (c : Carrier) (k : Nat) (u t : State) : Prop :=
  let psdu := withFcs c.addfcs c.fcs4 (u.bytesAt c.buf c.len)
  t.out = u.out ++ [.air c.out c.chan ((u.txo c.out).pmax - backoff (u.txo c.out).ncmax - c.trim) c.ps c.white
    (if c.white then whiten psdu else psdu)] ∧
  t.ftx.cars = u.ftx.cars.map (fun x => if x = c then { x with on := true } else x) ∧
  t.get (F.FTX_CNT_k_COUNT k) = min (u.get (F.FTX_CNT_k_COUNT k) + 1) (2 ^ 32 - 1) ∧
  (t.get F.FTX_STAT_BUSY).testBit c.out = true ∧ OnlyRegs [R.FTX_CNT_k k, R.FTX_STAT] { u with out := t.out, ftx := t.ftx, frx := t.frx } t

/-- The coexistence grant is there: coexistence is off, or its pin is at the level that grants (R127, R128). -/
abbrev Granted (level : Bool) (u : State) : Prop := u.on F.FTX_COEX_EN = true → level = !u.on F.FTX_COEX_POL_GNT

/-- Frame `c` is withheld for want of the coexistence grant (R128). -/
abbrev Withheld (c : Carrier) (u t : State) : Prop :=
  t.ftx = { u.ftx with cars := u.ftx.cars.filter (· != c), bcnGone := t.ftx.bcnGone } ∧ t.out = u.out ∧
  t.get (F.FTX_CNT_k_COUNT 6) = min (u.get (F.FTX_CNT_k_COUNT 6) + 1) (2 ^ 32 - 1)

end Sys2Proof.Claims

/-- LIST_FRAME_START and ACK_SEND (R116, R125, R128, R460): a planned frame leaves its output while the chip may transmit
and, with coexistence on, has its grant; without the grant it is not sent and counted, and a list entry counts once as
cancelled, a beacon with all its copies. CARRIER_END (R119) ends a carrier,
and the output's busy time with its last one; GRANT_WITHDRAWN cuts nothing and counts. -/
def Obligations.PlannedFramesLeave : Prop :=
  (∀ (o : Fin 4) (grant : Bool) (c : Carrier), c.out = o → c.on = false →
    Runs (.listFrameStart · o grant)
      (fun u => planned o u = [c] ∧ c ∈ u.ftx.cars ∧ u.mayTransmit = true ∧ Storage c.buf c.len u)
      (fun u t =>
        (Granted grant u → FrameLeaves c 0 u t ∧ t.frx = u.frx) ∧
        (¬Granted grant u →
          Withheld c u t ∧ t.ftx.bcnGone = (u.ftx.bcnGone || c.kind == .beacon) ∧
            t.get F.TICK_CANCEL_COUNT = (if c.kind = .beacon ∧ u.ftx.bcnGone = true then u.get F.TICK_CANCEL_COUNT
              else min (u.get F.TICK_CANCEL_COUNT + 1) (2 ^ 32 - 1)) ∧
            OnlyRegs [R.FTX_CNT_k 6, R.TICK_CANCEL] { u with ftx := t.ftx } t))) ∧
  (∀ (o : Fin 4) (chan : Fin 64) (grant : Bool) (c : Carrier) (asn q : Nat),
    c.out = o → c.chan = chan → c.on = false → c.kind = .ack asn q →
    Runs (.ackSend · o chan grant)
      (fun u => (u.ftx.cars.filter fun x => x.out == o.val && x.chan == chan.val && !x.on) = [c] ∧ u.txBusy o = false ∧
        u.mayTransmit = true ∧ Storage c.buf c.len u)
      (fun u t =>
        (Granted grant u → FrameLeaves c 1 u t ∧
          t.frx = { u.frx with joins := u.frx.joins.filter (· != ⟨decide (2 ≤ o.val), chan, asn, q⟩) }) ∧
        (¬Granted grant u →
          Withheld c u t ∧ t.ftx.bcnGone = u.ftx.bcnGone ∧ OnlyRegs [R.FTX_CNT_k 6] { u with ftx := t.ftx } t))) ∧
  (∀ (o : Fin 4) (chan : Fin 64) (c : Carrier),
    Runs (.carrierEnd · o chan)
      (fun u => (u.ftx.cars.filter fun x => x.on && x.out == o.val && x.chan == chan.val) = [c])
      (fun u t =>
        t.ftx.cars = u.ftx.cars.filter (· != c) ∧
        (t.txBusy o = true → t = { u with ftx := { u.ftx with cars := t.ftx.cars } }) ∧
        (t.txBusy o = false → (t.get F.FTX_STAT_BUSY).testBit o = false ∧
          (o < u.ftx.outs.length → (t.txo o).since = none ∧ (t.txo o).ended = some u.tally.clock) ∧
          OnlyRegs [R.FTX_STAT] { u with ftx := t.ftx } t))) ∧
  Runs (.grantWithdrawn ·) (fun _ => True) (fun u t =>
    if u.on F.FTX_COEX_EN = true ∧ ∃ c ∈ u.ftx.cars, c.on = true then t = u.inc (F.FTX_CNT_k_COUNT 7) else t = u)

namespace Sys2Proof.Claims

/-- The entry of ring `j` at RD, and where the value `v` of WR names it alone. -/
def ackAt (j : Nat) (u : State) : Nat := u.get (F.FTX_ACKRING_j_BASE j) + 16 * u.get (F.FTX_ACKRING_j_RD j)

/-- A write `v` of WR takes effect on acknowledgement ring `j` (R55, R63, R72, R112, R125, R126): where nothing may be
transmitted the entries are discarded unsent. Otherwise an entry in order for a frame that may be acknowledged gets a
carrier at ACKDLY after the end of that frame, or is counted as too late, without a free carrier, or as a clash. -/
abbrev AckTaken (j v : Nat) (u t : State) : Prop :=
  t.get (F.FTX_ACKRING_j_WR j) = v ∧ t.get (F.FTX_ACKRING_j_RD j) = v ∧
  (u.mayTransmit = false → OnlyRegs [R.FTX_ACKRING_j_2 j, R.FTX_ACKRING_j_3 j] u t) ∧
  (u.mayTransmit = true → v = (u.get (F.FTX_ACKRING_j_RD j) + 1) % u.get (F.FTX_ACKRING_j_LEN j) →
    2 ≤ u.get (F.FTX_ACKRING_j_LEN j) → Storage (ackAt j u) 16 u →
    let e := txEntry true (u.bytesAt (ackAt j u) 16)
    let ref := num (ackAt j u + 9) 3 u % 2 ^ 20
    let te := u.tsEnd ref
    let may := u.mayAck ⟨e.band == 1, e.chan, te.2, ref⟩
    let c := u.mkCarrier e e.out e.chan (.ack te.2 ref)
      (te.1 + 4 * u.get F.SF_TMPL1_ACKDLY - u.get (F.FTX_EXT_o_DLY e.out))
    let rings := [R.FTX_ACKRING_j_2 j, R.FTX_ACKRING_j_3 j]
    (u.entryOk e = false → t.get F.FTX_STAT_ITEMBAD = 1 ∧ OnlyRegs (R.FTX_STAT :: rings) u t) ∧
    (u.entryOk e = true → may = false → OnlyRegs rings u t) ∧
    (u.entryOk e = true → may = true → u.ackDeadline e.out te.1 < u.tally.clock →
      t.get (F.FTX_CNT_k_COUNT 2) = min (u.get (F.FTX_CNT_k_COUNT 2) + 1) (2 ^ 32 - 1) ∧ OnlyRegs (R.FTX_CNT_k 2 :: rings) u t) ∧
    (u.entryOk e = true → may = true → (u.tally.clock : Int) ≤ u.ackDeadline e.out te.1 →
      u.carFree c = false ∨ u.blanked c = true →
      t.get (F.FTX_CNT_k_COUNT 3) = min (u.get (F.FTX_CNT_k_COUNT 3) + 1) (2 ^ 32 - 1) ∧ OnlyRegs (R.FTX_CNT_k 3 :: rings) u t) ∧
    (u.entryOk e = true → may = true → (u.tally.clock : Int) ≤ u.ackDeadline e.out te.1 → u.carFree c = true →
      u.blanked c = false → u.clash c = false →
      t.ftx = { u.ftx with cars := u.ftx.cars ++ [c] } ∧ c.buf = num (ackAt j u) 4 u ∧ c.len = num (ackAt j u + 4) 2 u ∧
      OnlyRegs rings { u with ftx := t.ftx } t))

end Sys2Proof.Claims

/-- ACK_RING_WR_WRITE and ACK_WR_EFFECT (R125, R163): on a chip that waits for no partner the write takes effect at once,
but behind a held write of its ring it is held too; a write that was held takes effect, oldest first, once its records are confirmed, and not before. DPD_UPDATE_DONE and
DPD_RESEED (R123, R124): an update, or a return to the seed, waits for the output's next idle tick. -/
def Obligations.AcknowledgementRings : Prop :=
  (∀ (who : Writer) (j : Fin 2) (v : Word), who ≠ .remote →
    Runs (.ackRingWrWrite · who j v)
      (fun u => Served (R.FTX_ACKRING_j_2 j) u ∧ v.toNat % 2 ^ 16 < u.get (F.FTX_ACKRING_j_LEN j) ∧
        u.get (F.FTX_ACKRING_j_RD j) < u.get (F.FTX_ACKRING_j_LEN j))
      (fun u t =>
        if u.ftx.held.any (·.1 == j.val) = true then
          t = { u with ftx := { u.ftx with held := u.ftx.held ++ [(j.val, v.toNat % 2 ^ 16, u.get F.TAN_JSEQ_SENT_JSEQ)] } }
        else AckTaken j (v.toNat % 2 ^ 16) u t)) ∧
  (∀ (j : Fin 2) (v jseq : Nat) (l : List (Nat × Nat × Nat)),
    Runs (.ackWrEffect · j)
      (fun u => u.ftx.held = (j.val, v, jseq) :: l ∧ v < u.get (F.FTX_ACKRING_j_LEN j) ∧
        u.get (F.FTX_ACKRING_j_RD j) < u.get (F.FTX_ACKRING_j_LEN j))
      (fun u t =>
        if u.waitsPartner = true ∧ u.confirmed jseq = false then t = u
        else AckTaken j v { u with ftx := { u.ftx with held := l } } t)) ∧
  (∀ (o : Fin 4) (err : Nat), Runs (.dpdUpdateDone · o err) (fun u => u.ftx.cap.getD (o.val / 2) none = some o.val) (fun u t =>
    t.get (F.FTX_DPDSTAT_o_ERR o) = min err 255 ∧ t.ftx.cap = u.ftx.cap.set (o.val / 2) none ∧
    (o < u.ftx.outs.length → t.txo o = if err < 4 * u.get F.FTX_DPD_ERRMAX then { u.txo o with dpd := 2, dpdErr := true }
      else { u.txo o with dpd := 1 }) ∧
    OnlyRegs [R.FTX_DPDSTAT_o o] { u with ftx := t.ftx } t)) ∧
  Runs (.dpdReseed ·)
    (fun u => Served R.FTX_DPD u ∧ 10 ≤ u.get F.FTX_DPD_ERRMAX ∧ u.get F.FTX_DPD_ERRMAX ≤ 60)
    (fun u t => (∀ o < 4, o < u.ftx.outs.length → t.txo o = { u.txo o with dpd := 2 }) ∧
      t.ftx = { u.ftx with outs := t.ftx.outs } ∧ OnlyRegs [] { u with ftx := t.ftx } t)

/-! ## Node timing (07_node_timing.md) -/

namespace Sys2Proof.Claims

/-- Ring `j` of a unit whose ring 0 is `r 0` and ring 1 `r 1` holds the entry that the unit takes next, at `off`. -/
abbrev NextEntry (r : Nat → URing) (j off : Nat) (u : State) : Prop :=
  j < 2 ∧ (r j).next u = some off ∧ (j = 1 → (r 0).next u = none)

/-- The RD word of ring `j` names the entry after the one just ended. -/
abbrev Popped (r : URing) (u t : State) : Prop := t.get r.rd = (u.get r.rd + 1) % u.get r.len

/-- Event input `k` of every Drover holds an event. -/
abbrev DoneEvent (k : Nat) (t : State) : Prop := ∀ n < 12, (t.get (F.DRV_n_EVPEND_PEND n)).testBit k = true

/-- The registers of the Drovers' event inputs. -/
def evRegs : List Nat := (List.range 12).map R.DRV_n_EVPEND

/-- A sound NT entry for command `op` with flags `fl` for node `node` stands at `off`, the next one of ring `j`; its result
and the node's drift model lie apart in plain storage. -/
abbrev NtEntry (op fl node j off : Nat) (u : State) : Prop :=
  u.tickRuns = true ∧ NextEntry ntRing j off u ∧ u.get (ntRing j).rd < u.get (ntRing j).len ∧
  num off 1 u = op ∧ num (off + 1) 1 u = fl ∧ num (off + 2) 2 u = node ∧ ntBad (u.bytesAt off 16) = false ∧
  node ≤ 16383 ∧ u.baySize Bay.ledger ≠ 0 ∧ Open off 32 u ∧ Open (u.ledger node + 112) 32 u ∧
  Storage (u.ledger node) 16 u ∧ Apart off 32 (u.ledger node + 112) 32 ∧ Apart off 32 (u.ledger node) 16

/-- The node's drift model. -/
def drift (node : Nat) (u : State) : Drift := Drift.of (u.bytesAt (u.ledger node + 112) 32)

/-- What a command's end leaves: its status at the entry, RD advanced, the NT done event of its ring (R146), and of
memory only the result and the model's place changed. -/
abbrev NtEnds (st node j off : Nat) (u t : State) : Prop :=
  num (off + 16) 1 t = st ∧ Popped (ntRing j) u t ∧ DoneEvent (2 + j) t ∧
  (∀ a, Apart (off + 16) 16 a 1 → Apart (u.ledger node + 112) 32 a 1 → t.byte a = u.byte a)

/-- And the frame of a command that signals nothing more. -/
abbrev NtOnly (offs : List Nat) (j : Nat) (u t : State) : Prop :=
  t = { u with regs := t.regs, ser := t.ser, free := t.free } ∧ KeepsRegs (offs ++ R.NT_RING_j_3 j :: evRegs) u t

end Sys2Proof.Claims

/-- The NT commands on a sound entry (R134 to R137, R142, R144 to R146). CLEAR empties the model. INIT anchors it at the
observation, in LEARN, with OFF the observation in ns, rounded (R133). MISS raises MISS, and at LOSTN puts the node in
SYNC_LOST; one that is there already stays as it is. PREDICT answers a window within TXOFF - RXGMAX to TXOFF + RXGMAX, the
whole of it for a node in SYNC_LOST, both as they are in force in the slot asked for. UPDATE of a node whose observation is not before its anchor moves the anchor there and
clears MISS; a first observation in LEARN leaves RATE and takes OFF from the observation. -/
def Obligations.NtCommandsKeepTheModel : Prop :=
  (∀ node j off : Nat, Runs (.ntClear ·) (NtEntry 5 0 node j off) (fun u t =>
    NtEnds 1 node j off u t ∧ t.bytesAt (u.ledger node + 112) 32 = List.replicate 32 0 ∧ NtOnly [] j u t)) ∧
  (∀ node j off : Nat, Runs (.ntInit ·) (fun u => NtEntry 1 0 node j off u ∧ 4096 ≤ u.tally.asn ∧ u.tally.asn < 2 ^ 40)
    (fun u t =>
      let ts := num (off + 4) 4 u
      let m := drift node t
      NtEnds 1 node j off u t ∧ NtOnly [] j u t ∧
      m.anchor % 4096 = ts / 2 ^ 20 ∧ m.anchor ≤ u.tally.asn ∧ u.tally.asn < m.anchor + 4096 ∧ m.anchq = ts % 2 ^ 20 ∧
      m.state = 1 ∧ m.rate = 0 ∧ m.acc = 0 ∧ m.jit = 0 ∧ m.pend = 0 ∧ m.miss = 0 ∧ m.jumps = 0 ∧ m.nupd = 1 ∧
      (8 * m.off - 250 * ((ts % 2 ^ 20 : Nat) - 4 * (u.get F.SF_TMPL0_TXOFF : Int))).natAbs ≤ 4)) ∧
  (∀ node j off : Nat, Runs (.ntMiss ·)
    (fun u => NtEntry 4 0 node j off u ∧ u.ledgerState node ≠ 0 ∧ (drift node u).state ≠ 0)
    (fun u t =>
      let m := drift node u
      let k := min 15 (m.miss + 1)
      NtEnds 1 node j off u t ∧
      (m.state = 3 → drift node t = m ∧ NtOnly [] j u t) ∧
      (m.state ≠ 3 → k < max 1 (u.get F.NT_CFG_LOSTN) → drift node t = { m with miss := k } ∧
        t.get (F.NT_CNT_k_COUNT 2) = min (u.get (F.NT_CNT_k_COUNT 2) + 1) (2 ^ 32 - 1) ∧ NtOnly [R.NT_CNT_k 2] j u t) ∧
      (m.state ≠ 3 → max 1 (u.get F.NT_CFG_LOSTN) ≤ k → drift node t = { m with miss := k, state := 3 } ∧
        t.get (F.NT_CNT_k_COUNT 2) = min (u.get (F.NT_CNT_k_COUNT 2) + 1) (2 ^ 32 - 1) ∧
        t.get (F.NT_CNT_k_COUNT 4) = min (u.get (F.NT_CNT_k_COUNT 4) + 1) (2 ^ 32 - 1)))) ∧
  (∀ node j off : Nat, Runs (.ntPredict ·)
    (fun u => NtEntry 3 0 node j off u ∧ u.ledgerState node ≠ 0 ∧ (drift node u).state ≠ 0 ∧ u.nt.before = none ∧
      (num (off + 4) 4 u + 2 ^ 32 - u.tally.asn % 2 ^ 32) % 2 ^ 32 < 65536 ∧
      (let ws := u.schedAhead ((num (off + 4) 4 u + 2 ^ 32 - u.tally.asn % 2 ^ 32) % 2 ^ 32)
       schedField ws 2 16 16 ≤ schedField ws 2 0 16))
    (fun u t =>
      let ws := u.schedAhead ((num (off + 4) 4 u + 2 ^ 32 - u.tally.asn % 2 ^ 32) % 2 ^ 32)
      let tx := schedField ws 2 0 16
      let gx := schedField ws 2 16 16
      (u.sf.change = none → tx = u.get F.SF_TMPL0_TXOFF ∧ gx = u.get F.SF_TMPL0_RXGMAX) ∧
      let lo := num (off + 20) 4 t
      let hi := num (off + 24) 4 t
      t.get (F.NT_CNT_k_COUNT 1) = min (u.get (F.NT_CNT_k_COUNT 1) + 1) (2 ^ 32 - 1) ∧
      tx - gx ≤ lo ∧ lo ≤ hi ∧ hi ≤ tx + gx ∧
      ((drift node u).state = 3 → NtEnds 5 node j off u t ∧ lo = tx - gx ∧ hi = tx + gx ∧
        drift node t = drift node u ∧ NtOnly [R.NT_CNT_k 1] j u t) ∧
      ((drift node u).state ≠ 3 → NtEnds 1 node j off u t ∧ drift node t = drift node u ∧ NtOnly [R.NT_CNT_k 1] j u t ∨
        NtEnds 4 node j off u t ∧ lo = tx - gx ∧ hi = tx + gx))) ∧
  ∀ node j off : Nat, Runs (.ntUpdate ·)
    (fun u => NtEntry 2 0 node j off u ∧ u.ledgerState node ≠ 0 ∧ (drift node u).state ≠ 0 ∧ u.nt.before = none ∧
      4096 ≤ u.tally.asn ∧ u.tally.asn < 2 ^ 39 ∧
      (let a := (u.resolveTs (num (off + 4) 4 u)).1
       (drift node u).anchor < a ∨
        (drift node u).anchor = a ∧ (drift node u).anchq ≤ num (off + 4) 4 u % 2 ^ 20))
    (fun u t =>
      let ts := num (off + 4) 4 u
      let m := drift node u
      NtEnds 1 node j off u t ∧ (drift node t).anchor = (u.resolveTs ts).1 ∧ (drift node t).anchq = ts % 2 ^ 20 ∧
      (drift node t).miss = 0 ∧ (drift node t).state ≠ 3 ∧ (drift node t).pend = 0 ∧
      t.get (F.NT_CNT_k_COUNT 0) = min (u.get (F.NT_CNT_k_COUNT 0) + 1) (2 ^ 32 - 1) ∧
      (m.state = 1 → m.nupd = 0 → (drift node t).rate = m.rate ∧ (drift node t).nupd = 1 ∧ (drift node t).state = 1 ∧
        (8 * (drift node t).off - 250 * ((ts % 2 ^ 20 : Nat) - 4 * (u.get F.SF_TMPL0_TXOFF : Int))).natAbs ≤ 4) ∧
      (m.state = 3 → (drift node t).nupd = 1 ∧ (drift node t).state = 1 ∧
        t.get (F.NT_CNT_k_COUNT 5) = min (u.get (F.NT_CNT_k_COUNT 5) + 1) (2 ^ 32 - 1)) ∧
      NtOnly [R.NT_CNT_k 0, R.NT_CNT_k 3, R.NT_CNT_k 5] j u t)

/-! ## Frame security (08_frame_security.md) -/

namespace Sys2Proof.Claims

/-- A sound SEC entry for command `op` with flags `fl` for node `node`, in use, stands at `off`, the next one of ring `j`;
the entry and the node's Ledger entry lie apart in plain storage. -/
abbrev SecEntry (op fl node j off : Nat) (u : State) : Prop :=
  u.tickRuns = true ∧ NextEntry secRing j off u ∧ u.get (secRing j).rd < u.get (secRing j).len ∧
  num off 1 u = op ∧ num (off + 1) 1 u = fl ∧ num (off + 2) 2 u = node ∧ secBad (u.bytesAt off 32) = false ∧
  node ≤ 16383 ∧ u.baySize Bay.ledger ≠ 0 ∧ u.ledgerState node ≠ 0 ∧ Open off 32 u ∧ Storage (u.ledger node) 112 u ∧
  Apart off 32 (u.ledger node) 112

/-- The result a SEC command leaves at its entry, and what every end of one leaves (R167, R168). -/
abbrev SecEnds (st cls slot out j off : Nat) (u t : State) : Prop :=
  num (off + 16) 1 t = st ∧ num (off + 17) 1 t = cls ∧ num (off + 18) 1 t = slot ∧ num (off + 20) 4 t = out ∧
    Popped (secRing j) u t ∧ DoneEvent (4 + j) t

/-- Of memory only the result and the places `at_` of the node's entry change. -/
abbrev SecMem (off : Nat) (at_ : Nat → Prop) (u t : State) : Prop :=
  ∀ a, Apart (off + 16) 16 a 1 → ¬at_ a → t.byte a = u.byte a

/-- The frame of a command that signals nothing more. -/
abbrev SecOnly (offs : List Nat) (j : Nat) (u t : State) : Prop :=
  t = { u with regs := t.regs, ser := t.ser, sec := t.sec, tru := t.tru, free := t.free } ∧
    KeepsRegs (offs ++ R.SEC_RING_j_3 j :: evRegs) u t

/-- The class of counter `c` at a CHECK (R157), from INCTR, the bitmap and INSEEN of the node's entry: 0 NEW, 1 WINDOW,
2 DUPHIGH, 5 DUPLICATE, 6 OLD. -/
def classOf (base c : Nat) (u : State) : Nat :=
  let h := num (base + 16) 4 u
  if c = 0xFFFFFFFF then 6
  else if (num (base + 40) 1 u).testBit 0 = false ∨ h < c then 0
  else if c = h then 2
  else if h < c + 32 then (if (num (base + 20) 4 u).testBit (h - c) then 5 else 1)
  else 6

/-- Key slot `k` of the entry at `base` is valid, with index `idx` and lowest level `lmin`. -/
abbrev KeySlot (base k idx lmin : Nat) (u : State) : Prop :=
  num (base + 48 + 32 * k + 24) 1 u = idx ∧ (num (base + 48 + 32 * k + 25) 1 u).testBit 0 = true ∧
    num (base + 48 + 32 * k + 25) 1 u / 2 % 8 = lmin

end Sys2Proof.Claims

/-- No CHECK of the frame of node `node` with counter `c` waits for its COMMIT. -/
abbrev Sys2Proof.Claims.NotChecked (node c : Nat) (u : State) : Prop := ∀ e ∈ u.sec.checked, e.1 ≠ checkKey node c

/-- SEC_CHECK (R150, R157): under a key slot of its index, at a level the key takes, a frame is classed and nothing else
changes. SEC_COMMIT (R153, R158): with MICOK the frame is classed again: NEW moves INCTR to it, WINDOW marks it in the
bitmap, REPEAT and FORGERY are told apart by the tag and store nothing, DUPLICATE and OLD are counted; without MICOK it is
AUTHFAIL and changes nothing. A NEW frame under the key that is not the outbound one makes that key the outbound one and
clears the other's slot. -/
def Obligations.ReplayIsDecided : Prop :=
  (∀ node j off k : Nat, k < 2 → Runs (.secCheck ·)
    (fun u => SecEntry 1 0 node j off u ∧
      (∃ lmin, KeySlot (u.ledger node) k (num (off + 9) 1 u) lmin u ∧ lmin ≤ num (off + 8) 1 u) ∧
      (num (off + 8) 1 u = 4 → u.on F.SEC_CTL_ALLOW4 = true) ∧
      (k = 1 → ¬∃ lmin, KeySlot (u.ledger node) 0 (num (off + 9) 1 u) lmin u))
    (fun u t =>
      let cl := classOf (u.ledger node) (num (off + 4) 4 u) u
      SecEnds 1 cl k 0 j off u t ∧ SecMem off (fun _ => False) u t ∧ SecOnly [] j u t)) ∧
  (∀ node j off : Nat, Runs (.secCommit ·) (fun u => SecEntry 2 1 node j off u ∧ NotChecked node (num (off + 4) 4 u) u)
    (fun u t =>
      let b := u.ledger node
      let h := num (b + 16) 4 u
      let c := num (off + 4) 4 u
      let cl := classOf b c u
      (cl = 0 → SecEnds 1 0 0xFF 0 j off u t ∧ num (b + 16) 4 t = c ∧ num (b + 24) 8 t = num (off + 8) 8 u ∧
        num (b + 20) 4 t = (if (num (b + 40) 1 u).testBit 0 = true ∧ c < h + 32
          then setBit (num (b + 20) 4 u * 2 ^ (c - h) % 2 ^ 32) 0 else 1) ∧
        (num (b + 40) 1 t).testBit 0 = true ∧ (num (b + 40) 1 t).testBit 1 = (num (b + 40) 1 u).testBit 1 ∧
        SecMem off (fun a => b + 16 ≤ a ∧ a < b + 32 ∨ a = b + 40) u t ∧ SecOnly [R.SEC_CNT_k 0] j u t) ∧
      (cl = 1 → SecEnds 1 1 0xFF 0 j off u t ∧ num (b + 20) 4 t = setBit (num (b + 20) 4 u) (h - c) ∧
        SecMem off (fun a => b + 20 ≤ a ∧ a < b + 24) u t ∧ SecOnly [R.SEC_CNT_k 1] j u t) ∧
      (cl = 2 → num (off + 8) 8 u = num (b + 24) 8 u → SecEnds 1 3 0xFF 0 j off u t ∧ SecMem off (fun _ => False) u t ∧
        t.get (F.SEC_CNT_k_COUNT 2) = min (u.get (F.SEC_CNT_k_COUNT 2) + 1) (2 ^ 32 - 1) ∧ SecOnly [R.SEC_CNT_k 2] j u t) ∧
      (cl = 2 → num (off + 8) 8 u ≠ num (b + 24) 8 u → SecEnds 1 4 0xFF 0 j off u t ∧ SecMem off (fun _ => False) u t ∧
        t.get (F.SEC_CNT_k_COUNT 3) = min (u.get (F.SEC_CNT_k_COUNT 3) + 1) (2 ^ 32 - 1) ∧ t.on F.SEC_STAT_FORGERY = true) ∧
      (5 ≤ cl → SecEnds 1 cl 0xFF 0 j off u t ∧ SecMem off (fun _ => False) u t ∧
        t.get (F.SEC_CNT_k_COUNT (cl - 1)) = min (u.get (F.SEC_CNT_k_COUNT (cl - 1)) + 1) (2 ^ 32 - 1) ∧
        SecOnly [R.SEC_CNT_k (cl - 1)] j u t))) ∧
  (∀ node j off lmin idx : Nat, Runs (.secCommit ·)
    (fun u =>
      let b := u.ledger node
      let old := num (b + 40) 1 u / 2 % 2
      let c := num (off + 4) 4 u
      SecEntry 2 1 node j off u ∧ classOf b c u = 0 ∧ KeySlot b (1 - old) idx lmin u ∧
        u.sec.checked = [(checkKey node c, (1 - old, idx))])
    (fun u t =>
      let b := u.ledger node
      let old := num (b + 40) 1 u / 2 % 2
      SecEnds 1 0 (1 - old) 0 j off u t ∧ num (b + 16) 4 t = num (off + 4) 4 u ∧ num (b + 40) 1 t / 2 % 2 = 1 - old ∧
        t.bytesAt (b + 48 + 32 * old) 32 = List.replicate 32 0 ∧
        SecMem off (fun a => b + 16 ≤ a ∧ a < b + 32 ∨ a = b + 40 ∨ b + 48 + 32 * old ≤ a ∧ a < b + 80 + 32 * old) u t ∧
        t.sec.checked = [] ∧ SecOnly [R.SEC_CNT_k 0] j u t)) ∧
  ∀ node j off : Nat, Runs (.secCommit ·) (fun u => SecEntry 2 0 node j off u ∧ NotChecked node (num (off + 4) 4 u) u) (fun u t =>
    SecEnds 1 7 0xFF 0 j off u t ∧ SecMem off (fun _ => False) u t ∧
      t.get (F.SEC_CNT_k_COUNT 6) = min (u.get (F.SEC_CNT_k_COUNT 6) + 1) (2 ^ 32 - 1) ∧ SecOnly [R.SEC_CNT_k 6] j u t)

/-- TAKE and TAKECELL (R164): the counter is answered and raised by 1; at its lease end the answer is NOLEASE and it
stays, and at 0xFFFF_FFFF SPENT. SEC_INIT (R151) starts a node's security group anew: counters and bitmap 0, key slot 0
valid with index 1 and the lowest level of SEC_CFG, slot 1 empty, and the first lease asked for. ROTATE (R153) fills the
other key slot with the next index and leaves the rest. FREE (R168) empties the group. LEASE_RAISE (R165) raises a node's
lease once flash and partner hold its record, and LEASE_PERSISTED tells of the partner (R309). -/
def Obligations.CountersAndKeys : Prop :=
  (∀ node j off : Nat, Runs (.take ·) (SecEntry 3 0 node j off) (fun u t =>
    let b := u.ledger node
    let c := num (b + 32) 4 u
    let slot := num (b + 40) 1 u / 2 % 2
    (c = 0xFFFFFFFF → SecEnds 7 0 0xFF 0 j off u t ∧ SecMem off (fun _ => False) u t ∧ SecOnly [] j u t) ∧
    (c ≠ 0xFFFFFFFF → c = num (b + 36) 4 u → SecEnds 5 0 0xFF 0 j off u t ∧ SecMem off (fun _ => False) u t ∧
      t.on F.SEC_STAT_NOLEASE = true ∧ SecOnly [R.SEC_STAT, R.SEC_CNT_k 8] j u t) ∧
    (c ≠ 0xFFFFFFFF → c ≠ num (b + 36) 4 u → SecEnds 1 0 slot c j off u t ∧ num (b + 32) 4 t = c + 1 ∧
      SecMem off (fun a => b + 32 ≤ a ∧ a < b + 36) u t ∧ SecOnly [] j u t))) ∧
  (∀ j off : Nat, Runs (.takecell ·)
    (fun u => u.tickRuns = true ∧ NextEntry secRing j off u ∧ u.get (secRing j).rd < u.get (secRing j).len ∧
      num off 1 u = 4 ∧ secBad (u.bytesAt off 32) = false ∧ Open off 32 u)
    (fun u t =>
      let c := u.get F.SEC_CELLCTR_VALUE
      SecMem off (fun _ => False) u t ∧
      (c = 0xFFFFFFFF → SecEnds 7 0 0xFF 0 j off u t ∧ SecOnly [] j u t) ∧
      (c ≠ 0xFFFFFFFF → c = u.get F.SEC_CELLLEASE_VALUE → SecEnds 5 0 0xFF 0 j off u t ∧ t.on F.SEC_STAT_NOLEASE = true ∧
        SecOnly [R.SEC_STAT, R.SEC_CNT_k 8] j u t) ∧
      (c ≠ 0xFFFFFFFF → c ≠ u.get F.SEC_CELLLEASE_VALUE → SecEnds 1 0 0xFF c j off u t ∧
        t.get F.SEC_CELLCTR_VALUE = c + 1 ∧ SecOnly [R.SEC_CELLCTR] j u t))) ∧
  (∀ node j off : Nat, Runs (.secInit ·) (fun u => SecEntry 5 0 node j off u ∧ u.on F.TRU_STAT_DRBGOK = true) (fun u t =>
    let b := u.ledger node
    SecEnds 1 0 0 0 j off u t ∧ t.bytesAt (b + 16) 32 = List.replicate 32 0 ∧
      KeySlot b 0 1 (u.get F.SEC_CFG_LEVELMIN) t ∧ num (b + 76) 4 t = 0 ∧ t.bytesAt (b + 80) 32 = List.replicate 32 0 ∧
      (∃ l ∈ t.sec.leases, l.kind = 0 ∧ l.idx = node ∧ l.end_ = 4096 ∧ l.flashOk = false) ∧
      SecMem off (fun a => b + 16 ≤ a ∧ a < b + 112) u t ∧ SecOnly [] j u t)) ∧
  (∀ node j off : Nat, Runs (.rotate ·) (fun u => SecEntry 6 0 node j off u ∧ u.on F.TRU_STAT_DRBGOK = true) (fun u t =>
    let b := u.ledger node
    let old := num (b + 40) 1 u / 2 % 2
    let idx := num (b + 48 + 32 * old + 24) 1 u
    SecEnds 1 0 (1 - old) 0 j off u t ∧
      KeySlot b (1 - old) (idx % 255 + 1) (num (b + 48 + 32 * old + 25) 1 u / 2 % 8) t ∧
      SecMem off (fun a => b + 48 + 32 * (1 - old) ≤ a ∧ a < b + 80 + 32 * (1 - old)) u t ∧ SecOnly [] j u t)) ∧
  (∀ node j off : Nat, Runs (.free ·) (SecEntry 7 0 node j off) (fun u t =>
    let b := u.ledger node
    SecEnds 1 0 0xFF 0 j off u t ∧ t.bytesAt (b + 16) 96 = List.replicate 96 0 ∧
      SecMem off (fun a => b + 16 ≤ a ∧ a < b + 112) u t ∧ SecOnly [] j u t)) ∧
  (∀ (node keyidx end_ : Nat) (jseq : Nat), end_ < 2 ^ 32 → Runs (.leaseRaise · [])
    (fun u => u.sec.leases = [⟨0, node, keyidx, [], end_, false, true, jseq, false⟩] ∧ u.on F.FLS_STAT_PFAIL = false ∧
      Storage (u.ledger node + 36) 4 u)
    (fun u t => t.sec.leases = [] ∧ num (u.ledger node + 36) 4 t = end_ ∧
      t.get (F.SEC_CNT_k_COUNT 10) = min (u.get (F.SEC_CNT_k_COUNT 10) + 1) (2 ^ 32 - 1) ∧
      ∀ a, Apart (u.ledger node + 36) 4 a 1 → t.byte a = u.byte a)) ∧
  (∀ (node keyidx end_ jseq : Nat), end_ < 2 ^ 32 → Runs (.leasePersisted · jseq none)
    (fun u => u.sec.leases = [⟨0, node, keyidx, [], end_, true, false, jseq, false⟩] ∧ Storage (u.ledger node + 36) 4 u)
    (fun u t => num (u.ledger node + 36) 4 t = end_ ∧ (∀ a, Apart (u.ledger node + 36) 4 a 1 → t.byte a = u.byte a) ∧
      t = { u with ser := t.ser, sec := { u.sec with leases := [] } })) ∧
  ∀ (jseq : Nat) (l : Lease), l.jseq = jseq → l.retry = false → Runs (.leasePersisted · jseq (some []))
    (fun u => u.sec.persist = [l] ∧ u.on F.FLS_STAT_PFAIL = false)
    (fun u t => t.sec.persist = [] ∧ (∃ o, t.out = o ++ [.confirm jseq true]) ∧
      (l.kind = 1 → l.end_ < 2 ^ 32 → t.get F.SEC_CELLLEASE_VALUE = max l.end_ (u.get F.SEC_CELLLEASE_VALUE)))

/-! ## Backbone lanes (09_backbone_lanes.md) -/

namespace Sys2Proof.Claims

/-- The lane entry at `base` shows `st` in its STATUS byte, and no other byte of the Serai has changed. -/
abbrev StatusWritten (base st : Nat) (u t : State) : Prop :=
  num (base + 3) 1 t = st ∧ ∀ a, a ≠ base + 3 → t.byte a = u.byte a

/-- Lane frame: it reaches the antenna at clock `m`, on the lane's channel, at the level of R190, whitened where its entry
asks for it; the lane is busy until its last symbol. -/
abbrev LaneSends (l : Fin 2) (m : Nat) (entry : Option Nat) (ackreq white : Bool) (psdu : List Byte) (u t : State) : Prop :=
  t.out = u.out ++ [.lane l (u.get (F.BBL_l_STATE_CHAN l))
    (min (u.getS (F.BBL_l_TX_PWR l)) (if u.lanePhy l = 0 then 40 else 56)) m white (if white then whiten psdu else psdu)] ∧
  t.get (F.BBL_l_STATE_BUSY l) = 1 ∧ t.lanes[l].tx = some ⟨entry, ackreq, m + 4 * airtime (u.lanePhy l) psdu.length⟩

/-- Coexistence of lane `l` is off, or its grant pin is at the level that grants (R189). -/
abbrev LaneGranted (l : Fin 2) (level : Bool) (u : State) : Prop :=
  u.on (F.BBL_l_COEX_EN l) = true → level = !u.on (F.BBL_l_COEX_POL_GNT l)

/-- A row that starts a slot of lane `l` comes where a new one begins on the lane's grid (R170). -/
abbrev SlotBegins (l : Fin 2) (u : State) : Prop :=
  u.laneOnAir l = true ∧ (u.lanes[l].begun = true → 2 * u.lanes[l].start + 4 * u.slotLen ≤ 2 * u.laneGrid l)

/-- A parent's lane in service with no entry in work. -/
abbrev ParentIdle (l : Fin 2) (u : State) : Prop :=
  u.laneParent l = true ∧ u.laneFull l = true ∧ u.laneState l = 5 ∧ u.lanes[l].op = 0 ∧ u.lanes[l].win = none

/-- The hop mask of the lane slot that begins (R182): the one announced in the slot before, else the one in force; a
parent's first is BBL_l_HOP (log entry 139). -/
def newMask (l : Fin 2) (u : State) : Nat :=
  let a := u.lanes[l]
  a.next.getD (if u.laneParent l = true ∧ a.mask = 0 then u.get (F.BBL_l_HOP_MASK l) else a.mask)

/-- The entry in work of lane `l` is a transmit, its calibration ended at clock `c` in time for TXOFF, and nothing keeps
it from the air. -/
abbrev TxReady (l : Fin 2) (c : Nat) (grant : Bool) (u : State) : Prop :=
  let a := u.lanes[l]
  a.calEnd = some c ∧ a.op = 1 ∧ a.tx = none ∧ u.laneSends l = true ∧ LaneGranted l grant u ∧
    u.get (F.BBL_l_TMPL_TXOFF l) + airtime (u.lanePhy l) a.len +
      (if bitOf a.flags 0 then u.get (F.BBL_l_TMPL_ACKDLY l) + ackAir (u.lanePhy l) else 0) + 800 ≤ u.slotLen

end Sys2Proof.Claims

/-- LANE_SLOT_START and LANE_CALIBRATION_END (R170 to R172, R174, R182): a lane slot begins at its place on the lane's
grid, with the hop mask that the last one announced; the link ASN of a lane without a parent's grid of its own is the ASN;
within a slot that has begun the row changes nothing. A parent's sound entry becomes the entry in work on its channel of
the hop list, behind a calibration; with nothing staged nothing more changes. -/
def Sys2Proof.Claims.LaneSlotsBegin : Prop :=
  (∀ l : Fin 2, Runs (.laneSlotStart · l) (fun _ => True) (fun u t =>
    (¬SlotBegins l u → t = u) ∧
    (SlotBegins l u → t.lanes[l].start = u.laneGrid l ∧ t.lanes[l].prev = u.lanes[l].start ∧ t.lanes[l].begun = true ∧
      t.lanes[l].next = none ∧ t.lanes[l].mask = newMask l u ∧ t.lanes[l].lasn = u.laneLasn l ∧
      (u.laneFree l = false → t.lanes[l].lasn = u.tally.asn)))) ∧
  (∀ l : Fin 2, Runs (.laneSlotStart · l) (fun u => SlotBegins l u ∧ ParentIdle l u ∧ u.prog l = none)
    (fun u t =>
      t = u.modLane l fun a => { a with
        prev := a.start, start := u.laneGrid l, begun := true, lasn := u.tally.asn, mask := newMask l u, next := none,
        choff := 0, calEnd := none })) ∧
  (∀ (l : Fin 2) (p : AirRef) (c : Nat), Runs (.laneSlotStart · l)
    (fun u => SlotBegins l u ∧ ParentIdle l u ∧
      u.tally.asn % max 1 (u.get (F.BBL_l_LINK_BCNPER l)) ≠ 0 ∧ u.prog l = some p ∧ Storage p.base 16 u ∧
      (num p.base 1 u = 1 ∨ num p.base 1 u = 2) ∧
      laneChan (newMask l u) u.tally.asn (num (p.base + 1) 1 u) = some c ∧ c < 32 ∧
      laneEntryOk false (u.get (F.BBL_l_CHAN_c_PHY l c)) (u.bytesAt p.base 16) = true)
    (fun u t =>
      t.lanes[l].op = num p.base 1 u ∧ t.lanes[l].flags = num (p.base + 2) 1 u ∧ t.lanes[l].buf = num (p.base + 4) 4 u ∧
      t.lanes[l].len = num (p.base + 8) 2 u ∧ t.lanes[l].base = p.base ∧ t.lanes[l].calEnd = none ∧
      (num p.base 1 u = 2 → ∃ w, t.lanes[l].win = some w ∧ w.kind = .rx ∧
        w.expect = u.laneGrid l + 4 * u.get (F.BBL_l_TMPL_TXOFF l)) ∧
      t.get (F.BBL_l_STATE_CHAN l) = c ∧ t.get (F.BBL_l_STATE_CAL l) = 1 ∧ t.prog l = none ∧
      OnlyRegs [R.BBL_l_STATE l] { u with lanes := t.lanes, prog0 := t.prog0, prog1 := t.prog1 } t)) ∧
  ∀ l : Fin 2, Runs (.laneCalibrationEnd · l) (fun _ => True) (fun u t =>
    if u.get (F.BBL_l_STATE_CAL l) = 1 then
      t = (u.modLane l fun a => { a with calEnd := some u.tally.clock }).put (F.BBL_l_STATE_CAL l) 0
    else t = u)

/-- LANE_TX_START, LANE_TX_END, LANE_SEND_ENTRY and LANE_WINDOW_CLOSE (R174 to R177, R179, R184): a frame ready in time
starts at TXOFF; one that would start more than TXLATE after it ends its entry as TX_LATE. The frame's end is DONE, or
opens the window for its acknowledgement while the lane receives. A send entry in time is sent on the channel of its lane
slot, and RD moves on. A window that closes empty ends
its entry as NO_FRAME or NO_ACK; a beacon's is a miss in TRACK. -/
def Sys2Proof.Claims.LaneFramesAndWindows : Prop :=
  (∀ (l : Fin 2) (grant : Bool) (c : Nat), Runs (.laneTxStart · l grant)
    (fun u => TxReady l c grant u ∧ Storage u.lanes[l].buf u.lanes[l].len u ∧
      c + 4 * (u.laneD l + u.lanePrep l) ≤ u.laneTxoff l)
    (fun u t =>
      let a := u.lanes[l]
      LaneSends l (u.laneTxoff l) (some a.base) (bitOf a.flags 0) (bitOf a.flags 3 && u.lanePhy l != 0)
        (withFcs (bitOf a.flags 1) (bitOf a.flags 2 && u.lanePhy l != 0) (u.bytesAt a.buf a.len)) u t ∧
      OnlyRegs [R.BBL_l_STATE l] { u with lanes := t.lanes, out := t.out } t)) ∧
  (∀ (l : Fin 2) (grant : Bool) (c : Nat), Runs (.laneTxStart · l grant)
    (fun u => TxReady l c grant u ∧ Open (u.lanes[l].base + 3) 1 u ∧
      u.laneTxoff l < c + 4 * (u.laneD l + u.lanePrep l) ∧
      u.laneTxoff l + 4 * u.get (F.BBL_l_GUARD_TXLATE l) < c + 4 * u.lanePrep l + u.get (F.BBL_l_EXT_DLY l))
    (fun u t => StatusWritten u.lanes[l].base 2 u t ∧ t.lanes[l].op = 0 ∧ t.out = u.out ∧
      t.get (F.BBL_l_CNT_k_COUNT l 2) = min (u.get (F.BBL_l_CNT_k_COUNT l 2) + 1) (2 ^ 32 - 1) ∧
      OnlyRegs [R.BBL_l_CNT_k l 2] { u with lanes := t.lanes, ser := t.ser } t)) ∧
  (∀ (l : Fin 2) (base stop : Nat) (ackreq : Bool), Runs (.laneTxEnd · l)
    (fun u => u.lanes[l].tx = some ⟨some base, ackreq, stop⟩ ∧ u.lanes[l].op ≠ 0 ∧ u.lanes[l].base = base ∧ Open (base + 3) 1 u)
    (fun u t => t.lanes[l].tx = none ∧ t.get (F.BBL_l_STATE_BUSY l) = 0 ∧
      t.get (F.BBL_l_CNT_k_COUNT l 0) = min (u.get (F.BBL_l_CNT_k_COUNT l 0) + 1) (2 ^ 32 - 1) ∧
      (ackreq = false → StatusWritten base 1 u t ∧ t.lanes[l].op = 0) ∧
      (ackreq = true → u.laneRuns l = false → StatusWritten base 4 u t ∧ t.lanes[l].op = 0) ∧
      (ackreq = true → u.laneRuns l = true → KeepsMem u t ∧ ∃ w, t.lanes[l].win = some w ∧ w.kind = .ack ∧
        w.expect = stop + 4 * u.get (F.BBL_l_TMPL_ACKDLY l)) ∧
      OnlyRegs [R.BBL_l_STATE l, R.BBL_l_CNT_k l 0] { u with lanes := t.lanes, ser := t.ser } t)) ∧
  (∀ (l : Fin 2) (grant : Bool) (at_ st pv c : Nat) (more : List (Nat × Nat × Nat)), Runs (.laneSendEntry · l grant)
    (fun u =>
      let b := u.get (F.BBL_l_SEND_BASE l) + 16 * u.get (F.BBL_l_SEND_RD l)
      let raw := u.bytesAt b 16
      let f := num (b + 7) 1 u
      let e := txEntry true (raw.set 7 (BitVec.ofNat 8 (f % 32)))
      let m := u.sendMoment l e (if bitOf f 5 then some (num (b + 9) 3 u) else none) at_ st pv
      let phy := u.get (F.BBL_l_CHAN_c_PHY l c)
      u.lanes[l].sends = (at_, st, pv) :: more ∧ Storage b 16 u ∧ u.laneSends l = true ∧ u.beaconOnly l = false ∧
        laneChan u.lanes[l].mask u.lanes[l].lasn u.lanes[l].choff = some c ∧ f < 64 ∧ f % 2 = 0 ∧
        e.buf % 16 = 0 ∧ (phy = 0 → 5 ≤ e.len ∧ e.len ≤ 127) ∧ (phy ≠ 0 → 3 ≤ e.len ∧ e.len ≤ 2047) ∧
        (bitOf f 2 = true → (if bitOf f 3 && phy != 0 then 4 else 2) < e.len) ∧
        at_ + 4 * (u.laneD l + u.lanePrep l) ≤ m ∧ st ≤ m ∧ st = u.lanes[l].start ∧
        m + 4 * airtime phy e.len ≤ st + 4 * (u.slotLen - 800) ∧ u.lanes[l].win = none ∧ u.lanes[l].tx = none ∧
        u.get (F.BBL_l_STATE_CAL l) ≠ 1 ∧ LaneGranted l grant u ∧ Storage e.buf e.len u)
    (fun u t =>
      let b := u.get (F.BBL_l_SEND_BASE l) + 16 * u.get (F.BBL_l_SEND_RD l)
      let f := num (b + 7) 1 u
      let e := txEntry true ((u.bytesAt b 16).set 7 (BitVec.ofNat 8 (f % 32)))
      let phy := u.get (F.BBL_l_CHAN_c_PHY l c)
      LaneSends l (u.sendMoment l e (if bitOf f 5 then some (num (b + 9) 3 u) else none) at_ st pv) none false
        (bitOf f 4 && phy != 0) (withFcs e.addfcs (bitOf f 3 && phy != 0) (u.bytesAt e.buf e.len))
        (u.put (F.BBL_l_STATE_CHAN l) c) t ∧
      t.get (F.BBL_l_SEND_RD l) = (u.get (F.BBL_l_SEND_RD l) + 1) % max 1 (u.get (F.BBL_l_SEND_LEN l)) ∧
      t.lanes[l].sends = more ∧ OnlyRegs [R.BBL_l_STATE l, R.BBL_l_SEND_3 l] { u with lanes := t.lanes, out := t.out } t)) ∧
  ∀ (l : Fin 2) (w : LaneWin), Runs (.laneWindowClose · l)
    (fun u => u.lanes[l].win = some w ∧ (w.kind ≠ .beacon → u.lanes[l].op ≠ 0 ∧ Open (u.lanes[l].base + 3) 1 u))
    (fun u t => t.lanes[l].win = none ∧
      (w.kind = .rx → StatusWritten u.lanes[l].base 6 u t ∧ t.lanes[l].op = 0 ∧ t = { u with lanes := t.lanes, ser := t.ser }) ∧
      (w.kind = .ack → StatusWritten u.lanes[l].base 4 u t ∧ t.lanes[l].op = 0 ∧ t = { u with lanes := t.lanes, ser := t.ser }) ∧
      (w.kind = .beacon → u.laneState l = 3 →
        t.get (F.BBL_l_STATE_MISS l) = min (u.get (F.BBL_l_STATE_MISS l) + 1) 15 ∧
        t.get (F.BBL_l_CNT_k_COUNT l 5) = min (u.get (F.BBL_l_CNT_k_COUNT l 5) + 1) (2 ^ 32 - 1) ∧
        (let lost := u.laneFree l = true ∧ u.get (F.BBL_l_LINK_LOSTN l) ≤ min (u.get (F.BBL_l_STATE_MISS l) + 1) 15
         (lost → t.laneState l = 4 ∧
           t.get (F.BBL_l_CNT_k_COUNT l 6) = min (u.get (F.BBL_l_CNT_k_COUNT l 6) + 1) (2 ^ 32 - 1)) ∧
         (¬lost → t.laneState l = 3 ∧ OnlyRegs [R.BBL_l_STATE l, R.BBL_l_CNT_k l 5] { u with lanes := t.lanes } t))))

/-- A lane's slots, and the frames and windows within them. -/
def Obligations.LanesRunTheirSlots : Prop :=
  Sys2Proof.Claims.LaneSlotsBegin ∧ Sys2Proof.Claims.LaneFramesAndWindows


namespace Sys2Proof.Claims

/-- The channel after `c` in the search list of lane `l`, in ascending order and cyclically (R186). -/
def searchAfter (mask c : Nat) : Option Nat :=
  ((List.range 32).filter fun k => mask.testBit k && decide (c < k)).head?.or ((List.range 32).filter fun k => mask.testBit k).head?

/-- The PHR of a lane frame: one octet of O-QPSK. -/
def lanePhr (l : Fin 2) (phr : Nat) (u : State) : Nat := if u.lanePhy l = 0 then phr % 256 else phr

/-- The PSDU of a lane frame, its whitening taken off. -/
def lanePlain (l : Fin 2) (phr : Nat) (psdu : List Byte) (u : State) : List Byte :=
  if phrWhite (u.lanePhy l) (lanePhr l phr u) then whiten psdu else psdu

/-- A lane frame is sound: its PHR names a PSDU of the length that came, whose FCS is correct. -/
abbrev LaneSound (l : Fin 2) (phr : Nat) (psdu : List Byte) (u : State) : Prop :=
  phrGood (u.lanePhy l) (lanePhr l phr u) = true ∧ phrLen (u.lanePhy l) (lanePhr l phr u) = psdu.length ∧
    fcsOk (fcsLen (u.lanePhy l) (lanePhr l phr u) == 4) (lanePlain l phr psdu u) = true

/-- Lane `l` begins a dwell of a search: the chip slots of DWELL on a channel. -/
abbrev Dwells (l : Fin 2) (chan : Option Nat) (u t : State) : Prop :=
  t.lanes[l].dwell = u.get (F.BBL_l_DWELL_DWELL l) ∧ ∀ c, chan = some c → t.get (F.BBL_l_STATE_CHAN l) = c

end Sys2Proof.Claims

/-- LANE_FRAME_RECEIVED (R180, R182, R186, R187): a sound frame in the window of an RX entry is delivered like a field
frame, counted in BBL_CNT 1, and its entry is DONE. A link beacon of the member's parent in a beacon window brings its hop
mask for the next slot and MISS 0; a member without SYNC goes from ACQUIRE or TRACK to TRACK, else to ACQUIRE. REACQ_END,
SEARCH_DWELL_END and RESEARCH (R185 to R187): the lane searches, from the first channel of its search list, or on the next
one. BACKGROUND_CALIBRATION_STEP and CALIBRATION_OVERDUE (R172, R173). -/
def Obligations.LanesFollowTheirParent : Prop :=
  (∀ (l : Fin 2) (lagS lagE phr : Nat) (psdu : List Byte) (rssi sinr cfo : Int) (n : Fin 12) (w : LaneWin) (b : Nat)
      (back : List Nat), w.kind = .rx → psdu.length ≤ 144 →
    Runs (.laneFrameReceived · l lagS lagE phr psdu rssi sinr cfo)
      (fun u =>
        let t0 := u.tally.clock - (lagS + u.get (F.BBL_l_EXT_DLY l))
        u.laneRuns l = true ∧ u.laneState l ≠ 1 ∧ u.laneMember l = false ∧ u.lanes[l].win = some w ∧ w.open_ ≤ t0 ∧ t0 ≤ w.close ∧
        LaneSound l phr psdu u ∧ u.get (F.FRX_POOL_k_LEN 0) ≠ 0 ∧ u.frx.ret0 = b :: back ∧ u.on F.FRX_CTL_EARLY = false ∧
        u.laneDrover 2 l 0 = some n ∧ RingRoom n u ∧ u.lanes[l].op = 2 ∧
        Open b (padded psdu).length u ∧ Open (descAt n u) 64 u ∧ Open (u.lanes[l].base + 3) 1 u ∧
        Apart b (padded psdu).length (descAt n u) 64 ∧ Apart b (padded psdu).length (u.lanes[l].base + 3) 1 ∧
        Apart (descAt n u) 64 (u.lanes[l].base + 3) 1)
      (fun u t =>
        t.bytesAt b psdu.length = lanePlain l phr psdu u ∧ num (descAt n u) 2 t = psdu.length ∧
        num (descAt n u + 2) 1 t = 128 + l ∧ num (descAt n u + 16) 2 t = ofSigned 16 (u.laneAtAntenna l rssi) ∧
        num (u.lanes[l].base + 3) 1 t = 1 ∧ t.lanes[l].op = 0 ∧ t.lanes[l].win = none ∧ t.frx.ret0 = back ∧
        t.get (F.FRX_RING_n_WR n) = (u.get (F.FRX_RING_n_WR n) + 1) % u.get (F.FRX_RING_n_LEN n) ∧
        (t.get (F.DRV_n_EVPEND_PEND n)).testBit 1 = true ∧
        t.get (F.BBL_l_CNT_k_COUNT l 1) = min (u.get (F.BBL_l_CNT_k_COUNT l 1) + 1) (2 ^ 32 - 1) ∧
        OnlyRegs [R.FRX_RING_n_2 n, R.DRV_n_EVPEND n, R.BBL_l_CNT_k l 1] { u with ser := t.ser, frx := t.frx, lanes := t.lanes } t)) ∧
  (∀ (l : Fin 2) (lagS lagE phr : Nat) (psdu : List Byte) (rssi sinr cfo : Int) (w : LaneWin) (eui lasn mask : Nat),
    w.kind = .beacon →
    Runs (.laneFrameReceived · l lagS lagE phr psdu rssi sinr cfo)
      (fun u =>
        let t0 := u.tally.clock - (lagS + u.get (F.BBL_l_EXT_DLY l))
        u.laneRuns l = true ∧ u.laneState l ≠ 1 ∧ u.laneMember l = true ∧ u.lanes[l].win = some w ∧ w.open_ ≤ t0 ∧ t0 ≤ w.close ∧
        LaneSound l phr psdu u ∧ linkBeacon (u.get F.SF_VIE_OUI) (lanePlain l phr psdu u) = some (eui, lasn, mask) ∧ eui = u.laneParentEui l)
      (fun u t =>
        t.lanes[l].next = some mask ∧ t.lanes[l].win = none ∧ t.get (F.BBL_l_STATE_MISS l) = 0 ∧
        t.laneState l = if u.laneFree l = false then u.laneState l else if u.laneState l = 2 ∨ u.laneState l = 3 then 3 else 2)) ∧
  (∀ l : Fin 2, Runs (.reacqEnd · l) (fun _ => True) (fun u t =>
    if u.laneState l = 4 ∧ u.get (F.BBL_l_LINK_REACQ l) ≤ u.lanes[l].periods then
      t.laneState l = 1 ∧ t.lanes[l].win = none ∧
        Dwells l ((List.range 32).filter fun k => (u.get (F.BBL_l_SRCH_MASK l)).testBit k).head? u t ∧
        OnlyRegs [R.BBL_l_STATE l] { u with lanes := t.lanes } t
    else t = u)) ∧
  (∀ l : Fin 2, Runs (.searchDwellEnd · l) (fun _ => True) (fun u t =>
    if u.laneState l = 1 ∧ u.lanes[l].dwell = 0 then
      t.laneState l = 1 ∧ Dwells l (searchAfter (u.get (F.BBL_l_SRCH_MASK l)) (u.get (F.BBL_l_STATE_CHAN l))) u t ∧
        OnlyRegs [R.BBL_l_STATE l] { u with lanes := t.lanes } t
    else t = u)) ∧
  (∀ (who : Writer) (l : Fin 2), who ≠ .remote → Runs (.research · who l)
    (fun u => Served (R.BBL_l_CMD l) u ∧ u.lanes[l].op = 0) (fun u t =>
      if u.laneFree l = true ∧ u.laneRuns l = true then
        t.laneState l = 1 ∧ t.get (F.BBL_l_PHASE_VALUE l) = 0 ∧ t.get (F.BBL_l_RATE_VALUE l) = 0 ∧ t.get (F.BBL_l_STATE_MISS l) = 0 ∧
          t.get (F.BBL_l_HOP_MASK l) = 0 ∧ t.get (F.BBL_l_LASNOFF_LO_OFF l) = 0 ∧ t.get (F.BBL_l_LASNOFF_HI_OFF l) = 0 ∧
          t.lanes[l].mask = 0 ∧ t.lanes[l].next = none ∧
          Dwells l ((List.range 32).filter fun k => (u.get (F.BBL_l_SRCH_MASK l)).testBit k).head? u t ∧
          OnlyRegs [R.BBL_l_STATE l, R.BBL_l_PHASE l, R.BBL_l_RATE l, R.BBL_l_HOP l, R.BBL_l_LASNOFF_LO l, R.BBL_l_LASNOFF_HI l]
            { u with lanes := t.lanes } t
      else t = u)) ∧
  (∀ (l : Fin 2) (kind : Fin 4) (abort : Bool), Runs (.backgroundCalibrationStep · l kind abort) (fun _ => True) (fun u t =>
    if u.laneIdle l = true ∧ (u.get (F.BBL_l_BGCAL_EN l)).testBit kind = true ∧ abort = false then
      t = u.modLane l fun a => { a with bg := a.bg.set kind ⟨u.tally.clock, u.getS F.CAL_TEMP_TEMP, false⟩ }
    else t = u)) ∧
  ∀ (l : Fin 2) (kind : Fin 4), Runs (.calibrationOverdue · l kind) (fun _ => True) (fun u t =>
    let b := u.lanes[l].bg.getD kind ⟨0, 0, false⟩
    if u.laneOnAir l = true ∧ (u.get (F.BBL_l_BGCAL_EN l)).testBit kind = true ∧ b.overdue = false ∧
        (b.clock + 32000000 * u.get (F.BBL_l_BGCAL_BGPER l) ≤ u.tally.clock ∨ 20 ≤ (u.getS F.CAL_TEMP_TEMP - b.temp).natAbs) then
      t = (u.modLane l fun a => { a with bg := a.bg.set kind { b with overdue := true } }).inc (F.BBL_l_CNT_k_COUNT l 7)
    else t = u)

/-! ## Serai (10_serai.md) -/

namespace Sys2Proof.Claims

/-- Granule `g` lies in a bay whose scrub flag is 1. -/
abbrev Scrubbed (g : Nat) (u : State) : Prop :=
  g < 1572864 ∧ ∃ c, c < 8 ∧ u.on (F.MAN_BAY_n_SCRUB c) = true ∧ u.bayBase c ≤ 16 * g ∧ 16 * g < u.bayBase c + u.baySize c

/-- Granule `g` is the next one of the scrub walk: the least scrubbed one at or after SER_SCRUBPOS. -/
abbrev ScrubNext (g : Nat) (u : State) : Prop :=
  u.on F.SER_CTL_SCRUBEN = true ∧ u.mode ≠ Mode.reset ∧ Scrubbed g u ∧ u.get F.SER_SCRUBPOS_ADDR ≤ g ∧
    ∀ h, u.get F.SER_SCRUBPOS_ADDR ≤ h → h < g → ¬Scrubbed h u

/-- A granule after `g` is still to come in the walk. -/
abbrev ScrubMore (g : Nat) (u : State) : Prop := ∃ h, g < h ∧ Scrubbed h u

/-- A walk ends (R201, R202): a pass is counted, the next walk begins at address 0, and the rows count anew. -/
def walkEnds (u : State) : State :=
  { (u.put F.SER_SCRUBPASS_COUNT ((u.get F.SER_SCRUBPASS_COUNT + 1) % 2 ^ 32)).put F.SER_SCRUBPOS_ADDR 0 with
    ser := { u.ser with rowCE := [] } }

/-- No row is spared by a scrub that corrects an error: the threshold is off or not reached. -/
abbrev NoAutoSpare (u : State) : Prop := u.on F.SER_SPARECFG_AUTO = false

/-- Row `r` of bank `b` has no spare, in use or filling. -/
abbrev NotSpared (b r : Nat) (u : State) : Prop :=
  u.ser.spare = [] ∧ ∀ k, k < 8 → u.on (F.SER_REMAP_b_k_VALID b k) = false ∨ u.get (F.SER_REMAP_b_k_ROW b k) ≠ r

end Sys2Proof.Claims

/-- Where the read of granule `g` leaves the walk: at the granule after it, or, with none still to come, at the start of
the next walk. -/
abbrev Sys2Proof.Claims.Walked (g : Nat) (u t : State) : Prop :=
  (ScrubMore g u → t.get F.SER_SCRUBPOS_ADDR = g + 1 ∧ t.get F.SER_SCRUBPASS_COUNT = u.get F.SER_SCRUBPASS_COUNT) ∧
  (¬ScrubMore g u → t.get F.SER_SCRUBPOS_ADDR = 0 ∧
    t.get F.SER_SCRUBPASS_COUNT = (u.get F.SER_SCRUBPASS_COUNT + 1) % 2 ^ 32 ∧ t.ser.rowCE = [])

/-- Granule `g` is zero and poisoned, and nothing else of the store is in error. -/
def Sys2Proof.Claims.zeroed (g : Nat) (u : State) : State :=
  let v := u.poke (16 * g) (List.replicate 16 0)
  { v with ser := { v.ser with poison := [g], errs := [] } }

/-- SCRUB_READ (R36, R197 to R202): the next granule of a scrubbed bay is read. A sound one, or one that is poisoned
already, keeps its bytes and the walk moves on; a correctable error is gone, counted in SER_CNT_0 and noted as fault 0x06;
an uncorrectable one leaves the granule poisoned and zero, counted in SER_CNT_1 and raised as fault 0x07. The read of the
last granule of the walk is a pass, and the next walk begins at address 0. -/
def Sys2Proof.Claims.ScrubWalksTheBays : Prop :=
  (∀ g : Nat, Runs (.scrubRead · none) (fun u => ScrubNext g u ∧ u.ser.errs = [] ∧ g ∉ u.ser.poison) (fun u t =>
    (ScrubMore g u → t = u.put F.SER_SCRUBPOS_ADDR (g + 1)) ∧ (¬ScrubMore g u → t = walkEnds u))) ∧
  (∀ g : Nat, Runs (.scrubRead · none) (fun u => ScrubNext g u ∧ g ∈ u.ser.poison) (fun u t =>
    t.ser = { u.ser with rowCE := t.ser.rowCE } ∧ Walked g u t ∧ (ScrubMore g u → t.ser = u.ser) ∧
      t.get F.SER_LASTUE_ADDR = g ∧ t.get F.SER_LASTUE_CAUSE = 2 ∧ t.get F.SER_LASTUE_MASTER = 15 ∧
      t.get (F.SER_CNT_k_COUNT 3) = min (u.get (F.SER_CNT_k_COUNT 3) + 1) (2 ^ 32 - 1) ∧
      OnlyRegs [R.SER_SCRUBPOS, R.SER_SCRUBPASS, R.SER_LASTUE, R.SER_CNT_k 3] { u with ser := t.ser } t)) ∧
  (∀ g e : Nat, e = 1 ∨ e = 2 → Runs (.scrubRead · none)
    (fun u => ScrubNext g u ∧ u.ser.errs = [(g, e)] ∧ u.ser.poison = [] ∧ NoAutoSpare u)
    (fun u t => t.ser.poison = [] ∧ t.ser.errs = [] ∧ Walked g u t ∧
      t.get F.SER_LASTCE_ADDR = g ∧ t.get F.SER_LASTCE_BITS = e ∧
      t.get (F.SER_CNT_k_COUNT 0) = min (u.get (F.SER_CNT_k_COUNT 0) + 1) (2 ^ 32 - 1) ∧
      Recorded 0x06 0 (g % 16) { u with ser := { u.ser with errs := [], rowCE := t.ser.rowCE } } t ∧
      t.get F.SYS_FAULT_LOST_NOTES = min (u.get F.SYS_FAULT_LOST_NOTES + 1) (2 ^ 16 - 1) ∧
      OnlyRegs [R.SER_SCRUBPOS, R.SER_SCRUBPASS, R.SER_LASTCE, R.SER_CNT_k 0, R.SYS_FAULT_LOST]
        { u with ser := t.ser, faults := { u.faults with log := t.faults.log } } t)) ∧
  (∀ g : Nat, inLog (16 * g) = false → Runs (.scrubRead · (some (g, 3)))
    (fun u => ScrubNext g u ∧ u.ser.errs = [] ∧ u.ser.poison = []) (fun u t =>
    t.ser.poison = [g] ∧ t.ser.errs = [] ∧ (∀ i, i < 16 → t.byte (16 * g + i) = 0) ∧
      (∀ a, Apart (16 * g) 16 a 1 → inLog a = false → t.byte a = u.byte a) ∧ Walked g u t ∧
      t.get F.SER_LASTUE_ADDR = g ∧ t.get F.SER_LASTUE_CAUSE = 0 ∧ t.get F.SER_LASTUE_MASTER = 15 ∧
      t.get (F.SER_CNT_k_COUNT 1) = min (u.get (F.SER_CNT_k_COUNT 1) + 1) (2 ^ 32 - 1) ∧
      (∃ more, t.faults.log = u.faults.log ++ ⟨0x07, 2, g % 16, u.stamp⟩ :: more) ∧
      Signals [R.SER_SCRUBPOS, R.SER_SCRUBPASS, R.SER_LASTUE, R.SER_CNT_k 1]
        { zeroed g u with ser := { (zeroed g u).ser with rowCE := t.ser.rowCE } } t)) ∧
  Runs (.scrubRead · none)
    (fun u => u.on F.SER_CTL_SCRUBEN = true ∧ u.mode ≠ Mode.reset ∧ ∀ g, u.get F.SER_SCRUBPOS_ADDR ≤ g → ¬Scrubbed g u)
    (fun u t => t = walkEnds u)

/-- SER_SPARECMD and ROW_SPARE_DONE (R202, R203): a GO for a row that has a spare already, for a row the store does not
have, or with all 8 spares of the bank in use is SPAREBAD; else the copy begins into the first free spare, and its end sets
the remap entry and counts. -/
def Sys2Proof.Claims.RowsAreSpared : Prop :=
  (∀ r b : Nat, r < 1536 → b < 16 → Runs (.serSparecmd · .host (BitVec.ofNat 32 (r + 2048 * b)))
    (fun u => Served R.SER_SPARECMD u ∧ u.ser.spare = [])
    (fun u t =>
      (NotSpared b r u → ∀ k, k < 8 → u.on (F.SER_REMAP_b_k_VALID b k) = false →
        (∀ i, i < k → u.on (F.SER_REMAP_b_k_VALID b i) = true) →
        t.ser = { u.ser with spare := [(b, r, k)] } ∧ t.get F.SER_STAT_SPAREBUSY = 1 ∧
          OnlyRegs [R.SER_SPARECMD, R.SER_STAT] { u with ser := t.ser } t) ∧
      ((¬NotSpared b r u ∨ ∀ k, k < 8 → u.on (F.SER_REMAP_b_k_VALID b k) = true) →
        KeepsMem u t ∧ t.get F.SER_STAT_SPAREBAD = 1 ∧ OnlyRegs [R.SER_SPARECMD, R.SER_STAT] u t))) ∧
  (∀ (b r k : Nat) (rest : List (Nat × Nat × Nat)), b < 16 → k < 8 → r < 1536 → Runs (.rowSpareDone ·)
    (fun u => u.ser.spare = (b, r, k) :: rest ∧ u.ser.errs = [])
    (fun u t => t.ser = { u.ser with spare := rest, rowCE := u.ser.rowCE.filter (·.1 != (b, r)) } ∧
      t.get (F.SER_REMAP_b_k_ROW b k) = r ∧ t.get (F.SER_REMAP_b_k_VALID b k) = 1 ∧
      t.get F.SER_STAT_SPAREBUSY = b2n (!rest.isEmpty) ∧
      t.get (F.SER_CNT_k_COUNT 5) = min (u.get (F.SER_CNT_k_COUNT 5) + 1) (2 ^ 32 - 1) ∧
      OnlyRegs [R.SER_REMAP_b_k b k, R.SER_STAT, R.SER_CNT_k 5] { u with ser := t.ser } t)) ∧
  Runs (.rowSpareDone ·) (fun u => u.ser.spare = []) (fun u t => t = u)

/-- HOST_APERTURE_ACCESS (R200, R207): through the upper half of BAR 0 the host writes the bytes of the Serai from
SER_APER's base on, and reads them; a poisoned granule reads as all ones, is counted and named. -/
def Sys2Proof.Claims.ApertureReachesTheSerai : Prop :=
  (∀ (off : Nat) (bs : List Byte), 0x800000 ≤ off → off < 0x1000000 → off + bs.length ≤ 0x1000000 →
    Runs (.hostApertureAccess · .bar0 off bs.length (some bs))
    (fun u => u.mode ≠ Mode.reset ∧ u.get F.SYS_STRAP_HOST ≠ 1 ∧
      u.get F.SER_APER_BASE ≤ 240 ∧ Open (u.get F.SER_APER_BASE * 65536 + (off - 0x800000)) bs.length u)
    (fun u t => t = u.poke (u.get F.SER_APER_BASE * 65536 + (off - 0x800000)) bs)) ∧
  (∀ off n : Nat, 0x800000 ≤ off → off < 0x1000000 → off + n ≤ 0x1000000 → Runs (.hostApertureAccess · .bar0 off n none)
    (fun u => u.mode ≠ Mode.reset ∧ u.get F.SYS_STRAP_HOST ≠ 1 ∧ u.get F.SER_APER_BASE ≤ 240 ∧
      Storage (u.get F.SER_APER_BASE * 65536 + (off - 0x800000)) n u)
    (fun u t => t = { u with
      out := u.out ++ [.hostData (u.bytesAt (u.get F.SER_APER_BASE * 65536 + (off - 0x800000)) n)] })) ∧
  ∀ off g : Nat, 0x800000 ≤ off → off + 16 ≤ 0x1000000 → off % 16 = 0 → Runs (.hostApertureAccess · .bar0 off 16 none)
    (fun u => u.mode ≠ Mode.reset ∧ u.get F.SYS_STRAP_HOST ≠ 1 ∧ u.get F.SER_APER_BASE ≤ 240 ∧
      16 * g = u.get F.SER_APER_BASE * 65536 + (off - 0x800000) ∧ g ∈ u.ser.poison)
    (fun u t => t.out = u.out ++ [.hostPoison (List.replicate 16 0xFF)] ∧ KeepsMem u t ∧
      t.get F.SER_LASTUE_ADDR = g ∧ t.get F.SER_LASTUE_CAUSE = 2 ∧ t.get F.SER_LASTUE_MASTER = 13 ∧
      t.get (F.SER_CNT_k_COUNT 3) = min (u.get (F.SER_CNT_k_COUNT 3) + 1) (2 ^ 32 - 1) ∧
      OnlyRegs [R.SER_LASTUE, R.SER_CNT_k 3] { u with out := t.out } t)

/-- The Serai: the scrubber's walk, row sparing and the aperture, each by its own rules (R197 to R203, R207). -/
def Obligations.StorageIsScrubbedSparedAndServed : Prop :=
  Sys2Proof.Claims.ScrubWalksTheBays ∧ Sys2Proof.Claims.RowsAreSpared ∧ Sys2Proof.Claims.ApertureReachesTheSerai


/-! ## Drover instructions (11_drover_architecture.md, 12_drover_instructions.md) -/

namespace Sys2Proof.Claims

/-- A row of the Drover instruction set: wherever `pre` holds, exec answers a next state, of which `post` holds. -/
abbrev Issues (c : Instr) (pre : State → Prop) (post : State → State → Prop) : Prop :=
  ∀ s : State, pre s → ∃ t, exec c s = .next t ∧ post s t

/-- The PC of Drover `n`. -/
def pcOf (n : Fin 12) (u : State) : Nat := u.get (F.DRV_n_PC_PC n)

/-- No SAFE fault has aborted the handler that Drover `n` runs, and no write of his waits for a partner (R39, R311). -/
abbrev Unstopped (n : Fin 12) (u : State) : Prop := u.faults.aborted ≠ some n ∧ u.drvHeld n = false

/-- Drover `n` runs and stands at a bundle boundary with nothing in the way: no vector due, no interrupt ready, no
breakpoint at its PC, no access outstanding, no STEP and no HALT; and the PC is not the last syllable. -/
abbrev Ready1 (n : Fin 12) (u : State) : Prop :=
  u.get (F.DRV_n_STAT_STATE n) = 1 ∧ Unstopped n u ∧ u.drovers[n].due = [] ∧ u.drovers[n].issuing = false ∧
    u.drovers[n].halt = false ∧ u.drovers[n].mw = none ∧
    (∀ k : Fin 12, u.drovers[k].step = false) ∧
    (u.drovers[n].ie = false ∨ u.on (F.DRV_n_STAT_INH n) = true ∨ u.get (F.DRV_n_EVPEND_PEND n) &&& u.drovers[n].even = 0) ∧
    (u.on (F.DRV_n_CTL_BRKEN n) = false ∨ u.get (F.DRV_n_BRK_ADDR n) ≠ pcOf n u) ∧ pcOf n u < 8191

/-- RX.ACT of Drover `n`: a block repeat is in progress. -/
def acting (n : Fin 12) (u : State) : Bool := (u.drovers[n].byte 0x1E).testBit 2

/-- The bundle is not the last of a repeated block, so the next one follows it (R237). -/
abbrev NoLoop (n : Fin 12) (u : State) : Prop := acting n u = false ∨ u.drovers[n].pair 0x1C % 8192 ≠ pcOf n u

/-- Where window address `a`, of window A or B, lies in the Serai (R209). -/
def windowOff (n : Fin 12) (a : Nat) (u : State) : Nat :=
  if a < 0xC000 then (u.drovers[n].pair 0x20 + 65536 * u.drovers[n].byte 0x22) * 16 + (a - 0x8000)
  else (u.drovers[n].pair 0x24 + 65536 * u.drovers[n].byte 0x26) * 16 + (a - 0xC000)

/-- The byte that Drover `n` sees at address `a` below the register page. -/
def cell (n : Fin 12) (u : State) (a : Nat) : Byte := if a < 0x8000 then localByte n a u else u.byte (windowOff n a u)

/-- The little-endian number of the `w` bytes at address `a`. -/
def cells (n : Fin 12) (a w : Nat) (u : State) : Nat := leNat ((List.range w).map fun i => cell n u (a + i))

/-- The `w` bytes at `a` lie in one part of the window below the register page, whose Serai bytes satisfy `p`. -/
abbrev InPart (n : Fin 12) (a w : Nat) (p : Nat → Nat → State → Prop) (u : State) : Prop :=
  a + w ≤ 0x8000 ∨ ((0x8000 ≤ a ∧ a + w ≤ 0xC000 ∨ 0xC000 ≤ a ∧ a + w ≤ 0xF000) ∧ p (windowOff n a u) w u)

/-- The `w` bytes at `a` are sound to read. -/
abbrev Sound (n : Fin 12) (a w : Nat) (u : State) : Prop := InPart n a w Storage u

/-- The `w` bytes at `a` hold what is written: G, P, RC, the local RAM or open storage. -/
abbrev Holds (n : Fin 12) (a w : Nat) (u : State) : Prop :=
  InPart n a w Open u ∧ (a + w ≤ 0x1B ∨ 0x100 ≤ a)

/-- Operand `o` names address `a` (R226): direct, pointer plus displacement, post-increment, pre-decrement, pointer plus
G-index, memory-indirect. -/
abbrev At (n : Fin 12) (o : BitVec 19) (a : Nat) (u : State) : Prop :=
  let v := o.toNat % 65536
  let p := u.drovers[n].pair (8 + 2 * (v / 8192))
  let low := v % 8192
  match o.toNat / 65536 with
  | 0 => a = v
  | 2 => a = (if low < 4096 then p + low else p + 65536 - (8192 - low)) % 65536
  | 3 => a = p
  | 4 => a = (p + 65536 - low) % 65536
  | 5 => low < 32 ∧ a = (p + u.drovers[n].byte (low % 8) * 2 ^ (low / 8)) % 65536
  | 6 => Sound n v 2 u ∧ a = cells n v 2 u
  | _ => False

/-- Operand `o`, `w` bytes wide, reads as `v` (R227): an immediate, or the bytes at its address, which for 16 bytes is
rounded down to a granule. -/
abbrev Reads (n : Fin 12) (o : BitVec 19) (w v : Nat) (u : State) : Prop :=
  (o.toNat / 65536 = 1 ∧ w ≠ 16 ∧ v = if w = 1 then o.toNat % 256 else o.toNat % 65536) ∨
    ∃ a, At n o a u ∧ (let b := if w = 16 then a / 16 * 16 else a
      Sound n b w u ∧ v = cells n b w u)

/-- Operand `o` names the `w` bytes at `a`, which hold what is written. -/
abbrev Names (n : Fin 12) (o : BitVec 19) (w a : Nat) (u : State) : Prop :=
  ∃ e, At n o e u ∧ a = (if w = 16 then e / 16 * 16 else e) ∧ Holds n a w u

/-- Bytes stored at address `a`. -/
def stored (n : Fin 12) (a : Nat) (bs : List Byte) (u : State) : State :=
  if a < 0x8000 then u.modDrv n fun d => { d with ram := memStore a bs d.ram } else u.poke (windowOff n a u) bs

/-- The pointer change of an operand (R228). -/
def bump (o : BitVec 19) (d : Drover) : Drover :=
  let p := 8 + 2 * (o.toNat % 65536 / 8192)
  match o.toNat / 65536 with
  | 3 => d.setPair p ((d.pair p + o.toNat % 8192) % 65536)
  | 4 => d.setPair p ((d.pair p + (65536 - o.toNat % 8192)) % 65536)
  | _ => d

/-- The pointers move and the PC goes to `pc`. -/
def passTo (n : Fin 12) (os : List (BitVec 19)) (pc : Nat) (t : State) : State :=
  (t.modDrv n fun d => os.foldl (fun d o => bump o d) d).put (F.DRV_n_PC_PC n) pc

/-- The operand #0, which stands in every unused place. -/
def hash0 : BitVec 19 := 0x10000

/-- A two-operand row of A or B, its operands one byte wide, and its result. -/
abbrev Binary := (Fin 12 → BitVec 19 → BitVec 19 → BitVec 19 → List (BitVec 64) → Instr) × (Byte → Byte → Byte)

/-- A one-operand row of B and its result. -/
abbrev Unary := (Fin 12 → BitVec 19 → BitVec 19 → BitVec 19 → List (BitVec 64) → Instr) × (Byte → Byte)

/-- The sixteen opcodes of the A unit outside a repeat (R230). -/
def aUnit : List Binary :=
  [(.add, fun x y => x + y), (.sub, fun x y => x - y), (.and, fun x y => x &&& y), (.or, fun x y => x ||| y),
    (.xor, fun x y => x ^^^ y), (.addss, fun x y => BitVec.ofInt 8 (max (-128) (min 127 (x.toInt + y.toInt)))),
    (.shl, fun x y => x <<< (y.toNat % 8)), (.shr, fun x y => x >>> (y.toNat % 8)),
    (.sar, fun x y => x.sshiftRight (y.toNat % 8)), (.rol, fun x y => x.rotateLeft (y.toNat % 8)),
    (.ror, fun x y => x.rotateRight (y.toNat % 8)), (.min, fun x y => if x.toNat ≤ y.toNat then x else y),
    (.max, fun x y => if x.toNat ≤ y.toNat then y else x), (.mins, fun x y => if x.toInt ≤ y.toInt then x else y),
    (.maxs, fun x y => if x.toInt ≤ y.toInt then y else x),
    (.addsu, fun x y => if x.toNat + y.toNat ≤ 255 then x + y else 255)]

/-- The bits of a byte from 7 down, and from 0 up, as a list. -/
def bitsUp (x : Byte) : List Bool := (List.range 8).map x.getLsbD

/-- The byte whose bits `lo` to `lo + w - 1` are 1, none above bit 7 (R231). -/
def maskOf (f : Byte) : Byte := (BitVec.ofNat 8 (2 ^ (f.toNat / 8 % 8 + 1) - 1)) <<< (f.toNat % 8)

/-- The B-unit opcodes of one byte (R231). -/
def bUnary : List Unary :=
  [(.par, fun x => if (bitsUp x).count true % 2 = 1 then 1 else 0), (.brev, fun x => x.reverse),
    (.popc, fun x => BitVec.ofNat 8 ((bitsUp x).count true)),
    (.clz, fun x => BitVec.ofNat 8 (((bitsUp x).reverse.takeWhile (!·)).length)),
    (.ctz, fun x => BitVec.ofNat 8 (((bitsUp x).takeWhile (!·)).length))]

/-- The B-unit opcodes of two bytes (R231). -/
def bBinary : List Binary :=
  [(.brevn, fun x y => let n := if y.toNat % 16 = 0 ∨ 8 < y.toNat % 16 then 8 else y.toNat % 16
      x.reverse >>> (8 - n)),
    (.bset, fun x y => x ||| (1 : Byte) <<< (y.toNat % 8)), (.bclr, fun x y => x &&& ~~~((1 : Byte) <<< (y.toNat % 8))),
    (.btst, fun x y => x >>> (y.toNat % 8) &&& 1), (.btog, fun x y => x ^^^ (1 : Byte) <<< (y.toNat % 8)),
    (.bext, fun x y => (x &&& maskOf y) >>> (y.toNat % 8))]

/-- One byte stepped into a reflected CRC register of `w` bits (R232). -/
def crcOf (w : Nat) (poly reg : BitVec w) (y : Byte) : BitVec w :=
  (List.range 8).foldl (fun c _ => if c.getLsbD 0 then (c >>> 1) ^^^ poly else c >>> 1) (reg ^^^ y.setWidth w)

end Sys2Proof.Claims

/-- The A unit (R230, R238): every opcode writes the result of its table to Z, whatever forms its operands have, and moves
pointers and PC; outside a repeat RX stays. While ACT is 1, ADD and SUB take the carry or borrow from CY and leave theirs
there, and SHL and SHR take the bits of SPILL and leave X there. -/
def Obligations.ArithmeticWritesResults : Prop :=
  (∀ (p : Binary) (n : Fin 12) (x y z : BitVec 19) (vx vy a : Nat), p ∈ aUnit → Issues (p.1 n x y z [])
    (fun u => Ready1 n u ∧ acting n u = false ∧ Reads n x 1 vx u ∧ Reads n y 1 vy u ∧ Names n z 1 a u)
    (fun u t => t = passTo n [x, y, z] (pcOf n u + 1) (stored n a [p.2 (BitVec.ofNat 8 vx) (BitVec.ofNat 8 vy)] u))) ∧
  (∀ (p : Binary) (n : Fin 12) (x y z : BitVec 19) (vx vy a : Nat), p ∈ aUnit →
    p.1 n x y z [] ∉ [.add n x y z [], .sub n x y z [], .shl n x y z [], .shr n x y z []] → Issues (p.1 n x y z [])
    (fun u => Ready1 n u ∧ NoLoop n u ∧ Reads n x 1 vx u ∧ Reads n y 1 vy u ∧ Names n z 1 a u)
    (fun u t => t = passTo n [x, y, z] (pcOf n u + 1) (stored n a [p.2 (BitVec.ofNat 8 vx) (BitVec.ofNat 8 vy)] u))) ∧
  (∀ (n : Fin 12) (x y z : BitVec 19) (vx vy a : Nat), Issues (.add n x y z [])
    (fun u => Ready1 n u ∧ acting n u = true ∧ NoLoop n u ∧ Reads n x 1 vx u ∧ Reads n y 1 vy u ∧ Names n z 1 a u)
    (fun u t =>
      let rx := u.drovers[n].byte 0x1E
      let r := vx + vy + rx % 2
      t = passTo n [x, y, z] (pcOf n u + 1)
        ((stored n a [BitVec.ofNat 8 r] u).modDrv n (·.setByte 0x1E (rx / 2 * 2 + r / 256))))) ∧
  (∀ (n : Fin 12) (x y z : BitVec 19) (vx vy a : Nat), Issues (.sub n x y z [])
    (fun u => Ready1 n u ∧ acting n u = true ∧ NoLoop n u ∧ Reads n x 1 vx u ∧ Reads n y 1 vy u ∧ Names n z 1 a u)
    (fun u t =>
      let rx := u.drovers[n].byte 0x1E
      t = passTo n [x, y, z] (pcOf n u + 1) ((stored n a [BitVec.ofNat 8 (512 + vx - vy - rx % 2)] u).modDrv n
        (·.setByte 0x1E (rx / 2 * 2 + if vx < vy + rx % 2 then 1 else 0))))) ∧
  (∀ (n : Fin 12) (x y z : BitVec 19) (vx vy a : Nat), Issues (.shl n x y z [])
    (fun u => Ready1 n u ∧ acting n u = true ∧ NoLoop n u ∧ Reads n x 1 vx u ∧ Reads n y 1 vy u ∧ Names n z 1 a u)
    (fun u t => t = passTo n [x, y, z] (pcOf n u + 1)
      ((stored n a [BitVec.ofNat 8 vx <<< (vy % 8) ||| BitVec.ofNat 8 (u.drovers[n].byte 0x1F) >>> (8 - vy % 8)] u).modDrv n
        (·.setByte 0x1F vx)))) ∧
  ∀ (n : Fin 12) (x y z : BitVec 19) (vx vy a : Nat), Issues (.shr n x y z [])
    (fun u => Ready1 n u ∧ acting n u = true ∧ NoLoop n u ∧ Reads n x 1 vx u ∧ Reads n y 1 vy u ∧ Names n z 1 a u)
    (fun u t => t = passTo n [x, y, z] (pcOf n u + 1)
      ((stored n a [BitVec.ofNat 8 vx >>> (vy % 8) ||| BitVec.ofNat 8 (u.drovers[n].byte 0x1F) <<< (8 - vy % 8)] u).modDrv n
        (·.setByte 0x1F vx)))

/-- The B unit (R231, R232): every opcode writes the result of its table to Z, in and out of a repeat; BINS keeps the bits
of Z outside the field. -/
def Obligations.BitOperationsWriteResults : Prop :=
  (∀ (p : Unary) (n : Fin 12) (x z : BitVec 19) (vx a : Nat), p ∈ bUnary → Issues (p.1 n x hash0 z [])
    (fun u => Ready1 n u ∧ NoLoop n u ∧ Reads n x 1 vx u ∧ Names n z 1 a u)
    (fun u t => t = passTo n [x, z] (pcOf n u + 1) (stored n a [p.2 (BitVec.ofNat 8 vx)] u))) ∧
  (∀ (p : Binary) (n : Fin 12) (x y z : BitVec 19) (vx vy a : Nat), p ∈ bBinary → Issues (p.1 n x y z [])
    (fun u => Ready1 n u ∧ NoLoop n u ∧ Reads n x 1 vx u ∧ Reads n y 1 vy u ∧ Names n z 1 a u)
    (fun u t => t = passTo n [x, y, z] (pcOf n u + 1) (stored n a [p.2 (BitVec.ofNat 8 vx) (BitVec.ofNat 8 vy)] u))) ∧
  (∀ (n : Fin 12) (x y z : BitVec 19) (vx vy a : Nat), Issues (.bins n x y z [])
    (fun u => Ready1 n u ∧ NoLoop n u ∧ Reads n x 1 vx u ∧ Reads n y 1 vy u ∧ Names n z 1 a u)
    (fun u t =>
      let m := maskOf (BitVec.ofNat 8 vy)
      t = passTo n [x, y, z] (pcOf n u + 1)
        (stored n a [(cell n u a &&& ~~~m) ||| (BitVec.ofNat 8 vx <<< (vy % 8) &&& m)] u))) ∧
  (∀ (n : Fin 12) (x y z : BitVec 19) (vx vy a : Nat), Issues (.crc16 n x y z [])
    (fun u => Ready1 n u ∧ NoLoop n u ∧ Reads n x 2 vx u ∧ Reads n y 1 vy u ∧ Names n z 2 a u)
    (fun u t => t = passTo n [x, y, z] (pcOf n u + 1)
      (stored n a (leBytes 2 (crcOf 16 0x8408 (BitVec.ofNat 16 vx) (BitVec.ofNat 8 vy)).toNat) u))) ∧
  (∀ (n : Fin 12) (x y z : BitVec 19) (vx vy a : Nat), Issues (.crc32 n x y z [])
    (fun u => Ready1 n u ∧ NoLoop n u ∧ Reads n x 4 vx u ∧ Reads n y 1 vy u ∧ Names n z 4 a u)
    (fun u t => t = passTo n [x, y, z] (pcOf n u + 1)
      (stored n a (leBytes 4 (crcOf 32 0xEDB88320 (BitVec.ofNat 32 vx) (BitVec.ofNat 8 vy)).toNat) u))) ∧
  ∀ (n : Fin 12) (x y z : BitVec 19) (vx vy a : Nat), Issues (.crcp n x y z [])
    (fun u => Ready1 n u ∧ NoLoop n u ∧ Reads n x 4 vx u ∧ Reads n y 1 vy u ∧ Names n z 2 a u)
    (fun u t => t = passTo n [x, y, z] (pcOf n u + 1)
      (stored n a (leBytes 2 (crcOf 16 (BitVec.ofNat 16 (vx / 65536)) (BitVec.ofNat 16 vx) (BitVec.ofNat 8 vy)).toNat) u))


namespace Sys2Proof.Claims

/-- The repeat that a string opcode starts at `pc` (R237): RS and RD are `pc`, HIT is 0, ACT and SELF are 1, CY stays. -/
def startedAt (n : Fin 12) (pc : Nat) (u : State) : State :=
  u.modDrv n fun d => ((d.setPair 0x1A pc).setPair 0x1C pc).setByte 0x1E (d.byte 0x1E % 2 + 12)

/-- The end of a string's iteration (R237): HIT is set on `hit`, the pointers move, RC falls, and the same bundle comes
again unless RC is 0 or HIT is 1; then the repeat is over. -/
def iterated (n : Fin 12) (os : List (BitVec 19)) (hit : Bool) (rc pc : Nat) (t : State) : State :=
  let t1 := if hit then t.modDrv n fun d => d.setByte 0x1E (d.byte 0x1E + 2) else t
  let t2 := passTo n os (if rc = 1 ∨ hit = true then pc + 1 else pc) t1
  t2.modDrv n fun d => if rc = 1 ∨ hit = true then (d.setPair 0x18 (rc - 1)).endRepeat else d.setPair 0x18 (rc - 1)

/-- A string opcode may start at its bundle: nothing is being repeated, and RC is `rc`. -/
abbrev StringStart (n : Fin 12) (rc : Nat) (u : State) : Prop :=
  Ready1 n u ∧ acting n u = false ∧ u.drovers[n].pair 0x18 = rc

/-- `w` bytes at `a` that hold what is written and are no engine register but G and P. -/
abbrev Clear (a w : Nat) : Prop := a + w ≤ 0x18 ∨ 0x100 ≤ a

/-- The word of one syllable. -/
def sylWord (last : Bool) (unit op : Nat) (x y z : BitVec 19) : BitVec 64 :=
  BitVec.ofNat 64 ((if last then 2 ^ 63 else 0) + unit * 2 ^ 61 + op * 2 ^ 57 + x.toNat * 2 ^ 38 + y.toNat * 2 ^ 19 + z.toNat)

end Sys2Proof.Claims

/-- The M unit (R229, R237): the moves write X to Z, MOVZ and MOVS extended; LEA writes the address of X; XCH and XCH2
exchange (X is written first: the model's order, which shows only where the two overlap). A string opcode with RC = 0 does
nothing; with RC ≥ 1 it starts the repeat, does one element and counts RC down, and comes again unless RC reached 0 or HIT
was set. -/
def Sys2Proof.Claims.MovesWriteZ : Prop :=
  (∀ (p : (Fin 12 → BitVec 19 → BitVec 19 → BitVec 19 → List (BitVec 64) → Instr) × Nat) (n : Fin 12) (x z : BitVec 19)
    (v a : Nat), p ∈ [(Instr.mov, 1), (Instr.mov2, 2), (Instr.mov4, 4), (Instr.movg, 16)] → Issues (p.1 n x hash0 z [])
    (fun u => Ready1 n u ∧ NoLoop n u ∧ Reads n x p.2 v u ∧ Names n z p.2 a u)
    (fun u t => t = passTo n [x, z] (pcOf n u + 1) (stored n a (leBytes p.2 v) u))) ∧
  (∀ (n : Fin 12) (x z : BitVec 19) (v a : Nat), Issues (.movz n x hash0 z [])
    (fun u => Ready1 n u ∧ NoLoop n u ∧ Reads n x 1 v u ∧ Names n z 2 a u)
    (fun u t => t = passTo n [x, z] (pcOf n u + 1) (stored n a [BitVec.ofNat 8 v, 0] u))) ∧
  (∀ (n : Fin 12) (x z : BitVec 19) (v a : Nat), Issues (.movs n x hash0 z [])
    (fun u => Ready1 n u ∧ NoLoop n u ∧ Reads n x 1 v u ∧ Names n z 2 a u)
    (fun u t => t = passTo n [x, z] (pcOf n u + 1) (stored n a [BitVec.ofNat 8 v, if 128 ≤ v then 0xFF else 0] u))) ∧
  (∀ (n : Fin 12) (x z : BitVec 19) (e a : Nat), Issues (.lea n x hash0 z [])
    (fun u => Ready1 n u ∧ NoLoop n u ∧ At n x e u ∧ Names n z 2 a u)
    (fun u t => t = passTo n [x, z] (pcOf n u + 1) (stored n a (leBytes 2 e) u))) ∧
  (∀ (p : (Fin 12 → BitVec 19 → BitVec 19 → BitVec 19 → List (BitVec 64) → Instr) × Nat) (n : Fin 12) (x z : BitVec 19)
    (a b : Nat), p ∈ [(Instr.xch, 1), (Instr.xch2, 2)] → Issues (p.1 n x hash0 z [])
    (fun u => Ready1 n u ∧ NoLoop n u ∧ Names n x p.2 a u ∧ Sound n a p.2 u ∧ Names n z p.2 b u ∧ Sound n b p.2 u)
    (fun u t => t = passTo n [x, z] (pcOf n u + 1)
      (stored n b (leBytes p.2 (cells n a p.2 u)) (stored n a (leBytes p.2 (cells n b p.2 u)) u)))) ∧
  (∀ (p : (Fin 12 → BitVec 19 → BitVec 19 → BitVec 19 → List (BitVec 64) → Instr) × Nat × Nat × (Nat → List Byte))
    (n : Fin 12) (x z : BitVec 19) (v a rc : Nat),
    p ∈ [(Instr.smov, 1, 1, leBytes 1), (Instr.smovg, 16, 16, leBytes 16),
      (Instr.sfillg, 1, 16, fun v => List.replicate 16 (BitVec.ofNat 8 v))] → Issues (p.1 n x hash0 z [])
    (fun u => StringStart n rc u ∧ Reads n x p.2.1 v (startedAt n (pcOf n u) u) ∧ Names n z p.2.2.1 a u ∧ Clear a p.2.2.1)
    (fun u t =>
      (rc = 0 → t = u.put (F.DRV_n_PC_PC n) (pcOf n u + 1)) ∧
      (1 ≤ rc → t = iterated n [x, z] false rc (pcOf n u) (stored n a (p.2.2.2 v) (startedAt n (pcOf n u) u))))) ∧
  ∀ (p : (Fin 12 → BitVec 19 → BitVec 19 → BitVec 19 → List (BitVec 64) → Instr) × (Nat → Nat → Bool)) (n : Fin 12)
    (x y : BitVec 19) (vx vy rc : Nat),
    p ∈ [(Instr.scmp, fun a b => a != b), (Instr.scan, fun a b => a == b), (Instr.scann, fun a b => a != b)] →
    Issues (p.1 n x y hash0 [])
    (fun u => StringStart n rc u ∧ Reads n x 1 vx (startedAt n (pcOf n u) u) ∧ Reads n y 1 vy (startedAt n (pcOf n u) u))
    (fun u t =>
      (rc = 0 → t = u.put (F.DRV_n_PC_PC n) (pcOf n u + 1)) ∧
      (1 ≤ rc → t = iterated n [x, y] (p.2 vx vy) rc (pcOf n u) (startedAt n (pcOf n u) u)))

/-- Bundles of several syllables (R210, R228): every operand is read before any result is written, so a MOV and an A-unit
syllable each see what the bundle found; of two results for one byte the later unit's stands, and the PC moves past both.
A repeated block (R237): at the bundle that starts at RD, RC falls and the next bundle is the one at RS, until RC is 0. -/
def Sys2Proof.Claims.BundlesReadBeforeTheyWrite : Prop :=
  (∀ (p : Binary) (n : Fin 12) (k : Nat) (x z x' y' z' : BitVec 19) (v a vx vy b : Nat), aUnit[k]? = some p →
    Issues (.mov n x hash0 z [sylWord true 1 k x' y' z'])
    (fun u => Ready1 n u ∧ pcOf n u < 8190 ∧ acting n u = false ∧ Reads n x 1 v u ∧ Names n z 1 a u ∧
      Reads n x' 1 vx u ∧ Reads n y' 1 vy u ∧ Names n z' 1 b u ∧
      x'.toNat / 65536 ≠ 6 ∧ y'.toNat / 65536 ≠ 6 ∧ z'.toNat / 65536 ≠ 6)
    (fun u t => t = passTo n [x, z, x', y', z'] (pcOf n u + 2)
      (stored n b [p.2 (BitVec.ofNat 8 vx) (BitVec.ofNat 8 vy)] (stored n a [BitVec.ofNat 8 v] u)))) ∧
  ∀ (n : Fin 12) (x z : BitVec 19) (v a : Nat), Issues (.mov n x hash0 z [])
    (fun u => Ready1 n u ∧ acting n u = true ∧ (u.drovers[n].byte 0x1E).testBit 1 = false ∧
      u.drovers[n].pair 0x1C % 8192 = pcOf n u ∧ 1 ≤ u.drovers[n].pair 0x18 ∧ Reads n x 1 v u ∧ Names n z 1 a u ∧ Clear a 1)
    (fun u t =>
      let rc := u.drovers[n].pair 0x18
      t = (passTo n [x, z] (if rc = 1 then pcOf n u + 1 else u.drovers[n].pair 0x1A % 8192)
        (stored n a [BitVec.ofNat 8 v] u)).modDrv n fun d =>
          if rc = 1 then (d.setPair 0x18 0).endRepeat else d.setPair 0x18 (rc - 1))

/-- Moves and copies write Z, and a bundle reads every operand before it writes any. -/
def Obligations.MovesAndBundlesWriteResults : Prop :=
  Sys2Proof.Claims.MovesWriteZ ∧ Sys2Proof.Claims.BundlesReadBeforeTheyWrite


namespace Sys2Proof.Claims

/-- Operand `o` names byte `off` of the device registers (R209). -/
abbrev NamesReg (n : Fin 12) (o : BitVec 19) (off : Nat) (u : State) : Prop :=
  ∃ a, At n o a u ∧ 0xF000 ≤ a ∧ u.drovers[n].pair 0x28 < 0x190 ∧ off = u.drovers[n].pair 0x28 * 4096 + (a - 0xF000)

end Sys2Proof.Claims

/-- Device registers from a Drover (R29, R212): a read of byte 0 reads the register whole and latches it; a read of byte 1
to 3 answers from the latch. A write of byte 1 to 3 stages it, discarding what another register had staged; a write of byte
0 writes the register whole, with the bytes staged for it and zeros elsewhere. And the engine registers: a write to ECR,
EVEN or SPC stores them, ENDH ends handler state, and ones written to EVIN clear it. -/
def Obligations.DroversReachRegisters : Prop :=
  (∀ (n : Fin 12) (x z : BitVec 19) (off a : Nat), off % 4 = 0 → off ≠ R.SPI_MW_DATA → Issues (.mov n x hash0 z [])
    (fun u => Ready1 n u ∧ acting n u = false ∧ NamesReg n x off u ∧ Names n z 1 a u ∧ (readReg off u).2 = u)
    (fun u t =>
      let w := (readReg off u).1
      t = passTo n [x, z] (pcOf n u + 1) (stored n a [w.extractLsb' 0 8] (u.modDrv n fun d =>
        { d with latch := some ⟨off, [(0, w.extractLsb' 0 8), (1, w.extractLsb' 8 8), (2, w.extractLsb' 16 8),
          (3, w.extractLsb' 24 8)]⟩ })))) ∧
  (∀ (n : Fin 12) (x z : BitVec 19) (off a : Nat) (b0 b1 b2 b3 : Byte), off % 4 ≠ 0 → Issues (.mov n x hash0 z [])
    (fun u => Ready1 n u ∧ acting n u = false ∧ NamesReg n x off u ∧ Names n z 1 a u ∧
      u.drovers[n].latch = some ⟨off / 4 * 4, [(0, b0), (1, b1), (2, b2), (3, b3)]⟩)
    (fun u t => t = passTo n [x, z] (pcOf n u + 1) (stored n a [[b0, b1, b2, b3].getD (off % 4) 0] u))) ∧
  (∀ (n : Fin 12) (x z : BitVec 19) (off v : Nat), off % 4 ≠ 0 → Issues (.mov n x hash0 z [])
    (fun u => Ready1 n u ∧ acting n u = false ∧ Reads n x 1 v u ∧ NamesReg n z off u ∧
      ∀ l, u.drovers[n].stage = some l → l.reg ≠ off / 4 * 4)
    (fun u t => t = passTo n [x, z] (pcOf n u + 1)
      (u.modDrv n fun d => { d with stage := some ⟨off / 4 * 4, [(off % 4, BitVec.ofNat 8 v)]⟩ }))) ∧
  (∀ (n : Fin 12) (x z : BitVec 19) (off v : Nat) (b1 b2 b3 : Byte), off % 4 = 0 → Issues (.mov n x hash0 z [])
    (fun u =>
      let w := writeReg (.drover n) off (leNat [BitVec.ofNat 8 v, b1, b2, b3])
        (u.modDrv n fun d => { d with stage := none, issuing := true })
      Ready1 n u ∧ acting n u = false ∧ Reads n x 1 v u ∧ NamesReg n z off u ∧
        u.drovers[n].stage = some ⟨off, [(1, b1), (2, b2), (3, b3)]⟩ ∧ Ready1 n (w.modDrv n fun d => { d with issuing := false }) ∧
        acting n w = false)
    (fun u t => t = (passTo n [x, z] (pcOf n u + 1)
      (writeReg (.drover n) off (leNat [BitVec.ofNat 8 v, b1, b2, b3])
        (u.modDrv n fun d => { d with stage := none, issuing := true }))).modDrv n fun d => { d with issuing := false })) ∧
  (∀ (n : Fin 12) (v : Byte), Issues (.mov n (0x10000 + v.setWidth 19) hash0 0x2A [])
    (fun u => Ready1 n u ∧ acting n u = false ∧ u.on (F.DRV_n_STAT_INH n) = true)
    (fun u t =>
      let t1 := u.modDrv n fun d => { d with ie := v.getLsbD 0, tvec := v.getLsbD 1 }
      t = passTo n [] (pcOf n u + 1) (if v.getLsbD 2 then t1.put (F.DRV_n_STAT_INH n) 0 else t1))) ∧
  (∀ (n : Fin 12) (x : BitVec 19) (v : Nat), Issues (.mov4 n x hash0 0x34 [])
    (fun u => Ready1 n u ∧ acting n u = false ∧ Reads n x 4 v u ∧ u.drovers[n].even < 2 ^ 32)
    (fun u t => t = passTo n [x] (pcOf n u + 1) (u.modDrv n fun d => { d with even := v }))) ∧
  (∀ (n : Fin 12) (x : BitVec 19) (v : Nat), Issues (.mov2 n x hash0 0x3A [])
    (fun u => Ready1 n u ∧ acting n u = false ∧ Reads n x 2 v u ∧ u.drovers[n].spc < 2 ^ 16)
    (fun u t => t = passTo n [x] (pcOf n u + 1) (u.modDrv n fun d => { d with spc := v }))) ∧
  ∀ (n : Fin 12) (v : Nat), v < 65536 → Issues (.mov4 n (BitVec.ofNat 19 (0x10000 + v)) hash0 0x30 [])
    (fun u => Ready1 n u ∧ acting n u = false)
    (fun u t => t.get (F.DRV_n_EVPEND_PEND n) = u.get (F.DRV_n_EVPEND_PEND n) - (u.get (F.DRV_n_EVPEND_PEND n) &&& v) ∧
      pcOf n t = pcOf n u + 1 ∧ OnlyRegs [R.DRV_n_EVPEND n, R.DRV_n_PC n] u t)

namespace Sys2Proof.Claims

/-- A taken transfer to `pc`: the pointers move, and a repeat in progress ends, ACT and SELF of RX becoming 0 (R237). -/
def transferred (n : Fin 12) (os : List (BitVec 19)) (pc : Nat) (u : State) : State :=
  if acting n u then (passTo n os pc u).modDrv n (·.endRepeat) else passTo n os pc u

/-- The six comparisons (R233, R235): the row of service decode, the row of recovery decode, and the test. -/
def compares : List ((Fin 12 → BitVec 19 → BitVec 19 → BitVec 19 → List (BitVec 64) → Instr) ×
    (Fin 12 → BitVec 19 → BitVec 19 → BitVec 19 → List (BitVec 64) → Instr) × (Byte → Byte → Bool)) :=
  [(.cbeq, .seq, fun x y => x == y), (.cbne, .sne, fun x y => x != y), (.cblt, .slt, fun x y => x.slt y),
    (.cbge, .sge, fun x y => !x.slt y), (.cbltu, .sltu, fun x y => x.ult y), (.cbgeu, .sgeu, fun x y => !x.ult y)]

/-- What EST shows of Drover `n` (the table of engine registers). -/
def estOf (n : Fin 12) (u : State) : Nat :=
  let d := u.drovers[n]
  u.get (F.DRV_n_STAT_PERS n) + 2 * u.get (F.DRV_n_STAT_BANK n) + 4 * u.get (F.DRV_n_STAT_INH n) + 8 * (d.entry % 8) +
    64 * (if d.lostctx then 1 else 0) + 128 * (if d.swpend then 1 else 0) + 256 * u.get (F.MAN_DRV_n_ROLE n) +
    4096 * u.get (F.MAN_DRV_n_ORD n)

/-- Drover `n` has entered its TRAP vector (R214, R217): the saved registers, INH, ENTRY 6, IE clear, TCAUSE, the PC at 32. -/
abbrev TrapEntered (n : Fin 12) (cause back : Nat) (u t : State) : Prop :=
  t.drovers[n] = { u.drovers[n] with
    spc := back, sest := estOf n u, savedLatch := u.drovers[n].latch, savedStage := u.drovers[n].stage,
    savedIe := u.drovers[n].ie, ie := false, entry := 6, tcause := cause, waitMask := 0 } ∧
  (∀ k : Fin 12, k ≠ n → t.drovers[k] = u.drovers[k]) ∧ pcOf n t = 32 ∧ t.get (F.DRV_n_STAT_INH n) = 1 ∧
  OnlyRegs [R.DRV_n_PC n, R.DRV_n_STAT n] { u with drovers := t.drovers } t

/-- Drover `n` stands TRAPPED (R217): DRV_n_TRAP holds the cause and the bundle, DRV_TRAP is logged with its number. -/
abbrev Trapped (n : Fin 12) (cause : Nat) (u t : State) : Prop :=
  t.get (F.DRV_n_STAT_STATE n) = 4 ∧ t.get (F.DRV_n_TRAP_CAUSE n) = cause ∧ t.get (F.DRV_n_TRAP_PC n) = pcOf n u ∧
  t.get (F.DRV_n_TRAP_VALID n) = 1 ∧ t.drovers[n].tcause = cause ∧
  (∃ more, t.faults.log = u.faults.log ++ ⟨0x05, 2, n, u.stamp⟩ :: more) ∧ t.staged = u.staged ∧
  Signals [R.DRV_n_PC n, R.DRV_n_STAT n, R.DRV_n_TRAP n, R.TICK_CANCEL] { u with drovers := t.drovers } t

/-- Drover `n` takes traps at its own vector. -/
abbrev OwnTraps (n : Fin 12) (u : State) : Prop := u.drovers[n].tvec = true ∧ u.on (F.DRV_n_STAT_INH n) = false

/-- Drover `n` has no trap vector of its own, does not hold the fault role, and has staged no air item. -/
abbrev NoTrapVector (n : Fin 12) (u : State) : Prop :=
  u.drovers[n].tvec = false ∧ u.get (F.MAN_DRV_n_ROLE n) ≠ 7 ∧ u.staged = []

end Sys2Proof.Claims

/-- The C unit (R233 to R237): comparisons branch in service decode and write 0 or 1 in recovery decode; BZ and BNZ test a
byte; JMP and CALL go to their target, CALL pushing the next bundle's address; RET pops it; REP sets the repeat's registers
or, with count 0, goes on behind the bundle at Y; FIRE fires its channel; WAIT passes where an input of its mask is pending,
and else waits; HALT halts, as long as the lifecycle allows it. -/
def Obligations.ControlTransfersGoWhereTheySay : Prop :=
  (∀ (n : Fin 12) (x y z : BitVec 19) (vx vy tgt : Nat), ∀ p ∈ compares, ∀ row ∈ [p.1, p.2.1], Issues (row n x y z [])
    (fun u => Ready1 n u ∧ NoLoop n u ∧ u.get (F.DRV_n_STAT_PERS n) = 0 ∧ Reads n x 1 vx u ∧ Reads n y 1 vy u ∧
      Reads n z 2 tgt u ∧ tgt ≤ 8191)
    (fun u t => t = if p.2.2 (BitVec.ofNat 8 vx) (BitVec.ofNat 8 vy) then transferred n [x, y, z] tgt u
      else passTo n [x, y, z] (pcOf n u + 1) u)) ∧
  (∀ (n : Fin 12) (x y z : BitVec 19) (vx vy a : Nat), ∀ p ∈ compares, ∀ row ∈ [p.1, p.2.1], Issues (row n x y z [])
    (fun u => Ready1 n u ∧ NoLoop n u ∧ u.get (F.DRV_n_STAT_PERS n) = 1 ∧ Reads n x 1 vx u ∧ Reads n y 1 vy u ∧
      Names n z 1 a u)
    (fun u t => t = passTo n [x, y, z] (pcOf n u + 1)
      (stored n a [if p.2.2 (BitVec.ofNat 8 vx) (BitVec.ofNat 8 vy) then 1 else 0] u))) ∧
  (∀ (n : Fin 12) (x z : BitVec 19) (vx tgt : Nat), Issues (.bz n x hash0 z [])
    (fun u => Ready1 n u ∧ NoLoop n u ∧ Reads n x 1 vx u ∧ Reads n z 2 tgt u ∧ tgt ≤ 8191)
    (fun u t => t = if vx = 0 then transferred n [x, z] tgt u else passTo n [x, z] (pcOf n u + 1) u)) ∧
  (∀ (n : Fin 12) (x z : BitVec 19) (vx tgt : Nat), Issues (.bnz n x hash0 z [])
    (fun u => Ready1 n u ∧ NoLoop n u ∧ Reads n x 1 vx u ∧ Reads n z 2 tgt u ∧ tgt ≤ 8191)
    (fun u t => t = if vx = 0 then passTo n [x, z] (pcOf n u + 1) u else transferred n [x, z] tgt u)) ∧
  (∀ (n : Fin 12) (z : BitVec 19) (tgt : Nat), Issues (.jmp n hash0 hash0 z [])
    (fun u => Ready1 n u ∧ Reads n z 2 tgt u ∧ tgt ≤ 8191) (fun u t => t = transferred n [z] tgt u)) ∧
  (∀ (n : Fin 12) (z : BitVec 19) (tgt : Nat), Issues (.call n hash0 hash0 z [])
    (fun u => Ready1 n u ∧ Reads n z 2 tgt u ∧ tgt ≤ 8191 ∧ u.drovers[n].rstk.length < 8)
    (fun u t => t = (transferred n [z] tgt u).modDrv n fun d => { d with rstk := d.rstk ++ [pcOf n u + 1] })) ∧
  (∀ (n : Fin 12) (stk : List Nat) (top : Nat), top ≤ 8191 → Issues (.ret n hash0 hash0 hash0 [])
    (fun u => Ready1 n u ∧ u.drovers[n].rstk = stk ++ [top])
    (fun u t => t = (transferred n [] top u).modDrv n fun d => { d with rstk := stk })) ∧
  (∀ (n : Fin 12) (x y z : BitVec 19) (c last f : Nat), 1 ≤ c → f < 4 → Issues (.rep n x y z [])
    (fun u => Ready1 n u ∧ Reads n x 2 c u ∧ Reads n y 2 last u ∧ Reads n z 1 f u ∧ pcOf n u < last ∧ last ≤ 8191)
    (fun u t => t = (passTo n [x, y, z] (pcOf n u + 1) u).modDrv n fun d =>
      (((d.setPair 0x18 c).setPair 0x1A (pcOf n u + 1)).setPair 0x1C last).setPair 0x1E
        (4 + f % 2 + if 2 ≤ f then 0xFF00 else 0))) ∧
  (∀ (n : Fin 12) (x y z : BitVec 19) (last f : Nat), f < 4 → Issues (.rep n x y z [])
    (fun u => Ready1 n u ∧ Reads n x 2 0 u ∧ Reads n y 2 last u ∧ Reads n z 1 f u ∧ pcOf n u < last ∧ last < 8191 ∧
      (sget (fun _ => 0) (if u.get (F.DRV_n_STAT_BANK n) = 0 then u.drovers[n].bank0 else u.drovers[n].bank1) last).getLsbD 63
        = true)
    (fun u t => t = (passTo n [x, y, z] (last + 1) u).modDrv n fun d =>
      ((d.setPair 0x18 0).setRx 1 false).endRepeat)) ∧
  (∀ (n : Fin 12) (x : BitVec 19) (vx : Nat), Issues (.fire n x hash0 hash0 [])
    (fun u => Ready1 n u ∧ NoLoop n u ∧ Reads n x 1 vx u)
    (fun u t => t = passTo n [x] (pcOf n u + 1) (swFire (.drover n) (vx % 64) u))) ∧
  (∀ (n : Fin 12) (x : BitVec 19) (m : Nat), Issues (.wait n x hash0 hash0 [])
    (fun u => Ready1 n u ∧ (acting n u = false ∨ pcOf n u < u.drovers[n].pair 0x1C % 8192) ∧ Reads n x 4 m u)
    (fun u t => t = if u.get (F.DRV_n_EVPEND_PEND n) &&& m ≠ 0 then passTo n [x] (pcOf n u + 1) u
      else ((passTo n [x] (pcOf n u) u).put (F.DRV_n_STAT_STATE n) 2).modDrv n fun d =>
        { d with waitMask := m, waitFrom := pcOf n u })) ∧
  ∀ n : Fin 12, Issues (.halt n hash0 hash0 hash0 [])
    (fun u => Ready1 n u ∧ NoLoop n u ∧ u.fuses.life < 2)
    (fun u t => t = (u.put (F.DRV_n_PC_PC n) (pcOf n u + 1)).put (F.DRV_n_STAT_STATE n) 3)

/-- Traps and the return from a vector (R214, R215, R217, R225, R234): TRAP, and HALT in lifecycle LOCKED and RETIRED,
complete and trap SOFT behind their bundle; an operand in mode 0b111 traps ILLEGAL, a call with 8 return addresses RSOVF, a
return with none RSUNF, a jump above 8,191 IADDR and a read of a poisoned granule POISON, at their own bundle and with no
effect but what the read does in the Serai; a return above 8,191 traps IADDR at the address it goes to. A Drover with its
own trap vector enters it; any other stands TRAPPED, with fault DRV_TRAP raised. The interrupt return restores what the entry saved and
clears INH; while INH is 0 it traps ILLEGAL. -/
def Obligations.TrapsAreEntered : Prop :=
  (∀ n : Fin 12, Issues (.trap n hash0 hash0 hash0 [])
    (fun u => Ready1 n u ∧ acting n u = false ∧ OwnTraps n u) (fun u t => TrapEntered n 7 (pcOf n u + 1) u t)) ∧
  (∀ n : Fin 12, Issues (.trap n hash0 hash0 hash0 [])
    (fun u => Ready1 n u ∧ acting n u = false ∧ NoTrapVector n u) (fun u t => Trapped n 7 u t ∧ pcOf n t = pcOf n u + 1)) ∧
  (∀ n : Fin 12, Issues (.halt n hash0 hash0 hash0 [])
    (fun u => Ready1 n u ∧ acting n u = false ∧ OwnTraps n u ∧ 2 ≤ u.fuses.life)
    (fun u t => TrapEntered n 7 (pcOf n u + 1) u t)) ∧
  (∀ (n : Fin 12) (y z : BitVec 19) (x : Nat), 0x70000 ≤ x → x < 0x80000 →
    ∀ row ∈ [Instr.mov, .add, .crc16, .cbeq, .rep], Issues (row n (BitVec.ofNat 19 x) y z [])
    (fun u => Ready1 n u ∧ OwnTraps n u ∧ y = hash0 ∧ z = hash0) (fun u t => TrapEntered n 1 (pcOf n u) u t)) ∧
  (∀ (n : Fin 12) (y z : BitVec 19) (x : Nat), 0x70000 ≤ x → x < 0x80000 → Issues (.mov n (BitVec.ofNat 19 x) y z [])
    (fun u => Ready1 n u ∧ NoTrapVector n u ∧ y = hash0 ∧ z = 0)
    (fun u t => Trapped n 1 u t ∧ pcOf n t = pcOf n u ∧ t.drovers[n].ram = u.drovers[n].ram)) ∧
  (∀ (n : Fin 12) (tgt : Nat), tgt < 65536 → Issues (.call n hash0 hash0 (BitVec.ofNat 19 (0x10000 + tgt)) [])
    (fun u => Ready1 n u ∧ OwnTraps n u ∧ u.drovers[n].rstk.length = 8) (fun u t => TrapEntered n 3 (pcOf n u) u t)) ∧
  (∀ n : Fin 12, Issues (.ret n hash0 hash0 hash0 [])
    (fun u => Ready1 n u ∧ OwnTraps n u ∧ u.drovers[n].rstk = []) (fun u t => TrapEntered n 4 (pcOf n u) u t)) ∧
  (∀ (n : Fin 12) (stk : List Nat) (top : Nat), 8191 < top → Issues (.ret n hash0 hash0 hash0 [])
    (fun u => Ready1 n u ∧ acting n u = false ∧ OwnTraps n u ∧ u.drovers[n].rstk = stk ++ [top])
    (fun u t => TrapEntered n 5 top (u.modDrv n fun d => { d with rstk := stk }) t)) ∧
  (∀ (n : Fin 12) (tgt : Nat), 8191 < tgt → tgt < 65536 → Issues (.jmp n hash0 hash0 (BitVec.ofNat 19 (0x10000 + tgt)) [])
    (fun u => Ready1 n u ∧ OwnTraps n u) (fun u t => TrapEntered n 5 (pcOf n u) u t)) ∧
  (∀ (n : Fin 12) (x : BitVec 19) (a g : Nat), Issues (.mov n x hash0 0 [])
    (fun u => Ready1 n u ∧ OwnTraps n u ∧ At n x a u ∧ x.toNat / 65536 ≠ 6 ∧ 0x8000 ≤ a ∧ a < 0xF000 ∧
      windowOff n a u < 0x1800000 ∧ g = windowOff n a u / 16 ∧ g ∈ u.ser.poison)
    (fun u t => TrapEntered n 6 (pcOf n u)
      ((((u.put (F.SER_CNT_k_COUNT 3) (min (u.get (F.SER_CNT_k_COUNT 3) + 1) (2 ^ 32 - 1))).put F.SER_LASTUE_ADDR g).put
        F.SER_LASTUE_CAUSE 2).put F.SER_LASTUE_MASTER n) t)) ∧
  (∀ n : Fin 12, Issues (.interruptReturn n [])
    (fun u => Ready1 n u ∧ u.on (F.DRV_n_STAT_INH n) = true ∧ u.drovers[n].spc ≤ 8191)
    (fun u t =>
      let d := u.drovers[n]
      t.drovers = u.drovers.set n { d with
        ie := d.savedIe, latch := d.savedLatch, stage := d.savedStage, entry := d.sest / 8 % 8, lostctx := d.sest.testBit 6 } ∧
      pcOf n t = d.spc ∧ t.get (F.DRV_n_STAT_INH n) = 0 ∧ t.get (F.DRV_n_STAT_PERS n) = d.sest % 2 ∧
      OnlyRegs [R.DRV_n_PC n, R.DRV_n_STAT n] { u with drovers := t.drovers } t)) ∧
  ∀ n : Fin 12, Issues (.interruptReturn n [])
    (fun u => Ready1 n u ∧ u.on (F.DRV_n_STAT_INH n) = false ∧ u.drovers[n].tvec = true)
    (fun u t => TrapEntered n 1 (pcOf n u) u t)

/-! ## Drover control (11_drover_architecture.md) -/

namespace Sys2Proof.Claims

/-- Nothing about Drover `n` moves on its own: no STEP or HALT outstanding, no vector due, no access or bundle in work. -/
abbrev Still (n : Fin 12) (u : State) : Prop :=
  (∀ k : Fin 12, u.drovers[k].step = false) ∧ u.drovers[n].due = [] ∧ u.drovers[n].issuing = false ∧
    u.drovers[n].halt = false ∧ u.drovers[n].mw = none

/-- The frame of a debug command of Drover `n`: its control registers and what is hidden of it. -/
abbrev DebugOnly (n : Fin 12) (u t : State) : Prop :=
  OnlyRegs [R.DRV_STAT, R.DRV_n_CTL n, R.DRV_n_STAT n] { u with drovers := t.drovers } t ∧
    ∀ k : Fin 12, k ≠ n → t.drovers[k] = u.drovers[k]

/-- A debug command is refused: BADCMD, or DBGLOCK by lifecycle, and the Drover goes on as it was. -/
abbrev Refused (f : Field) (n : Fin 12) (u t : State) : Prop :=
  t.get f = 1 ∧ OnlyRegs [R.DRV_STAT, R.DRV_n_CTL n] u t

/-- Drover `n` has entered a vector from its PC (R214). -/
abbrev Entered (n : Fin 12) (entry addr : Nat) (u t : State) : Prop :=
  t.drovers[n] = { u.drovers[n] with
    spc := pcOf n u, sest := estOf n u, savedLatch := u.drovers[n].latch, savedStage := u.drovers[n].stage,
    savedIe := u.drovers[n].ie, ie := false, entry := entry, waitMask := 0 } ∧
  (∀ k : Fin 12, k ≠ n → t.drovers[k] = u.drovers[k]) ∧ pcOf n t = addr ∧ t.get (F.DRV_n_STAT_INH n) = 1 ∧
  t.get (F.DRV_n_STAT_STATE n) = 1 ∧ OnlyRegs [R.DRV_n_PC n, R.DRV_n_STAT n] { u with drovers := t.drovers } t

end Sys2Proof.Claims

/-- DRV_HALT, DRV_RESUME, DRV_STEP and BREAKPOINT_HALT (R222, R223): HALT stops a Drover that runs or waits, RESUME lets a
HALTED one run on at its PC, STEP issues one bundle of the active bank and halts again, and with BRKEN a Drover halts before
the bundle at BRK.ADDR. TRAPPED and HELD Drovers accept none of the three (BADCMD), nor does a Drover that is not HALTED
accept the last two; in lifecycle LOCKED and RETIRED all three are refused (DBGLOCK). -/
def Sys2Proof.Claims.DebugCommandsObeyTheState : Prop :=
  (∀ (n : Fin 12) (who : Writer), Runs (.drvHalt · who n)
    (fun u => Served (R.DRV_n_CTL n) u ∧ Still n u ∧ u.fuses.life < 2 ∧ 1 ≤ u.get (F.DRV_n_STAT_STATE n) ∧
      u.get (F.DRV_n_STAT_STATE n) ≤ 3)
    (fun u t => t.get (F.DRV_n_STAT_STATE n) = 3 ∧ t.drovers[n] = { u.drovers[n] with waitMask := 0 } ∧ DebugOnly n u t)) ∧
  (∀ (n : Fin 12) (who : Writer), Runs (.drvResume · who n)
    (fun u => Served (R.DRV_n_CTL n) u ∧ Still n u ∧ u.fuses.life < 2 ∧ u.get (F.DRV_n_STAT_STATE n) = 3)
    (fun u t => t.get (F.DRV_n_STAT_STATE n) = 1 ∧ t.drovers[n] = u.drovers[n] ∧ DebugOnly n u t)) ∧
  (∀ (n : Fin 12) (who : Writer) (x z : BitVec 19) (v a : Nat), Runs (.drvStep · who n)
    (fun u => Served (R.DRV_n_CTL n) u ∧ Still n u ∧ u.fuses.life < 2 ∧ u.get (F.DRV_n_STAT_STATE n) = 3 ∧
      (u.drovers[n].ie = false ∨ u.on (F.DRV_n_STAT_INH n) = true ∨ u.get (F.DRV_n_EVPEND_PEND n) &&& u.drovers[n].even = 0) ∧
      sget (fun _ => 0) (if u.get (F.DRV_n_STAT_BANK n) = 0 then u.drovers[n].bank0 else u.drovers[n].bank1) (pcOf n u)
        = sylWord true 0 0 x hash0 z ∧
      pcOf n u < 8191 ∧ acting n u = false ∧ Reads n x 1 v u ∧ Names n z 1 a u)
    (fun u t =>
      let m := passTo n [x, z] (pcOf n u + 1) (stored n a [BitVec.ofNat 8 v] u)
      t.drovers = m.drovers ∧ t.ser = m.ser ∧ t.get (F.DRV_n_STAT_STATE n) = 3 ∧ pcOf n t = pcOf n u + 1 ∧
      OnlyRegs [R.DRV_n_CTL n, R.DRV_n_STAT n, R.DRV_n_PC n] { u with drovers := t.drovers, ser := t.ser } t)) ∧
  (∀ (n : Fin 12) (who : Writer), Runs (.drvHalt · who n)
    (fun u => Served (R.DRV_n_CTL n) u ∧ Still n u ∧ u.fuses.life < 2 ∧
      (u.get (F.DRV_n_STAT_STATE n) = 0 ∨ u.get (F.DRV_n_STAT_STATE n) = 4))
    (fun u t => Refused F.DRV_STAT_BADCMD n u t)) ∧
  (∀ (n : Fin 12) (who : Writer), ∀ row ∈ [Instr.drvResume, Instr.drvStep], Runs (row · who n)
    (fun u => Served (R.DRV_n_CTL n) u ∧ Still n u ∧ u.fuses.life < 2 ∧ u.get (F.DRV_n_STAT_STATE n) ≠ 3)
    (fun u t => Refused F.DRV_STAT_BADCMD n u t)) ∧
  (∀ (n : Fin 12) (who : Writer), ∀ row ∈ [Instr.drvHalt, Instr.drvResume, Instr.drvStep], Runs (row · who n)
    (fun u => Served (R.DRV_n_CTL n) u ∧ Still n u ∧ 2 ≤ u.fuses.life)
    (fun u t => Refused F.DRV_STAT_DBGLOCK n u t)) ∧
  ∀ n : Fin 12, Runs (.breakpointHalt · n)
    (fun u => u.get (F.DRV_n_STAT_STATE n) = 1 ∧ u.on (F.DRV_n_CTL_BRKEN n) = true ∧ u.get (F.DRV_n_BRK_ADDR n) = pcOf n u)
    (fun u t => t = u.put (F.DRV_n_STAT_STATE n) 3)

/-- INTERRUPT_ENTRY and WAIT_RELEASE (R213, R214): with IE 1, INH 0 and an enabled input pending, a Drover that runs or
waits enters INTR at 40 with its next bundle's address saved, or the wait's own; a wait ends once an input of its mask is
pending, and the Drover goes on behind it. -/
def Sys2Proof.Claims.InputsInterruptAndRelease : Prop :=
  (∀ n : Fin 12, Runs (.interruptEntry · n)
    (fun u => (u.get (F.DRV_n_STAT_STATE n) = 1 ∨ u.get (F.DRV_n_STAT_STATE n) = 2) ∧ Unstopped n u ∧
      u.drovers[n].mw = none ∧ u.drovers[n].ie = true ∧ u.on (F.DRV_n_STAT_INH n) = false ∧
      u.get (F.DRV_n_EVPEND_PEND n) &&& u.drovers[n].even ≠ 0)
    (fun u t => Entered n 5 40 u t)) ∧
  ∀ n : Fin 12, Runs (.waitRelease · n)
    (fun u => u.get (F.DRV_n_STAT_STATE n) = 2 ∧ u.get (F.DRV_n_EVPEND_PEND n) &&& u.drovers[n].waitMask ≠ 0 ∧
      acting n u = false ∧ pcOf n u < 8191)
    (fun u t => t.get (F.DRV_n_STAT_STATE n) = 1 ∧ pcOf n t = pcOf n u + 1 ∧
      t.drovers = u.drovers.set n { u.drovers[n] with waitMask := 0 } ∧
      OnlyRegs [R.DRV_n_PC n, R.DRV_n_STAT n] { u with drovers := t.drovers } t)

/-- DRV_SWITCH_ARM, DRV_SWITCH_CANCEL, DRV_LDATA_ACCESS and EVOUT_WRITE (R220, R223, R423): an image switch is armed for
the next tick, or the one after it where the write comes later than grain L − 3, unless the standby bank holds no valid
image, a switch is armed or the TICK block stands still (BADCMD); CANCEL ends it. LDATA reads and writes the four bytes at
LADDR, which advances by 4 under INC; a running Drover's bytes are not written (RUNWR). EVOUT fires its channel. -/
def Sys2Proof.Claims.DroverPortsAnswer : Prop :=
  (∀ (n : Fin 12) (who : Writer), Runs (.drvSwitchArm · who n)
    (fun u => Served (R.DRV_n_SWITCH n) u ∧ (∀ k : Fin 12, u.drovers[k].step = false))
    (fun u t =>
      let ok := u.on (F.DRV_n_IMG_b_VALID n (1 - u.get (F.DRV_n_STAT_BANK n))) = true ∧ u.drovers[n].arm = none ∧
        u.tickRuns = true
      (ok → t = u.modDrv n fun d => { d with arm := some (if u.tally.pos / 4 + 3 ≤ u.slotLen then 1 else 2, 0) }) ∧
      (¬ok → t = u.put F.DRV_STAT_BADCMD 1))) ∧
  (∀ (n : Fin 12) (who : Writer), Runs (.drvSwitchCancel · who n)
    (fun u => Served (R.DRV_n_SWITCH n) u ∧ ∀ k : Fin 12, u.drovers[k].step = false)
    (fun u t => if u.drovers[n].arm = none then t = u
      else t = (u.modDrv n fun d => { d with arm := none, swpend := false }).put (F.DRV_n_STAT_SWARMED n) 0)) ∧
  (∀ (n : Fin 12) (who : Writer) (w : Word), Runs (.drvLdataAccess · who n (some w))
    (fun u => Served (R.DRV_n_LDATA n) u ∧ (∀ k : Fin 12, u.drovers[k].step = false) ∧ u.fuses.life < 2 ∧
      u.get (F.DRV_n_STAT_STATE n) ≤ 4 ∧ 0x100 ≤ u.get (F.DRV_n_LADDR_ADDR n))
    (fun u t =>
      let stands := u.get (F.DRV_n_STAT_STATE n) = 0 ∨ u.get (F.DRV_n_STAT_STATE n) = 3 ∨ u.get (F.DRV_n_STAT_STATE n) = 4
      (stands → t.drovers = u.drovers.set n { u.drovers[n] with
          ram := memStore (u.get (F.DRV_n_LADDR_ADDR n) / 4 * 4)
            [w.extractLsb' 0 8, w.extractLsb' 8 8, w.extractLsb' 16 8, w.extractLsb' 24 8] u.drovers[n].ram } ∧
        t.get (F.DRV_n_LADDR_ADDR n) =
          (u.get (F.DRV_n_LADDR_ADDR n) + 4 * u.get (F.DRV_n_LADDR_INC n)) % 2 ^ 15 ∧
        OnlyRegs [R.DRV_n_LADDR n] { u with drovers := t.drovers } t) ∧
      (¬stands → t = u.put F.DRV_STAT_RUNWR 1))) ∧
  (∀ n : Fin 12, Runs (.drvLdataAccess · .host n none)
    (fun u => u.mode ≠ Mode.reset ∧ u.fuses.life < 2)
    (fun u t =>
      let a := u.get (F.DRV_n_LADDR_ADDR n) / 4 * 4
      t.out = u.out ++ [.hostRead (localByte n (a + 3) u ++ localByte n (a + 2) u ++ localByte n (a + 1) u ++ localByte n a u)] ∧
        t.get (F.DRV_n_LADDR_ADDR n) = (u.get (F.DRV_n_LADDR_ADDR n) + 4 * u.get (F.DRV_n_LADDR_INC n)) % 2 ^ 15 ∧
        OnlyRegs [R.DRV_n_LADDR n] { u with out := t.out } t)) ∧
  ∀ (n : Fin 12) (c : Fin 64), Runs (.evoutWrite · n c) (fun u => u.get (F.DRV_n_STAT_STATE n) = 1)
    (fun u t => t = swFire (.drover n) c u)

/-- Beside its program a Drover obeys debug commands, inputs that interrupt and release it, and its load and switch
ports. -/
def Obligations.DroversObeyDebugInputsAndPorts : Prop :=
  Sys2Proof.Claims.DebugCommandsObeyTheState ∧ Sys2Proof.Claims.InputsInterruptAndRelease ∧ Sys2Proof.Claims.DroverPortsAnswer


/-! ## Cipher units (13_cipher_units.md) -/

namespace Sys2Proof.Claims

/-- A sound entry for command `op` stands at `off`, the next one of unit `c`'s ring, in plain storage; its owner's Drover
holds the claim, the mode serves it, and masks are there. -/
abbrev CiEntry (op : Nat) (c : Fin 4) (off : Nat) (u : State) : Prop :=
  u.mode ≠ Mode.reset ∧ u.mode ≠ Mode.safe ∧ u.get (F.CIPH_u_CLAIM_OWNER c) < 12 ∧ u.on (F.CIPH_u_STAT_STALL c) = false ∧
  (ciRing c).next u = some off ∧ u.get (ciRing c).rd < u.get (ciRing c).len ∧ num off 1 u = op ∧
  ciBad (u.bytesAt off 32) = false ∧ Open off 32 u ∧ u.on F.TRU_STAT_DRBGOK = true

/-- The entry's fields (R241). -/
def ciFlags (off : Nat) (u : State) : Nat := num (off + 1) 1 u
def ciLen (off : Nat) (u : State) : Nat := num (off + 2) 2 u
def ciSrc (off : Nat) (u : State) : Nat := num (off + 4) 4 u
def ciDst (off : Nat) (u : State) : Nat := num (off + 8) 4 u
def ciArg (off : Nat) (u : State) : Nat := num (off + 12) 4 u

/-- A key is selected, and `b` block operations more stay within its budget (R246). -/
abbrev Selected (c : Fin 4) (key : List Byte) (b : Nat) (u : State) : Prop :=
  u.ciph.units[c].failed = false ∧ u.ciph.units[c].key = some key ∧ u.ciph.units[c].used + b ≤ u.ciph.units[c].budget

/-- The `n` bytes at a location are there and sound to read: in the release buffer, or the Serai. -/
abbrev LocSound (v n : Nat) (u : State) : Prop :=
  if 2 ^ 31 ≤ v then v % 2048 + n ≤ 2048 else Storage (v % 2 ^ 25) n u

/-- The `n` bytes at a location. -/
def locBytes (c : Fin 4) (v n : Nat) (u : State) : List Byte :=
  if 2 ^ 31 ≤ v then (List.range n).map fun i => sget (fun _ => 0) u.ciph.units[c].buf (v % 2048 + i)
  else u.bytesAt (v % 2 ^ 25) n

/-- The result a command leaves at its entry, RD advanced, the owner's CIPH input, the block operations counted (R241). -/
abbrev CiEnds (st blk used : Nat) (c : Fin 4) (off : Nat) (u t : State) : Prop :=
  t.bytesAt (off + 16) 16 = leBytes 1 st ++ [0] ++ leBytes 2 blk ++ leBytes 4 used ++ List.replicate 8 0 ∧
  Popped (ciRing c) u t ∧ (t.get (F.DRV_n_EVPEND_PEND (u.get (F.CIPH_u_CLAIM_OWNER c)))).testBit 6 = true ∧
  t.get (F.CIPH_CNT_k_COUNT 0) = min (u.get (F.CIPH_CNT_k_COUNT 0) + (if st ≤ 2 then blk else 0)) (2 ^ 32 - 1)

/-- The frame of a command: its unit, its result, the bytes `n` at `at_`, and the registers at `offs`. -/
abbrev CiOnly (offs : List Nat) (c : Fin 4) (off at_ n : Nat) (u t : State) : Prop :=
  t = { u with regs := t.regs, ser := t.ser, ciph := t.ciph } ∧ (∀ k : Fin 4, k ≠ c → t.ciph.units[k] = u.ciph.units[k]) ∧
  (∀ a, Apart (off + 16) 16 a 1 → Apart at_ n a 1 → t.byte a = u.byte a) ∧
  KeepsRegs (offs ++ [(ciRing c).rd.off, R.CIPH_CNT_k 0, R.DRV_n_EVPEND (u.get (F.CIPH_u_CLAIM_OWNER c))]) u t

/-- The 16-byte blocks of a message, the last one filled with zeros (R248). -/
def fed (l : List Byte) : List (List Byte) :=
  (List.range ((l.length + 15) / 16)).map fun i => (List.range 16).map fun j => l.getD (16 * i + j) 0

/-- A 2-byte number, most significant byte first. -/
def be2 (n : Nat) : List Byte := [BitVec.ofNat 8 (n / 256), BitVec.ofNat 8 n]

/-- The key stream of counter mode from block `i` on, for `n` blocks (R242). -/
def stream (key nonce : List Byte) (i n : Nat) : List Byte :=
  (List.range n).flatMap fun j => aesEnc key ((1 : Byte) :: nonce ++ be2 ((i + j) % 65536))

/-- A unit as R239 leaves it. -/
abbrev Wiped (c : Fin 4) (t : State) : Prop :=
  t.ciph.units[c] = ⟨List.replicate 13 0, List.replicate 16 0, none, 0, 0, 0, [], false, false, false, [], none⟩

/-- The entry's source is key slot `k` of node `node`, which is valid with storage form `w`, index `idx` and usage `n`; the
node's entry lies apart from the command's. -/
abbrev SlotRef (node k : Nat) (w : List Byte) (idx n off : Nat) (u : State) : Prop :=
  k < 2 ∧ node ≤ 16383 ∧ ciSrc off u = 4 * node + 65536 * k ∧ u.tickRuns = true ∧ u.baySize Bay.ledger ≠ 0 ∧
  u.ledgerState node ≠ 0 ∧ Storage (u.ledger node) 112 u ∧ Apart off 32 (u.ledger node) 112 ∧
  u.bytesAt (u.ledger node + 48 + 32 * k) 24 = w ∧ num (u.ledger node + 48 + 32 * k + 24) 1 u = idx ∧
  (num (u.ledger node + 48 + 32 * k + 25) 1 u).testBit 0 = true ∧ num (u.ledger node + 48 + 32 * k + 28) 4 u = n

end Sys2Proof.Claims

/-- CIPH_CLAIM, CIPH_DROP and RELEASE (R240, R242): a Drover of the unit's mask claims a free unit; DROP by its owner and
RELEASE wipe the unit and free it. Another Drover's write of a claimed unit's WR sets NOTOWNER, and the host's is
discarded. SEL (R244, R245, R247): with the budget within the key's limit the usage is reserved, in the slot or the keyring
and in the lease cache, and the key unwrapped into a wiped unit; beyond the limit it is LIMIT and nothing is selected; KEYIN
(R252) keeps a slot's key for its place in the message. -/
def Obligations.UnitsAreClaimedAndKeyed : Prop :=
  (∀ (d : Fin 12) (c : Fin 4), Runs (.ciphClaim · d c) (Served (R.CIPH_u_CLAIM c)) (fun u t =>
    (u.get (F.CIPH_u_CLAIM_OWNER c) = 0xF ∧ (u.man.ciph.getD c 0).testBit d = true → t = u.put (F.CIPH_u_CLAIM_OWNER c) d) ∧
    (¬(u.get (F.CIPH_u_CLAIM_OWNER c) = 0xF ∧ (u.man.ciph.getD c 0).testBit d = true) → t = u))) ∧
  (∀ (d : Fin 12) (c : Fin 4), Runs (.ciphDrop · d c) (Served (R.CIPH_u_CLAIM c)) (fun u t =>
    (u.get (F.CIPH_u_CLAIM_OWNER c) = d → Wiped c t ∧ t.get (F.CIPH_u_CLAIM_OWNER c) = 0xF ∧ t.get (F.CIPH_u_STAT_SEL c) = 0 ∧
      OnlyRegs [R.CIPH_u_CLAIM c, R.CIPH_u_STAT c] { u with ciph := t.ciph } t) ∧
    (u.get (F.CIPH_u_CLAIM_OWNER c) ≠ d → t = u))) ∧
  (∀ (d : Fin 12) (c : Fin 4) (v : Word), Runs (.ringIndexWrite · (.drover d) (F.CIPH_RING_u_WR c).off v)
    (fun u => Served (F.CIPH_RING_u_WR c).off u ∧ u.get (F.CIPH_u_CLAIM_OWNER c) ≠ 0xF ∧ u.get (F.CIPH_u_CLAIM_OWNER c) ≠ d)
    (fun u t => t = u.put F.CIPH_STAT_NOTOWNER 1)) ∧
  (∀ (c : Fin 4) (v : Word), Runs (.ringIndexWrite · .host (F.CIPH_RING_u_WR c).off v) (Served (F.CIPH_RING_u_WR c).off)
    (fun u t => t = u)) ∧
  (∀ (c : Fin 4) (off : Nat), Runs (.release · c) (fun u => CiEntry 10 c off u ∧ u.ciph.units[c].failed = false ∧ ciLen off u = 0)
    (fun u t => CiEnds 1 0 0 c off u t ∧ Wiped c t ∧ t.get (F.CIPH_u_CLAIM_OWNER c) = 0xF ∧
      CiOnly [R.CIPH_u_CLAIM c, R.CIPH_u_STAT c] c off 0 0 u t)) ∧
  (∀ (c : Fin 4) (off node k idx n b : Nat) (w key : List Byte), Runs (.sel · c)
    (fun u => CiEntry 1 c off u ∧ SlotRef node k w idx n off u ∧ ciLen off u ≤ 2048 ∧ ciArg off u = b ∧ 1 ≤ b ∧ b < 65536 ∧
      u.ciph.cache = [] ∧ u.leaseOf (w.take 8) idx = 0 ∧ n + b ≤ u.get F.CIPH_LIMIT_SESS_LIMIT ∧ n + b < 2 ^ 32 ∧
      u.get F.SEC_CFG_ROTWARN * u.get F.CIPH_LIMIT_SESS_LIMIT < 256 * (u.get F.CIPH_LIMIT_SESS_LIMIT - (n + b)) ∧
      u.unwrap w = some key)
    (fun u t => CiEnds 1 0 (n + b) c off u t ∧ num (u.ledger node + 48 + 32 * k + 28) 4 t = n + b ∧
      t.ciph.units[c] = ⟨List.replicate 13 0, List.replicate 16 0, some key, ciSrc off u, b, 0, [], false, false, false, [],
        none⟩ ∧
      t.get (F.CIPH_u_STAT_SEL c) = 1 ∧ t.get (F.CIPH_u_STAT_AES256 c) = (if key.length = 32 then 1 else 0) ∧
      t.ciph.cache = [⟨w.take 8, idx, n + b, 0, false⟩] ∧
      CiOnly [R.CIPH_u_STAT c] c off (u.ledger node + 48 + 32 * k + 28) 4 u t)) ∧
  (∀ (c : Fin 4) (off node k idx n b : Nat) (w : List Byte), Runs (.sel · c)
    (fun u => CiEntry 1 c off u ∧ SlotRef node k w idx n off u ∧ ciLen off u ≤ 2048 ∧ ciArg off u = b ∧ 1 ≤ b ∧ b < 65536 ∧
      u.ciph.cache = [] ∧ u.leaseOf (w.take 8) idx = 0 ∧ u.get F.CIPH_LIMIT_SESS_LIMIT < n + b)
    (fun u t => CiEnds 6 0 0 c off u t ∧ t.ciph.units[c].failed = true ∧ t.ciph.units[c].key = none ∧
      t.get (F.CIPH_CNT_k_COUNT 3) = min (u.get (F.CIPH_CNT_k_COUNT 3) + 1) (2 ^ 32 - 1) ∧
      CiOnly [R.CIPH_u_STAT c, R.CIPH_CNT_k 3] c off 0 0 u t)) ∧
  (∀ (c : Fin 4) (off e b use end_ : Nat) (pad w key : List Byte), e < 64 → Runs (.sel · c)
    (fun u =>
      let role := u.get (F.MAN_DRV_n_ROLE (u.get (F.CIPH_u_CLAIM_OWNER c)))
      let n := max (u.get (F.CIPH_KR_k_USED e)) use + b
      CiEntry 1 c off u ∧ ciSrc off u = 1 + 4 * e ∧ ciLen off u ≤ 2048 ∧ ciArg off u = b ∧ 1 ≤ b ∧ b < 65536 ∧
      u.get (F.CIPH_KR_k_VALID e) = 1 ∧ 1 ≤ role ∧ (u.get (F.CIPH_KR_k_ROLES e)).testBit (role - 1) = true ∧
      u.tru.keyring = [(e, pad)] ∧ w = pad.take (if u.on (F.CIPH_KR_k_AES256 e) then 40 else 24) ∧ u.ciph.cache = [⟨w.take 8, u.get (F.CIPH_KR_k_KEYIDX e), use, end_, true⟩] ∧
      n ≤ u.get (F.CIPH_KR_k_LIMIT e) ∧ n < 2 ^ 32 ∧ (n / 65536 + 2) * 65536 ≤ end_ ∧ u.unwrap w = some key)
    (fun u t =>
      let n := max (u.get (F.CIPH_KR_k_USED e)) use + b
      CiEnds 1 0 n c off u t ∧ t.get (F.CIPH_KR_k_USED e) = n ∧ t.ciph.units[c].key = some key ∧
      t.ciph.units[c].budget = b ∧ t.ciph.units[c].used = 0 ∧ t.get (F.CIPH_u_STAT_SEL c) = 1 ∧
      t.ciph.cache = [⟨w.take 8, u.get (F.CIPH_KR_k_KEYIDX e), n, end_, true⟩] ∧
      CiOnly [R.CIPH_u_STAT c, (F.CIPH_KR_k_USED e).off] c off 0 0 u t)) ∧
  ∀ (c : Fin 4) (off node k idx n : Nat) (w key sel : List Byte), Runs (.keyin · c)
    (fun u => CiEntry 7 c off u ∧ Selected c sel 0 u ∧ SlotRef node k w idx n off u ∧ ciLen off u = 0 ∧ u.unwrap w = some key)
    (fun u t => CiEnds 1 0 0 c off u t ∧ t.ciph.units[c] = { u.ciph.units[c] with
        keyins := u.ciph.units[c].keyins ++ [(ciArg off u % 2048, key)], covered := false } ∧
      t.get (F.CIPH_u_STAT_KEYIN c) = 1 ∧ CiOnly [R.CIPH_u_STAT c] c off 0 0 u t)

/-- NONCE, B0, MAC, CTR, FINAL, OPEN and RAW (R242, R248 to R251) under a selected key: each leaves the nonce, the
accumulator or the bytes that its table gives, from the Serai or the release buffer; FINAL lets the release buffer out on
a tag that matches and wipes it on any other (TAGFAIL). A NONCE from the release buffer is BADSEQ (the model's choice, log
entry 143). Pools (R253): one filled holds 512 bytes, with it a stalled command goes on to its end, and a stall of STALLMAX
ends the command as STARVED. -/
def Obligations.CipherCommandsCompute : Prop :=
  (∀ (c : Fin 4) (off : Nat) (key : List Byte), Runs (.nonce · c)
    (fun u => CiEntry 2 c off u ∧ Selected c key 0 u ∧ ciLen off u = 0 ∧
      (ciSrc off u < 2 ^ 31 → Storage (ciSrc off u / 16 * 16) 16 u))
    (fun u t =>
      (ciSrc off u < 2 ^ 31 → CiEnds 1 0 0 c off u t ∧
        t.ciph.units[c] = { u.ciph.units[c] with nonce := u.bytesAt (ciSrc off u / 16 * 16) 13 } ∧ CiOnly [] c off 0 0 u t) ∧
      (2 ^ 31 ≤ ciSrc off u → CiEnds 9 0 0 c off u t ∧ t.ciph.units[c].failed = true ∧ t.ciph.units[c].key = none ∧
        CiOnly [R.CIPH_u_STAT c] c off 0 0 u t))) ∧
  (∀ (c : Fin 4) (off : Nat) (key : List Byte), Runs (.b0 · c)
    (fun u => CiEntry 3 c off u ∧ Selected c key 1 u ∧ ciLen off u ≤ 2048)
    (fun u t => CiEnds 1 1 0 c off u t ∧ t.ciph.units[c] = { u.ciph.units[c] with
        acc := aesEnc key (BitVec.ofNat 8 (ciArg off u) :: u.ciph.units[c].nonce ++ be2 (ciLen off u)),
        macked := true, used := u.ciph.units[c].used + 1 } ∧ CiOnly [] c off 0 0 u t)) ∧
  (∀ (c : Fin 4) (off : Nat) (key : List Byte), Runs (.mac · c)
    (fun u =>
      let n := ciLen off u
      CiEntry 4 c off u ∧ u.ciph.units[c].keyins = [] ∧ (ciFlags off u = 0 → n ≤ 65279) ∧ (ciFlags off u = 1 → n ≤ 2048) ∧
        LocSound (ciSrc off u) n u ∧
        Selected c key (if n = 0 then 0 else if ciFlags off u = 0 then (n + 17) / 16 else (n + 15) / 16) u)
    (fun u t =>
      let n := ciLen off u
      let msg := locBytes c (ciSrc off u) n u
      let bs := if n = 0 then [] else fed (if ciFlags off u = 0 then be2 n ++ msg else msg)
      CiEnds 1 bs.length 0 c off u t ∧ t.ciph.units[c] = { u.ciph.units[c] with
        acc := bs.foldl (fun a x => aesEnc key (xorBytes a x)) u.ciph.units[c].acc, macked := true,
        used := u.ciph.units[c].used + bs.length } ∧ CiOnly [] c off 0 0 u t)) ∧
  (∀ (c : Fin 4) (off : Nat) (key : List Byte), Runs (.ctr · c)
    (fun u =>
      let n := ciLen off u
      CiEntry 5 c off u ∧ u.ciph.units[c].keyins = [] ∧ ciFlags off u = 4 ∧ n ≤ 2048 ∧ LocSound (ciSrc off u) n u ∧
        ciDst off u < 2 ^ 25 ∧ Open (ciDst off u) n u ∧ Apart off 32 (ciDst off u) n ∧ Selected c key ((n + 15) / 16) u)
    (fun u t =>
      let n := ciLen off u
      CiEnds 1 ((n + 15) / 16) 0 c off u t ∧
      t.bytesAt (ciDst off u) n = List.zipWith (· ^^^ ·) (locBytes c (ciSrc off u) n u)
        (stream key u.ciph.units[c].nonce (ciArg off u % 65536) ((n + 15) / 16)) ∧
      t.ciph.units[c] = { u.ciph.units[c] with covered := true, used := u.ciph.units[c].used + (n + 15) / 16 } ∧
      CiOnly [] c off (ciDst off u) n u t)) ∧
  (∀ (c : Fin 4) (off : Nat) (key : List Byte), Runs (.ctr · c)
    (fun u =>
      let n := ciLen off u
      CiEntry 5 c off u ∧ u.ciph.units[c].keyins = [] ∧ ciFlags off u = 0 ∧ LocSound (ciSrc off u) n u ∧
        2 ^ 31 ≤ ciDst off u ∧ ciDst off u % 2048 + n ≤ 2048 ∧ Selected c key ((n + 15) / 16) u)
    (fun u t =>
      let n := ciLen off u
      CiEnds 1 ((n + 15) / 16) 0 c off u t ∧ t.ciph.units[c] = { u.ciph.units[c] with
        used := u.ciph.units[c].used + (n + 15) / 16
        buf := memStore (ciDst off u % 2048) (List.zipWith (· ^^^ ·) (locBytes c (ciSrc off u) n u)
          (stream key u.ciph.units[c].nonce (ciArg off u % 65536) ((n + 15) / 16))) u.ciph.units[c].buf } ∧
      CiOnly [] c off 0 0 u t)) ∧
  (∀ (c : Fin 4) (off m : Nat) (key : List Byte), m % 2 = 0 → Runs (.finalTag · c)
    (fun u => CiEntry 6 c off u ∧ u.ciph.units[c].keyins = [] ∧ ciFlags off u = 8 + 16 * (m - 1) ∧ 2 ≤ m ∧ m ≤ 16 ∧
      ciLen off u ≤ 2048 ∧ ciDst off u < 2 ^ 25 ∧ Open (ciDst off u) m u ∧ Apart off 32 (ciDst off u) m ∧ Selected c key 1 u)
    (fun u t => CiEnds 1 1 0 c off u t ∧
      t.bytesAt (ciDst off u) m =
        (xorBytes u.ciph.units[c].acc (aesEnc key ((1 : Byte) :: u.ciph.units[c].nonce ++ [0, 0]))).take m ∧
      t.ciph.units[c] = { u.ciph.units[c] with macked := true, used := u.ciph.units[c].used + 1 } ∧
      CiOnly [] c off (ciDst off u) m u t)) ∧
  (∀ (c : Fin 4) (off m : Nat) (key : List Byte), m % 2 = 0 → Runs (.finalTag · c)
    (fun u => CiEntry 6 c off u ∧ u.ciph.units[c].keyins = [] ∧ ciFlags off u = 16 * (m - 1) ∧ 2 ≤ m ∧ m ≤ 16 ∧
      ciLen off u ≤ 2048 ∧ LocSound (ciSrc off u) m u ∧ ciDst off u < 2 ^ 25 ∧ Open (ciDst off u) (ciLen off u) u ∧
      Apart off 32 (ciDst off u) (ciLen off u) ∧ Selected c key 1 u)
    (fun u t =>
      let tag := (xorBytes u.ciph.units[c].acc (aesEnc key ((1 : Byte) :: u.ciph.units[c].nonce ++ [0, 0]))).take m
      let n := ciLen off u
      t.ciph.units[c] = { u.ciph.units[c] with macked := true, used := u.ciph.units[c].used + 1, buf := [] } ∧
      (locBytes c (ciSrc off u) m u = tag → CiEnds 1 1 0 c off u t ∧ t.bytesAt (ciDst off u) n = locBytes c (2 ^ 31) n u ∧
        t.get (F.CIPH_CNT_k_COUNT 1) = min (u.get (F.CIPH_CNT_k_COUNT 1) + 1) (2 ^ 32 - 1) ∧
        CiOnly [R.CIPH_CNT_k 1] c off (ciDst off u) n u t) ∧
      (locBytes c (ciSrc off u) m u ≠ tag → CiEnds 2 1 0 c off u t ∧
        t.get (F.CIPH_CNT_k_COUNT 2) = min (u.get (F.CIPH_CNT_k_COUNT 2) + 1) (2 ^ 32 - 1) ∧
        CiOnly [R.CIPH_CNT_k 2] c off 0 0 u t))) ∧
  (∀ (c : Fin 4) (off : Nat) (key : List Byte), Runs (.openCopy · c)
    (fun u => CiEntry 8 c off u ∧ u.ciph.units[c].keyins = [] ∧ u.ciph.units[c].macked = false ∧ ciLen off u ≤ 2048 ∧
      ciDst off u < 2 ^ 25 ∧ Open (ciDst off u) (ciLen off u) u ∧ Apart off 32 (ciDst off u) (ciLen off u) ∧ Selected c key 0 u)
    (fun u t => CiEnds 1 0 0 c off u t ∧ t.bytesAt (ciDst off u) (ciLen off u) = locBytes c (2 ^ 31) (ciLen off u) u ∧
      t.ciph.units[c] = u.ciph.units[c] ∧ CiOnly [] c off (ciDst off u) (ciLen off u) u t)) ∧
  (∀ (c : Fin 4) (off n : Nat) (key : List Byte), Runs (.raw · c)
    (fun u => CiEntry 9 c off u ∧ u.ciph.units[c].keyins = [] ∧ ciFlags off u = 4 ∧ ciLen off u = 16 * n ∧ n ≤ 128 ∧
      LocSound (ciSrc off u) (16 * n) u ∧ ciDst off u < 2 ^ 25 ∧ Open (ciDst off u) (16 * n) u ∧
      Apart off 32 (ciDst off u) (16 * n) ∧ Selected c key n u)
    (fun u t => CiEnds 1 n 0 c off u t ∧
      t.bytesAt (ciDst off u) (16 * n) = (fed (locBytes c (ciSrc off u) (16 * n) u)).flatMap (aesEnc key) ∧
      t.ciph.units[c] = { u.ciph.units[c] with used := u.ciph.units[c].used + n } ∧
      CiOnly [] c off (ciDst off u) (16 * n) u t)) ∧
  (∀ (c : Fin 4) (off n : Nat) (key : List Byte), Runs (.raw · c)
    (fun u => CiEntry 9 c off u ∧ u.ciph.units[c].keyins = [] ∧ ciFlags off u = 0 ∧ ciLen off u = 16 * n ∧ n ≤ 128 ∧
      LocSound (ciSrc off u) (16 * n) u ∧ 2 ^ 31 ≤ ciDst off u ∧ ciDst off u % 2048 + 16 * n ≤ 2048 ∧ Selected c key n u)
    (fun u t => CiEnds 1 n 0 c off u t ∧ t.ciph.units[c] = { u.ciph.units[c] with
        used := u.ciph.units[c].used + n
        buf := memStore (ciDst off u % 2048) ((fed (locBytes c (ciSrc off u) (16 * n) u)).flatMap (aesDec key))
          u.ciph.units[c].buf } ∧ CiOnly [] c off 0 0 u t)) ∧
  (∀ (c : Fin 4) (off : Nat), Runs (.ciphStarved · c)
    (fun u => (∃ w, u.ciph.units[c].stall = some w ∧ w.1 + 32 * u.get F.CIPH_CFG_STALLMAX ≤ u.tally.clock) ∧
      (ciRing c).next u = some off ∧
      u.get (ciRing c).rd < u.get (ciRing c).len ∧ u.get (F.CIPH_u_CLAIM_OWNER c) < 12 ∧ Open off 32 u)
    (fun u t => CiEnds 11 0 0 c off u t ∧ t.ciph.units[c].failed = true ∧ t.ciph.units[c].key = none ∧
      t.get (F.CIPH_u_STAT_STALL c) = 0 ∧
      t.get (F.CIPH_CNT_k_COUNT 5) = min (u.get (F.CIPH_CNT_k_COUNT 5) + 1) (2 ^ 32 - 1) ∧
      CiOnly [R.CIPH_u_STAT c, R.CIPH_CNT_k 5] c off 0 0 u t)) ∧
  (∀ c : Fin 4, Runs (.ciphStarved · c)
    (fun u => ∀ w, u.ciph.units[c].stall = some w → u.tally.clock < w.1 + 32 * u.get F.CIPH_CFG_STALLMAX)
    (fun u t => t = u)) ∧
  (∀ c : Fin 4, Runs (.ciphPoolRefill · c) (fun u => u.ciph.units[c].stall = none)
    (fun u t => t = u.put (F.CIPH_u_STAT_POOL c) 512)) ∧
  ∀ (c : Fin 4) (off : Nat), Runs (.ciphPoolRefill · c)
    (fun u => (∃ w, u.ciph.units[c].stall = some w) ∧ (ciRing c).next u = some off ∧
      u.get (ciRing c).rd < u.get (ciRing c).len ∧ u.on F.TRU_STAT_DRBGOK = true ∧ u.tandem = false ∧ Unheld u)
    (fun u t => t.ciph.units[c].stall = none ∧ t.get (F.CIPH_u_STAT_STALL c) = 0 ∧ t.get (F.CIPH_u_STAT_BUSY c) = 0 ∧
      t.get (F.CIPH_u_STAT_POOL c) = 512 ∧ Popped (ciRing c) u t)

/-! ## Shaping (14_shaping.md) -/

namespace Sys2Proof.Claims

/-- A sound SHP entry for command `op` with flags `fl` and argument `arg` for node `node`, in use, stands at `off`, the next
one of ring `j`; it and the node's entry lie apart in plain storage. -/
abbrev ShpEntry (op fl node arg j off : Nat) (u : State) : Prop :=
  u.tickRuns = true ∧ NextEntry shpRing j off u ∧ u.get (shpRing j).rd < u.get (shpRing j).len ∧ num off 1 u = op ∧
  num (off + 1) 1 u = fl ∧ num (off + 2) 2 u = node ∧ num (off + 4) 4 u = arg ∧ shpBad (u.bytesAt off 32) = false ∧
  node ≤ 16383 ∧ u.baySize Bay.ledger ≠ 0 ∧ u.ledgerState node ≠ 0 ∧ Open off 32 u ∧ Storage (u.ledger node) 256 u ∧
  Apart off 32 (u.ledger node) 256 ∧ u.tok.length = 16

/-- Place of class `c`'s queue word in the node's entry, and of queue entry `e` in the QUEUE bay (R204). -/
def queueAt (node c : Nat) (u : State) : Nat := u.ledger node + 176 + 4 * c
def entryAt (e : Nat) (u : State) : Nat := u.bayBase Bay.queue + 16 * e

/-- Class `c` of the node holds `n` frames, the last of them at entry `tail`. -/
abbrev Queue (node c tail n : Nat) (u : State) : Prop := num (queueAt node c u) 4 u = tail + 2 ^ 20 * n ∧ tail < 2 ^ 20

/-- Queue entry `e` lies in the QUEUE bay in open storage, apart from the command and the node's entry. -/
abbrev EntryFree (e node off : Nat) (u : State) : Prop :=
  16 * e + 16 ≤ u.baySize Bay.queue ∧ Open (entryAt e u) 16 u ∧ Apart (entryAt e u) 16 off 32 ∧
    Apart (entryAt e u) 16 (u.ledger node) 256

/-- NEXT of queue entry `e`. -/
def nextOfEntry (e : Nat) (u : State) : Nat := num (entryAt e u) 4 u % 2 ^ 20

/-- The result a command leaves at its entry, with the tokens of class `c` in whole bytes, and RD advanced (R262). -/
abbrev ShpEnds (st count head ntok c j off : Nat) (u t : State) : Prop :=
  t.bytesAt (off + 16) 16 = leBytes 1 st ++ [0] ++ leBytes 2 count ++ leBytes 4 head ++ leBytes 4 (t.tok.getD c 0 / 256) ++
    leBytes 4 ntok ∧ Popped (shpRing j) u t

/-- The frame of a command: of memory the result and the places `at_`, of registers those at `offs`, and what its done
event signals (R263). -/
abbrev ShpOnly (offs : List Nat) (j off : Nat) (at_ : Nat → Prop) (u t : State) : Prop :=
  Signals (R.SHP_RING_j_3 j :: offs) { u with ser := t.ser, tok := t.tok } t ∧
    ∀ a, Apart (off + 16) 16 a 1 → ¬at_ a → t.byte a = u.byte a

/-- The node's downlink is held (R259): HOLD, a model out of step, or a pending grant that nothing has confirmed by its
TSFN, which is to come while it lies less than half the superframe numbers ahead. -/
abbrev HeldDown (node : Nat) (u : State) : Prop :=
  (num (u.ledger node + 10) 1 u).testBit 5 = true ∨ (drift node u).state = 3 ∨
    ((num (u.ledger node + 10) 1 u).testBit 3 = true ∧ (num (u.ledger node + 10) 1 u).testBit 4 = false ∧
      inFuture (num (u.ledger node + 12) 4 u) u = false)

/-- End of a frame of `len` bytes with its acknowledgement (R258): the airtimes of its table. -/
def frameEnd (start phy len : Nat) (ack : Bool) (u : State) : Nat :=
  start + (if phy = 0 then (6 + len) * 256 else if phy = 1 then (12 + len) * 1280 else (12 + len) * 640) +
    if ack then u.get F.SF_TMPL1_ACKDLY + (if phy = 0 then 11776 else if phy = 1 then 66560 else 33280) else 0

/-- The frame fits the class's gate (R258). -/
abbrev FitsGate (c start stop : Nat) (u : State) : Prop :=
  8 * u.get (F.SHP_GOPEN c) ≤ start ∧ (u.get (F.SHP_GCLOSE c) = 0xFFFF ∨ stop ≤ 8 * u.get (F.SHP_GCLOSE c))

/-- Counter `k` of SHP is one higher. -/
abbrev ShpCount (k : Nat) (u t : State) : Prop :=
  t.get (F.SHP_CNT_k_COUNT k) = min (u.get (F.SHP_CNT_k_COUNT k) + 1) (2 ^ 32 - 1)

end Sys2Proof.Claims

/-- ENQ and DONE (R264, R266): ENQ appends an entry at the tail of the class's circular list, or is FULL at QMAX; DONE takes
the head out, or is EMPTY. ADMIT (R258, R259, R265) offers the head and returns at the first of EMPTY, HELD, NOFIT, GATE and
TOKENS that applies, charging its length to a class that is shaped. POLICE (R260, R261) credits the node since its last
charge and charges node and class where both can pay; POLICED and TOKENS charge nothing. -/
def Obligations.ShapingServesTheQueues : Prop :=
  (∀ node c e j off tail n : Nat, c < 8 → e < 2 ^ 20 → Runs (.enq ·)
    (fun u => ShpEntry 1 c node e j off u ∧ Queue node c tail n u ∧ EntryFree e node off u ∧ num (entryAt e u + 10) 2 u = node ∧
      (n ≠ 0 → EntryFree tail node off u ∧ tail ≠ e))
    (fun u t =>
      let flags := num (entryAt e u) 4 u / 2 ^ 24
      (n ≠ u.get (F.SHP_QMAX c) →
        ShpEnds 1 (n + 1) 0 0 c j off u t ∧ Queue node c e ((n + 1) % 4096) t ∧
        num (entryAt e u) 4 t = (if n = 0 then e else nextOfEntry tail u) + c * 2 ^ 20 + flags * 2 ^ 24 ∧
        (n ≠ 0 → num (entryAt tail u) 4 t = num (entryAt tail u) 4 u / 2 ^ 20 * 2 ^ 20 + e) ∧
        ShpOnly [] j off (fun a => ¬Apart (queueAt node c u) 4 a 1 ∨ ¬Apart (entryAt e u) 4 a 1 ∨
          (n ≠ 0 ∧ ¬Apart (entryAt tail u) 4 a 1)) u t) ∧
      (n = u.get (F.SHP_QMAX c) → ShpEnds 5 n 0 0 c j off u t ∧ ShpCount 7 u t ∧
        ShpOnly [R.SHP_CNT_k 7] j off (fun _ => False) u t))) ∧
  (∀ node c j off tail n : Nat, c < 8 → Runs (.shpDone ·)
    (fun u => ShpEntry 3 c node 0 j off u ∧ Queue node c tail n u ∧ (n ≠ 0 → EntryFree tail node off u) ∧
      (2 ≤ n → EntryFree (nextOfEntry tail u) node off u ∧ nextOfEntry tail u ≠ tail))
    (fun u t =>
      let h := nextOfEntry tail u
      (n = 0 → ShpEnds 4 0 0 0 c j off u t ∧ ShpOnly [] j off (fun _ => False) u t) ∧
      (n ≠ 0 → ShpEnds 1 (n - 1) h 0 c j off u t ∧ Queue node c tail (n - 1) t ∧
        (2 ≤ n → nextOfEntry tail t = nextOfEntry h u) ∧
        ShpOnly [] j off (fun a => ¬Apart (queueAt node c u) 4 a 1 ∨ (2 ≤ n ∧ ¬Apart (entryAt tail u) 4 a 1)) u t))) ∧
  (∀ (node c phy start span j off tail n : Nat) (ack : Bool), c < 8 → phy < 3 → 1 ≤ span → span ≤ 32 → start < 2 ^ 18 →
    Runs (.shpAdmit ·)
    (fun u => ShpEntry 2 (c + (if ack then 8 else 0) + 16 * phy) node (start + 2 ^ 18 * (span - 1)) j off u ∧
      Queue node c tail n u ∧ n ≠ 0 ∧ ¬HeldDown node u ∧ EntryFree tail node off u ∧
      EntryFree (nextOfEntry tail u) node off u)
    (fun u t =>
      let h := nextOfEntry tail u
      let len := num (entryAt h u + 8) 2 u
      let stop := frameEnd start phy len ack u
      let fitsCell := stop + 800 ≤ span * u.slotLen
      let pays := u.get (F.SHP_CLASS_n_EN c) = 1 → 256 * len ≤ u.tok.getD c 0
      (¬fitsCell → ShpEnds 9 n h 0 c j off u t ∧ ShpCount 4 u t ∧ t.tok = u.tok ∧
        ShpOnly [R.SHP_CNT_k 4] j off (fun _ => False) u t) ∧
      (fitsCell → ¬FitsGate c start stop u → ShpEnds 8 n h 0 c j off u t ∧ ShpCount 3 u t ∧ t.tok = u.tok ∧
        ShpOnly [R.SHP_CNT_k 3] j off (fun _ => False) u t) ∧
      (fitsCell → FitsGate c start stop u → ¬pays → ShpEnds 7 n h 0 c j off u t ∧ ShpCount 2 u t ∧ t.tok = u.tok ∧
        ShpOnly [R.SHP_CNT_k 2] j off (fun _ => False) u t) ∧
      (fitsCell → FitsGate c start stop u → pays → ShpEnds 1 n h 0 c j off u t ∧ ShpCount 0 u t ∧
        t.tok = (if u.get (F.SHP_CLASS_n_EN c) = 1 then u.tok.set c (u.tok.getD c 0 - 256 * len) else u.tok) ∧
        (u.get (F.SHP_CLASS_n_EN c) = 1 → t.get (F.SHP_TOK_n_TOK c) = (u.tok.getD c 0 - 256 * len) / 256 % 2 ^ 24) ∧
        ShpOnly [R.SHP_CNT_k 0, R.SHP_TOK_n c] j off (fun _ => False) u t))) ∧
  (∀ node c fl arg j off tail n : Nat, fl % 8 = c → Runs (.shpAdmit ·)
    (fun u => ShpEntry 2 fl node arg j off u ∧ Queue node c tail n u ∧
      (n ≠ 0 → EntryFree tail node off u ∧ HeldDown node u))
    (fun u t =>
      (n = 0 → ShpEnds 4 0 0 0 c j off u t ∧ ShpOnly [] j off (fun _ => False) u t) ∧
      (n ≠ 0 → ShpEnds 6 n (nextOfEntry tail u) 0 c j off u t ∧ ShpCount 1 u t ∧ ShpOnly [R.SHP_CNT_k 1] j off (fun _ => False) u t))) ∧
  ∀ node c len j off : Nat, c < 8 → len < 2 ^ 16 → Runs (.police ·)
    (fun u => ShpEntry 4 c node len j off u ∧ u.tally.asn < 2 ^ 40)
    (fun u t =>
      let at_ := u.ledger node + 240
      let full := 256 * u.get F.SHP_NODEPOL_NBURST
      let tok := if u.bytesAt at_ 8 = List.replicate 8 0 ∨ u.tally.asn < num (at_ + 3) 5 u then full
        else min full (num at_ 3 u + (2 * ((u.tally.asn - num (at_ + 3) 5 u) * u.slotLen * u.get F.SHP_NODEPOL_NRATE) + 31250)
          / 62500)
      let tested := u.get F.SHP_NODEPOL_NRATE ≠ 0 ∧ u.get (F.SHP_NPOL (8 + c)) = 1
      let shaped := u.get (F.SHP_CLASS_n_EN (8 + c)) = 1
      let nodePays := tested → 256 * len ≤ tok
      let classPays := shaped → 256 * len ≤ u.tok.getD (8 + c) 0
      let left := if nodePays ∧ classPays ∧ tested then tok - 256 * len else tok
      num (at_ + 3) 5 t = u.tally.asn ∧ (left < 2 ^ 24 → num at_ 3 t = left) ∧
      (nodePays ∧ classPays → ShpEnds 1 0 0 (left / 256) (8 + c) j off u t ∧
        t.tok = (if shaped then u.tok.set (8 + c) (u.tok.getD (8 + c) 0 - 256 * len) else u.tok) ∧
        ShpOnly [R.SHP_TOK_n (8 + c)] j off (fun a => ¬Apart at_ 8 a 1) u t) ∧
      (¬nodePays → ShpEnds 10 0 0 (left / 256) (8 + c) j off u t ∧ ShpCount 5 u t ∧ t.tok = u.tok ∧
        ShpOnly [R.SHP_CNT_k 5] j off (fun a => ¬Apart at_ 8 a 1) u t) ∧
      (nodePays → ¬classPays → ShpEnds 7 0 0 (left / 256) (8 + c) j off u t ∧ ShpCount 6 u t ∧ t.tok = u.tok ∧
        ShpOnly [R.SHP_CNT_k 6] j off (fun a => ¬Apart at_ 8 a 1) u t))

/-! ## DMA (15_dma.md) -/

namespace Sys2Proof.Claims

/-- The writer owns channel `n`: its Drover, or host software where the owner is no Drover (R269). -/
abbrev OwnsChannel (n : Fin 16) (who : Writer) (u : State) : Prop :=
  (∃ d : Fin 12, who = .drover d ∧ u.get (F.DMA_n_CFG_OWNER n) = d) ∨
    ((∀ d : Fin 12, who ≠ .drover d) ∧ 12 ≤ u.get (F.DMA_n_CFG_OWNER n))

/-- A channel with nothing in work. -/
def fresh : DmaChan := ⟨[], none, false, 0, []⟩

/-- Channel `n` is about to run the Waybill `w` at CUR, which the check of R272 passes. -/
abbrev Begins (n : Fin 16) (w : List Byte) (u : State) : Prop :=
  u.mode ≠ Mode.reset ∧ u.mode ≠ Mode.safe ∧ u.get (F.DMA_n_STAT_STATE n) = 1 ∧ u.dma[n].stopping = false ∧
    u.dma[n].moved = none ∧ Storage (u.get (F.DMA_n_CUR_OFFSET n)) 32 u ∧
    u.bytesAt (u.get (F.DMA_n_CUR_OFFSET n)) 32 = w ∧ wbCheck w u = 0

/-- No channel but `n` has a line to fetch. -/
abbrev Alone (n : Fin 16) (u : State) : Prop :=
  ∀ k : Fin 16, k ≠ n → u.get (F.DMA_n_STAT_STATE k) ≠ 1 ∨ u.dma[k].moved = none ∨ Wb.op u.dma[k].wb ≠ 1 ∨
    u.dma[k].stopping = true ∨ Wb.len u.dma[k].wb ≤ u.dma[k].fetched

/-- The bytes of a Waybill's source, and of its destination, where host memory holds `host`; where they stand in the Serai
they are plain storage, and a destination there is open. -/
def sourceOf (w host : List Byte) (u : State) : List Byte :=
  if Wb.srcSpace w = 1 then host else u.bytesAt (Wb.src w) (Wb.len w)
def targetOf (w host : List Byte) (u : State) : List Byte :=
  if Wb.dstSpace w = 1 then host else u.bytesAt (Wb.dst w) (Wb.len w)
abbrev SourceSound (w host : List Byte) (u : State) : Prop :=
  if Wb.srcSpace w = 1 then host.length = Wb.len w else Storage (Wb.src w) (Wb.len w) u
abbrev TargetSound (w host : List Byte) (u : State) : Prop :=
  if Wb.dstSpace w = 1 then host.length = Wb.len w else Storage (Wb.dst w) (Wb.len w) u
abbrev TargetOpen (w : List Byte) (u : State) : Prop := Wb.dstSpace w ≠ 1 → Open (Wb.dst w) (Wb.len w) u

/-- The first `k` lines of 512 bytes of a Waybill that moves `bytes` (R274). -/
def linesOf (n : Fin 16) (w bytes : List Byte) (k : Nat) : List DmaLine :=
  (List.range k).map fun i => ⟨n, Wb.dstSpace w, Wb.dst w + 512 * i, (bytes.drop (512 * i)).take 512⟩

/-- A line reaches host memory or the Serai. -/
def landed (l : DmaLine) (u : State) : State :=
  if l.space = 1 then { u with out := u.out ++ [.hostMem l.dst l.bytes] } else u.poke l.dst l.bytes

/-- Every line of the shared buffer has reached its place, in the order in which the fetches completed. -/
def drained (u : State) : State := { u.dmaBuf.foldl (fun v l => landed l v) u with dmaBuf := [] }

/-- The lines of the shared buffer are those of channel `n`, and their places are open. -/
abbrev OwnLines (n : Fin 16) (u : State) : Prop :=
  ∀ l ∈ u.dmaBuf, l.chan = n ∧ l.bytes ≠ [] ∧ (l.space ≠ 1 → Open l.dst l.bytes.length u)

/-- The Waybill at CUR lies outside the LOG bay, which takes the records of faults. -/
abbrev OffLog (n : Fin 16) (u : State) : Prop := ∀ i < 32, inLog (u.get (F.DMA_n_CUR_OFFSET n) + i) = false

/-- The channel's owner is signalled (R276): the DMA input of its Drover, or the channel's vector. -/
abbrev OwnerSignalled (n : Fin 16) (u t : State) : Prop :=
  if u.get (F.DMA_n_CFG_OWNER n) < 12 then (t.get (F.DRV_n_EVPEND_PEND (u.get (F.DMA_n_CFG_OWNER n)))).testBit 7 = true
  else (t.get (F.HST_VPEND_h_BITS 0)).testBit n = true

/-- The status and mismatch bytes of the Waybill at CUR are `st` and `mis`, and LAST shows the status. -/
abbrev WaybillTold (n : Fin 16) (st mis : Nat) (u t : State) : Prop :=
  num (u.get (F.DMA_n_CUR_OFFSET n) + 28) 1 t = st ∧ num (u.get (F.DMA_n_CUR_OFFSET n) + 29) 3 t = mis ∧
    t.get (F.DMA_n_STAT_LAST n) = st

/-- Of memory only the status and mismatch bytes of the Waybill at CUR have changed, and what is so by `also`. -/
abbrev OnlyStatus (n : Fin 16) (also : Nat → Bool) (u t : State) : Prop :=
  ∀ a, Apart (u.get (F.DMA_n_CUR_OFFSET n) + 28) 4 a 1 → also a = false → t.byte a = u.byte a

/-- The registers of channel `n` that its progress changes. -/
def chanRegs (n : Fin 16) : List Nat := [R.DMA_n_STAT n, R.DMA_n_CUR n, (F.DMA_n_CNT_DONE n).off, (F.DMA_n_CNT_HALTS n).off]

/-- A channel halted or stopped at its Waybill (R272, R278, R280): its state, its count of halts, the owner's signal. -/
abbrev ChannelEnds (n : Fin 16) (state st : Nat) (u t : State) : Prop :=
  t.get (F.DMA_n_STAT_STATE n) = state ∧ WaybillTold n st 0xFFFFFF u t ∧ t.dma = u.dma.set n fresh ∧
    t.get (F.DMA_n_CNT_HALTS n) = min (u.get (F.DMA_n_CNT_HALTS n) + 1) (2 ^ 16 - 1) ∧ OwnerSignalled n u t

/-- The Waybill `w` of channel `n` completes, its data moved (R275, R276): its status, the read that a barrier asks for, the
next Waybill or the end of the chain, and the owner's signal. -/
abbrev Completed (n : Fin 16) (w : List Byte) (st mis : Nat) (u t : State) : Prop :=
  let ends := Wb.hasNext w = false ∨ (st = 2 ∧ Wb.stopmis w = true)
  let barrier := Wb.barrier w = true ∧ Wb.op w ≠ 3 ∧ Wb.dstSpace w = 1 ∧ Wb.len w ≠ 0
  WaybillTold n st mis u t ∧ OnlyStatus n (fun _ => false) u t ∧ t.dma = u.dma.set n fresh ∧
  t.get (F.DMA_n_CNT_DONE n) = min (u.get (F.DMA_n_CNT_DONE n) + 1) (2 ^ 16 - 1) ∧
  (∃ more, t.out = u.out ++ (if barrier then [.hostFetch (Wb.dst w + Wb.len w - 16) 16] else []) ++ more) ∧
  (ends → t.get (F.DMA_n_STAT_STATE n) = 0 ∧ t.get (F.DMA_n_CUR_OFFSET n) = u.get (F.DMA_n_CUR_OFFSET n)) ∧
  (¬ends → t.get (F.DMA_n_STAT_STATE n) = 1 ∧ t.get (F.DMA_n_CUR_OFFSET n) = Wb.next w) ∧
  (ends ∨ Wb.evt w = true → OwnerSignalled n u t) ∧
  Signals (chanRegs n) { u with ser := t.ser, dma := t.dma } t

end Sys2Proof.Claims

/-- DMA_GO, DMA_RESUME, DMA_STOP and BUSERR_CLEAR (R269, R270, R278 to R280): GO begins at HEAD and RESUME at CUR, from the
first byte; while BUSERR is 1 or the channel runs both are refused with BADCMD, RESUME of an IDLE channel too. STOP ends the
fetching of a channel that runs. A writer that does not own the channel is refused with NOTOWNER. BUSERR is cleared only
while no channel runs. -/
def Obligations.ChannelsTakeTheirOwnersCommands : Prop :=
  (∀ (n : Fin 16) (who : Writer), Runs (.dmaGo · who n) (fun u => Served (R.DMA_n_CMD n) u ∧ u.mode ≠ Mode.safe) (fun u t =>
    (¬OwnsChannel n who u → t = u.put F.DMA_STAT_NOTOWNER 1) ∧
    (OwnsChannel n who u → u.get F.DMA_STAT_BUSERR = 1 ∨ u.get (F.DMA_n_STAT_STATE n) = 1 → t = u.put F.DMA_STAT_BADCMD 1) ∧
    (OwnsChannel n who u → u.get F.DMA_STAT_BUSERR = 0 → u.get (F.DMA_n_STAT_STATE n) ≠ 1 →
      t = ({ u with dma := u.dma.set n fresh }.put (F.DMA_n_CUR_OFFSET n) (u.get (F.DMA_n_HEAD_OFFSET n))).put
        (F.DMA_n_STAT_STATE n) 1))) ∧
  (∀ (n : Fin 16) (who : Writer), Runs (.dmaResume · who n) (fun u => Served (R.DMA_n_CMD n) u ∧ u.mode ≠ Mode.safe) (fun u t =>
    (¬OwnsChannel n who u → t = u.put F.DMA_STAT_NOTOWNER 1) ∧
    (OwnsChannel n who u → u.get F.DMA_STAT_BUSERR = 1 ∨ u.get (F.DMA_n_STAT_STATE n) < 2 → t = u.put F.DMA_STAT_BADCMD 1) ∧
    (OwnsChannel n who u → u.get F.DMA_STAT_BUSERR = 0 → 2 ≤ u.get (F.DMA_n_STAT_STATE n) →
      t.dma = u.dma.set n fresh ∧ t.get (F.DMA_n_STAT_STATE n) = 1 ∧
        OnlyRegs [R.DMA_n_STAT n] { u with dma := t.dma } t))) ∧
  (∀ (n : Fin 16) (who : Writer), Runs (.dmaStop · who n) (fun u => Served (R.DMA_n_CMD n) u ∧ u.mode ≠ Mode.safe) (fun u t =>
    (¬OwnsChannel n who u → t = u.put F.DMA_STAT_NOTOWNER 1) ∧
    (OwnsChannel n who u → u.get (F.DMA_n_STAT_STATE n) = 1 →
      t = { u with dma := u.dma.set n { u.dma[n] with stopping := true } }) ∧
    (OwnsChannel n who u → u.get (F.DMA_n_STAT_STATE n) ≠ 1 → t = u))) ∧
  ∀ who : Writer, Runs (.buserrClear · who) (Served R.DMA_STAT) (fun u t =>
    ((∀ n : Fin 16, u.get (F.DMA_n_STAT_STATE n) ≠ 1) → t.get F.DMA_STAT_BUSERR = 0) ∧
    ((∃ n : Fin 16, u.get (F.DMA_n_STAT_STATE n) = 1) → t.get F.DMA_STAT_BUSERR = u.get F.DMA_STAT_BUSERR) ∧
    OnlyRegs [R.DMA_STAT] u t)

/-- COPY, FILL, COMPARE, WAYBILL_COMPLETE, BUS_ERROR and DMA_DRAIN_DONE (R271 to R276, R278, R280): a COPY that passes the
check fetches lines of 512 bytes from the Serai or from host memory, as many as LINES allows, and by its completion all its
bytes have reached the Serai or host memory; a FILL writes its pattern; a COMPARE finds the first granule that differs. A
Waybill of no bytes completes at once. Completion tells its status, goes to the next Waybill or ends the chain, and signals
the owner. A Waybill whose length or destination is no multiple of its unit halts the channel with DMA_ALIGN. A bus error
discards the lines held and stops every channel that runs; a stopped channel drains its lines and stays STOPPED at its
Waybill. -/
def Obligations.WaybillsMoveData : Prop :=
  (∀ (n : Fin 16) (w hs hd : List Byte), Runs (.copy · n hs hd)
    (fun u => Begins n w u ∧ Alone n u ∧ u.dmaBuf = [] ∧ 0 < u.get (F.DMA_n_CFG_LINES n) ∧ Wb.op w = 1 ∧ 0 < Wb.len w ∧
      SourceSound w hs u)
    (fun u t =>
      let k := min (min (u.get (F.DMA_n_CFG_LINES n)) 128) ((Wb.len w + 511) / 512)
      t = { u with
        dmaBuf := linesOf n w (sourceOf w hs u) k
        dmaLast := n
        dma := u.dma.set n ⟨w, some (1, 0xFFFFFF), false, min (Wb.len w) (512 * k), hs⟩ })) ∧
  (∀ (n : Fin 16) (w : List Byte), Runs (.fill · n)
    (fun u => Begins n w u ∧ Wb.op w = 2 ∧ 0 < Wb.len w ∧ TargetOpen w u)
    (fun u t => ∃ bs : List Byte, bs.length = Wb.len w ∧ (∀ i, i < Wb.len w → bs.getD i 0 = w.getD (8 + i % 4) 0) ∧
      t = { landed ⟨n, Wb.dstSpace w, Wb.dst w, bs⟩ u with
        dma := u.dma.set n ⟨w, some (1, 0xFFFFFF), false, 0, []⟩ })) ∧
  (∀ (n : Fin 16) (w hs hd : List Byte), Runs (.compare · n hs hd)
    (fun u => Begins n w u ∧ Wb.op w = 3 ∧ 0 < Wb.len w ∧ SourceSound w hs u ∧ TargetSound w hd u)
    (fun u t =>
      let x := sourceOf w hs u
      let y := targetOf w hd u
      (x = y → t = { u with dma := u.dma.set n ⟨w, some (1, 0xFFFFFF), false, 0, hs⟩ }) ∧
      ∀ g, 16 * g < Wb.len w → x.take (16 * g) = y.take (16 * g) → (x.drop (16 * g)).take 16 ≠ (y.drop (16 * g)).take 16 →
        t = { u with dma := u.dma.set n ⟨w, some (2, 16 * g), false, 0, hs⟩ })) ∧
  (∀ (n : Fin 16) (w hs hd : List Byte) (op : Nat) (c : Nat → Instr),
    (op, c) ∈ [(1, (.copy · n hs hd)), (2, (.fill · n)), (3, (.compare · n hs hd))] → Runs c
    (fun u => Begins n w u ∧ Wb.op w = op ∧ Wb.len w = 0 ∧ Alone n u ∧ u.dmaBuf = [] ∧
      Open (u.get (F.DMA_n_CUR_OFFSET n)) 32 u)
    (fun u t => Completed n w 1 0xFFFFFF u t)) ∧
  (∀ (n : Fin 16) (w hs hd : List Byte) (c : Nat → Instr), c ∈ [(.copy · n hs hd), (.fill · n), (.compare · n hs hd)] → Runs c
    (fun u => u.mode ≠ Mode.reset ∧ u.mode ≠ Mode.safe ∧ u.get (F.DMA_n_STAT_STATE n) = 1 ∧ u.dma[n].stopping = false ∧
      u.dma[n].moved = none ∧ Open (u.get (F.DMA_n_CUR_OFFSET n)) 32 u ∧ OffLog n u ∧
      u.bytesAt (u.get (F.DMA_n_CUR_OFFSET n)) 32 = w ∧ (Wb.len w % 16 ≠ 0 ∨ Wb.dst w % 16 ≠ 0))
    (fun u t => ChannelEnds n 2 3 u t ∧ OnlyStatus n inLog u t ∧
      (∃ more, t.faults.log = u.faults.log ++ ⟨0x08, 1, n, u.stamp⟩ :: more) ∧
      Signals (chanRegs n) { u with ser := t.ser, dma := t.dma, dmaBuf := u.dmaBuf.filter (·.chan != n) } t)) ∧
  (∀ (n : Fin 16) (w hs : List Byte) (st mis got : Nat), st < 256 → mis < 2 ^ 24 → Runs (.waybillComplete · n)
    (fun u => u.dma[n] = ⟨w, some (st, mis), false, got, hs⟩ ∧ u.get (F.DMA_n_STAT_STATE n) = 1 ∧
      (Wb.op w = 1 → Wb.len w ≤ got) ∧ Alone n u ∧ OwnLines n u ∧ Open (u.get (F.DMA_n_CUR_OFFSET n)) 32 u)
    (fun u t => Completed n w st mis (drained u) t)) ∧
  (∀ (n : Fin 16) (w hs : List Byte) (k : Nat), Runs (.waybillComplete · n)
    (fun u => u.dma[n] = ⟨w, some (1, 0xFFFFFF), false, min (Wb.len w) (512 * k), hs⟩ ∧ Wb.op w = 1 ∧ 512 * k < Wb.len w ∧
      u.get (F.DMA_n_STAT_STATE n) = 1 ∧ 0 < u.get (F.DMA_n_CFG_LINES n) ∧ Alone n u ∧
      u.dmaBuf = linesOf n w (sourceOf w hs u) k ∧ SourceSound w hs u ∧ TargetOpen w u ∧
      (Wb.srcSpace w ≠ 1 → Wb.dstSpace w ≠ 1 → Apart (Wb.src w) (Wb.len w) (Wb.dst w) (Wb.len w)) ∧
      Open (u.get (F.DMA_n_CUR_OFFSET n)) 32 u)
    (fun u t => Completed n w 1 0xFFFFFF { drained { u with
      dmaBuf := linesOf n w (sourceOf w hs u) ((Wb.len w + 511) / 512) } with dmaLast := n } t)) ∧
  (∀ (n : Fin 16) (cause addr : Nat), cause < 4 → addr < 2 ^ 64 → Runs (.busError · cause addr)
    (fun u => u.get (F.DMA_n_STAT_STATE n) = 1 ∧ (∀ k : Fin 16, k ≠ n → u.get (F.DMA_n_STAT_STATE k) ≠ 1) ∧
      Open (u.get (F.DMA_n_CUR_OFFSET n)) 32 u ∧ OffLog n u)
    (fun u t => ChannelEnds n 3 7 u t ∧ OnlyStatus n inLog u t ∧ t.get F.DMA_STAT_BUSERR = 1 ∧
      t.get F.DMA_ERRINFO_CAUSE = cause ∧ t.get F.DMA_ERRADDR_LO_ADDR + 2 ^ 32 * t.get F.DMA_ERRADDR_HI_ADDR = addr ∧
      (∃ more, t.faults.log = u.faults.log ++ ⟨0x09, 2, 0, u.stamp⟩ :: more) ∧
      Signals (chanRegs n ++ [R.DMA_STAT, R.DMA_ERRINFO, R.DMA_ERRADDR_LO, R.DMA_ERRADDR_HI])
        { u with ser := t.ser, dma := t.dma, dmaBuf := [] } t)) ∧
  ∀ n : Fin 16, Runs (.dmaDrainDone · n)
    (fun u => u.dma[n].stopping = true ∧ u.get (F.DMA_n_STAT_STATE n) = 1 ∧ Alone n u ∧ OwnLines n u ∧
      Open (u.get (F.DMA_n_CUR_OFFSET n)) 32 u)
    (fun u t => ChannelEnds n 3 6 (drained u) t ∧ OnlyStatus n (fun _ => false) (drained u) t ∧
      Signals (chanRegs n) { drained u with ser := t.ser, dma := t.dma } t)

/-! ## Caravan (16_caravan.md) -/

namespace Sys2Proof.Claims

/-- The chip holds the lead role. -/
abbrev Lead (u : State) : Prop := u.get F.CAR_STAT_ROLE = 2 ∨ u.get F.CAR_STAT_ROLE = 3

/-- The chip is a member without a host strap and without a Tandem, and no Manifest check of its waits on the ring. -/
abbrev Member (u : State) : Prop :=
  u.get F.CAR_STAT_ROLE = 1 ∧ 2 ≤ u.get F.SYS_STRAP_HOST ∧ u.tandem = false ∧ u.man.atScope = false

/-- The frame of a command that sends packets and changes the registers at `offs` and the ring's hidden state. -/
abbrev RingOnly (offs : List Nat) (u t : State) : Prop := OnlyRegs offs { u with out := t.out, car := t.car } t

/-- The chips named in set `k` (CAR_SET) and programme `k` (CAR_PROG) of the lead, bit i for chip i. -/
def chipSet (k : Nat) (u : State) : Nat := u.get (F.CAR_SET_s_h_CHIPS k 0) + 2 ^ 32 * u.get (F.CAR_SET_s_h_CHIPS k 1)
def chipProg (k : Nat) (u : State) : Nat := u.get (F.CAR_PROG_s_h_CHIPS k 0) + 2 ^ 32 * u.get (F.CAR_PROG_s_h_CHIPS k 1)

/-- RESET packets to the chips of a list, each out of the port by which it is reached; one that no way reaches gets none. -/
def resets (l : List Nat) (u : State) : List Out :=
  spoken u (l.filterMap fun i => (u.route i).map fun port => .packet port i .reset)

/-- A packet sent to every chip leaves by both ports. -/
def both (p : Packet) : List Out := [.packet 0 0xFF p, .packet 1 0xFF p]

/-- A packet has come in (R284): acknowledged and relayed, and `post` holds from there where it is for this chip. -/
abbrev Received (h : PktHead) (p : Packet) (post : State → State → Prop) (u t : State) : Prop :=
  ∃ v, Hopped h p u v ∧ (u.isFor h = false → t = v) ∧ (u.isFor h = true → post v t)

/-- A packet that each chip changes as it sends it on has come in (R284): it is acknowledged, and `post` holds from there. -/
abbrev PassedOn (h : PktHead) (post : State → State → Prop) (u t : State) : Prop :=
  ∃ v, v.get (F.CAR_CNT_k_COUNT 0) = min (u.get (F.CAR_CNT_k_COUNT 0) + h.fails) (2 ^ 32 - 1) ∧
    v.out = u.out ++ spoken u [.hopAck h.port h.seq] ∧ OnlyRegs [R.CAR_CNT_k 0] { u with out := v.out } v ∧ post v t

/-- A channel of the event fabric that is SECURE under CN404 hides its route and its counts from the host (R428). -/
abbrev Hidden (off : Nat) (u : State) : Prop :=
  u.get F.EVT_CTL_CN404 = 1 ∧ ∃ c < 64, u.get (F.EVT_CH_c_SECURE c) = 1 ∧
    (off = R.EVT_CH_c_0 c ∨ off = R.EVT_CH_c_1 c ∨ off = R.EVT_CNT_c c)

/-- Packet `p` leaves one hop further by port `port`. -/
def onward (h : PktHead) (port : Nat) (p : Packet) : List Out := [.relay port h.origin h.dest (h.hops + 1) h.seq p]

/-- The index that ENUM carries on: the next one eastwards, the one before it westwards, around the ring. -/
def onwardIndex (h : PktHead) (next size : Nat) : Nat :=
  if h.port = 1 then next + 1 else if next = 0 then size - 1 else next - 1

/-- The chips below 64 of parity `p` named in `m`. -/
def chipsOf (p m : Nat) : List Nat := (List.range 64).filter fun i => i % 2 == p && m.testBit i

/-- The hop that a chip's port joins: hop i lies east of chip i. -/
def hopOf2 (chip port : Nat) (u : State) : Nat :=
  if port = 0 then chip % max 1 (u.get F.CAR_STAT_SIZE)
  else (chip + max 1 (u.get F.CAR_STAT_SIZE) - 1) % max 1 (u.get F.CAR_STAT_SIZE)

end Sys2Proof.Claims

/-- Enumeration and the ports (R282, R283, R287, R296 to R298): the lead sends ENUM out of its east port while no TICK block
runs, a chip with a host strap takes no index, a member takes the index carried and forwards the packet with the next, and
the lead takes the count, or after a timeout the chips reached from both sides, as SIZE, at most 64. PING measures the link
delay as half of the round trip; a port that loses its neighbour goes down with CAR_BREAK, LINK tells of it, and the lead
enumerates again when one comes up. A member that has missed three TICK packets is isolated until it is reached. -/
def Obligations.RingsAreEnumeratedAndWatched : Prop :=
  (∀ who : Writer, Runs (.carEnum · who) (Served R.CAR_CMD) (fun u t =>
    (Lead u → u.tickRuns = false →
      t = { u with
        out := u.out ++ spoken u [.packet 0 0xFF (.enum (u.get F.CAR_STAT_INDEX + 1) 1)]
        car := { u.car with enumAt := some u.tally.clock } }) ∧
    (Lead u → u.tickRuns = true → t = u) ∧ (¬Lead u → t = u.put F.CAR_STAT_NOTLEAD 1))) ∧
  (∀ (h : PktHead) (next count size : Nat), Runs (.enum ⟨·, h⟩ next count size) (fun u => u.mode ≠ Mode.reset ∧ Member u)
    (PassedOn h fun v t =>
      let on := spoken v (onward h (1 - h.port.val) (.enum (onwardIndex h next size) (count + 1)))
      let tells := v.car.owesReturn = true ∧ v.mode ≠ Mode.boot
      (64 ≤ next → t = { v with out := v.out ++ on }) ∧
      (next < 64 → t.get F.CAR_STAT_INDEX = next ∧ t.get F.CAR_STAT_ROLE = 1 ∧ t.get F.CAR_STAT_SIZE = min 64 size ∧
        t.out = v.out ++ on ++
          (if tells then spoken v [.toLead (R.CAR_SET_s_h 3 (next / 32)) (2 ^ (next % 32))] else []) ∧
        (64 < size → t.get F.CAR_STAT_OVER = 1) ∧ (size ≤ 64 → t.get F.CAR_STAT_OVER = v.get F.CAR_STAT_OVER) ∧
        t.car = { v.car with enumAt := none, owesReturn := if tells then false else v.car.owesReturn } ∧
        RingOnly [R.CAR_STAT] v t))) ∧
  (∀ (h : PktHead) (next count size : Nat), Runs (.enum ⟨·, h⟩ next count size)
    (fun u => u.mode ≠ Mode.reset ∧ u.get F.SYS_STRAP_HOST < 2 ∧ u.get F.CAR_STAT_ROLE ≠ 1 ∧
      ¬(Lead u ∧ u.car.enumAt.isSome = true))
    (fun u t => t = (u.put F.CAR_STAT_TWOLEADS 1).put (F.CAR_CNT_k_COUNT 0)
      (min (u.get (F.CAR_CNT_k_COUNT 0) + h.fails) (2 ^ 32 - 1)))) ∧
  (∀ (h : PktHead) (next count size : Nat), Runs (.enum ⟨·, h⟩ next count size)
    (fun u => u.mode ≠ Mode.reset ∧ u.get F.SYS_STRAP_HOST < 2 ∧ u.get F.CAR_STAT_ROLE = 1 ∧ u.man.atScope = false)
    (PassedOn h fun v t => t.get F.CAR_STAT_SIZE = min 64 size ∧ t.get F.CAR_STAT_INDEX = v.get F.CAR_STAT_INDEX ∧
      t.get F.CAR_STAT_ROLE = 1 ∧ t.get F.CAR_STAT_TWOLEADS = v.get F.CAR_STAT_TWOLEADS ∧
      t.out = v.out ++ spoken v (onward h (1 - h.port.val) (.enum (onwardIndex h next size) (count + 1))) ∧
      t.car = { v.car with enumAt := none } ∧ RingOnly [R.CAR_STAT] v t)) ∧
  (∀ (h : PktHead) (next count size c0 : Nat), Runs (.enum ⟨·, h⟩ next count size)
    (fun u => u.mode ≠ Mode.reset ∧ Lead u ∧ u.car.enumAt = some c0 ∧ u.man.atScope = false)
    (PassedOn h fun v t => (h.port = 0 → t = v) ∧
      (h.port = 1 → t.get F.CAR_STAT_SIZE = min 64 count ∧ chipSet 0 t = 2 ^ min 64 count - 1 ∧
        (64 < count → t.get F.CAR_STAT_OVER = 1) ∧ t.car = { v.car with enumAt := none } ∧ t.out = v.out ∧
        RingOnly [R.CAR_STAT, R.CAR_SET_s_h 0 0, R.CAR_SET_s_h 0 1] v t))) ∧
  (∀ east west c0 : Nat, Runs (.enumTimeout · east west)
    (fun u => Lead u ∧ u.car.enumAt = some c0 ∧ u.man.atScope = false)
    (fun u t =>
      let n := 1 + east + west
      (u.tally.clock < c0 + 32000 → t = u) ∧
      (c0 + 32000 ≤ u.tally.clock → t.get F.CAR_STAT_SIZE = min 64 n ∧ chipSet 0 t = 2 ^ min 64 n - 1 ∧
        t.car = { u.car with enumAt := none } ∧
        t.out = u.out ++ spoken u [.packet 1 0xFF (.enum ((u.get F.CAR_STAT_INDEX + east + west) % n) 1)] ∧
        RingOnly [R.CAR_STAT, R.CAR_SET_s_h 0 0, R.CAR_SET_s_h 0 1] u t))) ∧
  Runs (.ping ·)
    (fun u => u.get F.CAR_STAT_TWOLEADS = 0 ∧ u.get (F.CAR_LINK_p_UP 0) = 1 ∧ u.get (F.CAR_LINK_p_UP 1) = 1 ∧
      u.car.pingOpen = [false, false] ∧ u.car.pingMiss.length = 2)
    (fun u t => t = { u with
      out := u.out ++ both .ping
      car := { u.car with pingMiss := [0, 0], pingOpen := [true, true] } }) ∧
  Runs (.ping ·) (fun u => u.get F.CAR_STAT_TWOLEADS = 1) (fun u t => t = u) ∧
  (∀ (p : Fin 2) (rtt : Nat), Runs (.pingReceive · p rtt) (fun _ => True) (fun u t =>
    t = { u with car := { u.car with pingMiss := u.car.pingMiss.set p 0, pingOpen := u.car.pingOpen.set p false } }.put
      (F.CAR_LINK_p_DLY p) (min (rtt / 2) 65535))) ∧
  (∀ p : Fin 2, Runs (.portDown · p) (fun u => u.get (F.CAR_LINK_p_UP p) = 1) (fun u t =>
    t.get (F.CAR_LINK_p_UP p) = 0 ∧ t.get (if p = 0 then F.CAR_STAT_EUP else F.CAR_STAT_WUP) = 0 ∧
      hopOf2 (u.get F.CAR_STAT_INDEX) p u ∈ t.car.breaks ∧
      t.get (F.CAR_CNT_k_COUNT 1) = min (u.get (F.CAR_CNT_k_COUNT 1) + 1) (2 ^ 32 - 1) ∧
      (∃ more, t.out = u.out ++ spoken u (both (.link p false)) ++ more) ∧
      (∃ more, t.faults.log = u.faults.log ++ ⟨0x0C, 2, p, u.stamp⟩ :: more) ∧
      Signals [R.CAR_LINK_p p, R.CAR_STAT, R.CAR_CNT_k 1] { u with car := t.car } t)) ∧
  (∀ p : Fin 2, Runs (.portDown · p) (fun u => u.get (F.CAR_LINK_p_UP p) = 0) (fun u t => t = u)) ∧
  (∀ (h : PktHead) (port : Nat) (up : Bool), Runs (.link · h port up) (fun u => u.mode ≠ Mode.reset)
    (Received h (.link port up) fun v t =>
      (up = false → hopOf2 h.origin port v ∈ t.car.breaks) ∧ (up = true → hopOf2 h.origin port v ∉ t.car.breaks) ∧
      (∀ i, i ≠ hopOf2 h.origin port v → (i ∈ t.car.breaks ↔ i ∈ v.car.breaks)) ∧
      let mine : Fin 2 := if port = 0 then 1 else 0
      let ends := up = false ∧ hopOf2 (v.get F.CAR_STAT_INDEX) mine v = hopOf2 h.origin port v ∧ v.get F.CAR_STAT_INDEX ≠ h.origin
      (ends ∧ v.get (F.CAR_LINK_p_UP mine) = 1 → t.get (F.CAR_LINK_p_UP mine) = 0 ∧
        (∃ more, t.faults.log = v.faults.log ++ ⟨0x0C, 2, mine, v.stamp⟩ :: more) ∧
        Signals [R.CAR_LINK_p mine, R.CAR_STAT, R.CAR_CNT_k 1] { v with car := t.car } t) ∧
      (¬(ends ∧ v.get (F.CAR_LINK_p_UP mine) = 1) → t = if Lead v ∧ up = true then { v with
          out := v.out ++ spoken v [.packet 0 0xFF (.enum (v.get F.CAR_STAT_INDEX + 1) 1)]
          car := { v.car with breaks := t.car.breaks, enumAt := some v.tally.clock } }
        else { v with car := { v.car with breaks := t.car.breaks } }))) ∧
  Runs (.isolation ·) (fun u => u.get F.CAR_STAT_ROLE = 1 ∧ 3 ≤ u.car.missed ∧ u.get F.CAR_STAT_ISOLATED = 0) (fun u t =>
    t.get F.CAR_STAT_ISOLATED = 1 ∧ t.get F.CAR_STAT_ALIGNED = 0 ∧ t.get F.CAR_REJOIN_SLOTS = 0 ∧
      t.car = { u.car with alignRun := 0 } ∧ RingOnly [R.CAR_STAT, R.CAR_REJOIN] u t) ∧
  ∀ (p : Fin 2) (err : Int) (same : Bool), Runs (.linkUp · p err same)
    (fun u => u.get (F.CAR_LINK_p_UP p) = 0 ∧ u.get F.CAR_STAT_ROLE = 1 ∧ u.get F.CAR_STAT_ISOLATED = 1 ∧ u.tandem = false ∧
      u.get F.TICK_CTL_SRC = 1)
    (fun u t =>
      t.get (F.CAR_LINK_p_UP p) = 1 ∧ t.get F.CAR_STAT_ISOLATED = 0 ∧ t.car.missed = 0 ∧
      hopOf2 (u.get F.CAR_STAT_INDEX) p u ∉ t.car.breaks ∧
      (∃ more, t.out = u.out ++ spoken u (both (.link p true) ++ [.toLead R.CAR_REJOIN (u.reg R.CAR_REJOIN).toNat]) ++ more) ∧
      t.get (F.CAR_CNT_k_COUNT 7) = min (u.get (F.CAR_CNT_k_COUNT 7) + 1) (2 ^ 32 - 1) ∧
      (4 * err.natAbs ≤ 125 * u.slotLen ∧ same = true → t.get F.CAR_STAT_FARSKEW = u.get F.CAR_STAT_FARSKEW) ∧
      (¬(4 * err.natAbs ≤ 125 * u.slotLen ∧ same = true) → t.get F.CAR_STAT_FARSKEW = 1 ∧
        t.get (F.CAR_CNT_k_COUNT 6) = min (u.get (F.CAR_CNT_k_COUNT 6) + 1) (2 ^ 32 - 1)) ∧
      Signals [R.CAR_LINK_p p, R.CAR_STAT, R.CAR_CNT_k 6, R.CAR_CNT_k 7] { u with car := t.car } t)

/-- Register and aperture packets (R285, R286, R288, R294, R295, R333): a remote write or read reaches the register or the
aperture of the chip it is for; a report to the lead adds its bits; a read that times out completes with all ones. -/
def Sys2Proof.Claims.RemoteAccessReaches : Prop :=
  (∀ (h : PktHead) (off : Nat) (x : Word), off < 0x800000 → off % 4 = 0 → Runs (.rwr ⟨·, h⟩ off x)
    (fun u => u.mode ≠ Mode.reset ∧ ¬(Lead u ∧ isReport off = true) ∧ NoStep u)
    (Received h (.rwr off x) fun v t => NoStep (writeReg .remote off x.toNat v) → t = writeReg .remote off x.toNat v)) ∧
  (∀ (h : PktHead) (off : Nat) (x : Word), isReport off = true → Runs (.rwr ⟨·, h⟩ off x)
    (fun u => Lead u ∧ u.mode = Mode.safe ∧ NoStep u) (Received h (.rwr off x) fun v t => t = v)) ∧
  (∀ (h : PktHead) (k i : Nat) (x : Word), k < 6 → i < 2 → Runs (.rwr ⟨·, h⟩ (R.CAR_SET_s_h k i) x)
    (fun u => u.mode ≠ Mode.reset ∧ u.mode ≠ Mode.safe ∧ Lead u ∧ u.journals = false ∧ NoStep u)
    (Received h (.rwr (R.CAR_SET_s_h k i) x) fun v t =>
      let left := v.car.wave - (v.car.wave &&& (x.toNat * 2 ^ (32 * i)))
      let put := v.put (F.CAR_SET_s_h_CHIPS k i) (v.get (F.CAR_SET_s_h_CHIPS k i) ||| x.toNat)
      (k ≠ 3 → t = put) ∧
      (k = 3 → left ≠ 0 ∨ v.get F.CAR_STAT_RWAVE ≠ 2 → t = { put with car := { v.car with wave := left } }) ∧
      (k = 3 → left = 0 → v.get F.CAR_STAT_RWAVE = 2 →
        t = { put with car := { v.car with wave := 0 } }.put F.CAR_STAT_RWAVE 0))) ∧
  (∀ (h : PktHead) (i : Nat) (x : Word), i < 2 → Runs (.rwr ⟨·, h⟩ (R.HST_RPEND_h i) x)
    (fun u => u.mode ≠ Mode.reset ∧ u.mode ≠ Mode.safe ∧ Lead u ∧ NoStep u)
    (Received h (.rwr (R.HST_RPEND_h i) x) fun v t =>
      t.get (F.HST_RPEND_h_BITS i) = v.get (F.HST_RPEND_h_BITS i) ||| x.toNat ∧ Signals [R.HST_RPEND_h i] v t)) ∧
  (∀ (h : PktHead) (x : Word), Runs (.rwr ⟨·, h⟩ R.CAR_REJOIN x)
    (fun u => u.mode ≠ Mode.reset ∧ u.mode ≠ Mode.safe ∧ Lead u ∧ NoStep u)
    (Received h (.rwr R.CAR_REJOIN x) fun v t =>
      (t.get (F.HST_VPEND_h_BITS 0)).testBit 18 = true ∧ Signals [] v t)) ∧
  (∀ (h : PktHead) (off port : Nat), off < 0x800000 → Runs (.rrd · h off)
    (fun u => u.mode ≠ Mode.reset ∧ u.route h.origin = some port)
    (Received h (.rrd off) fun v t =>
      (Hidden off v → t = { v with out := v.out ++ spoken v [.packet port h.origin (.rcpl 0)] }) ∧
      (¬Hidden off v → (readReg off v).2 = v →
        t = { v with out := v.out ++ spoken v [.packet port h.origin (.rcpl (readReg off v).1)] }))) ∧
  (∀ (h : PktHead) (x : Word), Runs (.rcpl ⟨·, h⟩ x) (fun u => u.mode ≠ Mode.reset)
    (Received h (.rcpl x) fun v t => t = { v with out := v.out ++ [.hostRead x] })) ∧
  (∀ (h : PktHead) (off : Nat) (bs : List Byte), 0x800000 ≤ off → Runs (.sdata · h off bs.length (some bs))
    (fun u => u.mode ≠ Mode.reset ∧ u.get F.SER_APER_BASE ≤ 384 ∧
      Open (u.get F.SER_APER_BASE * 65536 + (off - 0x800000)) bs.length u)
    (Received h (.swrite off bs) fun v t => t = v.poke (v.get F.SER_APER_BASE * 65536 + (off - 0x800000)) bs)) ∧
  (∀ (h : PktHead) (off n port : Nat), 0x800000 ≤ off → n ≤ 256 → Runs (.sdata · h off n none)
    (fun u => u.mode ≠ Mode.reset ∧ u.get F.SER_APER_BASE ≤ 384 ∧ u.route h.origin = some port ∧
      Storage (u.get F.SER_APER_BASE * 65536 + (off - 0x800000)) n u)
    (Received h (.sread off n) fun v t => t = { v with out := v.out ++ spoken v [.packet port h.origin
      (.swrite off (v.bytesAt (v.get F.SER_APER_BASE * 65536 + (off - 0x800000)) n))] })) ∧
  Runs (.remoteTimeout ·) (fun _ => True) (fun u t => t.get F.CAR_STAT_RTMO = 1 ∧
    t.get (F.CAR_CNT_k_COUNT 2) = min (u.get (F.CAR_CNT_k_COUNT 2) + 1) (2 ^ 32 - 1) ∧ t.out = u.out ++ [.hostRead 0xFFFFFFFF] ∧
    RingOnly [R.CAR_STAT, R.CAR_CNT_k 2] u t) ∧
  ∀ (h : PktHead) (next count size late ttt asn sfn slot slotlen sflen res off n port : Nat) (x : Word) (b : Bcast) (ready up : Bool)
    (data : Option (List Byte)) (bs : List Byte) (bad : List (Nat × Byte)),
    ∀ c ∈ [(Instr.enum ⟨·, h⟩ next count size), (Instr.tickPacket · late h ttt asn sfn slot slotlen sflen res), (Instr.rwr ⟨·, h⟩ off x),
      (Instr.rrd · h off), (Instr.rcpl ⟨·, h⟩ x), (Instr.sdata · h off n data), (Instr.bcast ⟨·, h⟩ b), (Instr.barq · h),
      (Instr.bara · h ready), (Instr.snap ⟨·, h⟩ asn), (Instr.image ⟨·, h⟩ off bs up bad), (Instr.link · h port up)],
      Runs c (fun u => u.mode = Mode.reset) (fun u t => t = u)

/-- The lead's broadcasts, barriers and snapshots (R51, R52, R57, R288, R289, R292 to R294): the lead's TICK packet leaves 64
grains before the tick with the slot it begins, and a member notes its phase error, relays what is left of TTT and counts
its alignment. ARM, GO and CANCEL arm a switch, let it go and cancel it. A barrier's question is answered unless the chip
is isolated, and it closes with the last answer or after BARTMO. -/
def Sys2Proof.Claims.RingsTickAndAgree : Prop :=
  Runs (.tickPacketSend ·) (fun u => Lead u ∧ u.tickRuns = true) (fun u t =>
    if u.tally.pos / 4 + 64 = u.slotLen then
      let wrap := u.sfLen ≤ u.tally.slot + 1
      t = { u with out := u.out ++ spoken u (both (.tick ((4 * u.slotLen - u.tally.pos) * 125 / 4)
        ((u.tally.asn + 1) % 2 ^ 40) (if wrap then (u.tally.sfn + 1) % 2 ^ 32 else u.tally.sfn)
        (if wrap then 0 else u.tally.slot + 1) u.slotLen u.sfLen)) }
    else t = u) ∧
  (∀ (late : Nat) (h : PktHead) (ttt asn sfn slot slotlen sflen res : Nat), h.hops < 64 → res < 256 →
    Runs (.tickPacket · late h ttt asn sfn slot slotlen sflen res)
    (fun u => u.mode ≠ Mode.reset ∧ u.get F.CAR_STAT_ROLE = 1 ∧ u.tandem = false ∧ u.get F.TICK_CTL_SRC = 1 ∧
      slotlen = u.slotLen ∧ sflen = u.sfLen ∧ u.car.tick = none ∧ u.get F.CAR_STAT_ISOLATED = 0 ∧ u.car.alignRun < 7 ∧
      u.tally.pos ≤ 4 * u.slotLen)
    (PassedOn h fun v t =>
      let dly := v.get (F.CAR_LINK_p_DLY h.port)
      let err : Int := ((4 * v.slotLen - v.tally.pos) * 125 / 4 : Nat) - late - ((ttt : Int) - dly)
      t.out = v.out ++ (if v.goesOn h = true
        then spoken v (onward h (v.onPort h) (.tick (ttt - dly - res) asn sfn slot slotlen sflen)) else []) ∧
      t.car = { v.car with
        tick := some ⟨asn, sfn, slot, slotlen, sflen, h.hops, h.port⟩
        alignRun := if err.natAbs ≤ 40 then v.car.alignRun + 1 else 0 } ∧
      t.get (F.CAR_LINK_p_RES h.port) = res ∧ t.get F.CAR_PHASEERR_HOPS = h.hops ∧ t.get F.CAR_PHASEERR_PORT = h.port ∧
      (err.natAbs < 2 ^ 23 → t.getS F.CAR_PHASEERR_ERR = err) ∧ t.get F.CAR_STAT_ALIGNED = 0 ∧
      RingOnly [R.CAR_LINK_p h.port, R.CAR_PHASEERR, R.CAR_STAT] v t)) ∧
  (∀ (late : Nat) (h : PktHead) (ttt asn sfn slot slotlen sflen res : Nat), Runs (.tickPacket · late h ttt asn sfn slot slotlen sflen res)
    (fun u => u.mode ≠ Mode.reset ∧ u.get F.CAR_STAT_ROLE = 1 ∧ u.tickRuns = true ∧
      (slotlen ≠ u.slotLen ∨ sflen ≠ u.sfLen))
    (PassedOn h fun v t => t.get F.CAR_STAT_FMTBAD = 1 ∧ t.car = v.car ∧
      RingOnly [R.CAR_LINK_p h.port, R.CAR_STAT] v t)) ∧
  (∀ (h : PktHead) (sfn : Nat), sfn < 2 ^ 32 → Runs (.bcast ⟨·, h⟩ (.arm sfn)) (fun u => u.mode ≠ Mode.reset)
    (Received h (.bcast (.arm sfn)) fun v t => t.on F.MAN_STAT_ARMED = true ∧ t.on F.MAN_STAT_GO = false ∧
      t.on F.MAN_STAT_NEXT = false ∧ t.get F.MAN_SWITCH_SFN_SFN = sfn ∧
      t.man = { v.man with armT := sfn, barOk := false, armAge := 0 } ∧
      (v.ser.errs = [] → v.ser.poison = [] → OnlyRegs [R.MAN_STAT, R.MAN_SWITCH_SFN, R.MAN_ERR] { v with man := t.man } t))) ∧
  (∀ h : PktHead, Runs (.bcast ⟨·, h⟩ .go) (fun u => u.mode ≠ Mode.reset)
    (Received h (.bcast .go) fun v t => t = if v.on F.MAN_STAT_ARMED = true then v.put F.MAN_STAT_GO 1 else v)) ∧
  (∀ (h : PktHead) (cause missing : Nat), cause < 8 → missing < 64 →
    Runs (.bcast ⟨·, h⟩ (.cancel cause missing)) (fun u => u.mode ≠ Mode.reset)
    (Received h (.bcast (.cancel cause missing)) fun v t =>
      (v.on F.MAN_STAT_ARMED = false → t = v) ∧
      (v.on F.MAN_STAT_ARMED = true → t.on F.MAN_STAT_ARMED = false ∧ t.on F.MAN_STAT_CANCELLED = true ∧
        t.get F.MAN_SWITCH_STAT_CAUSE = cause ∧ t.get F.MAN_SWITCH_STAT_MISSING = missing ∧
        Signals [R.MAN_STAT, R.MAN_SWITCH_STAT, R.SF_STAT, R.CAR_REJOIN] { v with man := t.man, sf := t.sf } t))) ∧
  (∀ (h : PktHead) (port : Nat), Runs (.barq · h)
    (fun u => u.mode ≠ Mode.reset ∧ u.ser.errs = [] ∧ u.ser.poison = [] ∧ u.route h.origin = some port)
    (Received h .barq fun v t =>
      (v.get F.CAR_STAT_ISOLATED = 1 → t = v) ∧
      (v.get F.CAR_STAT_ISOLATED = 0 → t.out = v.out ++ spoken v [.packet port h.origin (.bara (t.on F.MAN_STAT_READY))] ∧
        (v.get F.MAN_STAT_SHADOW ≠ 2 ∨ v.get F.MAN_STAT_ARMED = 0 → t.on F.MAN_STAT_READY = false) ∧
        OnlyRegs [R.MAN_STAT, R.MAN_ERR] { v with out := t.out } t))) ∧
  (∀ (h : PktHead) (ans rdy at_ : Nat) (ready : Bool), h.origin < 64 → Runs (.bara · h ready)
    (fun u => u.mode ≠ Mode.reset ∧ u.car.barrier = some (ans, rdy, at_))
    (Received h (.bara ready) fun v t =>
      let ans' := ans ||| 2 ^ h.origin
      let rdy' := if ready then rdy ||| 2 ^ h.origin else rdy
      let all := 2 ^ v.get F.CAR_STAT_SIZE - 1
      (ans' &&& all ≠ all → t = { v with car := { v.car with barrier := some (ans', rdy', at_) } }) ∧
      (ans' &&& all = all → rdy' < 2 ^ 64 → t.car.barrier = none ∧
        t.get F.MAN_READY_LO_READY + 2 ^ 32 * t.get F.MAN_READY_HI_READY = rdy' ∧
        t.man.barOk = (v.man.barOk || decide (rdy' = all)) ∧
        OnlyRegs [R.MAN_READY_LO, R.MAN_READY_HI, R.CAR_CNT_k 4] { v with car := t.car, man := t.man } t))) ∧
  (∀ ans rdy at_ : Nat, rdy < 2 ^ 64 → Runs (.barrierTimeout ·) (fun u => u.car.barrier = some (ans, rdy, at_)) (fun u t =>
    (u.tally.clock < at_ + 32 * u.get F.CAR_CFG_BARTMO → t = u) ∧
    (at_ + 32 * u.get F.CAR_CFG_BARTMO ≤ u.tally.clock → t.car.barrier = none ∧
      t.get F.MAN_READY_LO_READY + 2 ^ 32 * t.get F.MAN_READY_HI_READY = rdy ∧
      (rdy ≠ 2 ^ u.get F.CAR_STAT_SIZE - 1 → t.man.barOk = u.man.barOk ∧
        t.get (F.CAR_CNT_k_COUNT 4) = min (u.get (F.CAR_CNT_k_COUNT 4) + 1) (2 ^ 32 - 1))))) ∧
  (∀ who : Writer, Runs (.carSnap · who) (fun u => Served R.CAR_CMD u ∧ Lead u ∧ u.tally.asn < 2 ^ 39) (fun u t =>
    let target := u.get F.CAR_SNAP_ASNL_ASN + 2 ^ 32 * (u.get F.CAR_SNAP_ASNH_ASN % 256)
    let applied := u.tally.asn + if u.tally.pos / 4 + 3 ≤ u.slotLen then 1 else 2
    (applied ≤ target → target < applied + 2 → t = u.put F.CAR_STAT_BADVAL 1) ∧
    (applied + 2 ≤ target → target < applied + 2 ^ 39 →
      t.car = { u.car with snap := some target } ∧ t.out = u.out ++ spoken u (both (.snap target)) ∧ chipSet 2 t = 0 ∧
        RingOnly [R.CAR_SET_s_h 2 0, R.CAR_SET_s_h 2 1] u t))) ∧
  ∀ (h : PktHead) (asn : Nat), Runs (.snap ⟨·, h⟩ asn) (fun u => u.mode ≠ Mode.reset)
    (Received h (.snap asn) fun v t => t = { v with car := { v.car with snap := some (asn % 2 ^ 40) } })

/-- Reset waves and images (R295, R300): they go out as their commands say; a wave ends with the last chip that returns, and
a sector that a target read back wrong drops it. -/
def Sys2Proof.Claims.RingsResetAndUpdate : Prop :=
  (∀ who : Writer, Runs (.carReset · who)
    (fun u => Served R.CAR_CMD u ∧ Lead u ∧ u.get F.CAR_STAT_RWAVE = 0 ∧ u.get F.CAR_STAT_INDEX ∉ chipsOf 0 (chipProg 0 u))
    (fun u t => t.get F.CAR_STAT_RWAVE = 1 ∧ t.out = u.out ++ resets (chipsOf 0 (chipProg 0 u)) u ∧ chipSet 3 t = 0 ∧
      (∀ i, i < 64 → (t.car.wave.testBit i ↔ i ∈ chipsOf 0 (chipProg 0 u))) ∧
      RingOnly [R.CAR_STAT, R.CAR_SET_s_h 3 0, R.CAR_SET_s_h 3 1] u t)) ∧
  (∀ who : Writer, Runs (.carAbort · who) (fun u => Served R.CAR_CMD u ∧ Lead u) (fun u t =>
    (u.get F.CAR_STAT_RWAVE = 1 → t = { u with car := { u.car with wave := 0 } }.put F.CAR_STAT_RWAVE 0) ∧
    (u.get F.CAR_STAT_RWAVE ≠ 1 → t = u))) ∧
  Runs (.resetWave2 ·)
    (fun u => Lead u ∧ u.journals = false ∧ u.get F.CAR_STAT_RWAVE = 1 ∧ u.car.wave = 0 ∧
      u.get F.CAR_STAT_INDEX ∉ chipsOf 1 (chipProg 0 u))
    (fun u t => t.get F.CAR_STAT_RWAVE = (if chipsOf 1 (chipProg 0 u) = [] then 0 else 2) ∧
      t.out = u.out ++ resets (chipsOf 1 (chipProg 0 u)) u ∧
      (∀ i, i < 64 → (t.car.wave.testBit i ↔ i ∈ chipsOf 1 (chipProg 0 u))) ∧ RingOnly [R.CAR_STAT] u t) ∧
  (∀ (who : Writer) (j port : Nat), j < 64 → Runs (.carImage · who)
    (fun u => Served R.CAR_CMD u ∧ Lead u ∧ u.get F.CAR_STAT_IMGBUSY = 0 ∧ u.get F.TRU_LOCK_UPDATE = 0 ∧ u.tandem = false ∧
      u.tan.hoAt = none ∧ u.takeoverNow = false ∧ u.get F.UPD_HOLDUP_MIN_MV ≤ u.get F.UPD_HOLDUP_MV ∧
      chipProg 1 u = 2 ^ j ∧ j ≠ u.get F.CAR_STAT_INDEX ∧ u.route j = some port)
    (fun u t =>
      let len := u.stagedLen
      t.get F.CAR_STAT_IMGBUSY = 1 ∧ chipSet 4 t = 0 ∧ chipSet 5 t = 0 ∧
      t.car = { u.car with imgSector := min 2 ((len + 4095) / 4096), imgLeft := [(j, 0)] } ∧
      t.out = u.out ++ spoken u ((List.range ((min 8192 len + 255) / 256)).map fun i =>
        .packet port j (.image (256 * i) (u.flsBytes (0x600000 + 256 * i) 256))))) ∧
  (∀ (h : PktHead) (off : Nat) (bs : List Byte), bs.length = 256 → off % 256 = 0 → off % 4096 ≠ 0 → off < 0x40000 →
    Runs (.image ⟨·, h⟩ off bs (decide (off % 4096 = 3840)) [])
    (fun u => u.mode ≠ Mode.reset ∧ u.updCond = 0 ∧ u.flsBlank (0x600000 + off) 256 = true)
    (Received h (.image off bs) fun v t => t.flsBytes (0x600000 + off) 256 = bs ∧
      (∀ a, Apart (0x600000 + off) 256 a 1 → t.flsByte a = v.flsByte a) ∧
      t = { v with
        fls := { v.fls with words := t.fls.words }
        out := v.out ++ (if off % 4096 = 3840 then spoken v [.sectorBack (off / 4096) true] else []) })) ∧
  (∀ (h : PktHead) (off : Nat) (bs : List Byte) (last : Bool), off < 0x40000 → Runs (.image ⟨·, h⟩ off bs last [])
    (fun u => u.mode ≠ Mode.reset ∧ u.updCond ≠ 0)
    (Received h (.image off bs) fun v t => t = { v with out := v.out ++ spoken v [.sectorBack (off / 4096) false] })) ∧
  ∀ j k : Nat, j < 64 → Runs (.imageSectorConfirm · j false)
    (fun u => u.car.imgLeft = [(j, k)] ∧ Lead u)
    (fun u t => t.get F.CAR_STAT_IMGBUSY = 0 ∧ t.car.imgLeft = [] ∧ chipSet 5 t = chipSet 5 u ||| 2 ^ j ∧ t.out = u.out ∧
      RingOnly [R.CAR_STAT, R.CAR_SET_s_h 5 0, R.CAR_SET_s_h 5 1] u t) ∧
    Runs (.imageSectorConfirm · j true) (fun u => u.car.imgLeft = [(j, k)] ∧ k + 1 = (u.stagedLen + 4095) / 4096)
    (fun u t => t.get F.CAR_STAT_IMGBUSY = 0 ∧ t.car.imgLeft = [] ∧ chipSet 4 t = chipSet 4 u ||| 2 ^ j ∧ t.out = u.out ∧
      RingOnly [R.CAR_STAT, R.CAR_SET_s_h 4 0, R.CAR_SET_s_h 4 1] u t)

/-- What the ring carries (R51, R52, R57, R285, R286, R288, R289, R292 to R295, R300, R333): remote accesses, ticks,
broadcasts, barriers and snapshots, reset waves and images. -/
def Obligations.RingsCarryPackets : Prop :=
  Sys2Proof.Claims.RemoteAccessReaches ∧ Sys2Proof.Claims.RingsTickAndAgree ∧ Sys2Proof.Claims.RingsResetAndUpdate

/-! ## The Tandem (17_tandem.md) -/

namespace Sys2Proof.Claims

/-- The flags byte of a heartbeat (R313). -/
def heartFlags (u : State) : Nat :=
  u.get F.TAN_STAT_OWN + 2 * u.get F.TAN_CFG_ROLEDEF + (if u.get F.TAN_STAT_SYNC = 2 then 4 else 0)

/-- The registers that show the role and the line of the Tandem. -/
def tanRegs : List Nat := [R.TAN_STAT, R.CAR_STAT]

/-- The pair is out of sync, and what waits on it is nothing. -/
abbrev Apart2 (u : State) : Prop := u.get F.TAN_STAT_SYNC = 0 ∨ u.get F.TAN_STAT_SYNC = 3

/-- A chip of a Tandem whose TICK block runs. -/
abbrev TanRuns (u : State) : Prop := u.tandem = true ∧ u.tickRuns = true

/-- And the slot has come to the grain by which a heartbeat must have arrived (R314). -/
abbrev HbDue (u : State) : Prop := TanRuns u ∧ u.get F.TAN_CFG_HBWIN ≤ u.tally.pos / 4

/-- The ACTIVE of a Tandem that journals, outside any handover. -/
abbrev Active (u : State) : Prop := u.tandem = true ∧ u.get F.TAN_STAT_ROLE = 1

/-- A record of type `ty` with body `b`, as it stands on the link. -/
def wireOf (ty flags jseq : Nat) (b : List Byte) : List Byte :=
  leBytes 1 ty ++ leBytes 1 flags ++ leBytes 2 b.length ++ leBytes 4 jseq ++ b ++
    leBytes 4 (crc32 (leBytes 1 ty ++ leBytes 1 flags ++ leBytes 2 b.length ++ leBytes 4 jseq ++ b))

/-- The Drover of the Tandem journal role owed its retirement seal in the slot that ends. -/
abbrev JournalLate (s : State) : Prop :=
  s.tally.whole = true ∧ ∃ d < 12, s.journalDrover = some d ∧ (s.get F.TICK_NEEDSEAL_RETIRE).testBit d = true ∧
    (s.get F.TICK_SEALED_RETIRE).testBit d = false

end Sys2Proof.Claims

/-- Heartbeats and the loss of the partner (R304, R313 to R315, R318, R319): a heartbeat leaves unless the tick withheld it,
and the second tick in a row that withholds one makes the ACTIVE release the line and raise FENCE. A heartbeat restores its
path, and on the Caravan it is a ring packet; the third
miss loses it, which raises TAN_PATH while the other path stands. A SHADOW that loses both, with the line released and
the last MODE record SERVE or DRAIN, takes the line and requests TAKEOVER; with the line held it raises FENCE. TAKEOVER
sets SYNC to LOST and the cell counter to its lease end, REPLAYDONE requests the mode of the last MODE record, and a
replay that takes too long raises REPLAY_BAD. -/
def Obligations.TandemsWatchEachOther : Prop :=
  Runs (.heartbeatSend ·) TanRuns (fun u t =>
    (u.tan.late = false → u.tally.pos / 4 = 8 → t = { u with
      out := u.out ++ [.heartbeat (u.tally.asn % 2 ^ 32) u.mode (heartFlags u) (u.get F.TAN_JSEQ_SENT_JSEQ)
        (u.get F.TAN_JSEQ_CONF_JSEQ)] }) ∧
    (u.tan.late = true ∨ u.tally.pos / 4 ≠ 8 → t = u)) ∧
  (∀ (inp : TickIn) (s : State), s.tandem = true → s.tickRuns = true → ∃ t, exec (.slotTick inp) s = .next t ∧
    (JournalLate s → t.tan.late = true ∧ t.tan.withheld = s.tan.withheld + 1) ∧
    (¬JournalLate s → t.tan.late = false ∧ t.tan.withheld = 0) ∧
    (JournalLate s → s.tan.withheld = 1 → s.get F.TAN_STAT_ROLE = 1 → s.get F.TAN_STAT_OWN = 1 → s.mode = Mode.serve →
      s.modePend = none → s.tan.hoAt = none → s.faults.safe = false → s.faults.safeEntered = false →
      t.get F.TAN_STAT_OWN = 0 ∧ ∃ at_, ⟨0x0E, 3, 0, at_⟩ ∈ t.faults.log)) ∧
  (∀ (p : Fin 2) (h : PktHead) (asn mode : Nat) (own roledef insync : Bool),
    let took := fun u t : State =>
      let v := { u.puts [(F.TAN_HB_p_MISS p, 0), (F.TAN_HB_p_LOST p, 0)] with
        tan := { u.tan with
          hb := some ⟨asn, mode, own, roledef, insync⟩
          seen0 := u.tan.seen0 || p == 0
          seen1 := u.tan.seen1 || p == 1 } }
      (u.get (F.TAN_HB_p_LOST p) = 0 ∨ u.get (F.TAN_HB_p_LOST (1 - p)) = 0 → t = v) ∧
        (u.get (F.TAN_HB_p_LOST p) = 1 → u.get (F.TAN_HB_p_LOST (1 - p)) = 1 →
          (∃ more, t.faults.log = u.faults.log ++ ⟨0x0D, 2, 1 - p, u.stamp⟩ :: more) ∧ Signals [] v t)
    Runs (.heartbeatReceive · (if p = 0 then none else some h) asn mode own roledef insync)
      (fun u => u.mode ≠ Mode.reset ∧ u.tandem = true ∧ u.get F.UPD_STAT_STATE ≠ 1 ∧ (Apart2 u ∨ own = true ∧ insync = true))
      (fun u t => (p = 0 → took u t) ∧ (p = 1 → Received h .hbeat took u t))) ∧
  (∀ low : Bool, Runs (.heartbeatMiss · low) (fun u => TanRuns u ∧ u.tally.pos / 4 < u.get F.TAN_CFG_HBWIN) (fun u t => t = u)) ∧
  (∀ low : Bool, Runs (.heartbeatMiss · low) (fun u => HbDue u ∧ u.tan.seen0 = true ∧ u.tan.seen1 = true) (fun u t =>
    t = { u with tan := { u.tan with partnerLow := low } }.put F.TAN_STAT_LINE
      (if u.get F.TAN_STAT_OWN = 1 ∨ low = true then 1 else 0))) ∧
  (∀ low : Bool, Runs (.heartbeatMiss · low)
    (fun u => HbDue u ∧ u.tan.seen0 = false ∧ u.tan.seen1 = true ∧ u.get (F.TAN_HB_p_LOST 1) = 0)
    (fun u t =>
      let n := min (u.get (F.TAN_HB_p_MISS 0) + 1) 15
      t.get (F.TAN_HB_p_MISS 0) = n ∧
      t.get (F.TAN_CNT_k_COUNT 3) = min (u.get (F.TAN_CNT_k_COUNT 3) + 1) (2 ^ 32 - 1) ∧
      t.get (F.TAN_HB_p_LOST 0) = (if n = 3 then 1 else u.get (F.TAN_HB_p_LOST 0)) ∧
      t.tan = { u.tan with partnerLow := low, seen0 := true } ∧
      (n = 3 → u.get (F.TAN_HB_p_LOST 0) = 0 → ∃ more, t.faults.log = u.faults.log ++ ⟨0x0D, 2, 0, u.stamp⟩ :: more) ∧
      (n ≠ 3 ∨ u.get (F.TAN_HB_p_LOST 0) = 1 → t.faults = u.faults) ∧
      Signals [R.TAN_STAT, R.TAN_HB_p 0, R.TAN_CNT_k 3] { u with tan := t.tan } t)) ∧
  (∀ low : Bool, Runs (.heartbeatMiss · low)
    (fun u => HbDue u ∧ u.tan.seen0 = false ∧ u.tan.seen1 = false ∧ u.get (F.TAN_HB_p_MISS 0) = 2 ∧
      u.get (F.TAN_HB_p_MISS 1) = 2 ∧ u.get (F.TAN_HB_p_LOST 0) = 0 ∧ u.get (F.TAN_HB_p_LOST 1) = 0 ∧
      u.get F.TAN_STAT_ROLE = 2 ∧ u.get F.TAN_STAT_OWN = 0)
    (fun u t =>
      (low = true → (∃ more, t.faults.log = u.faults.log ++ ⟨0x0E, 3, 0, u.stamp⟩ :: more) ∧ t.get F.TAN_STAT_OWN = 0 ∧
        t.modePend = u.modePend) ∧
      (low = false → (∃ sfn, u.tan.lastMode = some (7, sfn) ∨ u.tan.lastMode = some (8, sfn)) →
        t.get F.TAN_STAT_OWN = 1 ∧ t.get F.TAN_STAT_LINE = 1 ∧ t.get F.TAN_STAT_ROLE = 1 ∧ t.get F.SYS_MODE_TRANS = 1 ∧
        t.modePend = some ⟨Mode.takeover, false, if u.inTime then 1 else 2⟩ ∧
        t.tan = { u.tan with partnerLow := false, seen0 := true, seen1 := true, tookLine := true }) ∧
      (low = false → (u.tan.lastMode = none ∨ ∃ m sfn, u.tan.lastMode = some (m, sfn) ∧ m ≠ 7 ∧ m ≠ 8) →
        t.get F.TAN_STAT_PARTNERLOST = 1 ∧ t.get F.TAN_STAT_OWN = 0 ∧ t.modePend = u.modePend))) ∧
  (∀ (low : Bool) (p : ModePend), Runs (.takeoverEntry · low)
    (fun u => u.modePend = some p ∧ p.target = Mode.takeover ∧ p.left = 0 ∧ u.mode = Mode.shadow ∧ u.tandem = true)
    (fun u t =>
      (u.tan.tookLine = false → low = true → t = { u with modePend := none, tan := { u.tan with partnerLow := true } }.puts
        [(F.TAN_STAT_LINE, 1), (F.SYS_MODE_TRANS, 0)]) ∧
      (u.tan.tookLine = true ∨ low = false → u.faults.safeEntered = false →
        t.modePend = none ∧ t.get F.SYS_MODE_TRANS = 0 ∧ t.tan.tookLine = false ∧ t.tan.takeoverSlots = 0 ∧
        t.get F.TAN_STAT_SYNC = 3 ∧ t.get (F.TAN_CNT_k_COUNT 5) = min (u.get (F.TAN_CNT_k_COUNT 5) + 1) (2 ^ 32 - 1) ∧
        t.get F.SEC_CELLCTR_VALUE = t.get F.SEC_CELLLEASE_VALUE))) ∧
  Runs (.replaydone ·) (fun u => Served R.TAN_CMD u ∧ u.tandem = true) (fun u t =>
    (∀ m sfn, u.tan.lastMode = some (m, sfn) → u.mode = Mode.takeover → (m = 7 ∨ m = 8) → u.modePend = none →
      t = { (if m = 8 then u.put F.SF_DRAIN_SFN_SFN sfn else u) with
        modePend := some ⟨m, false, if u.inTime then 1 else 2⟩ }.put F.SYS_MODE_TRANS 1) ∧
    (u.tan.lastMode = none ∨ u.mode ≠ Mode.takeover ∨ u.modePend.isSome = true → t = u.put F.TAN_STAT_BADCMD 1)) ∧
  Runs (.replayTimeout ·) (fun u => u.mode = Mode.takeover ∧ u.modePend = none) (fun u t =>
    (u.tan.takeoverSlots < u.get F.TAN_CFG_REPLAYMAX → t = u) ∧
    (u.get F.TAN_CFG_REPLAYMAX ≤ u.tan.takeoverSlots →
      (∃ more, t.faults.log = u.faults.log ++ ⟨0x10, 3, 0, u.stamp⟩ :: more) ∧ Signals [] u t)) ∧
  Runs (.tandemLinkDown ·) (fun u => u.tandem = true) (fun u t =>
    t.get F.TAN_STAT_TLUP = 0 ∧ (Apart2 u → t = u.put F.TAN_STAT_TLUP 0) ∧
      (u.get F.TAN_STAT_SYNC = 1 ∨ u.get F.TAN_STAT_SYNC = 2 → t.get F.TAN_STAT_SYNC = 3)) ∧
  Runs (.tandemLinkUp ·) (fun u => u.tandem = true) (fun u t => t = u.put F.TAN_STAT_TLUP 1)

/-- The journal (R307 to R309, R320 to R322): a record in order is applied, kept in the log, counted and confirmed, and one
whose CRC or JSEQ is wrong sets SYNC to LOST. A confirmation shows the round trip and, with the last COPY record, brings
the pair into sync. A JOIN starts the walk of the mirrored granules, a HANDOVER is armed for a tick and cancelled where the
partner has not confirmed it in time, and a FETCH asks the partner for a granule and writes it whole. -/
def Obligations.JournalsAreKeptAndJoined : Prop :=
  (∀ (b : List Byte) (low : Bool), Runs (.journalRecord · b low) (fun u => u.isMirror = false ∨ Apart2 u) (fun u t => t = u)) ∧
  (∀ (m sfn j : Nat) (low : Bool), m < 256 → sfn < 2 ^ 32 → j < 2 ^ 32 →
    Runs (.journalRecord · (wireOf 6 0 j (leBytes 1 m ++ leBytes 3 0 ++ leBytes 4 sfn)) low)
      (fun u => u.isMirror = true ∧ u.get F.TAN_STAT_SYNC = 2 ∧ u.baySize Bay.journal = 0 ∧
        (∀ r, u.tan.log.getLast? = some r → j = (r.jseq + 1) % 2 ^ 32))
      (fun u t => t.tan.lastMode = some (m, sfn) ∧ t.out = u.out ++ [.confirm j false] ∧
        t.get (F.TAN_CNT_k_COUNT 1) = min (u.get (F.TAN_CNT_k_COUNT 1) + 1) (2 ^ 32 - 1) ∧
        (∃ l, t.tan.log = l ++ [⟨6, 0, j, leBytes 1 m ++ leBytes 3 0 ++ leBytes 4 sfn⟩]) ∧
        Signals [R.TAN_CNT_k 1, R.TAN_TAIL, R.TAN_TAILSEQ] { u with tan := t.tan } t)) ∧
  (∀ (g j : Nat) (d : List Byte) (low : Bool), g < 2 ^ 21 → d.length = 16 → j < 2 ^ 32 →
    Runs (.journalRecord · (wireOf 1 0 j (leBytes 4 g ++ d)) low)
      (fun u => u.isMirror = true ∧ u.get F.TAN_STAT_SYNC = 2 ∧ u.baySize Bay.journal = 0 ∧ u.ser.poison = [] ∧
        u.ser.errs = [] ∧ u.faults.safeEntered = false ∧ u.tan.held = [] ∧ 16 * g + 16 ≤ 0x1700000 ∧
        (∀ r, u.tan.log.getLast? = some r → j = (r.jseq + 1) % 2 ^ 32))
      (fun u t => t.bytesAt (16 * g) 16 = d ∧ (∀ a, Apart (16 * g) 16 a 1 → t.byte a = u.byte a) ∧
        t.out = u.out ++ [.confirm j false] ∧
        (u.inBay Bay.ledger (16 * g) = false → t.ciph = u.ciph) ∧
        Signals [R.TAN_CNT_k 1, R.TAN_TAIL, R.TAN_TAILSEQ] { u with tan := t.tan, ser := t.ser, ciph := t.ciph } t)) ∧
  (∀ (b : List Byte) (low : Bool), Runs (.journalRecord · b low)
    (fun u => u.isMirror = true ∧ (u.get F.TAN_STAT_SYNC = 1 ∨ u.get F.TAN_STAT_SYNC = 2) ∧ (b.length < 12 ∨
      numAt b (b.length - 4) 4 ≠ crc32 (b.take (b.length - 4)) ∨
        ∃ r, u.tan.log.getLast? = some r ∧ numAt b 4 4 ≠ (r.jseq + 1) % 2 ^ 32))
    (fun _ t => t.get F.TAN_STAT_SYNC = 3)) ∧
  (∀ j : Nat, j < 2 ^ 32 → Runs (.journalConfirmation · j false)
    (fun u => u.journals = true ∧ u.ftx.held = [] ∧ u.tan.held = [] ∧ u.confirmed j = false ∧ u.confirmed u.tan.tickSeq = false ∧
      (u.get F.TAN_JSEQ_SENT_JSEQ + 2 ^ 32 - j) % 2 ^ 32 < 2 ^ 31 ∧ (j + 2 ^ 32 - u.tan.tickSeq) % 2 ^ 32 < 2 ^ 31)
    (fun u t =>
      t.get F.TAN_JSEQ_CONF_JSEQ = j ∧
      (j = u.get F.TAN_JSEQ_SENT_JSEQ → t.get F.TAN_RTT_NS = min 65535 ((u.tally.clock - u.tan.sentAt) * 125 / 4)) ∧
      t.tan.segs = u.tan.segs.drop (u.tan.segs.length - 2) ∧
      (∀ k, u.tan.lastCopy = some k → (j + 2 ^ 32 - k) % 2 ^ 32 < 2 ^ 31 → t.get F.TAN_STAT_SYNC = 2) ∧
      (u.tan.lastCopy = none → t.get F.TAN_STAT_SYNC = u.get F.TAN_STAT_SYNC) ∧
      Signals [R.TAN_JSEQ_CONF, R.TAN_RTT, R.TAN_STAT] { u with tan := t.tan } t)) ∧
  (∀ (j : Nat) (l : Lease), Runs (.journalConfirmation · j true)
    (fun u => u.journals = true ∧ u.sec.leases = [l] ∧ l.jseq = j ∧ l.flashOk = false)
    (fun u t => t.sec = { u.sec with leases := [{ l with partnerOk := true }] } ∧ Signals [] { u with sec := t.sec } t)) ∧
  (∀ same : Bool, Runs (.tanJoin · true same) (fun u => u.tandem = true) (fun u t =>
    (same = true → u.get F.TAN_STAT_TLUP = 1 → Apart2 u → u.get F.TAN_STAT_ROLE = 1 →
      t.tan = { u.tan with walking := true, lastCopy := none, segs := [0] } ∧ t.get F.TAN_STAT_SYNC = 1 ∧
      t.get F.TAN_COPY_ADDR = (u.nextMirror 0).getD 0 % 2 ^ 21 ∧ OnlyRegs [R.TAN_STAT, R.TAN_COPY] { u with tan := t.tan } t) ∧
    (same = false ∨ u.get F.TAN_STAT_TLUP = 0 ∨ ¬Apart2 u ∨ u.get F.TAN_STAT_ROLE ≠ 1 → u.get F.TAN_STAT_SYNC ≤ 3 → t = u))) ∧
  (∀ same : Bool, Runs (.tanJoin · false same) (fun u => u.tandem = true ∧ u.writable R.TAN_CMD = true) (fun u t =>
    (u.mode ≠ Mode.standby → t = u.put F.TAN_STAT_BADCMD 1) ∧
    (∀ h, u.mode = Mode.standby → u.tan.hb = some h → h.own = true → u.get (F.TAN_HB_p_LOST 0) = 0 →
      (same = true → u.get F.TAN_STAT_TLUP = 1 → Apart2 u →
        t = { u with
          tan := { u.tan with joining := true, log := [], logAt := 0, lastMode := none }
          out := u.out ++ [Out.join] }.put F.TAN_STAT_SYNC 1) ∧
      (same = false ∨ u.get F.TAN_STAT_TLUP = 0 ∨ u.get F.TAN_STAT_SYNC = 1 ∨ u.get F.TAN_STAT_SYNC = 2 →
        t = u.put F.TAN_STAT_JOINBAD 1)))) ∧
  (∀ g : Nat, Runs (.joinCopyStep ·)
    (fun u => u.journals = true ∧ u.tan.walking = true ∧ u.logRoom 32 = true ∧ u.get F.TAN_COPY_ADDR = g ∧ u.ser.poison = [] ∧
      u.ser.errs = [] ∧ u.faults.safeEntered = false ∧ u.tan.held = [] ∧ 16 * g + 16 ≤ 0x1700000)
    (fun u t =>
      let j := (u.get F.TAN_JSEQ_SENT_JSEQ + 1) % 2 ^ 32
      t.out = u.out ++ [.journal ⟨2, 0, j, leBytes 4 g ++ u.bytesAt (16 * g) 16⟩] ∧ t.get F.TAN_JSEQ_SENT_JSEQ = j ∧
      (∀ n, u.nextMirror (g + 1) = some n → n < 2 ^ 21 → t.get F.TAN_COPY_ADDR = n ∧ t.tan.walking = true) ∧
      (u.nextMirror (g + 1) = none → t.tan.walking = false ∧ t.tan.lastCopy = some j) ∧
      OnlyRegs [R.TAN_JSEQ_SENT, R.TAN_CNT_k 0, R.TAN_COPY] { u with tan := t.tan, out := t.out } t)) ∧
  Runs (.tanHandover ·) (fun u => u.writable R.TAN_CMD = true ∧ Active u) (fun u t =>
    (u.get F.TAN_STAT_SYNC = 2 → (u.mode = Mode.serve ∨ u.mode = Mode.drain) → u.tan.hoArm = none → u.tan.hoAt = none →
      t = { u with tan := { u.tan with hoArm := some (if u.inTime then 1 else 2) } }) ∧
    (u.get F.TAN_STAT_SYNC ≠ 2 ∨ u.tan.hoArm.isSome = true ∨ u.tan.hoAt.isSome = true → t = u.put F.TAN_STAT_BADCMD 1)) ∧
  (∀ a j : Nat, Runs (.handoverDeadline ·) (fun u => u.tan.hoAt = some (a, j)) (fun u t =>
    let gone := { u with tan := { u.tan with hoAt := none } }.put F.TAN_STAT_HOFAIL 1
    (u.get F.TAN_STAT_ROLE ≠ 1 → t = gone) ∧
    (u.get F.TAN_STAT_ROLE = 1 → (u.tally.asn + 1) % 2 ^ 40 = a → u.slotLen ≤ u.tally.pos / 4 + 3 → u.confirmed j = false →
      t = gone) ∧
    (u.get F.TAN_STAT_ROLE = 1 → u.confirmed j = true → t = u))) ∧
  Runs (.tanFetch ·) (fun u => u.writable R.TAN_CMD = true ∧ Active u) (fun u t =>
    (u.get F.TAN_STAT_SYNC = 2 → u.get F.TAN_FETCH_BUSY = 0 →
      t = { u with out := u.out ++ [Out.fetch (u.get F.TAN_FETCH_ADDR)] }.put F.TAN_FETCH_BUSY 1) ∧
    (u.get F.TAN_STAT_SYNC ≠ 2 ∨ u.get F.TAN_FETCH_BUSY = 1 → t = u.put F.TAN_STAT_BADCMD 1)) ∧
  (∀ (g : Nat) (d : List Byte) (bad : Bool), d.length = 16 → Runs (.fetchAnswer · g d bad)
    (fun u => u.get F.TAN_FETCH_BUSY = 1 ∧ Active u ∧ u.mode ≠ Mode.shadow ∧ u.tan.joining = false ∧ u.ser.poison = [] ∧
      u.ser.errs = [] ∧ u.faults.safeEntered = false ∧ 16 * g + 16 ≤ 0x1700000 ∧ u.logRoom 32 = true ∧ u.tan.held = [])
    (fun u t => t.get F.TAN_FETCH_BUSY = 0 ∧
      (bad = true ∨ u.inMirror (16 * g) = false → t = u.put F.TAN_FETCH_BUSY 0) ∧
      (bad = false → u.inMirror (16 * g) = true → t.bytesAt (16 * g) 16 = d ∧
        (∀ a, Apart (16 * g) 16 a 1 → t.byte a = u.byte a) ∧
        (Apart2 u ∨ u.bytesAt (16 * g) 16 = d → t.out = u.out) ∧
        ((u.get F.TAN_STAT_SYNC = 1 ∨ u.get F.TAN_STAT_SYNC = 2) → u.bytesAt (16 * g) 16 ≠ d → t.out = u.out ++
          [.journal ⟨1, 0, (u.get F.TAN_JSEQ_SENT_JSEQ + 1) % 2 ^ 32, leBytes 4 g ++ d⟩])))) ∧
  ∀ g : Nat, Runs (.fetchRequest · g)
    (fun u => u.ser.poison = [] ∧ u.ser.errs = [] ∧ u.faults.safeEntered = false ∧ u.tan.held = [] ∧ 16 * g + 16 ≤ 0x1700000)
    (fun u t => t = { u with out := u.out ++ [.fetched g (u.bytesAt (16 * g) 16) false] })

/-! ## Host interfaces (18_host.md) -/

namespace Sys2Proof.Claims

/-- The first five bytes of an SPI1 frame: operation, words, chip and address (R338). -/
def spiHead (op n chip addr : Nat) : List Byte :=
  leBytes 1 (64 * op + (n - 1)) ++ leBytes 1 chip ++ leBytes 3 addr

/-- How far a host ring lets HOST move from `host` (R335): a ring to the device has LEN - 1 entries less those DEV has not
taken, a ring to the host the entries that DEV has filled. -/
def ringFree (dir len dev host : Nat) : Nat :=
  if dir = 0 then (dev + max 1 len - host) % max 1 len else max 1 len - 1 - (host + max 1 len - dev) % max 1 len

/-- The chip answers on SPI1. -/
abbrev SpiHost (u : State) : Prop := u.get F.SYS_STRAP_HOST = 1 ∧ u.mode ≠ Mode.reset

end Sys2Proof.Claims

/-- The host interfaces (R332, R335, R336, R338, R339): a doorbell inside the ring's room moves HOST and interrupts the ring's
Drover, and any other sets BADDB; a DEV index inside the ring raises the ring's vector. On SPI1 READ answers with 0x5A and
the words under a CRC, WRITE with 0xA5, STATUS with the pending vectors, and a bad frame with 0x00. An entry that the host
unmasks sends the message that it owed. -/
def Obligations.HostsReachTheChip : Prop :=
  (∀ (who : Writer) (r : Fin 16) (v : Word), v.toNat < 65536 → Runs (.doorbell · who r v) (Served (R.HST_DB_r r)) (fun u t =>
    let n := u.get (F.HST_RING_r_LEN r)
    let host := u.get (F.HST_RING_r_HOST r)
    let room := ringFree (u.get (F.HST_RING_r_DIR r)) n (u.get (F.HST_RING_r_DEV r)) host
    t.get (F.HST_CNT_k_COUNT 0) = min (u.get (F.HST_CNT_k_COUNT 0) + 1) (2 ^ 32 - 1) ∧
    (v.toNat < n → (v.toNat + n - host) % n ≤ room →
      t.get (F.HST_RING_r_HOST r) = v.toNat ∧
      (∀ d : Fin 12, u.get (F.HST_RING_r_DROVER r) = d → t.get (F.DRV_n_EVPEND_PEND d) = u.get (F.DRV_n_EVPEND_PEND d) ||| 256) ∧
      OnlyRegs ([R.HST_CNT_k 0, 0x10010C + 16 * r] ++
        if u.get (F.HST_RING_r_DROVER r) < 12 then [R.DRV_n_EVPEND (u.get (F.HST_RING_r_DROVER r))] else []) u t) ∧
    (n ≤ v.toNat ∨ room < (v.toNat + n - host) % n →
      t.get F.HST_STAT_BADDB = 1 ∧
      t.get (F.HST_CNT_k_COUNT 1) = min (u.get (F.HST_CNT_k_COUNT 1) + 1) (2 ^ 32 - 1) ∧
      OnlyRegs [R.HST_CNT_k 0, R.HST_CNT_k 1, R.HST_STAT] u t))) ∧
  (∀ (d : Fin 12) (r : Fin 16) (v : Word), v.toNat < 65536 → Runs (.devWrite · d r v)
    (fun u => Served (R.HST_RING_r_2 r) u ∧ u.get (F.HST_RING_r_DROVER r) = d ∧ u.tan.held = [])
    (fun u t =>
      (u.get (F.HST_RING_r_LEN r) ≤ v.toNat → t = u.put F.SYS_ERR_RINGIDX 1) ∧
      (v.toNat < u.get (F.HST_RING_r_LEN r) →
        t.get (F.HST_RING_r_DEV r) = v.toNat ∧ (t.get (F.HST_VPEND_h_BITS 1)).testBit r = true ∧
        Signals [R.HST_RING_r_2 r] u t))) ∧
  (∀ a n : Nat, a < 0x800000 → a % 4 = 0 → 1 ≤ n → n ≤ 64 → ∀ c : Nat, c < 64 →
    Runs (.spiRead · (withCrc (spiHead 0 n c a))) SpiHost (fun u t =>
      let v := u.inc (F.HST_CNT_k_COUNT 4)
      (c = u.get F.CAR_STAT_INDEX → n = 1 →
        (Hidden a v → t = v.emit (.hostData (0x5A :: withCrc (leBytes 4 0)))) ∧
        (¬Hidden a v → t = (readReg a v).2.emit (.hostData (0x5A :: withCrc (leBytes 4 (readReg a v).1.toNat))))) ∧
      (c ≠ u.get F.CAR_STAT_INDEX → u.get F.CAR_STAT_SIZE ≤ c →
        t = (v.put F.HST_STAT_NOCHIP 1).emit (.hostData (0x5A :: withCrc (List.replicate (4 * n) 0xFF)))) ∧
      (∀ port, c ≠ u.get F.CAR_STAT_INDEX → c < u.get F.CAR_STAT_SIZE → u.route c = some port →
        t = { v with out := u.out ++ spoken u ((List.range n).map fun k => .packet port c (.rrd (a + 4 * k))) }))) ∧
  (∀ f : List Byte, f.length ≠ 7 ∨ crc16 0 f ≠ 0 → (f.getD 0 0).toNat < 64 → Runs (.spiRead · f) SpiHost (fun u t =>
    t.get (F.HST_CNT_k_COUNT 5) = min (u.get (F.HST_CNT_k_COUNT 5) + 1) (2 ^ 32 - 1) ∧ t.out = u.out ++ [.hostData [0]] ∧
      OnlyRegs [R.HST_CNT_k 5] { u with out := t.out } t)) ∧
  (∀ (a c : Nat) (w : Word), a < 0x800000 → a % 4 = 0 → c < 64 →
    Runs (.spiWrite · (withCrc (spiHead 1 1 c a ++ leBytes 4 w.toNat))) (fun u => SpiHost u ∧ NoStep u) (fun u t =>
      let v := (u.inc (F.HST_CNT_k_COUNT 4)).emit (.hostData [0xA5])
      (c = u.get F.CAR_STAT_INDEX → NoStep (writeReg .host a w.toNat v) → t = writeReg .host a w.toNat v) ∧
      (c ≠ u.get F.CAR_STAT_INDEX → u.get F.CAR_STAT_SIZE ≤ c → t = v.put F.HST_STAT_NOCHIP 1) ∧
      (∀ port, c ≠ u.get F.CAR_STAT_INDEX → c < u.get F.CAR_STAT_SIZE → u.route c = some port →
        t = v.emit (.packet port c (.rwr a w))) ∧
      (c ≠ u.get F.CAR_STAT_INDEX → c < u.get F.CAR_STAT_SIZE → u.route c = none →
        t = (v.put F.CAR_STAT_RTMO 1).inc (F.CAR_CNT_k_COUNT 2)))) ∧
  (∀ f : List Byte, f.length ≠ 7 + 4 * ((f.getD 0 0).toNat % 64 + 1) ∨ crc16 0 f ≠ 0 → (f.getD 0 0).toNat / 64 = 1 →
    Runs (.spiWrite · f) (fun u => SpiHost u ∧ NoStep u) (fun u t =>
      t.get (F.HST_CNT_k_COUNT 5) = min (u.get (F.HST_CNT_k_COUNT 5) + 1) (2 ^ 32 - 1) ∧ t.out = u.out ++ [.hostData [0]] ∧
        t.get F.HST_STAT_SPIBAD = 1 ∧ OnlyRegs [R.HST_CNT_k 5, R.HST_STAT] { u with out := t.out } t)) ∧
  (∀ f : List Byte, (f.getD 0 0).toNat / 64 = 2 → Runs (.spiStatus · f) SpiHost (fun u t =>
    t = (u.inc (F.HST_CNT_k_COUNT 4)).emit (.hostData (withCrc
      (leBytes 4 (u.get (F.HST_VPEND_h_BITS 0)) ++ leBytes 4 (u.get (F.HST_VPEND_h_BITS 1))))))) ∧
  (∀ k : Fin 64, Runs (.msixUnmask · (some k))
    (fun u => u.get F.HST_LINK_MSIXEN = 1 ∧ u.get F.HST_LINK_FMASK = 0 ∧ u.ep.pba = [k.val])
    (fun u t =>
      t = { u.inc (F.HST_CNT_k_COUNT 2) with
        ep := { u.ep with msix := u.ep.msix.set k { u.ep.msix[k] with masked := false }, pba := [] }
        out := u.out ++ [.msix k] })) ∧
  Runs (.msixUnmask · none) (fun u => u.get F.HST_LINK_MSIXEN = 1) (fun u t =>
    t.get F.HST_LINK_FMASK = 0 ∧ (∀ v : Fin 64, v.val ∈ t.ep.pba ↔ v.val ∈ u.ep.pba ∧ u.ep.msix[v].masked = true) ∧
      (∀ v : Fin 64, v.val ∈ u.ep.pba → u.ep.msix[v].masked = false → Out.msix v ∈ t.out) ∧ t.ep.msix = u.ep.msix ∧
      OnlyRegs [R.HST_LINK, R.HST_CNT_k 2] { u with ep := t.ep, out := t.out } t)

/-! ## Trust (19_trust.md) -/

namespace Sys2Proof.Claims

/-- The key in TRU_OWNPUB. -/
def ownKey (u : State) : List Byte := (List.range 16).flatMap fun w => leBytes 4 (u.get (F.TRU_OWNPUB_w_VALUE w))

/-- The registers that an erase of the option area by the trust block may change. -/
def optRegs : List Nat :=
  [R.FLS_STAT, R.FLS_CNT_k 2, R.FLS_CNT_k 5] ++ (List.range 8).map R.FLS_OPEN_k

/-- A command of TRU_CMD ends with status `st`. -/
def truShows (st : Nat) (u : State) : State := u.puts [(F.TRU_CMDSTAT_STATUS, st), (F.TRU_CMDSTAT_ENTRY, 0)]

/-- An owner command in the trust block (R357): its bytes, well-formed for its TYPE, of this chip and bound to the nonce, in
a lifecycle that obeys owner commands. -/
abbrev Ordered (ty len : Nat) (b : List Byte) (u : State) : Prop :=
  u.tru.cmd = some b ∧ numAt b 0 1 = ty ∧ numAt b 1 1 = 1 ∧ numAt b 2 2 = len ∧
    (b.drop 4).take 8 = leBytes 8 u.fuses.serial ∧
    (b.drop 12).take 8 = leBytes 4 (u.get (F.TRU_NONCE_w_VALUE 0)) ++ leBytes 4 (u.get (F.TRU_NONCE_w_VALUE 1)) ∧
    u.get F.TRU_STAT_OWNPUBOK = 1 ∧ (u.fuses.life = 1 ∨ u.fuses.life = 2) ∧ u.get F.TRU_CMDBUF_BASE + len ≤ 0x1800000 ∧
    u.mode ≠ Mode.safe

/-- An owner command ends well: DONE, counted, the nonce drawn anew. -/
abbrev ObeyedBy (u t : State) : Prop :=
  t.get F.TRU_CMDSTAT_STATUS = 2 ∧ t.get (F.TRU_CNT_k_COUNT 0) = min (u.get (F.TRU_CNT_k_COUNT 0) + 1) (2 ^ 32 - 1) ∧
    t.tru.cmd = none ∧ t.tru.drawn = u.tru.drawn + 8

/-- An owner command ends with the status of its first failure and with no other effect than the nonce drawn anew. -/
abbrev RefusedBy (st : Nat) (u t : State) : Prop :=
  t.get F.TRU_CMDSTAT_STATUS = st ∧ t.get (F.TRU_CNT_k_COUNT 1) = min (u.get (F.TRU_CNT_k_COUNT 1) + 1) (2 ^ 32 - 1) ∧
    t.tru = { u.tru with cmd := none, drawn := u.tru.drawn + 8 } ∧
    OnlyRegs [R.TRU_CMDSTAT, R.TRU_CNT_k 1, R.TRU_NONCE_w 0, R.TRU_NONCE_w 1] { u with tru := t.tru } t

/-- The owner's signature decides between `ok` and BADSIG. -/
abbrev Judged (len : Nat) (b : List Byte) (u t : State) (ok : Prop) : Prop :=
  if Config.ecdsaOk u.tru.ownerPub (sha256 (b.take (len - 64))) ((b.drop (len - 64)).take 64) = true then ok
  else RefusedBy 7 u t

/-- BOOT or CONFIGURE. -/
abbrev Early (u : State) : Prop := u.mode = Mode.boot ∨ u.mode = Mode.configure

end Sys2Proof.Claims

/-- Entropy, ownership and locks (R346, R347, R350 to R353, R356, R362): a noise source that fails stops the DRBG until its
restart, and TRU_RAND reads 0 meanwhile. CLAIM in BOOT on a BLANK chip burns the hash of the owner key and OWNED, SETPUB
takes the key whose hash is burned, and RBUMP raises the rollback count to TARGET. A command that its conditions do not
allow ends with its status, and one that comes while another runs sets BADVAL. Lock bits are set by TRU_LOCKSET, and a
JTAG instruction that the lifecycle refuses is counted and acts as BYPASS, as EXTEST does outside its modes. -/
def Obligations.TrustKeepsItsRules : Prop :=
  Runs (.noiseHealthFail ·) (fun _ => True) (fun u t =>
    t.get F.TRU_STAT_DRBGOK = 0 ∧ t.get F.TRU_STAT_NOISEFAIL = 1 ∧
      t.get (F.TRU_CNT_k_COUNT 3) = min (u.get (F.TRU_CNT_k_COUNT 3) + 1) (2 ^ 32 - 1) ∧
      Signals [R.TRU_STAT, R.TRU_CNT_k 3] u t) ∧
  Runs (.drbgReseed ·) (fun _ => True) (fun u t =>
    t = if u.get F.TRU_STAT_DRBGOK = 1 then u.inc (F.TRU_CNT_k_COUNT 4) else u) ∧
  Runs (.drbgRestart ·) (fun u => u.mode ≠ Mode.reset ∧ u.get F.TRU_STAT_DRBGOK = 0) (fun u t =>
    t.get F.TRU_STAT_DRBGOK = 1 ∧ (∀ k : Fin 4, t.get (F.CIPH_u_STAT_POOL k) = 512) ∧
      t.get (F.TRU_CNT_k_COUNT 4) = min (u.get (F.TRU_CNT_k_COUNT 4) + 1) (2 ^ 32 - 1) ∧
      OnlyRegs ([R.TRU_STAT, R.TRU_CNT_k 4] ++ (List.range 4).map R.CIPH_u_STAT) u t) ∧
  (∀ (noise : Bool) (img : List Byte), Runs (.secureBoot · noise img)
    (fun u => u.mode = Mode.boot ∧ u.tru.booted = false)
    (fun u t =>
      t.tru.booted = true ∧
      (noise = true → t.mode = Mode.boot ∧ t.get F.TRU_STAT_DRBGOK = 0 ∧ t.get F.TRU_STAT_NOISEFAIL = 1) ∧
      (noise = false →
        t.get F.TRU_STAT_DRBGOK = 1 ∧ (u.fuses.idset = true ∨ u.fuses.idkey = 0 → t.fuses.idset = true) ∧
        (u.fuses.life = 0 ∨ u.fuses.life = 3 ∨ u.get F.TRU_STAT_OWNPUBOK = 0 → t.mode = Mode.boot) ∧
        (u.fuses.life ≠ 0 → u.fuses.life ≠ 3 → u.get F.TRU_STAT_OWNPUBOK = 1 → u.get F.SYS_STRAP_BOOT = 1 →
          (u.imageOk img = true ∧ Hdr.cls img = clsD → t.mode = Mode.configure ∧ t.tru.bootEpoch = Hdr.epoch img) ∧
          (u.imageOk img = false ∨ Hdr.cls img ≠ clsD → t.mode = Mode.boot))))) ∧
  Runs (.truClaim ·) (Served R.TRU_CMD) (fun u t =>
    (u.get F.TRU_CMDSTAT_STATUS = 1 → t = u.put F.TRU_STAT_BADVAL 1) ∧
    (u.get F.TRU_CMDSTAT_STATUS ≠ 1 →
      (u.fuses.life ≠ 0 ∨ u.mode ≠ Mode.boot ∨ u.fuses.idset = false ∨ u.get F.TRU_STAT_IDFAIL = 1 → t = truShows 3 u) ∧
      (u.fuses.life = 0 → u.mode = Mode.boot → u.fuses.idset = true → u.get F.TRU_STAT_IDFAIL = 0 →
        t.fuses = { u.fuses with owner := some (sha256 (ownKey u)), life := 1 } ∧ t.get F.TRU_STAT_LIFE = 1 ∧
        t.get F.TRU_CMDSTAT_STATUS = 2 ∧ t.flsBytes 8 64 = ownKey u ∧ t.flsByte 4 = 1 ∧
        (∀ a, a < 4096 → a ≠ 4 → ¬(8 ≤ a ∧ a < 72) → t.flsByte a = u.flsByte a) ∧
        Signals (optRegs ++ [R.TRU_STAT, R.TRU_CMDSTAT]) { u with fuses := t.fuses, fls := t.fls, free := t.free } t))) ∧
  Runs (.setpub ·) (fun u => Served R.TRU_CMD u ∧ u.get F.TRU_CMDSTAT_STATUS ≠ 1) (fun u t =>
    (u.mode ≠ Mode.boot → t = truShows 3 u) ∧
    (u.mode = Mode.boot → u.fuses.owner ≠ some (sha256 (ownKey u)) → t = truShows 7 u) ∧
    (u.mode = Mode.boot → u.fuses.owner = some (sha256 (ownKey u)) →
      t.tru = { u.tru with ownerPub := ownKey u } ∧ t.get F.TRU_STAT_OWNPUBOK = 1 ∧ t.get F.TRU_CMDSTAT_STATUS = 2 ∧
      t.flsBytes 8 64 = ownKey u ∧ (∀ a, a < 4096 → ¬(8 ≤ a ∧ a < 72) → t.flsByte a = u.flsByte a) ∧
      Signals (optRegs ++ [R.TRU_STAT, R.TRU_CMDSTAT]) { u with tru := t.tru, fls := t.fls, free := t.free } t)) ∧
  Runs (.rbump ·) (fun u => Served R.TRU_CMD u ∧ u.get F.TRU_CMDSTAT_STATUS ≠ 1) (fun u t =>
    let n := u.get F.TRU_RB_TARGET
    (n < u.fuses.rollback ∨ 128 < n ∨ u.tru.bootEpoch < n → t = truShows 3 u) ∧
    (u.fuses.rollback ≤ n → n ≤ 128 → n ≤ u.tru.bootEpoch → t = truShows 1 { u with tru := { u.tru with rbump := true } })) ∧
  Runs (.rbumpComplete ·) (fun _ => True) (fun u t =>
    (u.tru.rbump = false → t = u) ∧
    (u.tru.rbump = true → u.fuses.rollback ≤ u.get F.TRU_RB_TARGET →
      t = truShows 2 ({ u with fuses := { u.fuses with rollback := u.get F.TRU_RB_TARGET }, tru := { u.tru with rbump := false }
        }.put F.TRU_RB_COUNT (u.get F.TRU_RB_TARGET)))) ∧
  (∀ (who : Writer) (v : Word), Runs (.truLockset · who v) (Served R.TRU_LOCKSET) (fun u t =>
    ∀ k, k < 3 → (t.get ⟨R.TRU_LOCK, k, 1⟩ = 1 ↔
      u.get ⟨R.TRU_LOCK, k, 1⟩ = 1 ∨ v.getLsbD k = true ∧ u.tru.unlocked.testBit k = false) ∧ OnlyRegs [R.TRU_LOCK] u t)) ∧
  Runs (.truRandRead · .host) (fun u => u.mode ≠ Mode.reset) (fun u t =>
    (u.get F.TRU_STAT_DRBGOK = 0 → t = { u.put F.TRU_RAND_VALUE 0 with out := u.out ++ [.hostRead 0] }) ∧
    (u.get F.TRU_STAT_DRBGOK = 1 → ∃ x : Word,
      t = { u.put F.TRU_RAND_VALUE x.toNat with tru := { u.tru with drawn := u.tru.drawn + 4 }, out := u.out ++ [.hostRead x] })) ∧
  ∀ j : Jtag, Runs (.jtagInstruction · j) (fun _ => True) (fun u t =>
    let refused := j = .access ∧ 2 ≤ u.fuses.life ∨ j = .scan ∧ u.fuses.life ≠ 0
    (refused → t = { u.inc (F.TRU_CNT_k_COUNT 5) with jtag := j } ∧ t.jtagNow = .bypass) ∧
    (¬refused → t = { u with jtag := j } ∧ ((j = .extest → Early u ∨ u.mode = Mode.test) → t.jtagNow = j)) ∧
    (j = .extest → ¬(Early u ∨ u.mode = Mode.test) → t.jtagNow = .bypass))

/-- Owner commands (R351, R353, R357 to R360, R362): GO takes the block at TRU_CMDBUF, and while it runs another sets BADVAL. A
command that passes every check takes effect: LOCK burns LOCKED, RETIRE burns RETIRED, UNLOCK clears locks, LOCKDEF writes
the lock defaults, IMPORT installs the storage key. One that fails a check ends with the status of the first failure and
has no other effect, and every command bound to the nonce spends it. -/
def Obligations.OwnerCommandsAreChecked : Prop :=
  (∀ c : Nat → Instr, ∀ ty : Nat,
    (ty = 1 ∧ c = Instr.importKeys) ∨ (ty = 2 ∧ c = Instr.lock) ∨ (ty = 3 ∧ c = Instr.retire) ∨ (ty = 4 ∧ c = Instr.unlock) ∨
      (ty = 5 ∧ c = Instr.lockdef) →
    Runs c (fun u => u.writable R.TRU_CMD = true ∧ num (u.get F.TRU_CMDBUF_BASE) 1 u = ty ∧ u.ser.poison = [] ∧ u.ser.errs = [] ∧
        u.tan.held = [])
      (fun u t =>
        (u.get F.TRU_CMDSTAT_STATUS = 1 → t = u.put F.TRU_STAT_BADVAL 1) ∧
        (u.get F.TRU_CMDSTAT_STATUS ≠ 1 →
          t = truShows 1 { u with tru := { u.tru with cmd := some (u.bytesAt (u.get F.TRU_CMDBUF_BASE) 4248) } }))) ∧
  (∀ b : List Byte, Runs (.ownerCommandDone ·) (fun u => Ordered 2 84 b u ∧ u.fuses.life = 1 ∧ Early u) (fun u t =>
    Judged 84 b u t (t.fuses = { u.fuses with life := 2 } ∧ t.get F.TRU_STAT_LIFE = 2 ∧ t.flsByte 4 = 2 ∧ ObeyedBy u t))) ∧
  (∀ b : List Byte, Runs (.ownerCommandDone ·) (fun u => Ordered 3 84 b u ∧ Early u) (fun u t =>
    Judged 84 b u t (t.fuses = { u.fuses with life := 3 } ∧ t.get F.TRU_STAT_LIFE = 3 ∧ t.flsByte 4 = 3 ∧ ObeyedBy u t))) ∧
  (∀ (b : List Byte) (m : Nat), m < 8 → Runs (.ownerCommandDone ·)
    (fun u => Ordered 4 88 b u ∧ numAt b 20 1 = m ∧ numAt b 21 3 = 0)
    (fun u t => Judged 88 b u t (ObeyedBy u t ∧ t.fuses = u.fuses ∧ t.fls = u.fls ∧
      ∀ k, k < 3 → (t.get ⟨R.TRU_LOCK, k, 1⟩ = 1 ↔ u.get ⟨R.TRU_LOCK, k, 1⟩ = 1 ∧ m.testBit k = false) ∧
        (t.tru.unlocked.testBit k ↔ u.tru.unlocked.testBit k = true ∨ m.testBit k = true)))) ∧
  (∀ (b : List Byte) (m : Nat), m < 8 → Runs (.ownerCommandDone ·)
    (fun u => Ordered 5 88 b u ∧ numAt b 20 1 = m ∧ numAt b 21 3 = 0)
    (fun u t => Judged 88 b u t (ObeyedBy u t ∧ t.fuses = u.fuses ∧ (t.flsByte 5).toNat = m ∧
      ∀ a, a < 4096 → a ≠ 5 → t.flsByte a = u.flsByte a))) ∧
  (∀ b e : List Byte, Runs (.ownerCommandDone ·)
    (fun u => Ordered 1 216 b u ∧ numAt b 20 4 = 1 ∧ e = (b.drop 88).take 64 ∧ numAt e 0 3 = 0 ∧ numAt e 3 1 = 1 ∧
      numAt e 4 8 = 0 ∧ numAt e 12 4 = 0 ∧ numAt e 56 8 = 0 ∧ u.get F.TRU_STAT_STORE = 0 ∧ Early u ∧
      u.get F.TRU_STAT_IDFAIL = 0)
    (fun u t => Judged 216 b u t (
      match keyUnwrap (sha256 ([0, 0, 0, 1] ++ Config.ecdhX u.fuses.idkey ((b.drop 24).take 64) ++ leBytes 8 u.fuses.serial ++
          e.take 16)) ((e.drop 16).take 40) with
      | some k => ObeyedBy u t ∧ t.tru.storageKey = some k ∧ t.get F.TRU_STAT_STORE = 1 ∧ t.fuses = u.fuses ∧ t.fls = u.fls ∧
          t.get (F.TRU_CNT_k_COUNT 2) = min (u.get (F.TRU_CNT_k_COUNT 2) + 1) (2 ^ 32 - 1)
      | none => RefusedBy 8 u t))) ∧
  ∀ (b : List Byte) (st : Nat), Runs (.ownerCommandDone ·)
    (fun u => u.tru.cmd = some b ∧ numAt b 1 1 = 1 ∧ u.mode ≠ Mode.safe ∧
      ((u.fuses.life = 0 ∨ u.fuses.life = 3 ∨ u.get F.TRU_STAT_OWNPUBOK = 0 ∨ numAt b 0 1 = 3 ∧ ¬Early u) ∧ st = 3 ∨
        (u.fuses.life = 1 ∨ u.fuses.life = 2) ∧ u.get F.TRU_STAT_OWNPUBOK = 1 ∧
          ((numAt b 0 1 = 0 ∨ 5 < numAt b 0 1 ∨ numAt b 0 1 = 4 ∧ numAt b 2 2 ≠ 88) ∧ st = 4 ∨
            numAt b 0 1 = 4 ∧ numAt b 2 2 = 88 ∧ numAt b 20 1 < 8 ∧ numAt b 21 3 = 0 ∧ u.get F.TRU_CMDBUF_BASE + 88 ≤ 0x1800000 ∧
              ((b.drop 4).take 8 ≠ leBytes 8 u.fuses.serial ∧ st = 5 ∨
                (b.drop 4).take 8 = leBytes 8 u.fuses.serial ∧ (b.drop 12).take 8 ≠
                  leBytes 4 (u.get (F.TRU_NONCE_w_VALUE 0)) ++ leBytes 4 (u.get (F.TRU_NONCE_w_VALUE 1)) ∧ st = 6))))
    (fun u t => RefusedBy st u t) ∧
  Runs (.ownerCommandDone ·) (fun u => u.tru.cmd = none ∨ u.mode = Mode.safe) (fun u t => t = u)

/-! ## Updates (20_update.md) -/

namespace Sys2Proof.Claims

/-- The first condition of R368 that stands against an update; 0 for none. -/
def updStop (u : State) : Nat :=
  if u.get F.TRU_LOCK_UPDATE = 1 then 1
  else if u.mode < Mode.standby ∨ Mode.shadow < u.mode then 2
  else if u.tandem = true ∧ u.get F.TAN_STAT_SYNC ≠ 2 then 3
  else if u.tan.hoAt.isSome = true ∨ u.takeoverNow = true then 4
  else if u.get F.UPD_HOLDUP_MV < u.get F.UPD_HOLDUP_MIN_MV then 5
  else 0

/-- A class D header whose format, epoch, size and targets are in order (R355, R364, R371), its signature apart. -/
abbrev GoodHeader (h : List Byte) (u : State) : Prop :=
  h.length = 512 ∧ numAt h 0 4 = 0x4D494E43 ∧ numAt h 4 1 = 0x44 ∧ numAt h 5 1 = 1 ∧ numAt h 6 2 ≠ 0 ∧ numAt h 14 2 = 0 ∧
    numAt h 20 2 = 0x0812 ∧ numAt h 22 1 ≤ u.get F.SYS_ID_REV ∧ numAt h 23 1 = 0 ∧ numAt h 28 4 = 0 ∧
    zeroAt h 64 384 = true ∧ u.fuses.rollback ≤ numAt h 11 1 ∧ numAt h 11 1 ≤ 128 ∧
    numAt h 16 4 % 16 = 0 ∧ 16 ≤ numAt h 16 4 ∧ numAt h 16 4 ≤ 65536 ∧
    u.get F.UPD_TARGET_MASK % 4096 ≠ 0 ∧ u.get F.MAN_STAT_ARMED = 0 ∧ u.get F.MAN_STAT_ACTIVE_VALID = 1 ∧
    ∀ n : Fin 12, (u.get F.UPD_TARGET_MASK).testBit n = true →
      u.get (F.MAN_DRV_n_ROLE n) ≠ 0 ∧ u.get (F.MAN_DRV_n_IMAGE n) = numAt h 6 2 ∧ u.get (F.DRV_n_STAT_SWARMED n) = 0 ∧
        u.get (F.DRV_n_IMG_b_VALID n (u.get (F.DRV_n_STAT_BANK n))) = 0

/-- The word at syllable `i` of the standby bank of Drover `n`. -/
def standbySyl (n : Fin 12) (i : Nat) (u : State) : BitVec 64 :=
  sget (fun _ => 0) (if u.get (F.DRV_n_STAT_BANK n) = 1 then u.drovers[n].bank0 else u.drovers[n].bank1) i

/-- The update in progress is aborted with reason `c` (R374): the standby banks it writes are not VALID. -/
abbrev AbortedFor (c : Nat) (u t : State) : Prop :=
  t.get F.UPD_STAT_STATE = 0 ∧ t.get F.UPD_STAT_BUSY = 0 ∧ t.get F.UPD_STAT_ABORTED = 1 ∧ t.get F.UPD_ERR_CODE = c ∧
    t.get (F.UPD_CNT_k_COUNT 3) = min (u.get (F.UPD_CNT_k_COUNT 3) + 1) (2 ^ 32 - 1) ∧
    ∀ n : Fin 12, u.upd.mask.testBit n = true → t.get (F.DRV_n_IMG_b_VALID n (1 - u.get (F.DRV_n_STAT_BANK n))) = 0

end Sys2Proof.Claims

/-- Updates of Drover images (R368, R371 to R374): a header is refused with the first condition of R368 that stands, then
with the first failure of its own, and a good one starts the update. A chunk goes to the standby bank of every target, one
that does not fit is refused, and FINISH marks the banks VALID where the hash holds and aborts where it does not. An
ABORT, and a hold-up supply below its minimum, end the update with no standby bank VALID. -/
def Obligations.UpdatesReachStandbyBanks : Prop :=
  Runs (.header ·)
    (fun u => Served R.UPD_CMD u ∧ Storage (u.get F.UPD_SRC_BASE) 512 u)
    (fun u t =>
      let h := u.bytesAt (u.get F.UPD_SRC_BASE) 512
      let refused := fun c => t.get F.UPD_ERR_CODE = c ∧
        t.get (F.UPD_CNT_k_COUNT 1) = min (u.get (F.UPD_CNT_k_COUNT 1) + 1) (2 ^ 32 - 1) ∧ OnlyRegs [R.UPD_ERR, R.UPD_CNT_k 1] u t
      (u.get F.UPD_STAT_BUSY = 1 → refused 6) ∧
      (u.get F.UPD_STAT_BUSY = 0 → updStop u ≠ 0 → refused (updStop u)) ∧
      (u.get F.UPD_STAT_BUSY = 0 → updStop u = 0 → u.get F.UPD_STAT_STATE = 1 → refused 6) ∧
      (u.get F.UPD_STAT_BUSY = 0 → updStop u = 0 → u.get F.UPD_STAT_STATE ≠ 1 → GoodHeader h u →
        if u.sigOk h = true then
          t = ({ u with upd := { u.upd with hdr := h, mask := u.get F.UPD_TARGET_MASK, body := [] } }.puts
            [(F.UPD_STAT_STATE, 1), (F.UPD_TAKEN_BYTES, 0)]).inc (F.UPD_CNT_k_COUNT 0)
        else refused 7)) ∧
  Runs (.chunk ·)
    (fun u => Served R.UPD_CMD u ∧ Storage (u.get F.UPD_SRC_BASE) (u.get F.UPD_LEN_LEN) u ∧ u.get F.UPD_LEN_LEN % 16 = 0 ∧
      u.get F.UPD_TAKEN_BYTES % 16 = 0)
    (fun u t =>
      let len := u.get F.UPD_LEN_LEN
      let at_ := u.get F.UPD_TAKEN_BYTES
      (u.get F.UPD_STAT_BUSY = 1 → t = u.put F.UPD_ERR_CODE 6) ∧
      (u.get F.UPD_STAT_BUSY = 0 → u.get F.UPD_STAT_STATE ≠ 1 ∨ numAt u.upd.hdr 16 4 < at_ + len → t = u.put F.UPD_ERR_CODE 14) ∧
      (u.get F.UPD_STAT_BUSY = 0 → u.get F.UPD_STAT_STATE = 1 → at_ + len ≤ numAt u.upd.hdr 16 4 → at_ + len ≤ 65536 →
        t.get F.UPD_TAKEN_BYTES = at_ + len ∧ t.get F.UPD_STAT_BUSY = 1 ∧
        t.upd = { u.upd with body := u.upd.body ++ u.bytesAt (u.get F.UPD_SRC_BASE) len } ∧
        (∀ n : Fin 12, u.upd.mask.testBit n = true →
          (∀ k, k < len / 8 → (standbySyl n (at_ / 8 + k) t).toNat = num (u.get F.UPD_SRC_BASE + 8 * k) 8 u) ∧
          (at_ = 0 → t.get (F.DRV_n_IMG_b_VALID n (1 - u.get (F.DRV_n_STAT_BANK n))) = 0)) ∧
        (∀ n : Fin 12, u.upd.mask.testBit n = false → t.drovers[n] = u.drovers[n]) ∧
        t = { u with regs := t.regs, upd := t.upd, drovers := t.drovers })) ∧
  Runs (.chunk ·)
    (fun u => Served R.UPD_CMD u ∧ u.ser.errs = [] ∧ u.get F.UPD_SRC_BASE / 16 ∈ u.ser.poison ∧ u.get F.UPD_SRC_BASE < 0x1800000 ∧
      0 < u.get F.UPD_LEN_LEN ∧ u.get F.UPD_STAT_BUSY = 0 ∧ u.get F.UPD_STAT_STATE = 1 ∧
      u.get F.UPD_TAKEN_BYTES + u.get F.UPD_LEN_LEN ≤ numAt u.upd.hdr 16 4 ∧
      ∀ n : Fin 12, u.get (F.DRV_n_STAT_BANK n) < 2)
    (fun u t => AbortedFor 16 u t ∧ t.drovers = u.drovers) ∧
  Runs (.chunkDone ·) (fun _ => True) (fun u t => t = u.put F.UPD_STAT_BUSY 0) ∧
  Runs (.finish ·) (Served R.UPD_CMD) (fun u t =>
    (u.get F.UPD_STAT_BUSY = 1 → t = u.put F.UPD_ERR_CODE 6) ∧
    (u.get F.UPD_STAT_BUSY = 0 → u.get F.UPD_STAT_STATE ≠ 1 ∨ u.get F.UPD_TAKEN_BYTES ≠ numAt u.upd.hdr 16 4 →
      t = u.put F.UPD_ERR_CODE 14) ∧
    (u.get F.UPD_STAT_BUSY = 0 → u.get F.UPD_STAT_STATE = 1 → u.get F.UPD_TAKEN_BYTES = numAt u.upd.hdr 16 4 →
      (sha256 u.upd.body = (u.upd.hdr.drop 32).take 32 →
        t.get F.UPD_STAT_STATE = 2 ∧ t.get (F.UPD_CNT_k_COUNT 2) = min (u.get (F.UPD_CNT_k_COUNT 2) + 1) (2 ^ 32 - 1) ∧
        (∀ n : Fin 12, u.upd.mask.testBit n = true →
          let b := 1 - u.get (F.DRV_n_STAT_BANK n)
          t.get (F.DRV_n_IMG_b_VALID n b) = 1 ∧ t.get (F.DRV_n_IMG_b_ID n b) = numAt u.upd.hdr 6 2) ∧
        (∀ n : Fin 12, t.get (F.DRV_n_STAT_BANK n) = u.get (F.DRV_n_STAT_BANK n)) ∧
        t = { u with regs := t.regs, upd := t.upd }) ∧
      (sha256 u.upd.body ≠ (u.upd.hdr.drop 32).take 32 → AbortedFor 15 u t ∧
        t.get (F.UPD_CNT_k_COUNT 4) = min (u.get (F.UPD_CNT_k_COUNT 4) + 1) (2 ^ 32 - 1)))) ∧
  Runs (.updAbort ·) (Served R.UPD_CTL) (fun u t =>
    (u.get F.UPD_STAT_STATE = 1 → AbortedFor 17 u t ∧ t = { u with regs := t.regs }) ∧ (u.get F.UPD_STAT_STATE ≠ 1 → t = u)) ∧
  ∀ mv : Nat, mv ≤ 1800 → Runs (.holdupSample · mv) (fun u => updStop { u with regs := (u.put F.UPD_HOLDUP_MV mv).regs } = 0 ∨
      updStop { u with regs := (u.put F.UPD_HOLDUP_MV mv).regs } = 5)
    (fun u t =>
      t.get F.UPD_HOLDUP_MV = mv ∧
      (u.get F.UPD_HOLDUP_MIN_MV ≤ mv ∨ u.get F.UPD_STAT_STATE ≠ 1 → t = u.put F.UPD_HOLDUP_MV mv) ∧
      (mv < u.get F.UPD_HOLDUP_MIN_MV → u.get F.UPD_STAT_STATE = 1 → AbortedFor 5 u t))

/-! ## Flash (21_flash_calibration.md) -/

namespace Sys2Proof.Claims

/-- Software may give the flash a command (R389, R394). -/
abbrev FlashFree (u : State) : Prop := u.fls.op = none ∧ u.get F.FLS_STAT_PFAIL = 0

/-- A command of the flash begins: no result yet. -/
def flashBusy (op : FlsOp) (u : State) : State :=
  { u with fls := { u.fls with op := some op } }.puts
    [(F.FLS_RES_STATUS, 1), (F.FLS_RES_CE, 0), (F.FLS_RES_WEAK, 0), (F.FLS_STAT_SWBUSY, 1)]

/-- A command of the flash is refused with a status, and its done event comes; the command in progress goes on. -/
abbrev FlashRefused (st : Nat) (u t : State) : Prop :=
  t.get F.FLS_RES_STATUS = st ∧ (st = 3 → t.get F.FLS_STAT_BADCMD = 1) ∧
    Signals ((if st = 3 then [R.FLS_STAT] else []) ++ [R.FLS_RES]) u t

/-- A command of the flash ends. -/
abbrev FlashEnds (st : Nat) (offs : List Nat) (u t : State) : Prop :=
  t.get F.FLS_RES_STATUS = st ∧ t.get F.FLS_STAT_SWBUSY = 0 ∧ t.fls.op = none ∧
    Signals ([R.FLS_RES, R.FLS_STAT] ++ offs) { u with fls := t.fls, ser := t.ser, free := t.free } t

/-- Sector `k` is protected from PROGRAM and ERASE wherever the chip stands (R390): the option area, the calibration set,
the erase journal and the lease log. -/
def guarded (k : Nat) : Bool := decide (k < 147)

/-- A sector that no rule of R390 protects while STRAP_BOOT has loaded neither area A nor area B's image, in the modes of use. -/
abbrev Loose (k : Nat) (u : State) : Prop :=
  147 ≤ k ∧ k < 512 ∧ u.mode ≠ Mode.reset ∧ u.mode ≠ Mode.safe ∧ u.mode ≠ Mode.test

/-- The sector is not listed as open. -/
abbrev Closed (k : Nat) (u : State) : Prop :=
  ∀ i, i < 8 → u.get (F.FLS_OPEN_k_VALID i) = 0 ∨ u.get (F.FLS_OPEN_k_SECTOR i) ≠ k

/-- A list of open sectors with room in it. -/
abbrev OpenRoom (u : State) : Prop := u.get (F.FLS_OPEN_k_VALID 7) = 0

/-- The flash's counters, and the registers that its list of open sectors may change. -/
def eraseRegs : List Nat := [R.FLS_CNT_k 2, R.FLS_CNT_k 5, R.FLS_CNT_k 6] ++ (List.range 8).map R.FLS_OPEN_k

/-- Every flash byte stands outside sector `k` and the journal's sectors 17 and 18. -/
abbrev KeepsFlash (k : Nat) (u t : State) : Prop :=
  ∀ a, a / 4096 ≠ k → a / 4096 ≠ 17 → a / 4096 ≠ 18 → t.flsByte a = u.flsByte a

/-- The journal writes in its own sectors. -/
abbrev Journalled (u : State) : Prop := u.fls.jsec = 0 ∨ u.fls.jsec = 17 ∨ u.fls.jsec = 18

end Sys2Proof.Claims

/-- Reads and programs (R383 to R385, R388 to R390, R393, R394): each is refused while another command runs, a program of a
protected sector with PROTECT, and one of an open sector with OPEN. A read fills the Serai with the flash's bytes, a granule
with an uncorrectable word being poison; a program takes its source when it starts and its words stand when it ends. At
PFAILN a running erase is abandoned and leaves its sector open, and when the closing ends SAFE entry is due. -/
def Obligations.FlashReadsAndPrograms : Prop :=
  (∀ (c : Nat → Instr) (m : Bool), (m = false ∧ c = Instr.flsRead) ∨ (m = true ∧ c = Instr.marginRead) →
    Runs c (Served R.FLS_CMD) (fun u t =>
      let a := u.get F.FLS_ADDR_ADDR
      let n := u.get F.FLS_LEN_LEN
      (¬FlashFree u ∨ 0x800000 < a + n → FlashRefused 3 u t) ∧
      (FlashFree u → a + n ≤ 0x800000 → ¬Closed (a / 4096) u → FlashRefused 5 u t) ∧
      (FlashFree u → a + n ≤ 0x800000 → (∀ k, Closed k u) → u.fls.susp = none →
        t = flashBusy (.read m a (u.get F.FLS_SER_BASE) n) u))) ∧
  (∀ (m : Bool) (a ser n weak : Nat), a % 16 = 0 → ser % 16 = 0 → n % 16 = 0 → weak < 65536 → Runs (.readDone · [] weak)
    (fun u => u.fls.op = some (.read m a ser n) ∧ Open ser n u ∧ (∀ p ∈ u.fls.words, p.2.err = 0) ∧ u.get F.FLS_RES_WEAK = 0)
    (fun u t => FlashEnds 2 [R.FLS_CNT_k 0, R.FLS_CNT_k 3, R.FLS_CNT_k 4] u t ∧ t.bytesAt ser n = u.flsBytes a n ∧
      (∀ b, Apart ser n b 1 → t.byte b = u.byte b) ∧ t.ser.poison = [] ∧
      t.get F.FLS_RES_WEAK = (if m then weak else 0) ∧
      t.get (F.FLS_CNT_k_COUNT 0) = min (u.get (F.FLS_CNT_k_COUNT 0) + 1) (2 ^ 32 - 1))) ∧
  (∀ (m : Bool) (a ser weak i : Nat), a % 16 = 0 → ser % 16 = 0 → i < 2 → Runs (.readDone · [(i, 2)] weak)
    (fun u => u.fls.op = some (.read m a ser 16) ∧ Open ser 16 u)
    (fun u t => FlashEnds 7 [R.FLS_CNT_k 0, R.FLS_CNT_k 3, R.FLS_CNT_k 4] u t ∧ t.ser.poison = [ser / 16] ∧
      t.get (F.FLS_CNT_k_COUNT 4) ≠ 0)) ∧
  Runs (.flsProgram ·)
    (fun u => Served R.FLS_CMD u ∧ Storage (u.get F.FLS_SER_BASE) (u.get F.FLS_LEN_LEN) u)
    (fun u t =>
      let a := u.get F.FLS_ADDR_ADDR
      let n := u.get F.FLS_LEN_LEN
      (¬FlashFree u ∨ 256 < a % 256 + n → FlashRefused 3 u t) ∧
      (FlashFree u → a % 256 + n ≤ 256 → u.fls.susp = none →
        (guarded (a / 4096) = true → FlashRefused 4 u t) ∧
        (Loose (a / 4096) u → ¬Closed (a / 4096) u → FlashRefused 5 u t) ∧
        (Loose (a / 4096) u → Closed (a / 4096) u →
          t = flashBusy (.program a (u.bytesAt (u.get F.FLS_SER_BASE) n)) u))) ∧
  (∀ (a : Nat) (bs : List Byte), a % 8 = 0 → bs.length % 8 = 0 → Runs (.programDone ·)
    (fun u => u.fls.op = some (.program a bs) ∧ u.flsBlank a bs.length = true)
    (fun u t => FlashEnds 2 [R.FLS_CNT_k 1] u t ∧ t.flsBytes a bs.length = bs ∧ t.ser = u.ser ∧
      (∀ b, Apart a bs.length b 1 → t.flsByte b = u.flsByte b) ∧
      t.get (F.FLS_CNT_k_COUNT 1) = min (u.get (F.FLS_CNT_k_COUNT 1) + 1) (2 ^ 32 - 1))) ∧
  Runs (.pfailnFall ·) (fun u => u.get F.FLS_STAT_PFAIL = 0 ∧ u.get F.CAL_STAT_RUNNING = 0) (fun u t =>
    t.get F.FLS_STAT_PFAIL = 1 ∧ (∃ more, t.faults.log = u.faults.log ++ ⟨0x0F, 3, 0, u.stamp⟩ :: more) ∧
      t.sec = { u.sec with leases := [], persist := [] } ∧
      (∀ k p, u.fls.op = some (.erase k p) → u.fls.susp = none → OpenRoom u → k < 2048 →
        t.fls.op = none ∧ t.get F.FLS_RES_STATUS = 9 ∧ ¬Closed k t) ∧
      (∀ a bs, u.fls.op = some (.program a bs) → u.fls.susp = none → t.fls = u.fls)) ∧
  Runs (.pfailnFall ·) (fun u => u.get F.FLS_STAT_PFAIL = 1 ∧ u.cal.run = none ∧ u.cal.commit = none) (fun u t => t = u) ∧
  Runs (.flashCloseDone ·) (fun u => u.get F.FLS_STAT_PFAIL = 1) (fun u t =>
    (u.fls.closed = true → t = u) ∧
    (u.fls.closed = false → u.fls.op = none → t.fls.closed = true ∧ t.regs = u.regs ∧
      t.faults = { u.faults with wait := if u.faults.wait = .pfail then .due else u.faults.wait } ∧
      (Journalled u → ∀ a, a / 4096 ≠ 17 → a / 4096 ≠ 18 → t.flsByte a = u.flsByte a)) ∧
    (∀ a bs, u.fls.closed = false → u.fls.op = some (.program a bs) → t.fls.closed = true ∧ t.fls.op = none ∧
      t.get F.FLS_RES_STATUS = 2))

/-- Erases (R386, R388, R390, R391, R393, R396): an erase is journalled when it starts, its sector is blank when a verify
passes, and after the 32nd pulse it has failed and its sector is open. SUSPEND halts it and RESUME starts its pulse again. The
option area is rewritten under its trust record by OPTWRITE, in BOOT and CONFIGURE alone, and the read-back decides. -/
def Obligations.FlashErasesAreJournalled : Prop :=
  Runs (.flsErase ·) (Served R.FLS_CMD) (fun u t =>
    let k := u.get F.FLS_ADDR_ADDR / 4096
    (¬FlashFree u ∨ u.fls.susp.isSome = true → FlashRefused 3 u t) ∧
    (FlashFree u → u.fls.susp = none → guarded k = true → FlashRefused 4 u t) ∧
    (FlashFree u → u.fls.susp = none → Loose k u → OpenRoom u → Journalled u →
      t.fls.op = some (.erase k 0) ∧ t.get F.FLS_RES_STATUS = 1 ∧ t.get F.FLS_STAT_SWBUSY = 1 ∧
      (∀ a, a / 4096 ≠ 17 → a / 4096 ≠ 18 → t.flsByte a = u.flsByte a) ∧
      OnlyRegs [R.FLS_RES, R.FLS_STAT] { u with fls := t.fls, free := t.free } t)) ∧
  (∀ k p : Nat, Runs (.erasePulseDone · true) (fun u => u.fls.op = some (.erase k p) ∧ k ≠ 17 ∧ k ≠ 18 ∧ Journalled u ∧ p < 32)
    (fun u t => FlashEnds 2 eraseRegs u t ∧ (∀ a, a / 4096 = k → t.flsByte a = 0xFF) ∧ KeepsFlash k u t ∧ t.ser = u.ser ∧
      t.get F.FLS_RES_PULSES = p + 1 ∧ (∀ i, i < 8 → t.get (F.FLS_OPEN_k_VALID i) = 1 → t.get (F.FLS_OPEN_k_SECTOR i) ≠ k) ∧
      (12 < p + 1 → t.get F.FLS_STAT_WEAR = 1) ∧
      t.get (F.FLS_CNT_k_COUNT 2) = min (u.get (F.FLS_CNT_k_COUNT 2) + 1) (2 ^ 32 - 1))) ∧
  (∀ k p : Nat, Runs (.erasePulseDone · false) (fun u => u.fls.op = some (.erase k p)) (fun u t =>
    (p + 1 < 32 → t = { u with fls := { u.fls with op := some (.erase k (p + 1)) } }) ∧
    (p + 1 = 32 → Journalled u → OpenRoom u → k < 2048 → FlashEnds 8 eraseRegs u t ∧
      (∃ i, i < 8 ∧ t.get (F.FLS_OPEN_k_VALID i) = 1 ∧ t.get (F.FLS_OPEN_k_SECTOR i) = k ∧ t.get (F.FLS_OPEN_k_FAILED i) = 1) ∧
      t.get (F.FLS_CNT_k_COUNT 6) = min (u.get (F.FLS_CNT_k_COUNT 6) + 1) (2 ^ 32 - 1)))) ∧
  Runs (.flsSuspend ·) (Served R.FLS_CMD) (fun u t =>
    (∀ k p, u.fls.op = some (.erase k p) → u.fls.susp = none → u.get F.FLS_STAT_PFAIL = 0 → k < 2048 →
      FlashEnds 2 [R.FLS_SUSP, R.FLS_CNT_k 7] u t ∧ t.fls = { u.fls with op := none, susp := some (k, p) } ∧
      t.get F.FLS_SUSP_SECTOR = k ∧ t.get F.FLS_SUSP_VALID = 1 ∧ t.get F.FLS_STAT_SUSP = 1 ∧
      t.get (F.FLS_CNT_k_COUNT 7) = min (u.get (F.FLS_CNT_k_COUNT 7) + 1) (2 ^ 32 - 1)) ∧
    (u.fls.op = none → FlashRefused 3 u t)) ∧
  Runs (.flsResume ·) (Served R.FLS_CMD) (fun u t =>
    (∀ k p, u.fls.susp = some (k, p) → FlashFree u →
      t = flashBusy (.erase k p) ({ u with fls := { u.fls with susp := none } }.puts
        [(F.FLS_SUSP_SECTOR, 0), (F.FLS_SUSP_VALID, 0), (F.FLS_STAT_SUSP, 0)])) ∧
    (u.fls.susp = none ∨ ¬FlashFree u → FlashRefused 3 u t)) ∧
  Runs (.optwrite ·) (fun u => Served R.FLS_CMD u ∧ Storage (u.get F.FLS_SER_BASE) 3584 u) (fun u t =>
    (¬FlashFree u ∨ u.fls.susp.isSome = true ∨ (u.mode ≠ Mode.boot ∧ u.mode ≠ Mode.configure) → FlashRefused 3 u t) ∧
    (FlashFree u → u.fls.susp = none → u.mode = Mode.boot ∨ u.mode = Mode.configure → OpenRoom u → Journalled u →
      t.fls.op = some (.optwrite (u.bytesAt (u.get F.FLS_SER_BASE) 3584)) ∧ t.get F.FLS_RES_STATUS = 1 ∧
      (∀ a, a / 4096 ≠ 17 → a / 4096 ≠ 18 → t.flsByte a = u.flsByte a) ∧
      OnlyRegs [R.FLS_RES, R.FLS_STAT] { u with fls := t.fls, free := t.free } t)) ∧
  ∀ (bs : List Byte) (bad : List (Nat × Byte)), bs.length = 3584 → Runs (.optwriteDone · bad)
    (fun u => u.fls.op = some (.optwrite bs) ∧ Journalled u)
    (fun u t =>
      (bad = [] → FlashEnds 2 eraseRegs u t ∧ t.flsBytes 0x200 3584 = bs ∧ t.flsBytes 0 512 = u.flsBytes 0 512 ∧
        KeepsFlash 0 u t ∧ t.ser = u.ser) ∧
      (∀ i b, bad = [(i, b)] → i < 4096 → b ≠ (u.flsBytes 0 512 ++ bs).getD i 0 →
        FlashEnds 10 eraseRegs u t ∧ t.flsByte i = b))

/-! ## Calibration, timers and the real-time clock (21_flash_calibration.md, 22_timers_rtc.md) -/

namespace Sys2Proof.Claims

/-- No event channel is enabled: an event reaches no consumer. -/
abbrev NoChannels (u : State) : Prop := ∀ c, c < 64 → u.get (F.EVT_CH_c_EN c) = 0

/-- The period of a timer channel: PERIOD, or 2^32 where PERIOD is 0. -/
def tmrLen (n : Nat) (u : State) : Nat :=
  if u.get (F.TMR_n_PERIOD_VALUE n) = 0 then 2 ^ 32 else u.get (F.TMR_n_PERIOD_VALUE n)

/-- Where channel `n` starts (R408). -/
def tmrFrom (n : Nat) (u : State) : Nat := u.get (F.TMR_n_PHASE_VALUE n) % tmrLen n u

/-- The registers of channel `n` that show its count and state. -/
def tmrShown (n : Nat) : List Nat := [(F.TMR_n_COUNT_VALUE n).off, R.TMR_n_STAT n]

/-- Two decimal digits in BCD, and four. -/
def bcdOf (v : Nat) : Nat := 16 * (v / 10) + v % 10
def bcdOf4 (v : Nat) : Nat := 256 * bcdOf (v / 100) + bcdOf (v % 100)

/-- The days of a month (R410). -/
def lastDay (year month : Nat) : Nat :=
  if month = 4 ∨ month = 6 ∨ month = 9 ∨ month = 11 then 30
  else if month ≠ 2 then 31
  else if year % 4 = 0 ∧ (year % 100 ≠ 0 ∨ year % 400 = 0) then 29
  else 28

/-- An instant of the calendar. -/
abbrev OnCalendar (c : Cal) : Prop :=
  c.year < 400 ∧ 1 ≤ c.month ∧ c.month ≤ 12 ∧ 1 ≤ c.day ∧ c.day ≤ lastDay c.year c.month ∧ c.hour < 24 ∧ c.min < 60 ∧ c.sec < 60

/-- The staging registers hold an instant, its seconds apart. -/
abbrev Staged2 (c : Cal) (u : State) : Prop :=
  u.get F.RTC_STG_HM_MIN = bcdOf c.min ∧ u.get F.RTC_STG_HM_HOUR = bcdOf c.hour ∧ u.get F.RTC_STG_DATE_DAY = bcdOf c.day ∧
    u.get F.RTC_STG_DATE_MONTH = bcdOf c.month ∧ u.get F.RTC_STG_DATE_YEAR = bcdOf4 (2000 + c.year)

end Sys2Proof.Claims

namespace Sys2Proof.Claims

/-- A RUN or a COMMIT has ended with `result`, and the receive front ends are OFF. -/
def calEnded (result : Nat) (u : State) : State :=
  { u with cal := { u.cal with run := none, commit := none } }.puts
    [(F.CAL_STAT_RUNNING, 0), (F.CAL_STAT_RESULT, result), (F.FRX_STAT_LNA24, 0), (F.FRX_STAT_LNASG, 0)]

/-- The end of a RUN in CALIBRATE is CONFIGURE (R32). -/
abbrev CalLeft (result : Nat) (u t : State) : Prop :=
  t.mode = Mode.configure ∧ t.get F.SYS_MODE_MODE_PREV = Mode.calibrate ∧ t.get F.CAL_STAT_RUNNING = 0 ∧
    t.get F.CAL_STAT_RESULT = result ∧ t.get F.FRX_STAT_LNA24 = 0 ∧ t.get F.FRX_STAT_LNASG = 0 ∧ t.cal.run = none ∧
    t.cal.commit = none ∧ t.fuses = u.fuses ∧ (u.tandem = false → t.fls = u.fls)

end Sys2Proof.Claims

/-- Calibration (R32, R400, R401): RUN takes the sections and shows RUNNING; it ends with the set written to the Serai, or
FAILED with the section that failed, section 6 failing without PPS_IN. ABORT ends it as FAILED. The end of a RUN in
CALIBRATE is CONFIGURE. The front ends of a RUN are in state CAL (the model's choice, log entry 130). COMMIT takes a set that is in order,
and its end leaves the set in flash. Either is refused outside CALIBRATE and while another runs. -/
def Obligations.CalibrationRunsAndCommits : Prop :=
  Runs (.calRun ·) (Served R.CAL_CMD) (fun u t =>
    (u.mode ≠ Mode.calibrate ∨ u.get F.CAL_STAT_RUNNING = 1 → t = u.put F.CAL_STAT_BADCMD 1) ∧
    (u.mode = Mode.calibrate → u.get F.CAL_STAT_RUNNING = 0 →
      t = { u with cal := { u.cal with run := some (u.get F.CAL_CTL_SECTIONS % 128) } }.puts
        [(F.CAL_STAT_RUNNING, 1), (F.CAL_STAT_RESULT, 0), (F.FRX_STAT_LNA24, 3), (F.FRX_STAT_LNASG, 3)])) ∧
  (∀ (meas : List Byte) (pps : Bool) (sec : Nat) (fail : Option (Fin 7)), sec < 128 →
    Runs (.calRunDone · meas pps fail) (fun u => u.cal.run = some sec ∧ Open (u.get F.CAL_SER_BASE) 7552 u) (fun u t =>
      let base := u.get F.CAL_SER_BASE
      (∀ k : Fin 7, (fail = some k ∧ sec.testBit k = true) ∨
          (fail = none ∧ pps = false ∧ k = 6 ∧ sec.testBit 6 = true) →
        (u.mode ≠ Mode.calibrate → t = calEnded 2 (u.put F.CAL_ERR_SECTION k)) ∧
        (u.mode = Mode.calibrate → CalLeft 2 u t ∧ t.get F.CAL_ERR_SECTION = k ∧ KeepsMem u t)) ∧
      (fail = none → pps = true →
        t.get F.CAL_STAT_RUNNING = 0 ∧ t.get F.CAL_STAT_RESULT = 1 ∧ t.cal.run = none ∧
        num base 4 t = 0x4C434E43 ∧ num (base + 4) 1 t = 0x55 ∧ num (base + 8) 8 t = u.fuses.serial % 2 ^ 64 ∧
        num (base + 0x14) 4 t = crc32 (t.bytesAt (base + 0x40) 7488) ∧
        t.bytesAt (base + 0x40) 1024 =
          (((if sec.testBit 0 then meas else u.cal.cur).drop 0x40).take 1024 ++ List.replicate 1024 0).take 1024 ∧
        num (base + 0x1D7C) 4 t = u.get F.CAL_FEMOFF_LEVEL ∧
        (∀ a, Apart base 7552 a 1 → t.byte a = u.byte a) ∧
        (u.mode = Mode.calibrate → CalLeft 1 u t) ∧
        (u.mode ≠ Mode.calibrate → OnlyRegs [R.CAL_STAT, R.FRX_STAT] { u with cal := t.cal, ser := t.ser } t)))) ∧
  (∀ (meas : List Byte) (pps : Bool) (fail : Option (Fin 7)), Runs (.calRunDone · meas pps fail)
    (fun u => u.cal.run = none) (fun u t => t = u)) ∧
  Runs (.calAbort ·) (Served R.CAL_CMD) (fun u t =>
    (u.cal.run = none → t = u) ∧
    (u.cal.run.isSome = true → u.mode ≠ Mode.calibrate → t = calEnded 2 u) ∧
    (u.cal.run.isSome = true → u.mode = Mode.calibrate → CalLeft 2 u t ∧ (u.tandem = false → KeepsMem u t))) ∧
  Runs (.calCommit ·) (fun u => Served R.CAL_CMD u ∧ Storage (u.get F.CAL_SER_BASE) 7552 u) (fun u t =>
    let b := u.bytesAt (u.get F.CAL_SER_BASE) 7552
    let sound := numAt b 0 4 = 0x4C434E43 ∧ numAt b 5 1 = 1 ∧ numAt b 0x10 4 = 7552 ∧ numAt b 8 8 = u.fuses.serial ∧
      numAt b 0x14 4 = crc32 (b.drop 0x40)
    (u.mode ≠ Mode.calibrate ∨ u.get F.CAL_STAT_RUNNING = 1 ∨ u.get F.FLS_STAT_PFAIL = 1 ∨ ¬sound →
      t = u.put F.CAL_STAT_BADCMD 1) ∧
    (u.mode = Mode.calibrate → u.get F.CAL_STAT_RUNNING = 0 → u.get F.FLS_STAT_PFAIL = 0 → sound →
      t = { u with cal := { u.cal with commit := some (b.set 4 0x55) } }.puts
        [(F.CAL_STAT_RUNNING, 1), (F.CAL_STAT_RESULT, 0)])) ∧
  ∀ b : List Byte, b.length = 7552 → Runs (.calCommitDone · [])
    (fun u => u.cal.commit = some b ∧ Journalled u ∧ ∀ i, i < 8 → u.get (F.FLS_OPEN_k_VALID i) = 0)
    (fun u t => t.get F.CAL_STAT_RUNNING = 0 ∧ t.get F.CAL_STAT_RESULT = 1 ∧ t.cal = { u.cal with run := none, commit := none } ∧
      t.flsBytes 0x1000 7552 = b ∧
      (∀ a, a / 4096 ≠ 17 → a / 4096 ≠ 18 → a < 0x1000 ∨ 0x11000 ≤ a → t.flsByte a = u.flsByte a))

/-- Timer channels (R405 to R409): START takes COUNT from PHASE at once, or at a tick; STOP stops and takes back a start that
waits. A capture takes COUNT, and CAPOVR where an unread one stood. COUNT reaching CMP, or a CMP written at or below it,
sets CMPF; COUNT reaching PERIOD, or a PERIOD written at or below it, wraps to 0. With no event channel enabled nothing
else changes. -/
def Obligations.TimersCountAndCompare : Prop :=
  (∀ (who : Writer) (mask : Nat), mask < 65536 → Runs (.tmrStart · who mask false)
    (fun u => Served R.TMR_START u ∧ NoChannels u)
    (fun u t =>
      (∀ n : Fin 16, mask.testBit n = true → t.get (F.TMR_n_STAT_RUN n) = 1 ∧ t.get (F.TMR_n_COUNT_VALUE n) = tmrFrom n u ∧
        (u.get (F.TMR_n_CMP_VALUE n) = tmrFrom n u → t.get (F.TMR_n_STAT_CMPF n) = 1)) ∧
      OnlyRegs (((List.range 16).filter fun n => mask.testBit n).flatMap tmrShown) u t)) ∧
  (∀ (who : Writer) (mask : Nat), mask < 65536 → Runs (.tmrStart · who mask true) (Served R.TMR_START) (fun u t =>
    (u.tickRuns = false → t = u.put F.TMR_STAT_BADCMD 1) ∧
    (u.tickRuns = true → t = { u with timers := t.timers } ∧
      ∀ n : Fin 16, t.timers[n].startAtTick = if mask.testBit n then (if u.inTime then 1 else 2) else u.timers[n].startAtTick))) ∧
  (∀ (who : Writer) (mask : Nat), mask < 65536 → Runs (.tmrStop · who mask) (Served R.TMR_STOP) (fun u t =>
    (∀ n : Fin 16, t.get (F.TMR_n_STAT_RUN n) = (if mask.testBit n then 0 else u.get (F.TMR_n_STAT_RUN n)) ∧
      t.timers[n].startAtTick = if mask.testBit n then 0 else u.timers[n].startAtTick) ∧
    OnlyRegs ((List.range 16).map R.TMR_n_STAT) { u with timers := t.timers } t)) ∧
  (∀ (who : Writer) (n : Fin 16), Runs (.tmrCapture · who n)
    (fun u => Served (R.TMR_n_CMD n) u ∧ (n.val % 2 = 1 ∨ u.get (F.TMR_n_CFG_PAIR n) = 0))
    (fun u t => t.get (F.TMR_n_CAP_VALUE n) = u.get (F.TMR_n_COUNT_VALUE n) ∧ t.get (F.TMR_n_STAT_CAPF n) = 1 ∧
      t.get (F.TMR_n_STAT_CAPOVR n) = (if u.get (F.TMR_n_STAT_CAPF n) = 1 then 1 else u.get (F.TMR_n_STAT_CAPOVR n)) ∧
      OnlyRegs [(F.TMR_n_CAP_VALUE n).off, R.TMR_n_STAT n] u t)) ∧
  (∀ (who : Writer) (n : Fin 16) (v : Word), Runs (.tmrCmpWrite · who n v)
    (fun u => Served (R.TMR_n_CMP n) u ∧ NoChannels u)
    (fun u t => t.get (F.TMR_n_CMP_VALUE n) = v.toNat ∧
      t.get (F.TMR_n_STAT_CMPF n) =
        (if u.get (F.TMR_n_STAT_RUN n) = 1 ∧ v.toNat ≤ u.get (F.TMR_n_COUNT_VALUE n) ∧ v.toNat < tmrLen n u then 1
        else u.get (F.TMR_n_STAT_CMPF n)) ∧
      OnlyRegs [R.TMR_n_CMP n, R.TMR_n_STAT n] u t)) ∧
  (∀ (who : Writer) (n : Fin 16) (v : Word), Runs (.tmrPeriodWrite · who n v)
    (fun u => Served (R.TMR_n_PERIOD n) u ∧ NoChannels u ∧ (n.val % 2 = 1 ∨ u.get (F.TMR_n_CFG_SRC (n + 1)) ≠ 3))
    (fun u t =>
      let len := if v = 0 then 2 ^ 32 else v.toNat
      let wraps := u.get (F.TMR_n_STAT_RUN n) = 1 ∧ len ≤ u.get (F.TMR_n_COUNT_VALUE n)
      t.get (F.TMR_n_PERIOD_VALUE n) = v.toNat ∧
      (wraps → t.get (F.TMR_n_COUNT_VALUE n) = 0 ∧ t.get (F.TMR_n_STAT_WRAPF n) = 1 ∧
        t.get (F.TMR_n_STAT_RUN n) = if u.get (F.TMR_n_CFG_ONESHOT n) = 1 then 0 else 1) ∧
      (¬wraps → t = u.put (F.TMR_n_PERIOD_VALUE n) v.toNat) ∧
      OnlyRegs (R.TMR_n_PERIOD n :: tmrShown n) u t)) ∧
  (∀ n : Fin 16, Runs (.compareMatch · n) NoChannels (fun u t =>
    let due := u.get (F.TMR_n_STAT_RUN n) = 1 ∧ u.get (F.TMR_n_CFG_SRC n) ≤ 1 ∧
      u.get (F.TMR_n_COUNT_VALUE n) + 1 = u.get (F.TMR_n_CMP_VALUE n) ∧ u.get (F.TMR_n_CMP_VALUE n) < tmrLen n u
    (¬due → t = u) ∧
    (due → t.get (F.TMR_n_COUNT_VALUE n) = u.get (F.TMR_n_CMP_VALUE n) ∧ t.get (F.TMR_n_STAT_CMPF n) = 1 ∧
      t.get (F.TMR_n_STAT_RUN n) = 1 ∧ OnlyRegs (tmrShown n) u t))) ∧
  ∀ n : Fin 16, Runs (.timerWrap · n) (fun u => NoChannels u ∧ (n.val % 2 = 1 ∨ u.get (F.TMR_n_CFG_SRC (n + 1)) ≠ 3)) (fun u t =>
    let due := u.get (F.TMR_n_STAT_RUN n) = 1 ∧ u.get (F.TMR_n_CFG_SRC n) ≤ 1 ∧
      u.get (F.TMR_n_COUNT_VALUE n) + 1 = tmrLen n u
    (¬due → t = u) ∧
    (due → t.get (F.TMR_n_COUNT_VALUE n) = 0 ∧ t.get (F.TMR_n_STAT_WRAPF n) = 1 ∧
      t.get (F.TMR_n_STAT_RUN n) = (if u.get (F.TMR_n_CFG_ONESHOT n) = 1 then 0 else 1) ∧
      (u.get (F.TMR_n_CMP_VALUE n) = 0 → t.get (F.TMR_n_STAT_CMPF n) = 1) ∧ OnlyRegs (tmrShown n) u t))

/-- The real-time clock (R410, R412 to R417): each second moves the calendar, through month ends and leap days, and fires an
alarm that agrees. A capture shows one instant in BCD; a commit of a valid instant sets the calendar, and an invalid one sets
BADDATE. The wake-up count fires at PERIOD; the loss of the backup supply resets the block and sets LOST. -/
def Obligations.TheClockKeepsTheCalendar : Prop :=
  Runs (.rtcSecond ·) (fun u => OnCalendar u.rtc.now ∧ u.get F.RTC_ALARM_CTL_EN = 0) (fun u t =>
    let c := u.rtc.now
    let d := t.rtc.now
    (c.sec < 59 → d = { c with sec := c.sec + 1 }) ∧
    (c.sec = 59 → c.min < 59 → d = { c with min := c.min + 1, sec := 0 }) ∧
    (c.sec = 59 → c.min = 59 → c.hour < 23 → d = { c with hour := c.hour + 1, min := 0, sec := 0 }) ∧
    (c.sec = 59 → c.min = 59 → c.hour = 23 → c.day < lastDay c.year c.month → d = ⟨c.year, c.month, c.day + 1, 0, 0, 0⟩) ∧
    (c.sec = 59 → c.min = 59 → c.hour = 23 → c.day = lastDay c.year c.month → c.month < 12 →
      d = ⟨c.year, c.month + 1, 1, 0, 0, 0⟩) ∧
    (c.sec = 59 → c.min = 59 → c.hour = 23 → c.day = 31 → c.month = 12 → c.year < 399 → d = ⟨c.year + 1, 1, 1, 0, 0, 0⟩) ∧
    (c = ⟨399, 12, 31, 23, 59, 59⟩ → d = ⟨0, 1, 1, 0, 0, 0⟩ ∧ t.get F.RTC_STAT_WRAP = 1) ∧
    OnCalendar d ∧ t.rtc.sub = 0 ∧ (c.year < 399 → t = { u with rtc := t.rtc }) ∧
    OnlyRegs [R.RTC_STAT] { u with rtc := t.rtc } t) ∧
  Runs (.rtcSecond ·)
    (fun u => OnCalendar u.rtc.now ∧ u.rtc.now.year < 399 ∧ u.rtc.watermark = u.rtc.now ∧ NoChannels u ∧
      u.get F.RTC_ALARM_CTL_EN = 1 ∧ u.get F.RTC_ALARM_CTL_MASK = 62)
    (fun u t =>
      (u.get F.RTC_ALARM_TIME_SEC = bcdOf t.rtc.now.sec → t.get F.RTC_STAT_ALARMF = 1) ∧
      (u.get F.RTC_ALARM_TIME_SEC < 0x60 → u.get F.RTC_ALARM_TIME_SEC % 16 < 10 → u.get F.RTC_ALARM_TIME_SEC ≠ bcdOf t.rtc.now.sec →
        t.get F.RTC_STAT_ALARMF = u.get F.RTC_STAT_ALARMF)) ∧
  Runs (.rtcCapture ·) (Served R.RTC_CAPTURE) (fun u t => t = u.put F.RTC_STAT_CAPBUSY 1) ∧
  (∀ sub : Fin 256, Runs (.rtcCaptureDone · sub) (fun u => OnCalendar u.rtc.now) (fun u t =>
    (u.get F.RTC_STAT_CAPBUSY = 0 → t = u) ∧
    (u.get F.RTC_STAT_CAPBUSY = 1 →
      t.get F.RTC_CAP_TIME_SEC = bcdOf u.rtc.now.sec ∧ t.get F.RTC_CAP_TIME_MIN = bcdOf u.rtc.now.min ∧
      t.get F.RTC_CAP_TIME_HOUR = bcdOf u.rtc.now.hour ∧ t.get F.RTC_CAP_TIME_SUB = sub ∧
      t.get F.RTC_CAP_DATE_DAY = bcdOf u.rtc.now.day ∧ t.get F.RTC_CAP_DATE_MONTH = bcdOf u.rtc.now.month ∧
      t.get F.RTC_CAP_DATE_YEAR = bcdOf4 (2000 + u.rtc.now.year) ∧ t.get F.RTC_STAT_CAPBUSY = 0 ∧
      OnlyRegs [R.RTC_CAP_TIME, R.RTC_CAP_DATE, R.RTC_STAT] { u with rtc := { u.rtc with sub := sub } } t))) ∧
  (∀ (who : Writer) (c : Cal), OnCalendar c → Runs (.rtcCommit · who (BitVec.ofNat 32 (bcdOf c.sec)))
    (fun u => Served R.RTC_STG_SEC u ∧ Staged2 c u)
    (fun u t => t = if u.get F.RTC_STAT_SETBUSY = 1 then u.put F.RTC_STAT_BUSYWR 1
      else { u with rtc := { u.rtc with commit := some c } }.put F.RTC_STAT_SETBUSY 1)) ∧
  (∀ (who : Writer) (v : Word), Runs (.rtcCommit · who v)
    (fun u => Served R.RTC_STG_SEC u ∧ u.get F.RTC_STAT_SETBUSY = 0 ∧
      (0x59 < v.toNat % 128 ∨ 9 < v.toNat % 16 ∨ 0x59 < u.get F.RTC_STG_HM_MIN ∨ 0x23 < u.get F.RTC_STG_HM_HOUR ∨
        0x12 < u.get F.RTC_STG_DATE_MONTH ∨ u.get F.RTC_STG_DATE_MONTH = 0 ∨ u.get F.RTC_STG_DATE_DAY = 0 ∨
        0x31 < u.get F.RTC_STG_DATE_DAY ∨ u.get F.RTC_STG_DATE_YEAR < 0x2000 ∨ 0x2399 < u.get F.RTC_STG_DATE_YEAR))
    (fun u t => t = u.put F.RTC_STAT_BADDATE 1)) ∧
  (∀ c : Cal, Runs (.rtcCommitDone ·) (fun u => u.rtc.commit = some c ∧ u.get F.RTC_ALARM_CTL_EN = 0) (fun u t =>
    t.rtc.now = c ∧ t.rtc.sub = 0 ∧ t.rtc.wakeCount = 0 ∧ t.rtc.commit = none ∧
      t = { u with rtc := t.rtc }.puts [(F.RTC_STAT_SETBUSY, 0), (F.RTC_STAT_LOST, 0)])) ∧
  Runs (.rtcWake ·) NoChannels (fun u t =>
    (u.get F.RTC_WAKE_PERIOD = 0 → t = u) ∧
    (u.get F.RTC_WAKE_PERIOD ≠ 0 → t.get F.RTC_STAT_WAKEF = 1 ∧ t.get F.RTC_STAT_WAKECNT = min (u.get F.RTC_STAT_WAKECNT + 1) 255 ∧
      t.rtc = { u.rtc with wakeCount := 0 } ∧ OnlyRegs [R.RTC_STAT] { u with rtc := t.rtc } t)) ∧
  (∀ (who : Writer) (v : Word), Runs (.rtcAlarmWrite · who R.RTC_ALARM_TIME v) (Served R.RTC_ALARM_TIME) (fun u t =>
    t.get F.RTC_ALARM_TIME_SEC = v.toNat % 128 ∧ t.get F.RTC_ALARM_TIME_MIN = v.toNat / 256 % 128 ∧
      t.get F.RTC_ALARM_TIME_HOUR = v.toNat / 65536 % 64 ∧
      OnlyRegs [R.RTC_ALARM_TIME] { u with rtc := { u.rtc with watermark := u.rtc.now } } t)) ∧
  (∀ (who : Writer) (v : Word), Runs (.rtcWakeWrite · who v) (Served R.RTC_WAKE) (fun u t =>
    t = if v.toNat % 2 ^ 25 ≤ 22118400 then { u with rtc := { u.rtc with wakeCount := 0 } }.put F.RTC_WAKE_PERIOD (v.toNat % 2 ^ 25)
      else u.put F.RTC_STAT_BADVAL 1)) ∧
  Runs (.backupLoss ·) (fun _ => True) (fun u t =>
    t.get F.RTC_STAT_LOST = 1 ∧ t.get F.RTC_STAT_BATLOW = u.get F.RTC_STAT_BATLOW ∧ t.rtc.now = ⟨0, 1, 1, 0, 0, 0⟩ ∧
      (∀ o, o / 65536 = 0x16 → o ≠ R.RTC_STAT → t.reg o = State.reset.reg o) ∧
      (∀ o, o / 65536 ≠ 0x16 → t.reg o = u.reg o) ∧ t = { u with regs := t.regs, rtc := t.rtc }) ∧
  Runs (.batteryLow ·) (fun _ => True) (fun u t => t = u.put F.RTC_STAT_BATLOW 1) ∧
  Runs (.backupSupplyReturn ·) (fun _ => True) (fun u t => t = u.put F.RTC_STAT_BATLOW 0)

/-! ## Events and serial ports (23_events_serial.md) -/

namespace Sys2Proof.Claims

/-- The hidden part of a serial port, changed. -/
def withPort (i : Fin 2) (p : SpiPort) (u : State) : State := { u with spi := { u.spi with ports := u.spi.ports.set i p } }

/-- The registers show the levels of a port's FIFOs and whether a frame runs. -/
abbrev PortShown (i : Fin 2) (t : State) : Prop :=
  t.get (F.SPI_i_STAT_TXLVL i) = t.spi.ports[i].tx.length % 64 ∧ t.get (F.SPI_i_STAT_RXLVL i) = t.spi.ports[i].rx.length % 64 ∧
    (t.get (F.SPI_i_STAT_ACTIVE i) = 1 ↔ t.spi.ports[i].frame = true ∨ i = 0 ∧ t.spi.fetch ≠ [])

/-- Port `i` does not serve the host. -/
abbrev OwnPort (i : Fin 2) (u : State) : Prop := i = 0 ∨ u.get F.SYS_STRAP_HOST ≠ 1

/-- Port `i` is a slave in use. -/
abbrev Slave (i : Fin 2) (u : State) : Prop := OwnPort i u ∧ u.get (F.SPI_i_CFG_EN i) = 1 ∧ u.get (F.SPI_i_CFG_MASTER i) = 0

/-- The bits of a word, and the words of a frame (R431). -/
def wordBits (i : Fin 2) (u : State) : Nat := u.get (F.SPI_i_CFG_WLEN i) + 1
def frameWords2 (i : Fin 2) (u : State) : Nat := (u.get (F.SPI_i_FRAME_FLEN i) + wordBits i u - 1) / wordBits i u

/-- The registers of a port that a frame's end writes. -/
def endRegs (i : Nat) : List Nat := [R.SPI_i_STAT i, R.SPI_i_LAST i, R.SPI_i_CNT i]

/-- An event at an enabled channel whose consumer is input `k` of Drover `n`. -/
abbrev AtDrover (c : Nat) (n : Fin 12) (k : Nat) (u : State) : Prop :=
  u.get (F.EVT_CH_c_EN c) = 1 ∧ u.get (F.EVT_CH_c_CONS c) = 0x1000 + 16 * n + k ∧ k < 16

/-- The event reaches the Drover's input and is counted as delivered. -/
abbrev Delivered (c : Nat) (n : Fin 12) (k : Nat) (u t : State) : Prop :=
  (t.get (F.DRV_n_EVPEND_PEND n)).testBit (16 + k) = true ∧
    t.get (F.EVT_CNT_c_DELIV c) = min (u.get (F.EVT_CNT_c_DELIV c) + 1) (2 ^ 16 - 1) ∧
    OnlyRegs [R.DRV_n_EVPEND n, R.EVT_CNT_c c] u t

/-- Software may fire the channel (R423). -/
abbrev MayFire (who : Writer) (c : Nat) (u : State) : Prop :=
  u.get (F.EVT_CH_c_SWEN c) = 1 ∧ (u.get F.EVT_CTL_CN404 = 0 ∨ ∃ n : Fin 12, who = .drover n ∧ u.get (F.EVT_CH_c_OWNER c) = n)

end Sys2Proof.Claims

/-- The event fabric (R420, R423, R425 to R427): an event that software fires reaches its channel's consumer and is counted; at
a busy consumer one event is remembered and delivered once the consumer is free, and a further one is LOST; a fire that the
channel does not allow sets FIREREF, and a relay back to the channel of origin sets LOOP. A locked channel stays locked. -/
def Obligations.EventsReachTheirConsumers : Prop :=
  (∀ (who : Writer) (c : Fin 64) (n : Fin 12) (k : Nat), Runs (.evtFire · who c)
    (fun u => Served R.EVT_FIRE u ∧ AtDrover c n k u ∧ MayFire who c u)
    (fun u t =>
      let busy := (u.get (F.DRV_n_EVPEND_PEND n)).testBit (16 + k) = true
      (¬busy → Delivered c n k u t) ∧
      (busy → (∀ e ∈ u.evPend, e.chan ≠ c) → t = { u with evPend := u.evPend ++ [⟨c, c, 0⟩] }) ∧
      (busy → (∃ e ∈ u.evPend, e.chan = c) → t = u.inc (F.EVT_CNT_c_LOST c)))) ∧
  (∀ (who : Writer) (c : Fin 64), Runs (.evtFire · who c)
    (fun u => Served R.EVT_FIRE u ∧ (u.get (F.EVT_CH_c_EN c) = 0 ∨ u.get (F.EVT_CH_c_SWEN c) = 0 ∨
      u.get F.EVT_CTL_CN404 = 1 ∧ (∀ n : Fin 12, who = .drover n → u.get (F.EVT_CH_c_OWNER c) ≠ n) ∧
        u.get (F.EVT_CH_c_OWNER c) ≠ 15))
    (fun u t => t = u.put F.EVT_STAT_FIREREF 1)) ∧
  (∀ (who : Writer) (c : Fin 64), Runs (.evtFire · who c)
    (fun u => Served R.EVT_FIRE u ∧ u.get (F.EVT_CH_c_EN c) = 1 ∧ u.get (F.EVT_CH_c_CONS c) = 0x1400 + c ∧ MayFire who c u)
    (fun u t => t.get F.EVT_STAT_LOOP = 1 ∧ t.get F.EVT_LOOP_CHANNEL = c ∧ t.get F.EVT_LOOP_ORIGIN = c ∧
      OnlyRegs [R.EVT_STAT, R.EVT_LOOP] u t)) ∧
  (∀ (c : Fin 64) (n : Fin 12) (k : Nat) (e : Ev), Runs (.pendingDelivery · c)
    (fun u => AtDrover c n k u ∧ u.evPend = [e] ∧ e.chan = c)
    (fun u t =>
      let busy := (u.get (F.DRV_n_EVPEND_PEND n)).testBit (16 + k) = true
      (busy → t = u) ∧ (¬busy → Delivered c n k { u with evPend := [] } t))) ∧
  ∀ (who : Writer) (c : Fin 64), Runs (.evtLock · who c)
    (fun u => Served (R.EVT_CH_c_1 c) u ∧ u.get F.EVT_CTL_CN404 = 0 ∧ u.get (F.EVT_CH_c_OWNER c) < 12)
    (fun u t =>
      (u.get (F.EVT_CH_c_LOCKED c) = 1 → t = u.put F.EVT_STAT_LOCKWR 1) ∧
      (u.get (F.EVT_CH_c_LOCKED c) = 0 → t.get (F.EVT_CH_c_LOCKED c) = 1 ∧
        t.get (F.EVT_CH_c_EN c) = u.get (F.EVT_CH_c_EN c) ∧ t.get (F.EVT_CH_c_SWEN c) = u.get (F.EVT_CH_c_SWEN c) ∧
        t.get (F.EVT_CH_c_OWNER c) = u.get (F.EVT_CH_c_OWNER c) ∧ t.get (F.EVT_CH_c_SECURE c) = u.get (F.EVT_CH_c_SECURE c) ∧
        OnlyRegs [R.EVT_CH_c_1 c] u t))

/-- The serial ports (R431 to R437): FIFOs take and give words as their registers are written and read, a full or an empty one
showing it; a master sends a word for each it receives, a slave sends all ones where it has none, and a frame's end shows
its length, whether it was short, long or partial, and counts it. The window serves a read from its lines or waits for a
fetch, which brings the line, and INVAL empties it. -/
def Obligations.SerialPortsMoveWords : Prop :=
  (∀ (i : Fin 2) (w m : Nat) (p : SpiPort), Runs (.spiGo · i [m])
    (fun u => u.writable (R.SPI_i_CMD i) = true ∧ OwnPort i u ∧ u.get (F.SPI_i_CFG_EN i) = 1 ∧ u.get (F.SPI_i_CFG_MASTER i) = 1 ∧
      u.spi.ports[i] = p ∧ p.frame = false ∧ p.tx = [w] ∧ p.rx = [] ∧ u.spi.fetch = [] ∧ u.spi.goWaits = none ∧
      1 ≤ u.get (F.SPI_i_FRAME_FLEN i) ∧ u.get (F.SPI_i_FRAME_FLEN i) ≤ wordBits i u)
    (fun u t =>
      let b := u.get (F.SPI_i_FRAME_FLEN i)
      t.spi.ports[i] =
        { p with frame := true, words := 1, tx := [], rx := [m % 2 ^ b], cur := none, miso := [], overran := false, under := false } ∧
      t.out = u.out ++ [.spi i (w % 2 ^ b) b] ∧ PortShown i t ∧
      OnlyRegs [R.SPI_i_STAT i] { u with spi := t.spi, out := t.out } t)) ∧
  (∀ (i : Fin 2) (ms : List Nat), Runs (.spiGo · i ms)
    (fun u => u.writable (R.SPI_i_CMD i) = true ∧ OwnPort i u ∧ (u.get (F.SPI_i_CFG_EN i) = 0 ∨ u.get (F.SPI_i_CFG_MASTER i) = 0 ∨
      u.spi.ports[i].frame = true))
    (fun u t => t = u.put (F.SPI_i_STAT_BADCMD i) 1)) ∧
  (∀ i : Fin 2, Runs (.masterFrameEnd · i)
    (fun u => u.get (F.SPI_i_CFG_MASTER i) = 1 ∧ u.spi.ports[i].frame = true ∧ frameWords2 i u ≤ u.spi.ports[i].words ∧
      u.spi.ports[i].overran = false ∧ u.spi.ports[i].under = false)
    (fun u t => t.spi.ports[i].frame = false ∧ t.spi.ports[i].rx = u.spi.ports[i].rx ∧
      t.get (F.SPI_i_LAST_BITS i) = min (u.get (F.SPI_i_FRAME_FLEN i)) 8191 ∧ t.get (F.SPI_i_LAST_SHORT i) = 0 ∧
      t.get (F.SPI_i_LAST_LONG i) = 0 ∧ t.get (F.SPI_i_LAST_PARTIAL i) = 0 ∧ t.get (F.SPI_i_STAT_DONE i) = 1 ∧
      t.get (F.SPI_i_CNT_FRAMES i) = min (u.get (F.SPI_i_CNT_FRAMES i) + 1) 65535 ∧
      t.get (F.SPI_i_CNT_ERRORS i) = u.get (F.SPI_i_CNT_ERRORS i) ∧ Signals (endRegs i) { u with spi := t.spi } t)) ∧
  (∀ (who : Writer) (i : Fin 2), Runs (.spiFlush · who i) (fun u => Served (R.SPI_i_CMD i) u ∧ OwnPort i u) (fun u t =>
    (u.spi.ports[i].frame = true → t = u.put (F.SPI_i_STAT_BADCMD i) 1) ∧
    (u.spi.ports[i].frame = false → t.spi = (withPort i { u.spi.ports[i] with tx := [], rx := [] } u).spi ∧ PortShown i t ∧
      OnlyRegs [R.SPI_i_STAT i] { u with spi := t.spi } t))) ∧
  (∀ (who : Writer) (i : Fin 2) (v : Word), Runs (.spiTxdWrite · who i v)
    (fun u => Served (R.SPI_i_TXD i) u ∧ OwnPort i u ∧ (u.get (F.SPI_i_CFG_MASTER i) = 0 ∨ u.spi.ports[i].frame = false))
    (fun u t =>
      (32 ≤ u.spi.ports[i].tx.length → t = u.put (F.SPI_i_STAT_TXFULLWR i) 1) ∧
      (u.spi.ports[i].tx.length < 32 →
        t.spi = (withPort i { u.spi.ports[i] with tx := u.spi.ports[i].tx ++ [v.toNat] } u).spi ∧ PortShown i t ∧
        OnlyRegs [R.SPI_i_STAT i] { u with spi := t.spi } t))) ∧
  (∀ i : Fin 2, Runs (.spiRxdRead · .host i)
    (fun u => u.mode ≠ Mode.reset ∧ OwnPort i u ∧ (u.get (F.SPI_i_CFG_MASTER i) = 0 ∨ u.spi.ports[i].frame = false))
    (fun u t =>
      (u.spi.ports[i].rx = [] → t.get (F.SPI_i_STAT_RXEMPTYRD i) = 1 ∧ t.out = u.out ++ [.hostRead 0] ∧ t.spi = u.spi ∧
        OnlyRegs [R.SPI_i_STAT i, R.SPI_i_RXD i] { u with out := t.out } t) ∧
      (∀ w rest, u.spi.ports[i].rx = w :: rest → t.out = u.out ++ [.hostRead (BitVec.ofNat 32 w)] ∧
        t.spi = (withPort i { u.spi.ports[i] with rx := rest } u).spi ∧ PortShown i t ∧
        OnlyRegs [R.SPI_i_STAT i, R.SPI_i_RXD i] { u with out := t.out, spi := t.spi } t))) ∧
  (∀ i : Fin 2, Runs (.csnFall · i) (fun u => Slave i u ∧ u.spi.ports[i].frame = false) (fun u t =>
    let p := { u.spi.ports[i] with frame := true, words := 0, cur := none, overran := false, under := false }
    (∀ w rest, u.spi.ports[i].tx = w :: rest → t.spi = (withPort i { p with tx := rest, cur := some w } u).spi) ∧
    (u.spi.ports[i].tx = [] → t.spi = (withPort i { p with under := true } u).spi ∧ t.get (F.SPI_i_STAT_UNDER i) = 1) ∧
    PortShown i t ∧ OnlyRegs [R.SPI_i_STAT i] { u with spi := t.spi } t)) ∧
  (∀ (i : Fin 2) (mosi : Nat) (p : SpiPort), Runs (.spiSlaveWord · i mosi)
    (fun u => Slave i u ∧ u.spi.ports[i] = p ∧ p.frame = true ∧ p.words + 1 = frameWords2 i u ∧ p.rx.length < 32)
    (fun u t =>
      let b := u.get (F.SPI_i_FRAME_FLEN i) - p.words * wordBits i u
      t.out = u.out ++ [.spi i (match p.cur with | some w => w % 2 ^ b | none => (2 ^ 32 - 1) % 2 ^ b) b] ∧
      t.spi = (withPort i { p with rx := p.rx ++ [mosi % 2 ^ b], words := p.words + 1, cur := none } u).spi ∧ PortShown i t ∧
      OnlyRegs [R.SPI_i_STAT i] { u with spi := t.spi, out := t.out } t)) ∧
  (∀ (i : Fin 2) (edges : Nat) (p : SpiPort), Runs (.csnRise · i edges)
    (fun u => Slave i u ∧ u.spi.ports[i] = p ∧ p.frame = true)
    (fun u t =>
      let whole := frameWords2 i u ≤ p.words
      t.spi.ports[i].frame = false ∧ t.spi.ports[i].rx = p.rx ∧
      (¬whole → edges = 0 → t.spi.ports[i].tx = p.cur.toList ++ p.tx) ∧
      (whole → t.get (F.SPI_i_LAST_BITS i) = min (u.get (F.SPI_i_FRAME_FLEN i) + edges) 8191 ∧ t.get (F.SPI_i_LAST_SHORT i) = 0 ∧
        (t.get (F.SPI_i_LAST_LONG i) = 1 ↔ 0 < edges)) ∧
      (¬whole → t.get (F.SPI_i_LAST_BITS i) = min (p.words * wordBits i u + edges) 8191 ∧ t.get (F.SPI_i_LAST_SHORT i) = 1 ∧
        t.get (F.SPI_i_LAST_LONG i) = 0 ∧ (t.get (F.SPI_i_LAST_PARTIAL i) = 1 ↔ 0 < edges) ∧
        t.get (F.SPI_i_CNT_ERRORS i) = min (u.get (F.SPI_i_CNT_ERRORS i) + 1) 65535) ∧
      t.get (F.SPI_i_CNT_FRAMES i) = min (u.get (F.SPI_i_CNT_FRAMES i) + 1) 65535 ∧
      Signals (endRegs i) { u with spi := t.spi } t)) ∧
  Runs (.mwDataRead · .host)
    (fun u => u.mode ≠ Mode.reset ∧ u.get F.SPI_MW_CFG_EN = 1 ∧ u.get (F.SPI_i_CFG_EN 0) = 1 ∧ u.get (F.SPI_i_CFG_MASTER 0) = 1)
    (fun u t =>
      let a := u.get F.SPI_MW_ADDR_ADDR
      (∀ l : MwLine, u.spi.lines = [l] → l.addr = a / 256 * 256 →
        t.out = u.out ++ [.hostRead (BitVec.ofNat 32 (numAt l.bytes (a % 256 / 4 * 4) 4))] ∧ t.spi = u.spi ∧
        t.get F.SPI_MW_ADDR_ADDR = (if u.get F.SPI_MW_ADDR_INC = 1 then (a + 4) % 2 ^ 24 else a) ∧
        t.get F.SPI_MW_CNT_HITS = min (u.get F.SPI_MW_CNT_HITS + 1) 65535 ∧
        OnlyRegs [R.SPI_MW_DATA, R.SPI_MW_ADDR, R.SPI_MW_CNT] { u with out := t.out } t) ∧
      ((∀ l ∈ u.spi.lines, l.addr ≠ a / 256 * 256) →
        t.spi = { u.spi with fetch := u.spi.fetch ++ [(a, none)] } ∧ PortShown 0 t ∧
        OnlyRegs [R.SPI_i_STAT 0] { u with spi := t.spi } t)) ∧
  (∀ (bs : List Byte) (a : Nat), bs.length = 256 → a < 2 ^ 24 → Runs (.mwFetchDone · bs)
    (fun u => u.spi.fetch = [(a, none)] ∧ u.spi.ports[0].frame = false ∧ u.spi.discard = false ∧ u.spi.goWaits = none ∧
      u.spi.lines.length < 16)
    (fun u t =>
      t.spi = { u.spi with lines := u.spi.lines ++ [⟨a / 256 * 256, bs⟩], fetch := [] } ∧
      t.out = u.out ++ [.hostRead (BitVec.ofNat 32 (numAt bs (a % 256 / 4 * 4) 4))] ∧
      t.get F.SPI_MW_CNT_MISSES = min (u.get F.SPI_MW_CNT_MISSES + 1) 65535 ∧ PortShown 0 t ∧
      OnlyRegs [R.SPI_MW_DATA, R.SPI_MW_ADDR, R.SPI_MW_CNT, R.SPI_i_STAT 0] { u with spi := t.spi, out := t.out } t)) ∧
  Runs (.mwInval ·) (Served R.SPI_MW_CFG) (fun u t =>
    t.spi = { u.spi with lines := [], discard := decide (u.spi.fetch ≠ []) } ∧ OnlyRegs [] { u with spi := t.spi } t)
end

