-- ==== Sys2Proof/Laws/State.lean ====
section
/-!
SUPPORT. What each update of the state leaves alone, field by field: simp lemmas, so that no proof unfolds a record update.
-/

namespace Sys2Proof.Machine

/-! ## setReg -/

@[simp] theorem setReg_pending (s : State) (o : Nat) (v : Word) : (s.setReg o v).pending = s.pending := rfl
@[simp] theorem setReg_tally (s : State) (o : Nat) (v : Word) : (s.setReg o v).tally = s.tally := rfl
@[simp] theorem setReg_staged (s : State) (o : Nat) (v : Word) : (s.setReg o v).staged = s.staged := rfl
@[simp] theorem setReg_txl (s : State) (o : Nat) (v : Word) : (s.setReg o v).txl = s.txl := rfl
@[simp] theorem setReg_rxp (s : State) (o : Nat) (v : Word) : (s.setReg o v).rxp = s.rxp := rfl
@[simp] theorem setReg_prog0 (s : State) (o : Nat) (v : Word) : (s.setReg o v).prog0 = s.prog0 := rfl
@[simp] theorem setReg_prog1 (s : State) (o : Nat) (v : Word) : (s.setReg o v).prog1 = s.prog1 := rfl
@[simp] theorem setReg_modePend (s : State) (o : Nat) (v : Word) : (s.setReg o v).modePend = s.modePend := rfl
@[simp] theorem setReg_faults (s : State) (o : Nat) (v : Word) : (s.setReg o v).faults = s.faults := rfl
@[simp] theorem setReg_rst (s : State) (o : Nat) (v : Word) : (s.setReg o v).rst = s.rst := rfl
@[simp] theorem setReg_straps (s : State) (o : Nat) (v : Word) : (s.setReg o v).straps = s.straps := rfl
@[simp] theorem setReg_evPend (s : State) (o : Nat) (v : Word) : (s.setReg o v).evPend = s.evPend := rfl
@[simp] theorem setReg_drovers (s : State) (o : Nat) (v : Word) : (s.setReg o v).drovers = s.drovers := rfl
@[simp] theorem setReg_ser (s : State) (o : Nat) (v : Word) : (s.setReg o v).ser = s.ser := rfl
@[simp] theorem setReg_man (s : State) (o : Nat) (v : Word) : (s.setReg o v).man = s.man := rfl
@[simp] theorem setReg_sf (s : State) (o : Nat) (v : Word) : (s.setReg o v).sf = s.sf := rfl
@[simp] theorem setReg_frx (s : State) (o : Nat) (v : Word) : (s.setReg o v).frx = s.frx := rfl
@[simp] theorem setReg_ftx (s : State) (o : Nat) (v : Word) : (s.setReg o v).ftx = s.ftx := rfl
@[simp] theorem setReg_nt (s : State) (o : Nat) (v : Word) : (s.setReg o v).nt = s.nt := rfl
@[simp] theorem setReg_ep (s : State) (o : Nat) (v : Word) : (s.setReg o v).ep = s.ep := rfl
@[simp] theorem setReg_tan (s : State) (o : Nat) (v : Word) : (s.setReg o v).tan = s.tan := rfl
@[simp] theorem setReg_timers (s : State) (o : Nat) (v : Word) : (s.setReg o v).timers = s.timers := rfl
@[simp] theorem setReg_rtc (s : State) (o : Nat) (v : Word) : (s.setReg o v).rtc = s.rtc := rfl
@[simp] theorem setReg_spi (s : State) (o : Nat) (v : Word) : (s.setReg o v).spi = s.spi := rfl
@[simp] theorem setReg_car (s : State) (o : Nat) (v : Word) : (s.setReg o v).car = s.car := rfl
@[simp] theorem setReg_sec (s : State) (o : Nat) (v : Word) : (s.setReg o v).sec = s.sec := rfl
@[simp] theorem setReg_ciph (s : State) (o : Nat) (v : Word) : (s.setReg o v).ciph = s.ciph := rfl
@[simp] theorem setReg_dma (s : State) (o : Nat) (v : Word) : (s.setReg o v).dma = s.dma := rfl
@[simp] theorem setReg_dmaBuf (s : State) (o : Nat) (v : Word) : (s.setReg o v).dmaBuf = s.dmaBuf := rfl
@[simp] theorem setReg_dmaLast (s : State) (o : Nat) (v : Word) : (s.setReg o v).dmaLast = s.dmaLast := rfl
@[simp] theorem setReg_lanes (s : State) (o : Nat) (v : Word) : (s.setReg o v).lanes = s.lanes := rfl
@[simp] theorem setReg_fls (s : State) (o : Nat) (v : Word) : (s.setReg o v).fls = s.fls := rfl
@[simp] theorem setReg_cal (s : State) (o : Nat) (v : Word) : (s.setReg o v).cal = s.cal := rfl
@[simp] theorem setReg_fuses (s : State) (o : Nat) (v : Word) : (s.setReg o v).fuses = s.fuses := rfl
@[simp] theorem setReg_tru (s : State) (o : Nat) (v : Word) : (s.setReg o v).tru = s.tru := rfl
@[simp] theorem setReg_upd (s : State) (o : Nat) (v : Word) : (s.setReg o v).upd = s.upd := rfl
@[simp] theorem setReg_jtag (s : State) (o : Nat) (v : Word) : (s.setReg o v).jtag = s.jtag := rfl
@[simp] theorem setReg_tok (s : State) (o : Nat) (v : Word) : (s.setReg o v).tok = s.tok := rfl
@[simp] theorem setReg_out (s : State) (o : Nat) (v : Word) : (s.setReg o v).out = s.out := rfl
@[simp] theorem setReg_free (s : State) (o : Nat) (v : Word) : (s.setReg o v).free = s.free := rfl

/-! ## put -/

@[simp] theorem put_pending (s : State) (f : Field) (v : Nat) : (s.put f v).pending = s.pending := rfl
@[simp] theorem put_tally (s : State) (f : Field) (v : Nat) : (s.put f v).tally = s.tally := rfl
@[simp] theorem put_staged (s : State) (f : Field) (v : Nat) : (s.put f v).staged = s.staged := rfl
@[simp] theorem put_txl (s : State) (f : Field) (v : Nat) : (s.put f v).txl = s.txl := rfl
@[simp] theorem put_rxp (s : State) (f : Field) (v : Nat) : (s.put f v).rxp = s.rxp := rfl
@[simp] theorem put_prog0 (s : State) (f : Field) (v : Nat) : (s.put f v).prog0 = s.prog0 := rfl
@[simp] theorem put_prog1 (s : State) (f : Field) (v : Nat) : (s.put f v).prog1 = s.prog1 := rfl
@[simp] theorem put_modePend (s : State) (f : Field) (v : Nat) : (s.put f v).modePend = s.modePend := rfl
@[simp] theorem put_faults (s : State) (f : Field) (v : Nat) : (s.put f v).faults = s.faults := rfl
@[simp] theorem put_rst (s : State) (f : Field) (v : Nat) : (s.put f v).rst = s.rst := rfl
@[simp] theorem put_straps (s : State) (f : Field) (v : Nat) : (s.put f v).straps = s.straps := rfl
@[simp] theorem put_evPend (s : State) (f : Field) (v : Nat) : (s.put f v).evPend = s.evPend := rfl
@[simp] theorem put_drovers (s : State) (f : Field) (v : Nat) : (s.put f v).drovers = s.drovers := rfl
@[simp] theorem put_ser (s : State) (f : Field) (v : Nat) : (s.put f v).ser = s.ser := rfl
@[simp] theorem put_man (s : State) (f : Field) (v : Nat) : (s.put f v).man = s.man := rfl
@[simp] theorem put_sf (s : State) (f : Field) (v : Nat) : (s.put f v).sf = s.sf := rfl
@[simp] theorem put_frx (s : State) (f : Field) (v : Nat) : (s.put f v).frx = s.frx := rfl
@[simp] theorem put_ftx (s : State) (f : Field) (v : Nat) : (s.put f v).ftx = s.ftx := rfl
@[simp] theorem put_nt (s : State) (f : Field) (v : Nat) : (s.put f v).nt = s.nt := rfl
@[simp] theorem put_ep (s : State) (f : Field) (v : Nat) : (s.put f v).ep = s.ep := rfl
@[simp] theorem put_tan (s : State) (f : Field) (v : Nat) : (s.put f v).tan = s.tan := rfl
@[simp] theorem put_timers (s : State) (f : Field) (v : Nat) : (s.put f v).timers = s.timers := rfl
@[simp] theorem put_rtc (s : State) (f : Field) (v : Nat) : (s.put f v).rtc = s.rtc := rfl
@[simp] theorem put_spi (s : State) (f : Field) (v : Nat) : (s.put f v).spi = s.spi := rfl
@[simp] theorem put_car (s : State) (f : Field) (v : Nat) : (s.put f v).car = s.car := rfl
@[simp] theorem put_sec (s : State) (f : Field) (v : Nat) : (s.put f v).sec = s.sec := rfl
@[simp] theorem put_ciph (s : State) (f : Field) (v : Nat) : (s.put f v).ciph = s.ciph := rfl
@[simp] theorem put_dma (s : State) (f : Field) (v : Nat) : (s.put f v).dma = s.dma := rfl
@[simp] theorem put_dmaBuf (s : State) (f : Field) (v : Nat) : (s.put f v).dmaBuf = s.dmaBuf := rfl
@[simp] theorem put_dmaLast (s : State) (f : Field) (v : Nat) : (s.put f v).dmaLast = s.dmaLast := rfl
@[simp] theorem put_lanes (s : State) (f : Field) (v : Nat) : (s.put f v).lanes = s.lanes := rfl
@[simp] theorem put_fls (s : State) (f : Field) (v : Nat) : (s.put f v).fls = s.fls := rfl
@[simp] theorem put_cal (s : State) (f : Field) (v : Nat) : (s.put f v).cal = s.cal := rfl
@[simp] theorem put_fuses (s : State) (f : Field) (v : Nat) : (s.put f v).fuses = s.fuses := rfl
@[simp] theorem put_tru (s : State) (f : Field) (v : Nat) : (s.put f v).tru = s.tru := rfl
@[simp] theorem put_upd (s : State) (f : Field) (v : Nat) : (s.put f v).upd = s.upd := rfl
@[simp] theorem put_jtag (s : State) (f : Field) (v : Nat) : (s.put f v).jtag = s.jtag := rfl
@[simp] theorem put_tok (s : State) (f : Field) (v : Nat) : (s.put f v).tok = s.tok := rfl
@[simp] theorem put_out (s : State) (f : Field) (v : Nat) : (s.put f v).out = s.out := rfl
@[simp] theorem put_free (s : State) (f : Field) (v : Nat) : (s.put f v).free = s.free := rfl

/-! ## putS -/

@[simp] theorem putS_pending (s : State) (f : Field) (v : Int) : (s.putS f v).pending = s.pending := rfl
@[simp] theorem putS_tally (s : State) (f : Field) (v : Int) : (s.putS f v).tally = s.tally := rfl
@[simp] theorem putS_staged (s : State) (f : Field) (v : Int) : (s.putS f v).staged = s.staged := rfl
@[simp] theorem putS_txl (s : State) (f : Field) (v : Int) : (s.putS f v).txl = s.txl := rfl
@[simp] theorem putS_rxp (s : State) (f : Field) (v : Int) : (s.putS f v).rxp = s.rxp := rfl
@[simp] theorem putS_prog0 (s : State) (f : Field) (v : Int) : (s.putS f v).prog0 = s.prog0 := rfl
@[simp] theorem putS_prog1 (s : State) (f : Field) (v : Int) : (s.putS f v).prog1 = s.prog1 := rfl
@[simp] theorem putS_modePend (s : State) (f : Field) (v : Int) : (s.putS f v).modePend = s.modePend := rfl
@[simp] theorem putS_faults (s : State) (f : Field) (v : Int) : (s.putS f v).faults = s.faults := rfl
@[simp] theorem putS_rst (s : State) (f : Field) (v : Int) : (s.putS f v).rst = s.rst := rfl
@[simp] theorem putS_straps (s : State) (f : Field) (v : Int) : (s.putS f v).straps = s.straps := rfl
@[simp] theorem putS_evPend (s : State) (f : Field) (v : Int) : (s.putS f v).evPend = s.evPend := rfl
@[simp] theorem putS_drovers (s : State) (f : Field) (v : Int) : (s.putS f v).drovers = s.drovers := rfl
@[simp] theorem putS_ser (s : State) (f : Field) (v : Int) : (s.putS f v).ser = s.ser := rfl
@[simp] theorem putS_man (s : State) (f : Field) (v : Int) : (s.putS f v).man = s.man := rfl
@[simp] theorem putS_sf (s : State) (f : Field) (v : Int) : (s.putS f v).sf = s.sf := rfl
@[simp] theorem putS_frx (s : State) (f : Field) (v : Int) : (s.putS f v).frx = s.frx := rfl
@[simp] theorem putS_ftx (s : State) (f : Field) (v : Int) : (s.putS f v).ftx = s.ftx := rfl
@[simp] theorem putS_nt (s : State) (f : Field) (v : Int) : (s.putS f v).nt = s.nt := rfl
@[simp] theorem putS_ep (s : State) (f : Field) (v : Int) : (s.putS f v).ep = s.ep := rfl
@[simp] theorem putS_tan (s : State) (f : Field) (v : Int) : (s.putS f v).tan = s.tan := rfl
@[simp] theorem putS_timers (s : State) (f : Field) (v : Int) : (s.putS f v).timers = s.timers := rfl
@[simp] theorem putS_rtc (s : State) (f : Field) (v : Int) : (s.putS f v).rtc = s.rtc := rfl
@[simp] theorem putS_spi (s : State) (f : Field) (v : Int) : (s.putS f v).spi = s.spi := rfl
@[simp] theorem putS_car (s : State) (f : Field) (v : Int) : (s.putS f v).car = s.car := rfl
@[simp] theorem putS_sec (s : State) (f : Field) (v : Int) : (s.putS f v).sec = s.sec := rfl
@[simp] theorem putS_ciph (s : State) (f : Field) (v : Int) : (s.putS f v).ciph = s.ciph := rfl
@[simp] theorem putS_dma (s : State) (f : Field) (v : Int) : (s.putS f v).dma = s.dma := rfl
@[simp] theorem putS_dmaBuf (s : State) (f : Field) (v : Int) : (s.putS f v).dmaBuf = s.dmaBuf := rfl
@[simp] theorem putS_dmaLast (s : State) (f : Field) (v : Int) : (s.putS f v).dmaLast = s.dmaLast := rfl
@[simp] theorem putS_lanes (s : State) (f : Field) (v : Int) : (s.putS f v).lanes = s.lanes := rfl
@[simp] theorem putS_fls (s : State) (f : Field) (v : Int) : (s.putS f v).fls = s.fls := rfl
@[simp] theorem putS_cal (s : State) (f : Field) (v : Int) : (s.putS f v).cal = s.cal := rfl
@[simp] theorem putS_fuses (s : State) (f : Field) (v : Int) : (s.putS f v).fuses = s.fuses := rfl
@[simp] theorem putS_tru (s : State) (f : Field) (v : Int) : (s.putS f v).tru = s.tru := rfl
@[simp] theorem putS_upd (s : State) (f : Field) (v : Int) : (s.putS f v).upd = s.upd := rfl
@[simp] theorem putS_jtag (s : State) (f : Field) (v : Int) : (s.putS f v).jtag = s.jtag := rfl
@[simp] theorem putS_tok (s : State) (f : Field) (v : Int) : (s.putS f v).tok = s.tok := rfl
@[simp] theorem putS_out (s : State) (f : Field) (v : Int) : (s.putS f v).out = s.out := rfl
@[simp] theorem putS_free (s : State) (f : Field) (v : Int) : (s.putS f v).free = s.free := rfl

/-! ## flag -/

@[simp] theorem flag_pending (s : State) (f : Field) : (s.flag f).pending = s.pending := rfl
@[simp] theorem flag_tally (s : State) (f : Field) : (s.flag f).tally = s.tally := rfl
@[simp] theorem flag_staged (s : State) (f : Field) : (s.flag f).staged = s.staged := rfl
@[simp] theorem flag_txl (s : State) (f : Field) : (s.flag f).txl = s.txl := rfl
@[simp] theorem flag_rxp (s : State) (f : Field) : (s.flag f).rxp = s.rxp := rfl
@[simp] theorem flag_prog0 (s : State) (f : Field) : (s.flag f).prog0 = s.prog0 := rfl
@[simp] theorem flag_prog1 (s : State) (f : Field) : (s.flag f).prog1 = s.prog1 := rfl
@[simp] theorem flag_modePend (s : State) (f : Field) : (s.flag f).modePend = s.modePend := rfl
@[simp] theorem flag_faults (s : State) (f : Field) : (s.flag f).faults = s.faults := rfl
@[simp] theorem flag_rst (s : State) (f : Field) : (s.flag f).rst = s.rst := rfl
@[simp] theorem flag_straps (s : State) (f : Field) : (s.flag f).straps = s.straps := rfl
@[simp] theorem flag_evPend (s : State) (f : Field) : (s.flag f).evPend = s.evPend := rfl
@[simp] theorem flag_drovers (s : State) (f : Field) : (s.flag f).drovers = s.drovers := rfl
@[simp] theorem flag_ser (s : State) (f : Field) : (s.flag f).ser = s.ser := rfl
@[simp] theorem flag_man (s : State) (f : Field) : (s.flag f).man = s.man := rfl
@[simp] theorem flag_sf (s : State) (f : Field) : (s.flag f).sf = s.sf := rfl
@[simp] theorem flag_frx (s : State) (f : Field) : (s.flag f).frx = s.frx := rfl
@[simp] theorem flag_ftx (s : State) (f : Field) : (s.flag f).ftx = s.ftx := rfl
@[simp] theorem flag_nt (s : State) (f : Field) : (s.flag f).nt = s.nt := rfl
@[simp] theorem flag_ep (s : State) (f : Field) : (s.flag f).ep = s.ep := rfl
@[simp] theorem flag_tan (s : State) (f : Field) : (s.flag f).tan = s.tan := rfl
@[simp] theorem flag_timers (s : State) (f : Field) : (s.flag f).timers = s.timers := rfl
@[simp] theorem flag_rtc (s : State) (f : Field) : (s.flag f).rtc = s.rtc := rfl
@[simp] theorem flag_spi (s : State) (f : Field) : (s.flag f).spi = s.spi := rfl
@[simp] theorem flag_car (s : State) (f : Field) : (s.flag f).car = s.car := rfl
@[simp] theorem flag_sec (s : State) (f : Field) : (s.flag f).sec = s.sec := rfl
@[simp] theorem flag_ciph (s : State) (f : Field) : (s.flag f).ciph = s.ciph := rfl
@[simp] theorem flag_dma (s : State) (f : Field) : (s.flag f).dma = s.dma := rfl
@[simp] theorem flag_dmaBuf (s : State) (f : Field) : (s.flag f).dmaBuf = s.dmaBuf := rfl
@[simp] theorem flag_dmaLast (s : State) (f : Field) : (s.flag f).dmaLast = s.dmaLast := rfl
@[simp] theorem flag_lanes (s : State) (f : Field) : (s.flag f).lanes = s.lanes := rfl
@[simp] theorem flag_fls (s : State) (f : Field) : (s.flag f).fls = s.fls := rfl
@[simp] theorem flag_cal (s : State) (f : Field) : (s.flag f).cal = s.cal := rfl
@[simp] theorem flag_fuses (s : State) (f : Field) : (s.flag f).fuses = s.fuses := rfl
@[simp] theorem flag_tru (s : State) (f : Field) : (s.flag f).tru = s.tru := rfl
@[simp] theorem flag_upd (s : State) (f : Field) : (s.flag f).upd = s.upd := rfl
@[simp] theorem flag_jtag (s : State) (f : Field) : (s.flag f).jtag = s.jtag := rfl
@[simp] theorem flag_tok (s : State) (f : Field) : (s.flag f).tok = s.tok := rfl
@[simp] theorem flag_out (s : State) (f : Field) : (s.flag f).out = s.out := rfl
@[simp] theorem flag_free (s : State) (f : Field) : (s.flag f).free = s.free := rfl

/-! ## add -/

@[simp] theorem add_pending (s : State) (f : Field) (n : Nat) : (s.add f n).pending = s.pending := rfl
@[simp] theorem add_tally (s : State) (f : Field) (n : Nat) : (s.add f n).tally = s.tally := rfl
@[simp] theorem add_staged (s : State) (f : Field) (n : Nat) : (s.add f n).staged = s.staged := rfl
@[simp] theorem add_txl (s : State) (f : Field) (n : Nat) : (s.add f n).txl = s.txl := rfl
@[simp] theorem add_rxp (s : State) (f : Field) (n : Nat) : (s.add f n).rxp = s.rxp := rfl
@[simp] theorem add_prog0 (s : State) (f : Field) (n : Nat) : (s.add f n).prog0 = s.prog0 := rfl
@[simp] theorem add_prog1 (s : State) (f : Field) (n : Nat) : (s.add f n).prog1 = s.prog1 := rfl
@[simp] theorem add_modePend (s : State) (f : Field) (n : Nat) : (s.add f n).modePend = s.modePend := rfl
@[simp] theorem add_faults (s : State) (f : Field) (n : Nat) : (s.add f n).faults = s.faults := rfl
@[simp] theorem add_rst (s : State) (f : Field) (n : Nat) : (s.add f n).rst = s.rst := rfl
@[simp] theorem add_straps (s : State) (f : Field) (n : Nat) : (s.add f n).straps = s.straps := rfl
@[simp] theorem add_evPend (s : State) (f : Field) (n : Nat) : (s.add f n).evPend = s.evPend := rfl
@[simp] theorem add_drovers (s : State) (f : Field) (n : Nat) : (s.add f n).drovers = s.drovers := rfl
@[simp] theorem add_ser (s : State) (f : Field) (n : Nat) : (s.add f n).ser = s.ser := rfl
@[simp] theorem add_man (s : State) (f : Field) (n : Nat) : (s.add f n).man = s.man := rfl
@[simp] theorem add_sf (s : State) (f : Field) (n : Nat) : (s.add f n).sf = s.sf := rfl
@[simp] theorem add_frx (s : State) (f : Field) (n : Nat) : (s.add f n).frx = s.frx := rfl
@[simp] theorem add_ftx (s : State) (f : Field) (n : Nat) : (s.add f n).ftx = s.ftx := rfl
@[simp] theorem add_nt (s : State) (f : Field) (n : Nat) : (s.add f n).nt = s.nt := rfl
@[simp] theorem add_ep (s : State) (f : Field) (n : Nat) : (s.add f n).ep = s.ep := rfl
@[simp] theorem add_tan (s : State) (f : Field) (n : Nat) : (s.add f n).tan = s.tan := rfl
@[simp] theorem add_timers (s : State) (f : Field) (n : Nat) : (s.add f n).timers = s.timers := rfl
@[simp] theorem add_rtc (s : State) (f : Field) (n : Nat) : (s.add f n).rtc = s.rtc := rfl
@[simp] theorem add_spi (s : State) (f : Field) (n : Nat) : (s.add f n).spi = s.spi := rfl
@[simp] theorem add_car (s : State) (f : Field) (n : Nat) : (s.add f n).car = s.car := rfl
@[simp] theorem add_sec (s : State) (f : Field) (n : Nat) : (s.add f n).sec = s.sec := rfl
@[simp] theorem add_ciph (s : State) (f : Field) (n : Nat) : (s.add f n).ciph = s.ciph := rfl
@[simp] theorem add_dma (s : State) (f : Field) (n : Nat) : (s.add f n).dma = s.dma := rfl
@[simp] theorem add_dmaBuf (s : State) (f : Field) (n : Nat) : (s.add f n).dmaBuf = s.dmaBuf := rfl
@[simp] theorem add_dmaLast (s : State) (f : Field) (n : Nat) : (s.add f n).dmaLast = s.dmaLast := rfl
@[simp] theorem add_lanes (s : State) (f : Field) (n : Nat) : (s.add f n).lanes = s.lanes := rfl
@[simp] theorem add_fls (s : State) (f : Field) (n : Nat) : (s.add f n).fls = s.fls := rfl
@[simp] theorem add_cal (s : State) (f : Field) (n : Nat) : (s.add f n).cal = s.cal := rfl
@[simp] theorem add_fuses (s : State) (f : Field) (n : Nat) : (s.add f n).fuses = s.fuses := rfl
@[simp] theorem add_tru (s : State) (f : Field) (n : Nat) : (s.add f n).tru = s.tru := rfl
@[simp] theorem add_upd (s : State) (f : Field) (n : Nat) : (s.add f n).upd = s.upd := rfl
@[simp] theorem add_jtag (s : State) (f : Field) (n : Nat) : (s.add f n).jtag = s.jtag := rfl
@[simp] theorem add_tok (s : State) (f : Field) (n : Nat) : (s.add f n).tok = s.tok := rfl
@[simp] theorem add_out (s : State) (f : Field) (n : Nat) : (s.add f n).out = s.out := rfl
@[simp] theorem add_free (s : State) (f : Field) (n : Nat) : (s.add f n).free = s.free := rfl

/-! ## inc -/

@[simp] theorem inc_pending (s : State) (f : Field) : (s.inc f).pending = s.pending := rfl
@[simp] theorem inc_tally (s : State) (f : Field) : (s.inc f).tally = s.tally := rfl
@[simp] theorem inc_staged (s : State) (f : Field) : (s.inc f).staged = s.staged := rfl
@[simp] theorem inc_txl (s : State) (f : Field) : (s.inc f).txl = s.txl := rfl
@[simp] theorem inc_rxp (s : State) (f : Field) : (s.inc f).rxp = s.rxp := rfl
@[simp] theorem inc_prog0 (s : State) (f : Field) : (s.inc f).prog0 = s.prog0 := rfl
@[simp] theorem inc_prog1 (s : State) (f : Field) : (s.inc f).prog1 = s.prog1 := rfl
@[simp] theorem inc_modePend (s : State) (f : Field) : (s.inc f).modePend = s.modePend := rfl
@[simp] theorem inc_faults (s : State) (f : Field) : (s.inc f).faults = s.faults := rfl
@[simp] theorem inc_rst (s : State) (f : Field) : (s.inc f).rst = s.rst := rfl
@[simp] theorem inc_straps (s : State) (f : Field) : (s.inc f).straps = s.straps := rfl
@[simp] theorem inc_evPend (s : State) (f : Field) : (s.inc f).evPend = s.evPend := rfl
@[simp] theorem inc_drovers (s : State) (f : Field) : (s.inc f).drovers = s.drovers := rfl
@[simp] theorem inc_ser (s : State) (f : Field) : (s.inc f).ser = s.ser := rfl
@[simp] theorem inc_man (s : State) (f : Field) : (s.inc f).man = s.man := rfl
@[simp] theorem inc_sf (s : State) (f : Field) : (s.inc f).sf = s.sf := rfl
@[simp] theorem inc_frx (s : State) (f : Field) : (s.inc f).frx = s.frx := rfl
@[simp] theorem inc_ftx (s : State) (f : Field) : (s.inc f).ftx = s.ftx := rfl
@[simp] theorem inc_nt (s : State) (f : Field) : (s.inc f).nt = s.nt := rfl
@[simp] theorem inc_ep (s : State) (f : Field) : (s.inc f).ep = s.ep := rfl
@[simp] theorem inc_tan (s : State) (f : Field) : (s.inc f).tan = s.tan := rfl
@[simp] theorem inc_timers (s : State) (f : Field) : (s.inc f).timers = s.timers := rfl
@[simp] theorem inc_rtc (s : State) (f : Field) : (s.inc f).rtc = s.rtc := rfl
@[simp] theorem inc_spi (s : State) (f : Field) : (s.inc f).spi = s.spi := rfl
@[simp] theorem inc_car (s : State) (f : Field) : (s.inc f).car = s.car := rfl
@[simp] theorem inc_sec (s : State) (f : Field) : (s.inc f).sec = s.sec := rfl
@[simp] theorem inc_ciph (s : State) (f : Field) : (s.inc f).ciph = s.ciph := rfl
@[simp] theorem inc_dma (s : State) (f : Field) : (s.inc f).dma = s.dma := rfl
@[simp] theorem inc_dmaBuf (s : State) (f : Field) : (s.inc f).dmaBuf = s.dmaBuf := rfl
@[simp] theorem inc_dmaLast (s : State) (f : Field) : (s.inc f).dmaLast = s.dmaLast := rfl
@[simp] theorem inc_lanes (s : State) (f : Field) : (s.inc f).lanes = s.lanes := rfl
@[simp] theorem inc_fls (s : State) (f : Field) : (s.inc f).fls = s.fls := rfl
@[simp] theorem inc_cal (s : State) (f : Field) : (s.inc f).cal = s.cal := rfl
@[simp] theorem inc_fuses (s : State) (f : Field) : (s.inc f).fuses = s.fuses := rfl
@[simp] theorem inc_tru (s : State) (f : Field) : (s.inc f).tru = s.tru := rfl
@[simp] theorem inc_upd (s : State) (f : Field) : (s.inc f).upd = s.upd := rfl
@[simp] theorem inc_jtag (s : State) (f : Field) : (s.inc f).jtag = s.jtag := rfl
@[simp] theorem inc_tok (s : State) (f : Field) : (s.inc f).tok = s.tok := rfl
@[simp] theorem inc_out (s : State) (f : Field) : (s.inc f).out = s.out := rfl
@[simp] theorem inc_free (s : State) (f : Field) : (s.inc f).free = s.free := rfl

/-! ## incWrap -/

@[simp] theorem incWrap_pending (s : State) (f : Field) : (s.incWrap f).pending = s.pending := rfl
@[simp] theorem incWrap_tally (s : State) (f : Field) : (s.incWrap f).tally = s.tally := rfl
@[simp] theorem incWrap_staged (s : State) (f : Field) : (s.incWrap f).staged = s.staged := rfl
@[simp] theorem incWrap_txl (s : State) (f : Field) : (s.incWrap f).txl = s.txl := rfl
@[simp] theorem incWrap_rxp (s : State) (f : Field) : (s.incWrap f).rxp = s.rxp := rfl
@[simp] theorem incWrap_prog0 (s : State) (f : Field) : (s.incWrap f).prog0 = s.prog0 := rfl
@[simp] theorem incWrap_prog1 (s : State) (f : Field) : (s.incWrap f).prog1 = s.prog1 := rfl
@[simp] theorem incWrap_modePend (s : State) (f : Field) : (s.incWrap f).modePend = s.modePend := rfl
@[simp] theorem incWrap_faults (s : State) (f : Field) : (s.incWrap f).faults = s.faults := rfl
@[simp] theorem incWrap_rst (s : State) (f : Field) : (s.incWrap f).rst = s.rst := rfl
@[simp] theorem incWrap_straps (s : State) (f : Field) : (s.incWrap f).straps = s.straps := rfl
@[simp] theorem incWrap_evPend (s : State) (f : Field) : (s.incWrap f).evPend = s.evPend := rfl
@[simp] theorem incWrap_drovers (s : State) (f : Field) : (s.incWrap f).drovers = s.drovers := rfl
@[simp] theorem incWrap_ser (s : State) (f : Field) : (s.incWrap f).ser = s.ser := rfl
@[simp] theorem incWrap_man (s : State) (f : Field) : (s.incWrap f).man = s.man := rfl
@[simp] theorem incWrap_sf (s : State) (f : Field) : (s.incWrap f).sf = s.sf := rfl
@[simp] theorem incWrap_frx (s : State) (f : Field) : (s.incWrap f).frx = s.frx := rfl
@[simp] theorem incWrap_ftx (s : State) (f : Field) : (s.incWrap f).ftx = s.ftx := rfl
@[simp] theorem incWrap_nt (s : State) (f : Field) : (s.incWrap f).nt = s.nt := rfl
@[simp] theorem incWrap_ep (s : State) (f : Field) : (s.incWrap f).ep = s.ep := rfl
@[simp] theorem incWrap_tan (s : State) (f : Field) : (s.incWrap f).tan = s.tan := rfl
@[simp] theorem incWrap_timers (s : State) (f : Field) : (s.incWrap f).timers = s.timers := rfl
@[simp] theorem incWrap_rtc (s : State) (f : Field) : (s.incWrap f).rtc = s.rtc := rfl
@[simp] theorem incWrap_spi (s : State) (f : Field) : (s.incWrap f).spi = s.spi := rfl
@[simp] theorem incWrap_car (s : State) (f : Field) : (s.incWrap f).car = s.car := rfl
@[simp] theorem incWrap_sec (s : State) (f : Field) : (s.incWrap f).sec = s.sec := rfl
@[simp] theorem incWrap_ciph (s : State) (f : Field) : (s.incWrap f).ciph = s.ciph := rfl
@[simp] theorem incWrap_dma (s : State) (f : Field) : (s.incWrap f).dma = s.dma := rfl
@[simp] theorem incWrap_dmaBuf (s : State) (f : Field) : (s.incWrap f).dmaBuf = s.dmaBuf := rfl
@[simp] theorem incWrap_dmaLast (s : State) (f : Field) : (s.incWrap f).dmaLast = s.dmaLast := rfl
@[simp] theorem incWrap_lanes (s : State) (f : Field) : (s.incWrap f).lanes = s.lanes := rfl
@[simp] theorem incWrap_fls (s : State) (f : Field) : (s.incWrap f).fls = s.fls := rfl
@[simp] theorem incWrap_cal (s : State) (f : Field) : (s.incWrap f).cal = s.cal := rfl
@[simp] theorem incWrap_fuses (s : State) (f : Field) : (s.incWrap f).fuses = s.fuses := rfl
@[simp] theorem incWrap_tru (s : State) (f : Field) : (s.incWrap f).tru = s.tru := rfl
@[simp] theorem incWrap_upd (s : State) (f : Field) : (s.incWrap f).upd = s.upd := rfl
@[simp] theorem incWrap_jtag (s : State) (f : Field) : (s.incWrap f).jtag = s.jtag := rfl
@[simp] theorem incWrap_tok (s : State) (f : Field) : (s.incWrap f).tok = s.tok := rfl
@[simp] theorem incWrap_out (s : State) (f : Field) : (s.incWrap f).out = s.out := rfl
@[simp] theorem incWrap_free (s : State) (f : Field) : (s.incWrap f).free = s.free := rfl

/-! ## bitOn -/

@[simp] theorem bitOn_pending (s : State) (f : Field) (i : Nat) : (s.bitOn f i).pending = s.pending := rfl
@[simp] theorem bitOn_tally (s : State) (f : Field) (i : Nat) : (s.bitOn f i).tally = s.tally := rfl
@[simp] theorem bitOn_staged (s : State) (f : Field) (i : Nat) : (s.bitOn f i).staged = s.staged := rfl
@[simp] theorem bitOn_txl (s : State) (f : Field) (i : Nat) : (s.bitOn f i).txl = s.txl := rfl
@[simp] theorem bitOn_rxp (s : State) (f : Field) (i : Nat) : (s.bitOn f i).rxp = s.rxp := rfl
@[simp] theorem bitOn_prog0 (s : State) (f : Field) (i : Nat) : (s.bitOn f i).prog0 = s.prog0 := rfl
@[simp] theorem bitOn_prog1 (s : State) (f : Field) (i : Nat) : (s.bitOn f i).prog1 = s.prog1 := rfl
@[simp] theorem bitOn_modePend (s : State) (f : Field) (i : Nat) : (s.bitOn f i).modePend = s.modePend := rfl
@[simp] theorem bitOn_faults (s : State) (f : Field) (i : Nat) : (s.bitOn f i).faults = s.faults := rfl
@[simp] theorem bitOn_rst (s : State) (f : Field) (i : Nat) : (s.bitOn f i).rst = s.rst := rfl
@[simp] theorem bitOn_straps (s : State) (f : Field) (i : Nat) : (s.bitOn f i).straps = s.straps := rfl
@[simp] theorem bitOn_evPend (s : State) (f : Field) (i : Nat) : (s.bitOn f i).evPend = s.evPend := rfl
@[simp] theorem bitOn_drovers (s : State) (f : Field) (i : Nat) : (s.bitOn f i).drovers = s.drovers := rfl
@[simp] theorem bitOn_ser (s : State) (f : Field) (i : Nat) : (s.bitOn f i).ser = s.ser := rfl
@[simp] theorem bitOn_man (s : State) (f : Field) (i : Nat) : (s.bitOn f i).man = s.man := rfl
@[simp] theorem bitOn_sf (s : State) (f : Field) (i : Nat) : (s.bitOn f i).sf = s.sf := rfl
@[simp] theorem bitOn_frx (s : State) (f : Field) (i : Nat) : (s.bitOn f i).frx = s.frx := rfl
@[simp] theorem bitOn_ftx (s : State) (f : Field) (i : Nat) : (s.bitOn f i).ftx = s.ftx := rfl
@[simp] theorem bitOn_nt (s : State) (f : Field) (i : Nat) : (s.bitOn f i).nt = s.nt := rfl
@[simp] theorem bitOn_ep (s : State) (f : Field) (i : Nat) : (s.bitOn f i).ep = s.ep := rfl
@[simp] theorem bitOn_tan (s : State) (f : Field) (i : Nat) : (s.bitOn f i).tan = s.tan := rfl
@[simp] theorem bitOn_timers (s : State) (f : Field) (i : Nat) : (s.bitOn f i).timers = s.timers := rfl
@[simp] theorem bitOn_rtc (s : State) (f : Field) (i : Nat) : (s.bitOn f i).rtc = s.rtc := rfl
@[simp] theorem bitOn_spi (s : State) (f : Field) (i : Nat) : (s.bitOn f i).spi = s.spi := rfl
@[simp] theorem bitOn_car (s : State) (f : Field) (i : Nat) : (s.bitOn f i).car = s.car := rfl
@[simp] theorem bitOn_sec (s : State) (f : Field) (i : Nat) : (s.bitOn f i).sec = s.sec := rfl
@[simp] theorem bitOn_ciph (s : State) (f : Field) (i : Nat) : (s.bitOn f i).ciph = s.ciph := rfl
@[simp] theorem bitOn_dma (s : State) (f : Field) (i : Nat) : (s.bitOn f i).dma = s.dma := rfl
@[simp] theorem bitOn_dmaBuf (s : State) (f : Field) (i : Nat) : (s.bitOn f i).dmaBuf = s.dmaBuf := rfl
@[simp] theorem bitOn_dmaLast (s : State) (f : Field) (i : Nat) : (s.bitOn f i).dmaLast = s.dmaLast := rfl
@[simp] theorem bitOn_lanes (s : State) (f : Field) (i : Nat) : (s.bitOn f i).lanes = s.lanes := rfl
@[simp] theorem bitOn_fls (s : State) (f : Field) (i : Nat) : (s.bitOn f i).fls = s.fls := rfl
@[simp] theorem bitOn_cal (s : State) (f : Field) (i : Nat) : (s.bitOn f i).cal = s.cal := rfl
@[simp] theorem bitOn_fuses (s : State) (f : Field) (i : Nat) : (s.bitOn f i).fuses = s.fuses := rfl
@[simp] theorem bitOn_tru (s : State) (f : Field) (i : Nat) : (s.bitOn f i).tru = s.tru := rfl
@[simp] theorem bitOn_upd (s : State) (f : Field) (i : Nat) : (s.bitOn f i).upd = s.upd := rfl
@[simp] theorem bitOn_jtag (s : State) (f : Field) (i : Nat) : (s.bitOn f i).jtag = s.jtag := rfl
@[simp] theorem bitOn_tok (s : State) (f : Field) (i : Nat) : (s.bitOn f i).tok = s.tok := rfl
@[simp] theorem bitOn_out (s : State) (f : Field) (i : Nat) : (s.bitOn f i).out = s.out := rfl
@[simp] theorem bitOn_free (s : State) (f : Field) (i : Nat) : (s.bitOn f i).free = s.free := rfl

/-! ## bitOff -/

@[simp] theorem bitOff_pending (s : State) (f : Field) (i : Nat) : (s.bitOff f i).pending = s.pending := rfl
@[simp] theorem bitOff_tally (s : State) (f : Field) (i : Nat) : (s.bitOff f i).tally = s.tally := rfl
@[simp] theorem bitOff_staged (s : State) (f : Field) (i : Nat) : (s.bitOff f i).staged = s.staged := rfl
@[simp] theorem bitOff_txl (s : State) (f : Field) (i : Nat) : (s.bitOff f i).txl = s.txl := rfl
@[simp] theorem bitOff_rxp (s : State) (f : Field) (i : Nat) : (s.bitOff f i).rxp = s.rxp := rfl
@[simp] theorem bitOff_prog0 (s : State) (f : Field) (i : Nat) : (s.bitOff f i).prog0 = s.prog0 := rfl
@[simp] theorem bitOff_prog1 (s : State) (f : Field) (i : Nat) : (s.bitOff f i).prog1 = s.prog1 := rfl
@[simp] theorem bitOff_modePend (s : State) (f : Field) (i : Nat) : (s.bitOff f i).modePend = s.modePend := rfl
@[simp] theorem bitOff_faults (s : State) (f : Field) (i : Nat) : (s.bitOff f i).faults = s.faults := rfl
@[simp] theorem bitOff_rst (s : State) (f : Field) (i : Nat) : (s.bitOff f i).rst = s.rst := rfl
@[simp] theorem bitOff_straps (s : State) (f : Field) (i : Nat) : (s.bitOff f i).straps = s.straps := rfl
@[simp] theorem bitOff_evPend (s : State) (f : Field) (i : Nat) : (s.bitOff f i).evPend = s.evPend := rfl
@[simp] theorem bitOff_drovers (s : State) (f : Field) (i : Nat) : (s.bitOff f i).drovers = s.drovers := rfl
@[simp] theorem bitOff_ser (s : State) (f : Field) (i : Nat) : (s.bitOff f i).ser = s.ser := rfl
@[simp] theorem bitOff_man (s : State) (f : Field) (i : Nat) : (s.bitOff f i).man = s.man := rfl
@[simp] theorem bitOff_sf (s : State) (f : Field) (i : Nat) : (s.bitOff f i).sf = s.sf := rfl
@[simp] theorem bitOff_frx (s : State) (f : Field) (i : Nat) : (s.bitOff f i).frx = s.frx := rfl
@[simp] theorem bitOff_ftx (s : State) (f : Field) (i : Nat) : (s.bitOff f i).ftx = s.ftx := rfl
@[simp] theorem bitOff_nt (s : State) (f : Field) (i : Nat) : (s.bitOff f i).nt = s.nt := rfl
@[simp] theorem bitOff_ep (s : State) (f : Field) (i : Nat) : (s.bitOff f i).ep = s.ep := rfl
@[simp] theorem bitOff_tan (s : State) (f : Field) (i : Nat) : (s.bitOff f i).tan = s.tan := rfl
@[simp] theorem bitOff_timers (s : State) (f : Field) (i : Nat) : (s.bitOff f i).timers = s.timers := rfl
@[simp] theorem bitOff_rtc (s : State) (f : Field) (i : Nat) : (s.bitOff f i).rtc = s.rtc := rfl
@[simp] theorem bitOff_spi (s : State) (f : Field) (i : Nat) : (s.bitOff f i).spi = s.spi := rfl
@[simp] theorem bitOff_car (s : State) (f : Field) (i : Nat) : (s.bitOff f i).car = s.car := rfl
@[simp] theorem bitOff_sec (s : State) (f : Field) (i : Nat) : (s.bitOff f i).sec = s.sec := rfl
@[simp] theorem bitOff_ciph (s : State) (f : Field) (i : Nat) : (s.bitOff f i).ciph = s.ciph := rfl
@[simp] theorem bitOff_dma (s : State) (f : Field) (i : Nat) : (s.bitOff f i).dma = s.dma := rfl
@[simp] theorem bitOff_dmaBuf (s : State) (f : Field) (i : Nat) : (s.bitOff f i).dmaBuf = s.dmaBuf := rfl
@[simp] theorem bitOff_dmaLast (s : State) (f : Field) (i : Nat) : (s.bitOff f i).dmaLast = s.dmaLast := rfl
@[simp] theorem bitOff_lanes (s : State) (f : Field) (i : Nat) : (s.bitOff f i).lanes = s.lanes := rfl
@[simp] theorem bitOff_fls (s : State) (f : Field) (i : Nat) : (s.bitOff f i).fls = s.fls := rfl
@[simp] theorem bitOff_cal (s : State) (f : Field) (i : Nat) : (s.bitOff f i).cal = s.cal := rfl
@[simp] theorem bitOff_fuses (s : State) (f : Field) (i : Nat) : (s.bitOff f i).fuses = s.fuses := rfl
@[simp] theorem bitOff_tru (s : State) (f : Field) (i : Nat) : (s.bitOff f i).tru = s.tru := rfl
@[simp] theorem bitOff_upd (s : State) (f : Field) (i : Nat) : (s.bitOff f i).upd = s.upd := rfl
@[simp] theorem bitOff_jtag (s : State) (f : Field) (i : Nat) : (s.bitOff f i).jtag = s.jtag := rfl
@[simp] theorem bitOff_tok (s : State) (f : Field) (i : Nat) : (s.bitOff f i).tok = s.tok := rfl
@[simp] theorem bitOff_out (s : State) (f : Field) (i : Nat) : (s.bitOff f i).out = s.out := rfl
@[simp] theorem bitOff_free (s : State) (f : Field) (i : Nat) : (s.bitOff f i).free = s.free := rfl

/-! ## emit -/

@[simp] theorem emit_pending (s : State) (o : Out) : (s.emit o).pending = s.pending := rfl
@[simp] theorem emit_regs (s : State) (o : Out) : (s.emit o).regs = s.regs := rfl
@[simp] theorem emit_tally (s : State) (o : Out) : (s.emit o).tally = s.tally := rfl
@[simp] theorem emit_staged (s : State) (o : Out) : (s.emit o).staged = s.staged := rfl
@[simp] theorem emit_txl (s : State) (o : Out) : (s.emit o).txl = s.txl := rfl
@[simp] theorem emit_rxp (s : State) (o : Out) : (s.emit o).rxp = s.rxp := rfl
@[simp] theorem emit_prog0 (s : State) (o : Out) : (s.emit o).prog0 = s.prog0 := rfl
@[simp] theorem emit_prog1 (s : State) (o : Out) : (s.emit o).prog1 = s.prog1 := rfl
@[simp] theorem emit_modePend (s : State) (o : Out) : (s.emit o).modePend = s.modePend := rfl
@[simp] theorem emit_faults (s : State) (o : Out) : (s.emit o).faults = s.faults := rfl
@[simp] theorem emit_rst (s : State) (o : Out) : (s.emit o).rst = s.rst := rfl
@[simp] theorem emit_straps (s : State) (o : Out) : (s.emit o).straps = s.straps := rfl
@[simp] theorem emit_evPend (s : State) (o : Out) : (s.emit o).evPend = s.evPend := rfl
@[simp] theorem emit_drovers (s : State) (o : Out) : (s.emit o).drovers = s.drovers := rfl
@[simp] theorem emit_ser (s : State) (o : Out) : (s.emit o).ser = s.ser := rfl
@[simp] theorem emit_man (s : State) (o : Out) : (s.emit o).man = s.man := rfl
@[simp] theorem emit_sf (s : State) (o : Out) : (s.emit o).sf = s.sf := rfl
@[simp] theorem emit_frx (s : State) (o : Out) : (s.emit o).frx = s.frx := rfl
@[simp] theorem emit_ftx (s : State) (o : Out) : (s.emit o).ftx = s.ftx := rfl
@[simp] theorem emit_nt (s : State) (o : Out) : (s.emit o).nt = s.nt := rfl
@[simp] theorem emit_ep (s : State) (o : Out) : (s.emit o).ep = s.ep := rfl
@[simp] theorem emit_tan (s : State) (o : Out) : (s.emit o).tan = s.tan := rfl
@[simp] theorem emit_timers (s : State) (o : Out) : (s.emit o).timers = s.timers := rfl
@[simp] theorem emit_rtc (s : State) (o : Out) : (s.emit o).rtc = s.rtc := rfl
@[simp] theorem emit_spi (s : State) (o : Out) : (s.emit o).spi = s.spi := rfl
@[simp] theorem emit_car (s : State) (o : Out) : (s.emit o).car = s.car := rfl
@[simp] theorem emit_sec (s : State) (o : Out) : (s.emit o).sec = s.sec := rfl
@[simp] theorem emit_ciph (s : State) (o : Out) : (s.emit o).ciph = s.ciph := rfl
@[simp] theorem emit_dma (s : State) (o : Out) : (s.emit o).dma = s.dma := rfl
@[simp] theorem emit_dmaBuf (s : State) (o : Out) : (s.emit o).dmaBuf = s.dmaBuf := rfl
@[simp] theorem emit_dmaLast (s : State) (o : Out) : (s.emit o).dmaLast = s.dmaLast := rfl
@[simp] theorem emit_lanes (s : State) (o : Out) : (s.emit o).lanes = s.lanes := rfl
@[simp] theorem emit_fls (s : State) (o : Out) : (s.emit o).fls = s.fls := rfl
@[simp] theorem emit_cal (s : State) (o : Out) : (s.emit o).cal = s.cal := rfl
@[simp] theorem emit_fuses (s : State) (o : Out) : (s.emit o).fuses = s.fuses := rfl
@[simp] theorem emit_tru (s : State) (o : Out) : (s.emit o).tru = s.tru := rfl
@[simp] theorem emit_upd (s : State) (o : Out) : (s.emit o).upd = s.upd := rfl
@[simp] theorem emit_jtag (s : State) (o : Out) : (s.emit o).jtag = s.jtag := rfl
@[simp] theorem emit_tok (s : State) (o : Out) : (s.emit o).tok = s.tok := rfl
@[simp] theorem emit_free (s : State) (o : Out) : (s.emit o).free = s.free := rfl

/-! ## modDrv -/

@[simp] theorem modDrv_pending (s : State) (n : Fin 12) (f : Drover → Drover) : (s.modDrv n f).pending = s.pending := rfl
@[simp] theorem modDrv_regs (s : State) (n : Fin 12) (f : Drover → Drover) : (s.modDrv n f).regs = s.regs := rfl
@[simp] theorem modDrv_tally (s : State) (n : Fin 12) (f : Drover → Drover) : (s.modDrv n f).tally = s.tally := rfl
@[simp] theorem modDrv_staged (s : State) (n : Fin 12) (f : Drover → Drover) : (s.modDrv n f).staged = s.staged := rfl
@[simp] theorem modDrv_txl (s : State) (n : Fin 12) (f : Drover → Drover) : (s.modDrv n f).txl = s.txl := rfl
@[simp] theorem modDrv_rxp (s : State) (n : Fin 12) (f : Drover → Drover) : (s.modDrv n f).rxp = s.rxp := rfl
@[simp] theorem modDrv_prog0 (s : State) (n : Fin 12) (f : Drover → Drover) : (s.modDrv n f).prog0 = s.prog0 := rfl
@[simp] theorem modDrv_prog1 (s : State) (n : Fin 12) (f : Drover → Drover) : (s.modDrv n f).prog1 = s.prog1 := rfl
@[simp] theorem modDrv_modePend (s : State) (n : Fin 12) (f : Drover → Drover) : (s.modDrv n f).modePend = s.modePend := rfl
@[simp] theorem modDrv_faults (s : State) (n : Fin 12) (f : Drover → Drover) : (s.modDrv n f).faults = s.faults := rfl
@[simp] theorem modDrv_rst (s : State) (n : Fin 12) (f : Drover → Drover) : (s.modDrv n f).rst = s.rst := rfl
@[simp] theorem modDrv_straps (s : State) (n : Fin 12) (f : Drover → Drover) : (s.modDrv n f).straps = s.straps := rfl
@[simp] theorem modDrv_evPend (s : State) (n : Fin 12) (f : Drover → Drover) : (s.modDrv n f).evPend = s.evPend := rfl
@[simp] theorem modDrv_ser (s : State) (n : Fin 12) (f : Drover → Drover) : (s.modDrv n f).ser = s.ser := rfl
@[simp] theorem modDrv_man (s : State) (n : Fin 12) (f : Drover → Drover) : (s.modDrv n f).man = s.man := rfl
@[simp] theorem modDrv_sf (s : State) (n : Fin 12) (f : Drover → Drover) : (s.modDrv n f).sf = s.sf := rfl
@[simp] theorem modDrv_frx (s : State) (n : Fin 12) (f : Drover → Drover) : (s.modDrv n f).frx = s.frx := rfl
@[simp] theorem modDrv_ftx (s : State) (n : Fin 12) (f : Drover → Drover) : (s.modDrv n f).ftx = s.ftx := rfl
@[simp] theorem modDrv_nt (s : State) (n : Fin 12) (f : Drover → Drover) : (s.modDrv n f).nt = s.nt := rfl
@[simp] theorem modDrv_ep (s : State) (n : Fin 12) (f : Drover → Drover) : (s.modDrv n f).ep = s.ep := rfl
@[simp] theorem modDrv_tan (s : State) (n : Fin 12) (f : Drover → Drover) : (s.modDrv n f).tan = s.tan := rfl
@[simp] theorem modDrv_timers (s : State) (n : Fin 12) (f : Drover → Drover) : (s.modDrv n f).timers = s.timers := rfl
@[simp] theorem modDrv_rtc (s : State) (n : Fin 12) (f : Drover → Drover) : (s.modDrv n f).rtc = s.rtc := rfl
@[simp] theorem modDrv_spi (s : State) (n : Fin 12) (f : Drover → Drover) : (s.modDrv n f).spi = s.spi := rfl
@[simp] theorem modDrv_car (s : State) (n : Fin 12) (f : Drover → Drover) : (s.modDrv n f).car = s.car := rfl
@[simp] theorem modDrv_sec (s : State) (n : Fin 12) (f : Drover → Drover) : (s.modDrv n f).sec = s.sec := rfl
@[simp] theorem modDrv_ciph (s : State) (n : Fin 12) (f : Drover → Drover) : (s.modDrv n f).ciph = s.ciph := rfl
@[simp] theorem modDrv_dma (s : State) (n : Fin 12) (f : Drover → Drover) : (s.modDrv n f).dma = s.dma := rfl
@[simp] theorem modDrv_dmaBuf (s : State) (n : Fin 12) (f : Drover → Drover) : (s.modDrv n f).dmaBuf = s.dmaBuf := rfl
@[simp] theorem modDrv_dmaLast (s : State) (n : Fin 12) (f : Drover → Drover) : (s.modDrv n f).dmaLast = s.dmaLast := rfl
@[simp] theorem modDrv_lanes (s : State) (n : Fin 12) (f : Drover → Drover) : (s.modDrv n f).lanes = s.lanes := rfl
@[simp] theorem modDrv_fls (s : State) (n : Fin 12) (f : Drover → Drover) : (s.modDrv n f).fls = s.fls := rfl
@[simp] theorem modDrv_cal (s : State) (n : Fin 12) (f : Drover → Drover) : (s.modDrv n f).cal = s.cal := rfl
@[simp] theorem modDrv_fuses (s : State) (n : Fin 12) (f : Drover → Drover) : (s.modDrv n f).fuses = s.fuses := rfl
@[simp] theorem modDrv_tru (s : State) (n : Fin 12) (f : Drover → Drover) : (s.modDrv n f).tru = s.tru := rfl
@[simp] theorem modDrv_upd (s : State) (n : Fin 12) (f : Drover → Drover) : (s.modDrv n f).upd = s.upd := rfl
@[simp] theorem modDrv_jtag (s : State) (n : Fin 12) (f : Drover → Drover) : (s.modDrv n f).jtag = s.jtag := rfl
@[simp] theorem modDrv_tok (s : State) (n : Fin 12) (f : Drover → Drover) : (s.modDrv n f).tok = s.tok := rfl
@[simp] theorem modDrv_out (s : State) (n : Fin 12) (f : Drover → Drover) : (s.modDrv n f).out = s.out := rfl
@[simp] theorem modDrv_free (s : State) (n : Fin 12) (f : Drover → Drover) : (s.modDrv n f).free = s.free := rfl

/-! ## poke -/

@[simp] theorem poke_pending (s : State) (a : Nat) (bs : List Byte) : (s.poke a bs).pending = s.pending := rfl
@[simp] theorem poke_regs (s : State) (a : Nat) (bs : List Byte) : (s.poke a bs).regs = s.regs := rfl
@[simp] theorem poke_tally (s : State) (a : Nat) (bs : List Byte) : (s.poke a bs).tally = s.tally := rfl
@[simp] theorem poke_staged (s : State) (a : Nat) (bs : List Byte) : (s.poke a bs).staged = s.staged := rfl
@[simp] theorem poke_txl (s : State) (a : Nat) (bs : List Byte) : (s.poke a bs).txl = s.txl := rfl
@[simp] theorem poke_rxp (s : State) (a : Nat) (bs : List Byte) : (s.poke a bs).rxp = s.rxp := rfl
@[simp] theorem poke_prog0 (s : State) (a : Nat) (bs : List Byte) : (s.poke a bs).prog0 = s.prog0 := rfl
@[simp] theorem poke_prog1 (s : State) (a : Nat) (bs : List Byte) : (s.poke a bs).prog1 = s.prog1 := rfl
@[simp] theorem poke_modePend (s : State) (a : Nat) (bs : List Byte) : (s.poke a bs).modePend = s.modePend := rfl
@[simp] theorem poke_faults (s : State) (a : Nat) (bs : List Byte) : (s.poke a bs).faults = s.faults := rfl
@[simp] theorem poke_rst (s : State) (a : Nat) (bs : List Byte) : (s.poke a bs).rst = s.rst := rfl
@[simp] theorem poke_straps (s : State) (a : Nat) (bs : List Byte) : (s.poke a bs).straps = s.straps := rfl
@[simp] theorem poke_evPend (s : State) (a : Nat) (bs : List Byte) : (s.poke a bs).evPend = s.evPend := rfl
@[simp] theorem poke_drovers (s : State) (a : Nat) (bs : List Byte) : (s.poke a bs).drovers = s.drovers := rfl
@[simp] theorem poke_man (s : State) (a : Nat) (bs : List Byte) : (s.poke a bs).man = s.man := rfl
@[simp] theorem poke_sf (s : State) (a : Nat) (bs : List Byte) : (s.poke a bs).sf = s.sf := rfl
@[simp] theorem poke_frx (s : State) (a : Nat) (bs : List Byte) : (s.poke a bs).frx = s.frx := rfl
@[simp] theorem poke_ftx (s : State) (a : Nat) (bs : List Byte) : (s.poke a bs).ftx = s.ftx := rfl
@[simp] theorem poke_nt (s : State) (a : Nat) (bs : List Byte) : (s.poke a bs).nt = s.nt := rfl
@[simp] theorem poke_ep (s : State) (a : Nat) (bs : List Byte) : (s.poke a bs).ep = s.ep := rfl
@[simp] theorem poke_tan (s : State) (a : Nat) (bs : List Byte) : (s.poke a bs).tan = s.tan := rfl
@[simp] theorem poke_timers (s : State) (a : Nat) (bs : List Byte) : (s.poke a bs).timers = s.timers := rfl
@[simp] theorem poke_rtc (s : State) (a : Nat) (bs : List Byte) : (s.poke a bs).rtc = s.rtc := rfl
@[simp] theorem poke_spi (s : State) (a : Nat) (bs : List Byte) : (s.poke a bs).spi = s.spi := rfl
@[simp] theorem poke_car (s : State) (a : Nat) (bs : List Byte) : (s.poke a bs).car = s.car := rfl
@[simp] theorem poke_sec (s : State) (a : Nat) (bs : List Byte) : (s.poke a bs).sec = s.sec := rfl
@[simp] theorem poke_ciph (s : State) (a : Nat) (bs : List Byte) : (s.poke a bs).ciph = s.ciph := rfl
@[simp] theorem poke_dma (s : State) (a : Nat) (bs : List Byte) : (s.poke a bs).dma = s.dma := rfl
@[simp] theorem poke_dmaBuf (s : State) (a : Nat) (bs : List Byte) : (s.poke a bs).dmaBuf = s.dmaBuf := rfl
@[simp] theorem poke_dmaLast (s : State) (a : Nat) (bs : List Byte) : (s.poke a bs).dmaLast = s.dmaLast := rfl
@[simp] theorem poke_lanes (s : State) (a : Nat) (bs : List Byte) : (s.poke a bs).lanes = s.lanes := rfl
@[simp] theorem poke_fls (s : State) (a : Nat) (bs : List Byte) : (s.poke a bs).fls = s.fls := rfl
@[simp] theorem poke_cal (s : State) (a : Nat) (bs : List Byte) : (s.poke a bs).cal = s.cal := rfl
@[simp] theorem poke_fuses (s : State) (a : Nat) (bs : List Byte) : (s.poke a bs).fuses = s.fuses := rfl
@[simp] theorem poke_tru (s : State) (a : Nat) (bs : List Byte) : (s.poke a bs).tru = s.tru := rfl
@[simp] theorem poke_upd (s : State) (a : Nat) (bs : List Byte) : (s.poke a bs).upd = s.upd := rfl
@[simp] theorem poke_jtag (s : State) (a : Nat) (bs : List Byte) : (s.poke a bs).jtag = s.jtag := rfl
@[simp] theorem poke_tok (s : State) (a : Nat) (bs : List Byte) : (s.poke a bs).tok = s.tok := rfl
@[simp] theorem poke_out (s : State) (a : Nat) (bs : List Byte) : (s.poke a bs).out = s.out := rfl
@[simp] theorem poke_free (s : State) (a : Nat) (bs : List Byte) : (s.poke a bs).free = s.free := rfl

/-! ## The queue in front of a command -/

@[simp] theorem pending_reg (s : State) (l : List Instr) (o : Nat) : ({ s with pending := l } : State).reg o = s.reg o := rfl
@[simp] theorem pending_get (s : State) (l : List Instr) (f : Field) : ({ s with pending := l } : State).get f = s.get f := rfl
@[simp] theorem emit_reg (s : State) (x : Out) (o : Nat) : (s.emit x).reg o = s.reg o := rfl
@[simp] theorem emit_get (s : State) (x : Out) (f : Field) : (s.emit x).get f = s.get f := rfl
@[simp] theorem modDrv_reg (s : State) (n : Fin 12) (g : Drover → Drover) (o : Nat) : (s.modDrv n g).reg o = s.reg o := rfl
@[simp] theorem modDrv_get (s : State) (n : Fin 12) (g : Drover → Drover) (f : Field) : (s.modDrv n g).get f = s.get f := rfl
@[simp] theorem poke_reg (s : State) (a : Nat) (bs : List Byte) (o : Nat) : (s.poke a bs).reg o = s.reg o := rfl
@[simp] theorem poke_get (s : State) (a : Nat) (bs : List Byte) (f : Field) : (s.poke a bs).get f = s.get f := rfl
@[simp] theorem setReg_byte (s : State) (o : Nat) (v : Word) (a : Nat) : (s.setReg o v).byte a = s.byte a := rfl
@[simp] theorem put_byte (s : State) (f : Field) (v : Nat) (a : Nat) : (s.put f v).byte a = s.byte a := rfl

end Sys2Proof.Machine
end

