-- ==== Sys2Proof/Laws/Sparse.lean ====
section
/-!
SUPPORT. Sparse lists: reads after writes, and the canonical form that every write keeps.
-/

namespace Sys2Proof.Machine

variable {α : Type}

/-- Keys strictly rising from above `lo`, as a Prop by recursion: what `swf` says beside its last conjuncts. -/
def risesFrom (dflt : Nat → α) (lo : Nat) : List (Nat × α) → Prop
  | [] => True
  | (k, v) :: t => lo ≤ k ∧ v ≠ dflt k ∧ risesFrom dflt (k + 1) t

theorem risesFrom_mono (dflt : Nat → α) {lo lo' : Nat} (h : lo ≤ lo') :
    ∀ l : List (Nat × α), risesFrom dflt lo' l → risesFrom dflt lo l
  | [], _ => trivial
  | (_, _) :: _, ⟨a, b, c⟩ => ⟨Nat.le_trans h a, b, c⟩

theorem swf_iff_rises [DecidableEq α] (dflt : Nat → α) :
    ∀ l : List (Nat × α), swf dflt l = true ↔ risesFrom dflt 0 l
  | [] => by simp [swf, risesFrom]
  | [(k, v)] => by simp [swf, risesFrom]
  | (k, v) :: (k', v') :: t => by
    have ih := swf_iff_rises dflt ((k', v') :: t)
    simp only [swf, Bool.and_eq_true, decide_eq_true_eq, risesFrom] at ih ⊢
    rw [ih]
    constructor
    · rintro ⟨⟨a, b⟩, -, d, e⟩; exact ⟨Nat.zero_le _, a, b, d, e⟩
    · rintro ⟨-, a, b, d, e⟩; exact ⟨⟨a, b⟩, Nat.zero_le _, d, e⟩

theorem sget_of_rises (dflt : Nat → α) {lo k : Nat} (h : k < lo) :
    ∀ l : List (Nat × α), risesFrom dflt lo l → sget dflt l k = dflt k
  | [], _ => rfl
  | (a, v) :: t, ⟨h1, _, h3⟩ => by
    have : a ≠ k := by omega
    simp only [sget, this, if_false]
    exact sget_of_rises dflt (by omega) t h3

theorem rises_sins (dflt : Nat → α) {k : Nat} {v : α} (hv : v ≠ dflt k) :
    ∀ {lo : Nat} (l : List (Nat × α)), lo ≤ k → risesFrom dflt lo l → risesFrom dflt lo (sins k v l)
  | _, [], h, _ => ⟨h, hv, trivial⟩
  | lo, (a, b) :: t, h, ⟨h1, h2, h3⟩ => by
    unfold sins
    split
    · exact ⟨h1, h2, rises_sins dflt hv t (by omega) h3⟩
    · split
      · subst a; exact ⟨h, hv, h3⟩
      · exact ⟨h, hv, risesFrom_mono dflt (by omega) _ (⟨Nat.le_refl a, h2, h3⟩ : risesFrom dflt a ((a, b) :: t))⟩

theorem rises_sdel (dflt : Nat → α) (k : Nat) :
    ∀ {lo : Nat} (l : List (Nat × α)), risesFrom dflt lo l → risesFrom dflt lo (sdel k l)
  | _, [], _ => trivial
  | lo, (a, b) :: t, ⟨h1, h2, h3⟩ => by
    unfold sdel
    split
    · exact risesFrom_mono dflt (by omega) _ (rises_sdel dflt k t h3)
    · exact ⟨h1, h2, rises_sdel dflt k t h3⟩

/-- A write keeps the canonical form. -/
theorem swf_sset [DecidableEq α] (dflt : Nat → α) (l : List (Nat × α)) (k : Nat) (v : α) (h : swf dflt l = true) :
    swf dflt (sset dflt l k v) = true := by
  rw [swf_iff_rises] at h ⊢
  unfold sset
  split
  · exact rises_sdel dflt k l h
  · rename_i hv; exact rises_sins dflt hv l (Nat.zero_le _) h

/-- Taking an entry out keeps the canonical form. -/
theorem swf_sdel [DecidableEq α] (dflt : Nat → α) (l : List (Nat × α)) (k : Nat) (h : swf dflt l = true) :
    swf dflt (sdel k l) = true := by
  rw [swf_iff_rises] at h ⊢
  exact rises_sdel dflt k l h

theorem rises_filter (dflt : Nat → α) (p : Nat × α → Bool) :
    ∀ {lo : Nat} (l : List (Nat × α)), risesFrom dflt lo l → risesFrom dflt lo (l.filter p)
  | _, [], _ => trivial
  | lo, (a, b) :: t, ⟨h1, h2, h3⟩ => by
    simp only [List.filter]
    split
    · exact ⟨h1, h2, rises_filter dflt p t h3⟩
    · exact risesFrom_mono dflt (by omega) _ (rises_filter dflt p t h3)

/-- Leaving entries out keeps the canonical form. -/
theorem swf_filter [DecidableEq α] (dflt : Nat → α) (p : Nat × α → Bool) (l : List (Nat × α)) (h : swf dflt l = true) :
    swf dflt (l.filter p) = true := by
  rw [swf_iff_rises] at h ⊢
  exact rises_filter dflt p l h

theorem sget_sins_self (dflt : Nat → α) (k : Nat) (v : α) : ∀ l : List (Nat × α), sget dflt (sins k v l) k = v
  | [] => by simp [sins, sget]
  | (a, b) :: t => by
    unfold sins
    split
    · have : a ≠ k := by omega
      simp [sget, this, sget_sins_self dflt k v t]
    · split <;> simp [sget]

theorem sget_sdel_self (dflt : Nat → α) (k : Nat) : ∀ l : List (Nat × α), sget dflt (sdel k l) k = dflt k
  | [] => rfl
  | (a, b) :: t => by
    unfold sdel
    split
    · exact sget_sdel_self dflt k t
    · rename_i h; simp [sget, h, sget_sdel_self dflt k t]

theorem sget_sins_ne (dflt : Nat → α) {k j : Nat} (v : α) (h : j ≠ k) :
    ∀ l : List (Nat × α), sget dflt (sins k v l) j = sget dflt l j
  | [] => by simp [sins, sget, Ne.symm h]
  | (a, b) :: t => by
    unfold sins
    split
    · simp [sget, sget_sins_ne dflt v h t]
    · split
      · subst a; simp [sget, Ne.symm h]
      · simp [sget, Ne.symm h]

theorem sget_sdel_ne (dflt : Nat → α) {k j : Nat} (h : j ≠ k) :
    ∀ l : List (Nat × α), sget dflt (sdel k l) j = sget dflt l j
  | [] => rfl
  | (a, b) :: t => by
    unfold sdel
    split
    · subst a; simp [sget, Ne.symm h, sget_sdel_ne dflt h t]
    · simp [sget, sget_sdel_ne dflt h t]

/-- A read at the place written gives the value written. -/
@[simp] theorem sget_sset_self [DecidableEq α] (dflt : Nat → α) (l : List (Nat × α)) (k : Nat) (v : α) :
    sget dflt (sset dflt l k v) k = v := by
  unfold sset
  split
  · rename_i h; rw [sget_sdel_self, h]
  · exact sget_sins_self dflt k v l

/-- A write leaves every other place alone. -/
theorem sget_sset_ne [DecidableEq α] (dflt : Nat → α) (l : List (Nat × α)) {k j : Nat} (v : α) (h : j ≠ k) :
    sget dflt (sset dflt l k v) j = sget dflt l j := by
  unfold sset
  split
  · exact sget_sdel_ne dflt h l
  · exact sget_sins_ne dflt v h l

end Sys2Proof.Machine
end

