-- ==== Sys2Proof/Laws/Registers.lean ====
section
/-!
SUPPORT. Registers and fields: reads after writes.
-/

namespace Sys2Proof.Machine

@[simp] theorem reg_setReg_self (s : State) (o : Nat) (v : Word) : (s.setReg o v).reg o = v := sget_sset_self _ _ _ _

theorem reg_setReg_ne (s : State) {o p : Nat} (v : Word) (h : p ≠ o) : (s.setReg o v).reg p = s.reg p :=
  sget_sset_ne _ _ _ h

/-- Another register keeps its word when a field is stored. -/
theorem reg_put_ne (s : State) (f : Field) (v : Nat) {p : Nat} (h : p ≠ f.off) : (s.put f v).reg p = s.reg p :=
  reg_setReg_ne s _ h

/-- A field of another register keeps its value when a field is stored. -/
theorem get_put_off (s : State) {f g : Field} (v : Nat) (h : g.off ≠ f.off) : (s.put f v).get g = s.get g := by
  unfold State.get; rw [reg_put_ne s f v h]

theorem bits_setBits_self (n lo w v : Nat) : bits (setBits n lo w v) lo w = v % 2 ^ w := by
  have h1 : 0 < 2 ^ lo := Nat.two_pow_pos lo
  have h2 : 0 < 2 ^ w := Nat.two_pow_pos w
  unfold bits setBits
  have e : n % 2 ^ lo + v % 2 ^ w * 2 ^ lo + n / 2 ^ (lo + w) * 2 ^ (lo + w) =
      n % 2 ^ lo + 2 ^ lo * (v % 2 ^ w + n / 2 ^ (lo + w) * 2 ^ w) := by
    rw [Nat.pow_add, Nat.mul_add, Nat.mul_comm (v % 2 ^ w), Nat.add_assoc, Nat.mul_left_comm (2 ^ lo),
      Nat.mul_comm (2 ^ lo) (2 ^ w)]
  rw [e, Nat.add_mul_div_left _ _ h1, Nat.div_eq_of_lt (Nat.mod_lt _ h1), Nat.zero_add, Nat.add_mul_mod_self_right,
    Nat.mod_mod]

/-- A word stays a word when a field of it is replaced. -/
theorem setBits_lt {n lo w v m : Nat} (h : n < 2 ^ m) (hw : lo + w ≤ m) : setBits n lo w v < 2 ^ m := by
  have h1 : 0 < 2 ^ lo := Nat.two_pow_pos lo
  have h2 : 0 < 2 ^ w := Nat.two_pow_pos w
  have h3 : 0 < 2 ^ (lo + w) := Nat.two_pow_pos _
  have hm : 2 ^ m = 2 ^ (lo + w) * 2 ^ (m - (lo + w)) := by rw [← Nat.pow_add]; congr 1; omega
  have hd : n / 2 ^ (lo + w) < 2 ^ (m - (lo + w)) := by rw [Nat.div_lt_iff_lt_mul h3, Nat.mul_comm, ← hm]; exact h
  have ha : n % 2 ^ lo < 2 ^ lo := Nat.mod_lt _ h1
  have hv : v % 2 ^ w < 2 ^ w := Nat.mod_lt _ h2
  have hlow : n % 2 ^ lo + v % 2 ^ w * 2 ^ lo < 2 ^ (lo + w) := by
    have : (v % 2 ^ w + 1) * 2 ^ lo ≤ 2 ^ w * 2 ^ lo := Nat.mul_le_mul_right _ hv
    rw [Nat.pow_add, Nat.mul_comm (2 ^ lo)]; rw [Nat.add_mul] at this; omega
  unfold setBits
  have : (n / 2 ^ (lo + w) + 1) * 2 ^ (lo + w) ≤ 2 ^ (m - (lo + w)) * 2 ^ (lo + w) := Nat.mul_le_mul_right _ hd
  rw [Nat.mul_comm (2 ^ (m - (lo + w)))] at this
  rw [← hm, Nat.add_mul] at this; omega

/-- A field that is stored reads back, cut to its width. -/
theorem get_put_self (s : State) (f : Field) (v : Nat) (h : f.lo + f.w ≤ 32) : (s.put f v).get f = v % 2 ^ f.w := by
  unfold State.get State.put
  rw [reg_setReg_self, BitVec.toNat_ofNat, Nat.mod_eq_of_lt (setBits_lt (s.reg f.off).isLt h), bits_setBits_self]

/-- A field below or above the one stored, in the same word, keeps its value. -/
theorem bits_setBits_ne {n lo w v lo' w' : Nat} (h : lo' + w' ≤ lo ∨ lo + w ≤ lo') :
    bits (setBits n lo w v) lo' w' = bits n lo' w' := by
  unfold bits
  apply Nat.eq_of_testBit_eq
  intro i
  simp only [Nat.testBit_mod_two_pow, Nat.testBit_div_two_pow]
  by_cases hi : i < w'
  · simp only [hi, decide_true, Bool.true_and]
    have key : ∀ j, (j < lo ∨ lo + w ≤ j) → (setBits n lo w v).testBit j = n.testBit j := by
      intro j hj
      have e1 : setBits n lo w v = (n / 2 ^ (lo + w)) * 2 ^ (lo + w) + ((v % 2 ^ w) * 2 ^ lo + n % 2 ^ lo) := by
        unfold setBits; omega
      have hl : n % 2 ^ lo < 2 ^ lo := Nat.mod_lt _ (Nat.two_pow_pos _)
      have hv : v % 2 ^ w < 2 ^ w := Nat.mod_lt _ (Nat.two_pow_pos _)
      have hlow : (v % 2 ^ w) * 2 ^ lo + n % 2 ^ lo < 2 ^ (lo + w) := by
        have : (v % 2 ^ w + 1) * 2 ^ lo ≤ 2 ^ w * 2 ^ lo := Nat.mul_le_mul_right _ hv
        rw [Nat.pow_add, Nat.mul_comm (2 ^ lo)]; rw [Nat.add_mul] at this; omega
      rw [e1, Nat.mul_comm, Nat.testBit_two_pow_mul_add _ hlow]
      by_cases hj1 : j < lo + w
      · have hj2 : j < lo := by omega
        simp only [hj1, if_true]
        rw [Nat.mul_comm (v % 2 ^ w), Nat.testBit_two_pow_mul_add _ hl]
        simp [hj2, Nat.testBit_mod_two_pow]
      · simp only [hj1, if_false]
        rw [Nat.testBit_div_two_pow]; congr 1; omega
    exact key _ (by omega)
  · simp [hi]

/-- A field of the same register that does not overlap the one stored keeps its value. -/
theorem get_put_ne (s : State) {f g : Field} (v : Nat) (hw : f.lo + f.w ≤ 32)
    (h : g.lo + g.w ≤ f.lo ∨ f.lo + f.w ≤ g.lo) : (s.put f v).get g = s.get g := by
  by_cases ho : g.off = f.off
  · unfold State.get State.put
    rw [ho, reg_setReg_self, BitVec.toNat_ofNat, Nat.mod_eq_of_lt (setBits_lt (s.reg f.off).isLt hw), bits_setBits_ne h]
  · exact get_put_off s v ho

end Sys2Proof.Machine
end

