-- ==== Sys2Proof/Laws/Fields.lean ====
section
/-!
SUPPORT. Reading a field after the named operations that store one. `Field.apart` is decided by evaluation for fields
that are written out.
-/

namespace Sys2Proof

/-- Two fields share no bit. -/
def Field.apart (f g : Field) : Bool :=
  decide (g.off ≠ f.off) || decide (g.lo + g.w ≤ f.lo) || decide (f.lo + f.w ≤ g.lo)

/-- A field within a register word. -/
def Field.ok (f : Field) : Bool := decide (f.lo + f.w ≤ 32)

namespace Machine

variable {s : State} {f g : Field}

theorem get_put_apart (v : Nat) (hf : f.ok = true) (h : f.apart g = true) : (s.put f v).get g = s.get g := by
  have hw : f.lo + f.w ≤ 32 := by simpa [Field.ok] using hf
  by_cases ho : g.off = f.off
  · refine get_put_ne s v hw ?_
    simpa [Field.apart, ho] using h
  · exact get_put_off s v ho

theorem get_put_same (v : Nat) (hf : f.ok = true) : (s.put f v).get f = v % 2 ^ f.w :=
  get_put_self s f v (by simpa [Field.ok] using hf)

theorem get_lt (f : Field) : s.get f < 2 ^ f.w := Nat.mod_lt _ (Nat.two_pow_pos _)

theorem get_flag_same (hf : f.ok = true) (hw : 1 ≤ f.w) : (s.flag f).get f = 1 := by
  unfold State.flag
  rw [get_put_same 1 hf, Nat.mod_eq_of_lt (Nat.one_lt_two_pow (by omega))]

theorem get_flag_apart (hf : f.ok = true) (h : f.apart g = true) : (s.flag f).get g = s.get g := get_put_apart 1 hf h

theorem get_inc_same (hf : f.ok = true) : (s.inc f).get f = min (s.get f + 1) (2 ^ f.w - 1) := by
  unfold State.inc State.add
  rw [get_put_same _ hf, Nat.mod_eq_of_lt]
  have := Nat.two_pow_pos f.w
  omega

theorem get_inc_apart (hf : f.ok = true) (h : f.apart g = true) : (s.inc f).get g = s.get g := get_put_apart _ hf h

theorem get_add_same (n : Nat) (hf : f.ok = true) : (s.add f n).get f = min (s.get f + n) (2 ^ f.w - 1) := by
  unfold State.add
  rw [get_put_same _ hf, Nat.mod_eq_of_lt]
  have := Nat.two_pow_pos f.w
  omega

theorem get_add_apart (n : Nat) (hf : f.ok = true) (h : f.apart g = true) : (s.add f n).get g = s.get g :=
  get_put_apart _ hf h

theorem reg_put_other (v : Nat) {o : Nat} (h : (o != f.off) = true) : (s.put f v).reg o = s.reg o :=
  reg_put_ne s f v (by simpa using h)

theorem get_setReg_other (v : Word) {o : Nat} (h : g.off ≠ o) : (s.setReg o v).get g = s.get g := by
  unfold State.get; rw [reg_setReg_ne s v h]

/-- Storing what a field holds changes no register. -/
theorem reg_put_held (s : State) (f : Field) (o : Nat) : (s.put f (s.get f)).reg o = s.reg o := by
  by_cases h : o = f.off
  · subst h
    unfold State.put State.get
    rw [reg_setReg_self]
    have : setBits (s.reg f.off).toNat f.lo f.w (bits (s.reg f.off).toNat f.lo f.w) = (s.reg f.off).toNat := by
      unfold setBits bits
      generalize (s.reg f.off).toNat = n
      rw [Nat.mod_mod, Nat.pow_add, ← Nat.div_div_eq_div_mul]
      have h2 := Nat.div_add_mod (n / 2 ^ f.lo) (2 ^ f.w)
      have h3 := Nat.div_add_mod n (2 ^ f.lo)
      generalize n / 2 ^ f.lo / 2 ^ f.w = a at *
      generalize n / 2 ^ f.lo % 2 ^ f.w = b at *
      rw [← h2, Nat.mul_add] at h3
      rw [Nat.mul_comm b, Nat.mul_comm a, Nat.mul_assoc]
      omega
    rw [this]; simp
  · exact reg_put_ne s f _ h

theorem bitOf_setBit (n i : Nat) : bitOf (setBit n i) i = true := by
  have := bits_setBits_self n i 1 1
  unfold bits at this
  simp only [Nat.pow_one, Nat.mod_succ] at this
  simp [bitOf, setBit, this]

theorem bits_setBit_ne (n i lo w : Nat) (h : lo + w ≤ i ∨ i + 1 ≤ lo) : bits (setBit n i) lo w = bits n lo w :=
  bits_setBits_ne (by omega)

end Machine

end Sys2Proof
end

