-- ==== Sys2Proof/Laws/Memory.lean ====
section
/-!
SUPPORT. The Serai as memory: reads after writes, and the canonical form that every operation on it keeps.
-/

namespace Sys2Proof.Machine

/-- Storing bytes keeps the canonical form. -/
theorem Memory.wf_store : ∀ {m : List (Nat × Byte)}, Memory.wf m = true → ∀ (a : Nat) (bs : List Byte),
    Memory.wf (memStore a bs m) = true
  | _, h, _, [] => h
  | _, h, a, _ :: bs => Memory.wf_store (swf_sset _ _ _ _ h) (a + 1) bs

/-- Storing bytes in the banks keeps the canonical form. -/
theorem Memory.wf_poke {s : State} (h : Memory.wf s.ser.mem = true) (a : Nat) (bs : List Byte) :
    Memory.wf (s.poke a bs).ser.mem = true := Memory.wf_store h a bs

theorem sget_memStore (a : Nat) : ∀ (bs : List Byte) (k : Nat) (m : List (Nat × Byte)),
    sget (fun _ => 0) (memStore k bs m) a =
      if k ≤ a ∧ a < k + bs.length then bs.getD (a - k) 0 else sget (fun _ => 0) m a
  | [], k, m => by
    have : ¬(k ≤ a ∧ a < k + ([] : List Byte).length) := by simp
    rw [if_neg this]; rfl
  | b :: bs, k, m => by
    rw [memStore, sget_memStore a bs (k + 1)]
    by_cases h1 : a = k
    · subst h1
      have h2 : ¬(a + 1 ≤ a ∧ a < a + 1 + bs.length) := by omega
      rw [if_neg h2, sget_sset_self]; simp
    · rw [sget_sset_ne _ _ _ h1]
      by_cases h2 : k + 1 ≤ a ∧ a < k + 1 + bs.length
      · have h3 : k ≤ a ∧ a < k + (b :: bs).length := by simp; omega
        have h4 : a - k = a - (k + 1) + 1 := by omega
        rw [if_pos h2, if_pos h3, h4, List.getD_cons_succ]
      · have h3 : ¬(k ≤ a ∧ a < k + (b :: bs).length) := by simp; omega
        rw [if_neg h2, if_neg h3]

/-- A byte after a store: the byte stored there, else the byte before. -/
theorem byte_poke (s : State) (k : Nat) (bs : List Byte) (a : Nat) :
    (s.poke k bs).byte a = if k ≤ a ∧ a < k + bs.length then bs.getD (a - k) 0 else s.byte a := sget_memStore a bs k _

end Sys2Proof.Machine
end

