-- ==== Sys2Proof/Laws/Good.lean ====
section
/-!
SUPPORT. The predicate that every operation keeps: the queue is `ql`; where `pp` holds the state is in canonical form
(Safety.lean); where `qq` holds the Tally's position, slot, ASN, SFN and pending load are `tv`. With `pp` and `qq` false it says that an operation
leaves the queue alone, with `pp` true that it keeps State.Inv, with `qq` true that it leaves the Tally's numbers alone:
the lemmas of the operations that do not are stated for `qq` false.
-/

namespace Sys2Proof.Machine

structure State.Good (ql : List Instr) (pp qq : Prop) (tv : Nat × Nat × Nat × Nat × Option (Nat × Nat × Nat)) (s : State) : Prop where
  pend : s.pending = ql
  inv : pp → s.Inv
  tal : qq → (s.tally.pos, s.tally.slot, s.tally.asn, s.tally.sfn, s.tally.load) = tv

variable {ql : List Instr} {pp qq : Prop} {tv : Nat × Nat × Nat × Nat × Option (Nat × Nat × Nat)} {s : State}

/-- A state that shares the queue, the registers, the store and the Drovers' bytes. -/
theorem good_upd (h : s.Good ql pp qq tv) {ta st tx rx p0 p1 mp fa rs sp ep dr se ma sf fr ft nt en tn ti rt si ca sc ci dm db dl la fl
    cl fu tr up jt tk ou fe}
    (hm : se.mem = s.ser.mem) (hd : ∀ n : Fin 12, dr[n].ram = s.drovers[n].ram)
    (ht : qq → (ta.pos, ta.slot, ta.asn, ta.sfn, ta.load) = (s.tally.pos, s.tally.slot, s.tally.asn, s.tally.sfn, s.tally.load)) :
    (State.mk s.pending s.regs ta st tx rx p0 p1 mp fa rs sp ep dr se ma sf fr ft nt en tn ti rt si ca sc ci dm db dl la fl
      cl fu tr up jt tk ou fe).Good ql pp qq tv :=
  ⟨h.pend, fun hp => ⟨(h.inv hp).regs, by rw [hm]; exact (h.inv hp).mem, fun n => by rw [hd n]; exact (h.inv hp).ram n⟩,
    fun hq => (ht hq).trans (h.tal hq)⟩

/-- What keeps the Tally keeps it. -/
theorem State.Good.weak (h : s.Good ql pp qq tv) : s.Good ql pp False tv := ⟨h.pend, h.inv, fun h => h.elim⟩

theorem setReg_good (h : s.Good ql pp qq tv) (o : Nat) (v : Word) : (s.setReg o v).Good ql pp qq tv :=
  ⟨h.pend, fun hp => ⟨swf_sset _ _ _ _ (h.inv hp).regs, (h.inv hp).mem, (h.inv hp).ram⟩, h.tal⟩

theorem poke_good (h : s.Good ql pp qq tv) (a : Nat) (bs : List Byte) : (s.poke a bs).Good ql pp qq tv :=
  ⟨h.pend, fun hp => ⟨(h.inv hp).regs, Memory.wf_poke (h.inv hp).mem a bs, (h.inv hp).ram⟩, h.tal⟩

/-- A change of one Drover that keeps its bytes in canonical form. -/
theorem modDrv_good' (h : s.Good ql pp qq tv) (n : Fin 12) (f : Drover → Drover)
    (hf : ∀ d : Drover, swf (fun _ => (0 : Byte)) d.ram = true → swf (fun _ => (0 : Byte)) (f d).ram = true) :
    (s.modDrv n f).Good ql pp qq tv :=
  ⟨h.pend, fun hp => ⟨(h.inv hp).regs, (h.inv hp).mem, fun m => by
    unfold State.modDrv
    by_cases e : n = m
    · subst e; simpa using hf _ ((h.inv hp).ram n)
    · have : (n : Nat) ≠ (m : Nat) := fun x => e (Fin.ext x)
      simpa [Vector.getElem_set, this] using (h.inv hp).ram m⟩, h.tal⟩

/-- A change of one Drover that leaves its bytes alone. -/
theorem modDrv_good (h : s.Good ql pp qq tv) (n : Fin 12) (f : Drover → Drover) (hf : ∀ d : Drover, (f d).ram = d.ram) :
    (s.modDrv n f).Good ql pp qq tv := modDrv_good' h n f fun d hd => by rw [hf d]; exact hd

theorem forAll_good {α : Type} (as : List α) (f : α → State → State) (hf : ∀ a s, s.Good ql pp qq tv → (f a s).Good ql pp qq tv) :
    ∀ {s : State}, s.Good ql pp qq tv → (forAll as f s).Good ql pp qq tv := by
  unfold forAll
  induction as with
  | nil => exact fun h => h
  | cons a as ih => exact fun h => ih (hf a _ h)

theorem forN_good (n : Nat) (f : Nat → State → State) (hf : ∀ i s, s.Good ql pp qq tv → (f i s).Good ql pp qq tv)
    (h : s.Good ql pp qq tv) : (forN n f s).Good ql pp qq tv := forAll_good (List.range n) f hf h

theorem foldl_good {α : Type} (as : List α) (f : State → α → State) (hf : ∀ s a, s.Good ql pp qq tv → (f s a).Good ql pp qq tv) :
    ∀ {s : State}, s.Good ql pp qq tv → (as.foldl f s).Good ql pp qq tv := by
  induction as with
  | nil => exact fun h => h
  | cons a as ih => exact fun h => ih (hf _ a h)

theorem foldl_pair_good {α β : Type} (as : List α) (f : β × State → α → β × State)
    (hf : ∀ b s a, s.Good ql pp qq tv → (f (b, s) a).2.Good ql pp qq tv) :
    ∀ {x : β × State}, x.2.Good ql pp qq tv → (as.foldl f x).2.Good ql pp qq tv := by
  induction as with
  | nil => exact fun h => h
  | cons a as ih => exact fun h => ih (hf _ _ a h)

theorem when_good (h : s.Good ql pp qq tv) (c : Bool) (f : State → State) (hf : ∀ s, s.Good ql pp qq tv → (f s).Good ql pp qq tv) :
    (s.when c f).Good ql pp qq tv := by
  unfold State.when; split
  · exact hf _ h
  · exact h

theorem getD_good (o : Option State) (h : s.Good ql pp qq tv) (ho : ∀ t, o = some t → t.Good ql pp qq tv) : (o.getD s).Good ql pp qq tv := by
  cases o with
  | none => exact h
  | some t => exact ho t rfl

theorem bind_good {α : Type} (o : Option α) (f : α → Option State) (hf : ∀ a t, f a = some t → t.Good ql pp qq tv) :
    ∀ t, o.bind f = some t → t.Good ql pp qq tv := by
  intro t ht
  cases o with
  | none => cases ht
  | some a => exact hf a t ht

/-- The state of an answer that a match took apart. -/
theorem pair_good {α : Type} {f : α × State} {x : α} {t : State} (heq : f = (x, t)) (hf : f.2.Good ql pp qq tv) : t.Good ql pp qq tv := by
  rw [heq] at hf; exact hf

theorem triple_good {α β : Type} {f : α × β × State} {x : α} {y : β} {t : State} (heq : f = (x, y, t))
    (hf : f.2.2.Good ql pp qq tv) : t.Good ql pp qq tv := by
  rw [heq] at hf; exact hf

theorem opt_ite {c : Prop} [Decidable c] {a b : Option State} (ha : ∀ u, a = some u → u.Good ql pp qq tv)
    (hb : ∀ u, b = some u → u.Good ql pp qq tv) : ∀ u, (if c then a else b) = some u → u.Good ql pp qq tv := by
  split
  · exact ha
  · exact hb

theorem opt_none : ∀ u, (none : Option State) = some u → u.Good ql pp qq tv := fun _ h => nomatch h

theorem opt_some (h : s.Good ql pp qq tv) : ∀ u, some s = some u → u.Good ql pp qq tv := fun u e => by cases e; exact h

theorem ite_good {c : Prop} [Decidable c] {a b : State} (ha : c → a.Good ql pp qq tv) (hb : ¬c → b.Good ql pp qq tv) :
    (if c then a else b).Good ql pp qq tv := by
  split
  · exact ha ‹_›
  · exact hb ‹_›

/-- Taken by name, so that the kernel does not compute the value beside the state. -/
theorem snd_good {α : Type} (a : α) (h : s.Good ql pp qq tv) : (a, s).2.Good ql pp qq tv := h

theorem getD_map_good {α : Type} (o : Option α) (f : α → State) (h : s.Good ql pp qq tv) (hf : ∀ a, (f a).Good ql pp qq tv) :
    ((o.map f).getD s).Good ql pp qq tv := by
  cases o with
  | none => exact h
  | some a => exact hf a

end Sys2Proof.Machine
end

