-- ==== Sys2Proof/Laws/GoodOps.lean ====
section
/-!
SUPPORT. The operations of Machine/Ops.lean keep the queue and the canonical form (Laws/Good.lean).
-/

namespace Sys2Proof.Machine

set_option linter.unusedTactic false
set_option linter.unreachableTactic false
set_option linter.unusedVariables false

variable {ql : List Instr} {pp qq : Prop} {tv : Nat × Nat × Nat × Nat × Option (Nat × Nat × Nat)} {s : State}

theorem put_good (h : s.Good ql pp qq tv) (f : Field) (v : Nat) :
     (State.put s f v).Good ql pp qq tv := by
  unfold State.put
  repeat' (first
    | with_reducible assumption
    | with_reducible apply setReg_good
    | (intro _ _)
    | intro _
    | dsimp only
    | split
    | with_reducible rfl
    | (fail_if_no_progress (with_reducible refine good_upd ?_ rfl (fun _ => rfl) (fun _ => rfl))))

theorem flag_good (h : s.Good ql pp qq tv) (f : Field) :
     (State.flag s f).Good ql pp qq tv := by
  unfold State.flag
  repeat' (first
    | with_reducible assumption
    | with_reducible apply put_good
    | (intro _ _)
    | intro _
    | dsimp only
    | split
    | with_reducible rfl
    | (fail_if_no_progress (with_reducible refine good_upd ?_ rfl (fun _ => rfl) (fun _ => rfl))))

theorem putS_good (h : s.Good ql pp qq tv) (f : Field) (v : Int) :
     (State.putS s f v).Good ql pp qq tv := by
  unfold State.putS
  repeat' (first
    | with_reducible assumption
    | with_reducible apply put_good
    | (intro _ _)
    | intro _
    | dsimp only
    | split
    | with_reducible rfl
    | (fail_if_no_progress (with_reducible refine good_upd ?_ rfl (fun _ => rfl) (fun _ => rfl))))

theorem add_good (h : s.Good ql pp qq tv) (f : Field) (n : Nat) :
     (State.add s f n).Good ql pp qq tv := by
  unfold State.add
  repeat' (first
    | with_reducible assumption
    | with_reducible apply put_good
    | (intro _ _)
    | intro _
    | dsimp only
    | split
    | with_reducible rfl
    | (fail_if_no_progress (with_reducible refine good_upd ?_ rfl (fun _ => rfl) (fun _ => rfl))))

theorem inc_good (h : s.Good ql pp qq tv) (f : Field) :
     (State.inc s f).Good ql pp qq tv := by
  unfold State.inc
  repeat' (first
    | with_reducible assumption
    | with_reducible apply add_good
    | (intro _ _)
    | intro _
    | dsimp only
    | split
    | with_reducible rfl
    | (fail_if_no_progress (with_reducible refine good_upd ?_ rfl (fun _ => rfl) (fun _ => rfl))))

theorem incWrap_good (h : s.Good ql pp qq tv) (f : Field) :
     (State.incWrap s f).Good ql pp qq tv := by
  unfold State.incWrap
  repeat' (first
    | with_reducible assumption
    | with_reducible apply put_good
    | (intro _ _)
    | intro _
    | dsimp only
    | split
    | with_reducible rfl
    | (fail_if_no_progress (with_reducible refine good_upd ?_ rfl (fun _ => rfl) (fun _ => rfl))))

theorem bitOn_good (h : s.Good ql pp qq tv) (f : Field) (i : Nat) :
     (State.bitOn s f i).Good ql pp qq tv := by
  unfold State.bitOn
  repeat' (first
    | with_reducible assumption
    | with_reducible apply put_good
    | (intro _ _)
    | intro _
    | dsimp only
    | split
    | with_reducible rfl
    | (fail_if_no_progress (with_reducible refine good_upd ?_ rfl (fun _ => rfl) (fun _ => rfl))))

theorem bitOff_good (h : s.Good ql pp qq tv) (f : Field) (i : Nat) :
     (State.bitOff s f i).Good ql pp qq tv := by
  unfold State.bitOff
  repeat' (first
    | with_reducible assumption
    | with_reducible apply put_good
    | (intro _ _)
    | intro _
    | dsimp only
    | split
    | with_reducible rfl
    | (fail_if_no_progress (with_reducible refine good_upd ?_ rfl (fun _ => rfl) (fun _ => rfl))))

theorem puts_good (h : s.Good ql pp qq tv) (l : List (Field × Nat)) :
     (State.puts s l).Good ql pp qq tv := by
  unfold State.puts
  repeat' (first
    | with_reducible assumption
    | with_reducible apply put_good
    | with_reducible apply foldl_good
    | with_reducible apply foldl_pair_good
    | (intro _ _)
    | intro _
    | dsimp only
    | split
    | with_reducible rfl
    | (fail_if_no_progress (with_reducible refine good_upd ?_ rfl (fun _ => rfl) (fun _ => rfl))))

theorem emit_good (h : s.Good ql pp qq tv) (o : Out) :
     (State.emit s o).Good ql pp qq tv := by
  unfold State.emit
  repeat' (first
    | with_reducible assumption
    | (intro _ _)
    | intro _
    | dsimp only
    | split
    | with_reducible rfl
    | (fail_if_no_progress (with_reducible refine good_upd ?_ rfl (fun _ => rfl) (fun _ => rfl))))

theorem sendTo_good (h : s.Good ql pp qq tv) (d : Nat) (p : Packet) :
     (State.sendTo s d p).Good ql pp qq tv := by
  unfold State.sendTo
  repeat' (first
    | with_reducible assumption
    | with_reducible apply emit_good
    | with_reducible refine pair_good (by assumption) ?_
    | with_reducible refine triple_good (by assumption) ?_
    | (intro _ _)
    | intro _
    | dsimp only
    | split
    | with_reducible rfl
    | (fail_if_no_progress (with_reducible refine good_upd ?_ rfl (fun _ => rfl) (fun _ => rfl))))

theorem sendAll_good (h : s.Good ql pp qq tv) (p : Packet) :
     (State.sendAll s p).Good ql pp qq tv := by
  unfold State.sendAll
  repeat' (first
    | with_reducible assumption
    | with_reducible apply emit_good
    | (intro _ _)
    | intro _
    | dsimp only
    | split
    | with_reducible rfl
    | (fail_if_no_progress (with_reducible refine good_upd ?_ rfl (fun _ => rfl) (fun _ => rfl))))

theorem fresh_good (h : s.Good ql pp qq tv) (n : Nat) :
     (State.fresh s n).2.Good ql pp qq tv := by
  unfold State.fresh
  repeat' (first
    | with_reducible assumption
    | (intro _ _)
    | intro _
    | dsimp only
    | split
    | with_reducible rfl
    | (fail_if_no_progress (with_reducible refine good_upd ?_ rfl (fun _ => rfl) (fun _ => rfl))))

theorem tmrElapse_good (h : s.Good ql pp qq tv) (k n : Nat) :
     (tmrElapse k n s).Good ql pp qq tv := by
  unfold tmrElapse
  repeat' (first
    | with_reducible assumption
    | with_reducible apply put_good
    | (intro _ _)
    | intro _
    | dsimp only
    | split
    | with_reducible rfl
    | (fail_if_no_progress (with_reducible refine good_upd ?_ rfl (fun _ => rfl) (fun _ => rfl))))

theorem elapse_good (h : s.Good ql pp False tv) (dt : Nat) :
     (State.elapse s dt).Good ql pp False tv := by
  unfold State.elapse
  repeat' (first
    | with_reducible assumption
    | with_reducible apply forN_good
    | with_reducible apply putS_good
    | with_reducible apply tmrElapse_good
    | (intro _ _)
    | intro _
    | dsimp only
    | split
    | with_reducible rfl
    | (fail_if_no_progress (with_reducible refine good_upd ?_ rfl (fun _ => rfl) (fun h => h.elim))))

end Sys2Proof.Machine
end

