-- ==== Sys2Proof/Laws/GoodVectors.lean ====
section
/-!
SUPPORT. The operations of Machine/Vectors.lean keep the queue and the canonical form (Laws/Good.lean).
-/

namespace Sys2Proof.Machine

set_option linter.unusedTactic false
set_option linter.unreachableTactic false
set_option linter.unusedVariables false

variable {ql : List Instr} {pp qq : Prop} {tv : Nat × Nat × Nat × Nat × Option (Nat × Nat × Nat)} {s : State}

theorem captureTally_good (h : s.Good ql pp qq tv) (b : Nat) :
     (captureTally b s).Good ql pp qq tv := by
  unfold captureTally
  repeat' (first
    | with_reducible assumption
    | with_reducible apply puts_good
    | (intro _ _)
    | intro _
    | dsimp only
    | split
    | with_reducible rfl
    | (fail_if_no_progress (with_reducible refine good_upd ?_ rfl (fun _ => rfl) (fun _ => rfl))))

theorem evin_good (h : s.Good ql pp qq tv) (n k : Nat) :
     (evin n k s).Good ql pp qq tv := by
  unfold evin
  repeat' (first
    | with_reducible assumption
    | with_reducible apply bitOn_good
    | (intro _ _)
    | intro _
    | dsimp only
    | split
    | with_reducible rfl
    | (fail_if_no_progress (with_reducible refine good_upd ?_ rfl (fun _ => rfl) (fun _ => rfl))))

theorem tmrLatch_good (h : s.Good ql pp qq tv) (n : Nat) :
     (tmrLatch n s).Good ql pp qq tv := by
  unfold tmrLatch
  repeat' (first
    | with_reducible assumption
    | with_reducible apply when_good
    | with_reducible apply put_good
    | with_reducible apply flag_good
    | (intro _ _)
    | intro _
    | dsimp only
    | split
    | with_reducible rfl
    | (fail_if_no_progress (with_reducible refine good_upd ?_ rfl (fun _ => rfl) (fun _ => rfl))))

theorem tmrCapture_good (h : s.Good ql pp qq tv) (n : Nat) :
     (tmrCapture n s).Good ql pp qq tv := by
  unfold tmrCapture
  repeat' (first
    | with_reducible assumption
    | with_reducible apply tmrLatch_good
    | (intro _ _)
    | intro _
    | dsimp only
    | split
    | with_reducible rfl
    | (fail_if_no_progress (with_reducible refine good_upd ?_ rfl (fun _ => rfl) (fun _ => rfl))))

theorem msixRaise_good (h : s.Good ql pp qq tv) (v : Fin 64) :
     (msixRaise v s).Good ql pp qq tv := by
  unfold msixRaise
  repeat' (first
    | with_reducible assumption
    | with_reducible apply inc_good
    | with_reducible apply emit_good
    | (intro _ _)
    | intro _
    | dsimp only
    | split
    | with_reducible rfl
    | (fail_if_no_progress (with_reducible refine good_upd ?_ rfl (fun _ => rfl) (fun _ => rfl))))

theorem raiseVector_good (h : s.Good ql pp qq tv) (v : Fin 64) :
     (raiseVector v s).Good ql pp qq tv := by
  unfold raiseVector
  repeat' (first
    | with_reducible assumption
    | with_reducible apply bitOn_good
    | with_reducible apply emit_good
    | with_reducible apply msixRaise_good
    | (intro _ _)
    | intro _
    | dsimp only
    | split
    | with_reducible rfl
    | (fail_if_no_progress (with_reducible refine good_upd ?_ rfl (fun _ => rfl) (fun _ => rfl))))

end Sys2Proof.Machine
end

