-- ==== Sys2Proof/Laws/GoodEvents.lean ====
section
/-!
SUPPORT. The operations of Machine/Events.lean keep the queue and the canonical form (Laws/Good.lean).
-/

namespace Sys2Proof.Machine

set_option linter.unusedTactic false
set_option linter.unreachableTactic false
set_option linter.unusedVariables false

variable {ql : List Instr} {pp qq : Prop} {tv : Nat × Nat × Nat × Nat × Option (Nat × Nat × Nat)} {s : State}

theorem consume_good (h : s.Good ql pp qq tv) (k : Consumer) :
     (consume k s).Good ql pp qq tv := by
  unfold consume
  repeat' (first
    | with_reducible assumption
    | with_reducible apply when_good
    | with_reducible apply captureTally_good
    | with_reducible apply evin_good
    | with_reducible apply tmrCapture_good
    | with_reducible apply raiseVector_good
    | with_reducible refine pair_good (by assumption) ?_
    | with_reducible refine triple_good (by assumption) ?_
    | (intro _ _)
    | intro _
    | dsimp only
    | split
    | with_reducible rfl
    | (fail_if_no_progress (with_reducible refine good_upd ?_ rfl (fun _ => rfl) (fun _ => rfl))))

theorem loopDrop_good (h : s.Good ql pp qq tv) (chan origin hops : Nat) :
     (loopDrop chan origin hops s).Good ql pp qq tv := by
  unfold loopDrop
  repeat' (first
    | with_reducible assumption
    | with_reducible apply flag_good
    | with_reducible apply inc_good
    | with_reducible apply puts_good
    | (intro _ _)
    | intro _
    | dsimp only
    | split
    | with_reducible rfl
    | (fail_if_no_progress (with_reducible refine good_upd ?_ rfl (fun _ => rfl) (fun _ => rfl))))

theorem deliver_good (h : s.Good ql pp qq tv) (e : Ev) :
     (deliver e s).2.Good ql pp qq tv := by
  unfold deliver
  repeat' (first
    | with_reducible assumption
    | with_reducible apply inc_good
    | with_reducible apply consume_good
    | with_reducible apply loopDrop_good
    | with_reducible refine pair_good (by assumption) ?_
    | with_reducible refine triple_good (by assumption) ?_
    | (intro _ _)
    | intro _
    | dsimp only
    | split
    | with_reducible rfl
    | (fail_if_no_progress (with_reducible refine good_upd ?_ rfl (fun _ => rfl) (fun _ => rfl))))

theorem mergeEv_good (h : s.Good ql pp qq tv) (x0 : List Ev) (x1 : List Ev) :
     (mergeEv x0 x1 s).2.Good ql pp qq tv := by
  fun_induction mergeEv x0 x1 s
  all_goals repeat' (first
    | with_reducible assumption
    | with_reducible apply inc_good
    | with_reducible refine pair_good (by assumption) ?_
    | with_reducible refine triple_good (by assumption) ?_
    | (intro _ _)
    | intro _
    | dsimp only
    | split
    | with_reducible rfl
    | (fail_if_no_progress (with_reducible refine good_upd ?_ rfl (fun _ => rfl) (fun _ => rfl)))
    | with_reducible apply_assumption)

theorem fabric_good (fuel : Nat) (es : List Ev) : ∀ {s : State}, s.Good ql pp qq tv → (fabric fuel es s).Good ql pp qq tv := by
  induction fuel generalizing es with
  | zero => exact fun h => h
  | succ n ih =>
    intro s h
    have key : ((mergeEv es [] s).1.foldl (fun (acc : List Ev × State) e =>
        let d := deliver e acc.2
        (acc.1 ++ d.1.toList, d.2)) ([], (mergeEv es [] s).2)).2.Good ql pp qq tv :=
      foldl_pair_good _ _ (fun _ _ _ h => deliver_good h _) (mergeEv_good h _ _)
    unfold fabric
    dsimp only
    split
    · exact key
    · exact ih _ key

theorem produce_good (h : s.Good ql pp qq tv) (p : Nat) :
     (produce p s).Good ql pp qq tv := by
  unfold produce
  repeat' (first
    | with_reducible assumption
    | with_reducible apply fabric_good
    | (intro _ _)
    | intro _
    | dsimp only
    | split
    | with_reducible rfl
    | (fail_if_no_progress (with_reducible refine good_upd ?_ rfl (fun _ => rfl) (fun _ => rfl))))

theorem swFire_good (h : s.Good ql pp qq tv) (who : Writer) (c : Nat) :
     (swFire who c s).Good ql pp qq tv := by
  unfold swFire
  repeat' (first
    | with_reducible assumption
    | with_reducible apply flag_good
    | with_reducible apply fabric_good
    | (intro _ _)
    | intro _
    | dsimp only
    | split
    | with_reducible rfl
    | (fail_if_no_progress (with_reducible refine good_upd ?_ rfl (fun _ => rfl) (fun _ => rfl))))

theorem deliverPending_good (h : s.Good ql pp qq tv) (c : Nat) :
     (deliverPending c s).Good ql pp qq tv := by
  unfold deliverPending
  repeat' (first
    | with_reducible assumption
    | with_reducible apply deliver_good
    | with_reducible refine pair_good (by assumption) ?_
    | with_reducible refine triple_good (by assumption) ?_
    | (intro _ _)
    | intro _
    | dsimp only
    | split
    | with_reducible rfl
    | (fail_if_no_progress (with_reducible refine good_upd ?_ rfl (fun _ => rfl) (fun _ => rfl))))

end Sys2Proof.Machine
end

