-- ==== Sys2Proof/Laws/GoodFaults.lean ====
section
/-!
SUPPORT. The operations of Machine/Faults.lean keep the queue and the canonical form (Laws/Good.lean).
-/

namespace Sys2Proof.Machine

set_option linter.unusedTactic false
set_option linter.unreachableTactic false
set_option linter.unusedVariables false

variable {ql : List Instr} {pp qq : Prop} {tv : Nat × Nat × Nat × Nat × Option (Nat × Nat × Nat)} {s : State}

theorem logFault_good (h : s.Good ql pp qq tv) (code src : Nat) :
     (logFault code src s).Good ql pp qq tv := by
  unfold logFault
  repeat' (first
    | with_reducible assumption
    | with_reducible apply poke_good
    | (intro _ _)
    | intro _
    | dsimp only
    | split
    | with_reducible rfl
    | (fail_if_no_progress (with_reducible refine good_upd ?_ rfl (fun _ => rfl) (fun _ => rfl))))

theorem abortHandler_good (h : s.Good ql pp qq tv) :
     (abortHandler s).Good ql pp qq tv := by
  unfold abortHandler
  repeat' (first
    | with_reducible assumption
    | with_reducible apply bitOff_good
    | with_reducible refine pair_good (by assumption) ?_
    | with_reducible refine triple_good (by assumption) ?_
    | (intro _ _)
    | intro _
    | dsimp only
    | split
    | with_reducible rfl
    | (fail_if_no_progress (with_reducible refine good_upd ?_ rfl (fun _ => rfl) (fun _ => rfl))))

theorem placeSafe_good (h : s.Good ql pp qq tv) (code src : Nat) :
     (placeSafe code src s).Good ql pp qq tv := by
  unfold placeSafe
  repeat' (first
    | with_reducible assumption
    | with_reducible apply setReg_good
    | with_reducible apply abortHandler_good
    | (intro _ _)
    | intro _
    | dsimp only
    | split
    | with_reducible rfl
    | (fail_if_no_progress (with_reducible refine good_upd ?_ rfl (fun _ => rfl) (fun _ => rfl))))

theorem placeAfterSafe_good (h : s.Good ql pp qq tv) (code src : Nat) :
     (placeAfterSafe code src s).Good ql pp qq tv := by
  unfold placeAfterSafe
  repeat' (first
    | with_reducible assumption
    | with_reducible apply setReg_good
    | with_reducible apply inc_good
    | with_reducible refine pair_good (by assumption) ?_
    | with_reducible refine triple_good (by assumption) ?_
    | (intro _ _)
    | intro _
    | dsimp only
    | split
    | with_reducible rfl
    | (fail_if_no_progress (with_reducible refine good_upd ?_ rfl (fun _ => rfl) (fun _ => rfl))))

theorem raiseSafe_good (h : s.Good ql pp qq tv) (code src : Nat) :
     (raiseSafe code src s).Good ql pp qq tv := by
  unfold raiseSafe
  repeat' (first
    | with_reducible assumption
    | with_reducible apply logFault_good
    | with_reducible apply placeSafe_good
    | with_reducible apply placeAfterSafe_good
    | (intro _ _)
    | intro _
    | dsimp only
    | split
    | with_reducible rfl
    | (fail_if_no_progress (with_reducible refine good_upd ?_ rfl (fun _ => rfl) (fun _ => rfl))))

theorem activate_good (h : s.Good ql pp qq tv) :
     (activate s).Good ql pp qq tv := by
  unfold activate
  repeat' (first
    | with_reducible assumption
    | with_reducible apply evin_good
    | with_reducible apply raiseVector_good
    | with_reducible apply raiseSafe_good
    | with_reducible refine pair_good (by assumption) ?_
    | with_reducible refine triple_good (by assumption) ?_
    | (intro _ _)
    | intro _
    | dsimp only
    | split
    | with_reducible rfl
    | (fail_if_no_progress (with_reducible refine good_upd ?_ rfl (fun _ => rfl) (fun _ => rfl))))

theorem place_good (h : s.Good ql pp qq tv) (code src : Nat) :
     (place code src s).Good ql pp qq tv := by
  unfold place
  repeat' (first
    | with_reducible assumption
    | with_reducible apply setReg_good
    | with_reducible apply inc_good
    | with_reducible apply activate_good
    | (intro _ _)
    | intro _
    | dsimp only
    | split
    | with_reducible rfl
    | (fail_if_no_progress (with_reducible refine good_upd ?_ rfl (fun _ => rfl) (fun _ => rfl))))

theorem raiseFault_good (h : s.Good ql pp qq tv) (code src : Nat) :
     (raiseFault code src s).Good ql pp qq tv := by
  unfold raiseFault
  repeat' (first
    | with_reducible assumption
    | with_reducible apply inc_good
    | with_reducible apply logFault_good
    | with_reducible apply placeAfterSafe_good
    | with_reducible apply raiseSafe_good
    | with_reducible apply place_good
    | (intro _ _)
    | intro _
    | dsimp only
    | split
    | with_reducible rfl
    | (fail_if_no_progress (with_reducible refine good_upd ?_ rfl (fun _ => rfl) (fun _ => rfl))))

theorem ackFault_good (h : s.Good ql pp qq tv) :
     (ackFault s).Good ql pp qq tv := by
  unfold ackFault
  repeat' (first
    | with_reducible assumption
    | with_reducible apply setReg_good
    | with_reducible apply activate_good
    | (intro _ _)
    | intro _
    | dsimp only
    | split
    | with_reducible rfl
    | (fail_if_no_progress (with_reducible refine good_upd ?_ rfl (fun _ => rfl) (fun _ => rfl))))

end Sys2Proof.Machine
end

