-- ==== Sys2Proof/Laws/GoodSerai.lean ====
section
/-!
SUPPORT. The operations of Machine/Serai.lean keep the queue and the canonical form (Laws/Good.lean).
-/

namespace Sys2Proof.Machine

set_option linter.unusedTactic false
set_option linter.unreachableTactic false
set_option linter.unusedVariables false

variable {ql : List Instr} {pp qq : Prop} {tv : Nat × Nat × Nat × Nat × Option (Nat × Nat × Nat)} {s : State}

theorem sendRec_good (h : s.Good ql pp qq tv) (ty flags : Nat) (body : List Byte) :
     (sendRec ty flags body s).Good ql pp qq tv := by
  unfold sendRec
  repeat' (first
    | with_reducible assumption
    | with_reducible apply put_good
    | with_reducible apply inc_good
    | with_reducible apply emit_good
    | (intro _ _)
    | intro _
    | dsimp only
    | split
    | with_reducible rfl
    | (fail_if_no_progress (with_reducible refine good_upd ?_ rfl (fun _ => rfl) (fun _ => rfl))))

theorem journal_good (h : s.Good ql pp qq tv) (ty flags : Nat) (body : List Byte) :
     (journal ty flags body s).Good ql pp qq tv := by
  unfold journal
  repeat' (first
    | with_reducible assumption
    | with_reducible apply sendRec_good
    | (intro _ _)
    | intro _
    | dsimp only
    | split
    | with_reducible rfl
    | (fail_if_no_progress (with_reducible refine good_upd ?_ rfl (fun _ => rfl) (fun _ => rfl))))

theorem spareStart_good (h : s.Good ql pp qq tv) (b r : Nat) :
     (spareStart b r s).Good ql pp qq tv := by
  unfold spareStart
  repeat' (first
    | with_reducible assumption
    | with_reducible apply flag_good
    | with_reducible apply produce_good
    | with_reducible refine pair_good (by assumption) ?_
    | with_reducible refine triple_good (by assumption) ?_
    | (intro _ _)
    | intro _
    | dsimp only
    | split
    | with_reducible rfl
    | (fail_if_no_progress (with_reducible refine good_upd ?_ rfl (fun _ => rfl) (fun _ => rfl))))

theorem poisonGranule_good (h : s.Good ql pp qq tv) (g : Nat) :
     (poisonGranule g s).Good ql pp qq tv := by
  unfold poisonGranule
  repeat' (first
    | with_reducible assumption
    | with_reducible apply poke_good
    | (intro _ _)
    | intro _
    | dsimp only
    | split
    | with_reducible rfl
    | (fail_if_no_progress (with_reducible refine good_upd ?_ rfl (fun _ => rfl) (fun _ => rfl))))

theorem rowCorrected_good (h : s.Good ql pp qq tv) (b r : Nat) :
     (rowCorrected b r s).Good ql pp qq tv := by
  unfold rowCorrected
  repeat' (first
    | with_reducible assumption
    | with_reducible apply spareStart_good
    | with_reducible apply getD_map_good
    | with_reducible apply getD_good
    | (intro _ _)
    | intro _
    | dsimp only
    | split
    | with_reducible rfl
    | (fail_if_no_progress (with_reducible refine good_upd ?_ rfl (fun _ => rfl) (fun _ => rfl))))

theorem lastUe_good (h : s.Good ql pp qq tv) (m g cause : Nat) :
     (lastUe m g cause s).Good ql pp qq tv := by
  unfold lastUe
  repeat' (first
    | with_reducible assumption
    | with_reducible apply puts_good
    | (intro _ _)
    | intro _
    | dsimp only
    | split
    | with_reducible rfl
    | (fail_if_no_progress (with_reducible refine good_upd ?_ rfl (fun _ => rfl) (fun _ => rfl))))

theorem decodeG_good (h : s.Good ql pp qq tv) (m g : Nat) :
     (decodeG m g s).2.Good ql pp qq tv := by
  unfold decodeG
  repeat' (first
    | with_reducible assumption
    | with_reducible apply inc_good
    | with_reducible apply puts_good
    | with_reducible apply raiseFault_good
    | with_reducible apply spareStart_good
    | with_reducible apply poisonGranule_good
    | with_reducible apply rowCorrected_good
    | with_reducible apply lastUe_good
    | (intro _ _)
    | intro _
    | dsimp only
    | split
    | with_reducible rfl
    | (fail_if_no_progress (with_reducible refine good_upd ?_ rfl (fun _ => rfl) (fun _ => rfl))))

theorem decodeRange_good (h : s.Good ql pp qq tv) (m off n : Nat) :
     (decodeRange m off n s).2.Good ql pp qq tv := by
  unfold decodeRange
  repeat' (first
    | with_reducible assumption
    | with_reducible apply decodeG_good
    | with_reducible apply foldl_good
    | with_reducible apply foldl_pair_good
    | (intro _ _)
    | intro _
    | dsimp only
    | split
    | with_reducible rfl
    | (fail_if_no_progress (with_reducible refine good_upd ?_ rfl (fun _ => rfl) (fun _ => rfl))))

theorem serRead_good (h : s.Good ql pp qq tv) (m off n : Nat) :
     (serRead m off n s).2.2.Good ql pp qq tv := by
  unfold serRead
  repeat' (first
    | with_reducible assumption
    | with_reducible apply decodeRange_good
    | (intro _ _)
    | intro _
    | dsimp only
    | split
    | with_reducible rfl
    | (fail_if_no_progress (with_reducible refine good_upd ?_ rfl (fun _ => rfl) (fun _ => rfl))))

theorem writeBlocked_good (h : s.Good ql pp qq tv) (m off : Nat) :
     ∀ u, writeBlocked m off s = some u → u.Good ql pp qq tv := by
  intro u
  unfold writeBlocked
  repeat' (first
    | with_reducible assumption
    | (intro ht; cases ht)
    | with_reducible apply flag_good
    | with_reducible apply inc_good
    | dsimp only
    | split
    | with_reducible rfl
    | (fail_if_no_progress (with_reducible refine good_upd ?_ rfl (fun _ => rfl) (fun _ => rfl)))
    | (intro _ _)
    | intro _)

theorem storeG_good (h : s.Good ql pp qq tv) (m off : Nat) (bs : List Byte) :
     (storeG m off bs s).Good ql pp qq tv := by
  unfold storeG
  repeat' (first
    | with_reducible assumption
    | with_reducible apply poke_good
    | with_reducible apply flag_good
    | with_reducible apply inc_good
    | with_reducible apply journal_good
    | with_reducible apply decodeG_good
    | (intro _ _)
    | intro _
    | dsimp only
    | split
    | with_reducible rfl
    | (fail_if_no_progress (with_reducible refine good_upd ?_ rfl (fun _ => rfl) (fun _ => rfl))))

theorem writeG_good (h : s.Good ql pp qq tv) (m off : Nat) (bs : List Byte) :
     (writeG m off bs s).Good ql pp qq tv := by
  unfold writeG
  repeat' (first
    | with_reducible assumption
    | with_reducible apply when_good
    | with_reducible apply flag_good
    | with_reducible apply inc_good
    | with_reducible refine writeBlocked_good ?_ _ _ _ (by assumption)
    | with_reducible apply storeG_good
    | with_reducible refine pair_good (by assumption) ?_
    | with_reducible refine triple_good (by assumption) ?_
    | (intro _ _)
    | intro _
    | dsimp only
    | split
    | with_reducible rfl
    | (fail_if_no_progress (with_reducible refine good_upd ?_ rfl (fun _ => rfl) (fun _ => rfl))))

theorem serWrite_good (h : s.Good ql pp qq tv) (m off : Nat) (bs : List Byte) :
     (serWrite m off bs s).Good ql pp qq tv := by
  unfold serWrite
  repeat' (first
    | with_reducible assumption
    | with_reducible apply forAll_good
    | with_reducible apply writeG_good
    | (intro _ _)
    | intro _
    | dsimp only
    | split
    | with_reducible rfl
    | (fail_if_no_progress (with_reducible refine good_upd ?_ rfl (fun _ => rfl) (fun _ => rfl))))

theorem setIndex_good (h : s.Good ql pp qq tv) (i : HeldIndex) (v : Nat) :
     (setIndex i v s).Good ql pp qq tv := by
  unfold setIndex
  repeat' (first
    | with_reducible assumption
    | with_reducible apply put_good
    | with_reducible apply evin_good
    | with_reducible apply raiseVector_good
    | with_reducible refine pair_good (by assumption) ?_
    | with_reducible refine triple_good (by assumption) ?_
    | (intro _ _)
    | intro _
    | dsimp only
    | split
    | with_reducible rfl
    | (fail_if_no_progress (with_reducible refine good_upd ?_ rfl (fun _ => rfl) (fun _ => rfl))))

theorem afterWrites_good (h : s.Good ql pp qq tv) (m : Nat) (i : HeldIndex) (v : Nat) :
     (afterWrites m i v s).Good ql pp qq tv := by
  unfold afterWrites
  repeat' (first
    | with_reducible assumption
    | with_reducible apply setIndex_good
    | (intro _ _)
    | intro _
    | dsimp only
    | split
    | with_reducible rfl
    | (fail_if_no_progress (with_reducible refine good_upd ?_ rfl (fun _ => rfl) (fun _ => rfl))))

theorem showHeld_good (h : s.Good ql pp qq tv) :
     (showHeld s).Good ql pp qq tv := by
  unfold showHeld
  repeat' (first
    | with_reducible assumption
    | with_reducible apply put_good
    | (intro _ _)
    | intro _
    | dsimp only
    | split
    | with_reducible rfl
    | (fail_if_no_progress (with_reducible refine good_upd ?_ rfl (fun _ => rfl) (fun _ => rfl))))

theorem landHeld_good (h : s.Good ql pp qq tv) (e : HeldWrite) :
     (landHeld e s).Good ql pp qq tv := by
  unfold landHeld
  repeat' (first
    | with_reducible assumption
    | with_reducible apply storeG_good
    | with_reducible apply setIndex_good
    | with_reducible refine pair_good (by assumption) ?_
    | with_reducible refine triple_good (by assumption) ?_
    | (intro _ _)
    | intro _
    | dsimp only
    | split
    | with_reducible rfl
    | (fail_if_no_progress (with_reducible refine good_upd ?_ rfl (fun _ => rfl) (fun _ => rfl))))

theorem releaseHeld_good (h : s.Good ql pp qq tv) (x0 : Nat) :
     (releaseHeld x0 s).Good ql pp qq tv := by
  fun_induction releaseHeld x0 s
  all_goals repeat' (first
    | with_reducible assumption
    | with_reducible apply showHeld_good
    | with_reducible apply landHeld_good
    | with_reducible refine pair_good (by assumption) ?_
    | with_reducible refine triple_good (by assumption) ?_
    | (intro _ _)
    | intro _
    | dsimp only
    | split
    | with_reducible rfl
    | (fail_if_no_progress (with_reducible refine good_upd ?_ rfl (fun _ => rfl) (fun _ => rfl)))
    | with_reducible apply_assumption)

theorem orStall_good (h : s.Good ql pp qq tv) (k : Nat) (run : State → State) (hf : ∀ s, s.Good ql pp qq tv → (run s).Good ql pp qq tv) :
     (orStall k run s).Good ql pp qq tv := by
  unfold orStall
  repeat' (first
    | with_reducible assumption
    | with_reducible apply put_good
    | with_reducible apply flag_good
    | with_reducible apply showHeld_good
    | apply hf
    | (intro _ _)
    | intro _
    | dsimp only
    | split
    | with_reducible rfl
    | (fail_if_no_progress (with_reducible refine good_upd ?_ rfl (fun _ => rfl) (fun _ => rfl))))

theorem spareDone_good (h : s.Good ql pp qq tv) :
     (spareDone s).Good ql pp qq tv := by
  unfold spareDone
  repeat' (first
    | with_reducible assumption
    | with_reducible apply forAll_good
    | with_reducible apply inc_good
    | with_reducible apply puts_good
    | with_reducible apply decodeG_good
    | with_reducible refine pair_good (by assumption) ?_
    | with_reducible refine triple_good (by assumption) ?_
    | (intro _ _)
    | intro _
    | dsimp only
    | split
    | with_reducible rfl
    | (fail_if_no_progress (with_reducible refine good_upd ?_ rfl (fun _ => rfl) (fun _ => rfl))))

theorem upsetG_good (h : s.Good ql pp qq tv) (g e : Nat) :
     (upsetG g e s).Good ql pp qq tv := by
  unfold upsetG
  repeat' (first
    | with_reducible assumption
    | (intro _ _)
    | intro _
    | dsimp only
    | split
    | with_reducible rfl
    | (fail_if_no_progress (with_reducible refine good_upd ?_ rfl (fun _ => rfl) (fun _ => rfl))))

theorem scrubEnd_good (h : s.Good ql pp qq tv) :
     (scrubEnd s).Good ql pp qq tv := by
  unfold scrubEnd
  repeat' (first
    | with_reducible assumption
    | with_reducible apply put_good
    | with_reducible apply incWrap_good
    | (intro _ _)
    | intro _
    | dsimp only
    | split
    | with_reducible rfl
    | (fail_if_no_progress (with_reducible refine good_upd ?_ rfl (fun _ => rfl) (fun _ => rfl))))

theorem scrubOp_good (h : s.Good ql pp qq tv) (upset : Option (Nat × Nat)) :
     (scrubOp upset s).Good ql pp qq tv := by
  unfold scrubOp
  repeat' (first
    | with_reducible assumption
    | with_reducible apply put_good
    | with_reducible apply decodeG_good
    | with_reducible apply upsetG_good
    | with_reducible apply scrubEnd_good
    | with_reducible refine pair_good (by assumption) ?_
    | with_reducible refine triple_good (by assumption) ?_
    | (intro _ _)
    | intro _
    | dsimp only
    | split
    | with_reducible rfl
    | (fail_if_no_progress (with_reducible refine good_upd ?_ rfl (fun _ => rfl) (fun _ => rfl))))

end Sys2Proof.Machine
end

