-- ==== Sys2Proof/Laws/GoodDrv.lean ====
section
/-!
SUPPORT. The operations of Machine/Drv.lean keep the queue and the canonical form (Laws/Good.lean).
-/

namespace Sys2Proof.Machine

set_option linter.unusedTactic false
set_option linter.unreachableTactic false
set_option linter.unusedVariables false

variable {ql : List Instr} {pp qq : Prop} {tv : Nat × Nat × Nat × Nat × Option (Nat × Nat × Nat)} {s : State}

theorem repeatAtEntry_wf (entry : Nat) (ram : List (Nat × Byte)) (h : swf (fun _ => (0 : Byte)) ram = true) :
    swf (fun _ => (0 : Byte)) (repeatAtEntry entry ram) = true := by
  unfold repeatAtEntry; dsimp only; split
  · exact h
  · exact swf_sset _ _ _ _ h

theorem forDrovers_good (h : s.Good ql pp qq tv) (f : Fin 12 → State → State) (hf : ∀ a s, s.Good ql pp qq tv → (f a s).Good ql pp qq tv) :
     (forDrovers f s).Good ql pp qq tv := by
  unfold forDrovers
  repeat' (first
    | with_reducible assumption
    | apply hf
    | with_reducible apply foldl_good
    | with_reducible apply foldl_pair_good
    | (intro _ _)
    | intro _
    | dsimp only
    | split
    | with_reducible rfl
    | (fail_if_no_progress (with_reducible refine good_upd ?_ rfl (fun _ => rfl) (fun _ => rfl))))

theorem enterVector_good (h : s.Good ql pp qq tv) (n : Fin 12) (entry addr back : Nat) :
     (enterVector n entry addr back s).Good ql pp qq tv := by
  unfold enterVector
  repeat' (first
    | with_reducible assumption
    | with_reducible refine modDrv_good' ?_ _ _ (fun _ _ => ?_)
    | with_reducible apply when_good
    | with_reducible apply flag_good
    | with_reducible apply puts_good
    | with_reducible apply repeatAtEntry_wf
    | (intro _ _)
    | intro _
    | dsimp only
    | split
    | with_reducible rfl
    | (fail_if_no_progress (with_reducible refine good_upd ?_ rfl (fun _ => rfl) (fun _ => rfl))))

theorem dueVector_good (h : s.Good ql pp qq tv) (n : Fin 12) (entry addr : Nat) :
     (dueVector n entry addr s).Good ql pp qq tv := by
  unfold dueVector
  repeat' (first
    | with_reducible assumption
    | with_reducible refine modDrv_good' ?_ _ _ (fun _ _ => ?_)
    | with_reducible apply enterVector_good
    | (intro _ _)
    | intro _
    | dsimp only
    | split
    | with_reducible rfl
    | (fail_if_no_progress (with_reducible refine good_upd ?_ rfl (fun _ => rfl) (fun _ => rfl))))

theorem takeDue_good (h : s.Good ql pp qq tv) (n : Fin 12) :
     ∀ u, takeDue n s = some u → u.Good ql pp qq tv := by
  intro u
  unfold takeDue
  repeat' (first
    | with_reducible assumption
    | (intro ht; cases ht)
    | with_reducible refine modDrv_good' ?_ _ _ (fun _ _ => ?_)
    | with_reducible apply enterVector_good
    | with_reducible refine pair_good (by assumption) ?_
    | with_reducible refine triple_good (by assumption) ?_
    | dsimp only
    | split
    | with_reducible rfl
    | (fail_if_no_progress (with_reducible refine good_upd ?_ rfl (fun _ => rfl) (fun _ => rfl)))
    | (intro _ _)
    | intro _)

theorem modeVectors_good (h : s.Good ql pp qq tv) (m : Nat) :
     (modeVectors m s).Good ql pp qq tv := by
  unfold modeVectors
  repeat' (first
    | with_reducible assumption
    | with_reducible apply put_good
    | with_reducible apply forDrovers_good
    | with_reducible apply dueVector_good
    | (intro _ _)
    | intro _
    | dsimp only
    | split
    | with_reducible rfl
    | (fail_if_no_progress (with_reducible refine good_upd ?_ rfl (fun _ => rfl) (fun _ => rfl))))

theorem cancelAir_good (h : s.Good ql pp qq tv) (n : Nat) :
     (cancelAir n s).Good ql pp qq tv := by
  unfold cancelAir
  repeat' (first
    | with_reducible assumption
    | with_reducible apply add_good
    | (intro _ _)
    | intro _
    | dsimp only
    | split
    | with_reducible rfl
    | (fail_if_no_progress (with_reducible refine good_upd ?_ rfl (fun _ => rfl) (fun _ => rfl))))

theorem trap_good (h : s.Good ql pp qq tv) (n : Fin 12) (cause pc back : Nat) :
     (trap n cause pc back s).Good ql pp qq tv := by
  unfold trap
  repeat' (first
    | with_reducible assumption
    | with_reducible refine modDrv_good' ?_ _ _ (fun _ _ => ?_)
    | with_reducible apply when_good
    | with_reducible apply flag_good
    | with_reducible apply puts_good
    | with_reducible apply raiseFault_good
    | with_reducible apply enterVector_good
    | with_reducible apply cancelAir_good
    | (intro _ _)
    | intro _
    | dsimp only
    | split
    | with_reducible rfl
    | (fail_if_no_progress (with_reducible refine good_upd ?_ rfl (fun _ => rfl) (fun _ => rfl))))

theorem interruptReturn_good (h : s.Good ql pp qq tv) (n : Fin 12) :
     (interruptReturn n s).Good ql pp qq tv := by
  unfold interruptReturn
  repeat' (first
    | with_reducible assumption
    | with_reducible refine modDrv_good' ?_ _ _ (fun _ _ => ?_)
    | with_reducible apply puts_good
    | (intro _ _)
    | intro _
    | dsimp only
    | split
    | with_reducible rfl
    | (fail_if_no_progress (with_reducible refine good_upd ?_ rfl (fun _ => rfl) (fun _ => rfl))))

theorem dropWork_good (h : s.Good ql pp qq tv) (n : Fin 12) :
     (dropWork n s).Good ql pp qq tv := by
  unfold dropWork
  repeat' (first
    | with_reducible assumption
    | with_reducible refine modDrv_good' ?_ _ _ (fun _ _ => ?_)
    | (intro _ _)
    | intro _
    | dsimp only
    | split
    | with_reducible rfl
    | (fail_if_no_progress (with_reducible refine good_upd ?_ rfl (fun _ => rfl) (fun _ => rfl))))

theorem startDrover_good (h : s.Good ql pp qq tv) (n : Fin 12) :
     (startDrover n s).Good ql pp qq tv := by
  unfold startDrover
  repeat' (first
    | with_reducible assumption
    | with_reducible refine modDrv_good' ?_ _ _ (fun _ _ => ?_)
    | with_reducible apply puts_good
    | with_reducible apply dropWork_good
    | (intro _ _)
    | intro _
    | dsimp only
    | split
    | with_reducible rfl
    | (fail_if_no_progress (with_reducible refine good_upd ?_ rfl (fun _ => rfl) (fun _ => rfl))))

theorem holdDrover_good (h : s.Good ql pp qq tv) (n : Fin 12) :
     (holdDrover n s).Good ql pp qq tv := by
  unfold holdDrover
  repeat' (first
    | with_reducible assumption
    | with_reducible apply put_good
    | with_reducible apply dropWork_good
    | (intro _ _)
    | intro _
    | dsimp only
    | split
    | with_reducible rfl
    | (fail_if_no_progress (with_reducible refine good_upd ?_ rfl (fun _ => rfl) (fun _ => rfl))))

theorem holdOrStart_good (h : s.Good ql pp qq tv) (n : Fin 12) :
     (holdOrStart n s).Good ql pp qq tv := by
  unfold holdOrStart
  repeat' (first
    | with_reducible assumption
    | with_reducible apply startDrover_good
    | with_reducible apply holdDrover_good
    | (intro _ _)
    | intro _
    | dsimp only
    | split
    | with_reducible rfl
    | (fail_if_no_progress (with_reducible refine good_upd ?_ rfl (fun _ => rfl) (fun _ => rfl))))

theorem exchangeBanks_good (h : s.Good ql pp qq tv) (n : Nat) :
     (exchangeBanks n s).Good ql pp qq tv := by
  unfold exchangeBanks
  repeat' (first
    | with_reducible assumption
    | with_reducible apply put_good
    | (intro _ _)
    | intro _
    | dsimp only
    | split
    | with_reducible rfl
    | (fail_if_no_progress (with_reducible refine good_upd ?_ rfl (fun _ => rfl) (fun _ => rfl))))

theorem switchDrover_good (h : s.Good ql pp qq tv) (n : Fin 12) :
     (switchDrover n s).Good ql pp qq tv := by
  unfold switchDrover
  repeat' (first
    | with_reducible assumption
    | with_reducible apply enterVector_good
    | with_reducible apply dueVector_good
    | with_reducible apply dropWork_good
    | with_reducible apply holdDrover_good
    | with_reducible apply exchangeBanks_good
    | (intro _ _)
    | intro _
    | dsimp only
    | split
    | with_reducible rfl
    | (fail_if_no_progress (with_reducible refine good_upd ?_ rfl (fun _ => rfl) (fun _ => rfl))))

theorem disarm_good (h : s.Good ql pp qq tv) (n : Fin 12) :
     (disarm n s).Good ql pp qq tv := by
  unfold disarm
  repeat' (first
    | with_reducible assumption
    | with_reducible refine modDrv_good' ?_ _ _ (fun _ _ => ?_)
    | with_reducible apply put_good
    | (intro _ _)
    | intro _
    | dsimp only
    | split
    | with_reducible rfl
    | (fail_if_no_progress (with_reducible refine good_upd ?_ rfl (fun _ => rfl) (fun _ => rfl))))

theorem imageSwitch_good (h : s.Good ql pp qq tv) (n : Fin 12) :
     (imageSwitch n s).Good ql pp qq tv := by
  unfold imageSwitch
  repeat' (first
    | with_reducible assumption
    | with_reducible apply dueVector_good
    | with_reducible apply holdDrover_good
    | with_reducible apply exchangeBanks_good
    | with_reducible apply disarm_good
    | (intro _ _)
    | intro _
    | dsimp only
    | split
    | with_reducible rfl
    | (fail_if_no_progress (with_reducible refine good_upd ?_ rfl (fun _ => rfl) (fun _ => rfl))))

theorem imageSwitchTick_good (h : s.Good ql pp qq tv) (waits : Fin 12 → Bool) (n : Fin 12) :
     (imageSwitchTick waits n s).Good ql pp qq tv := by
  unfold imageSwitchTick
  repeat' (first
    | with_reducible assumption
    | with_reducible refine modDrv_good' ?_ _ _ (fun _ _ => ?_)
    | with_reducible apply flag_good
    | with_reducible apply evin_good
    | with_reducible apply disarm_good
    | with_reducible apply imageSwitch_good
    | with_reducible refine pair_good (by assumption) ?_
    | with_reducible refine triple_good (by assumption) ?_
    | (intro _ _)
    | intro _
    | dsimp only
    | split
    | with_reducible rfl
    | (fail_if_no_progress (with_reducible refine good_upd ?_ rfl (fun _ => rfl) (fun _ => rfl))))

theorem switchArm_good (h : s.Good ql pp qq tv) (n : Fin 12) :
     (switchArm n s).Good ql pp qq tv := by
  unfold switchArm
  repeat' (first
    | with_reducible assumption
    | with_reducible refine modDrv_good' ?_ _ _ (fun _ _ => ?_)
    | with_reducible apply flag_good
    | (intro _ _)
    | intro _
    | dsimp only
    | split
    | with_reducible rfl
    | (fail_if_no_progress (with_reducible refine good_upd ?_ rfl (fun _ => rfl) (fun _ => rfl))))

theorem switchCancel_good (h : s.Good ql pp qq tv) (n : Fin 12) :
     (switchCancel n s).Good ql pp qq tv := by
  unfold switchCancel
  repeat' (first
    | with_reducible assumption
    | with_reducible apply disarm_good
    | (intro _ _)
    | intro _
    | dsimp only
    | split
    | with_reducible rfl
    | (fail_if_no_progress (with_reducible refine good_upd ?_ rfl (fun _ => rfl) (fun _ => rfl))))

theorem drvHaltOp_good (h : s.Good ql pp qq tv) (n : Fin 12) :
     (drvHaltOp n s).Good ql pp qq tv := by
  unfold drvHaltOp
  repeat' (first
    | with_reducible assumption
    | with_reducible refine modDrv_good' ?_ _ _ (fun _ _ => ?_)
    | with_reducible apply put_good
    | with_reducible apply flag_good
    | (intro _ _)
    | intro _
    | dsimp only
    | split
    | with_reducible rfl
    | (fail_if_no_progress (with_reducible refine good_upd ?_ rfl (fun _ => rfl) (fun _ => rfl))))

theorem drvResumeOp_good (h : s.Good ql pp qq tv) (n : Fin 12) :
     (drvResumeOp n s).Good ql pp qq tv := by
  unfold drvResumeOp
  repeat' (first
    | with_reducible assumption
    | with_reducible apply put_good
    | with_reducible apply flag_good
    | with_reducible refine takeDue_good ?_ _ _ (by assumption)
    | with_reducible apply getD_map_good
    | with_reducible apply getD_good
    | (intro _ _)
    | intro _
    | dsimp only
    | split
    | with_reducible rfl
    | (fail_if_no_progress (with_reducible refine good_upd ?_ rfl (fun _ => rfl) (fun _ => rfl))))

theorem setLocalByte_good (h : s.Good ql pp qq tv) (n : Fin 12) (a : Nat) (b : Byte) :
     (setLocalByte n a b s).Good ql pp qq tv := by
  unfold setLocalByte
  repeat' (first
    | with_reducible assumption
    | with_reducible refine modDrv_good' ?_ _ _ (fun _ _ => ?_)
    | with_reducible apply when_good
    | with_reducible apply put_good
    | with_reducible apply swFire_good
    | with_reducible apply swf_sset
    | with_reducible apply foldl_good
    | with_reducible apply foldl_pair_good
    | (intro _ _)
    | intro _
    | dsimp only
    | split
    | with_reducible rfl
    | (fail_if_no_progress (with_reducible refine good_upd ?_ rfl (fun _ => rfl) (fun _ => rfl))))

end Sys2Proof.Machine
end

