-- ==== Sys2Proof/Laws/GoodTick.lean ====
section
/-!
SUPPORT. The operations of Machine/Tick.lean keep the queue and the canonical form (Laws/Good.lean).
-/

namespace Sys2Proof.Machine

set_option linter.unusedTactic false
set_option linter.unreachableTactic false
set_option linter.unusedVariables false

variable {ql : List Instr} {pp qq : Prop} {tv : Nat × Nat × Nat × Nat × Option (Nat × Nat × Nat)} {s : State}

theorem stage_good (h : s.Good ql pp qq tv) (f : Field) (v : Nat) (b : Boundary) (owner : Option Nat) :
     (stage f v b owner s).Good ql pp qq tv := by
  unfold stage
  repeat' (first
    | with_reducible assumption
    | (intro _ _)
    | intro _
    | dsimp only
    | split
    | with_reducible rfl
    | (fail_if_no_progress (with_reducible refine good_upd ?_ rfl (fun _ => rfl) (fun _ => rfl))))

theorem takeStaged_good (h : s.Good ql pp qq tv) (b : Boundary) :
     (takeStaged b s).2.Good ql pp qq tv := by
  unfold takeStaged
  repeat' (first
    | with_reducible assumption
    | (intro _ _)
    | intro _
    | dsimp only
    | split
    | with_reducible rfl
    | (fail_if_no_progress (with_reducible refine good_upd ?_ rfl (fun _ => rfl) (fun _ => rfl))))

theorem sealWrite_good (h : s.Good ql pp qq tv) (n : Nat) (asn8 : Nat) (ret : Bool) :
     (sealWrite n asn8 ret s).Good ql pp qq tv := by
  unfold sealWrite
  repeat' (first
    | with_reducible assumption
    | with_reducible apply flag_good
    | with_reducible apply bitOn_good
    | (intro _ _)
    | intro _
    | dsimp only
    | split
    | with_reducible rfl
    | (fail_if_no_progress (with_reducible refine good_upd ?_ rfl (fun _ => rfl) (fun _ => rfl))))

theorem judgeSeals_good (h : s.Good ql pp qq tv) :
     (judgeSeals s).Good ql pp qq tv := by
  unfold judgeSeals
  repeat' (first
    | with_reducible assumption
    | with_reducible apply forAll_good
    | with_reducible apply flag_good
    | with_reducible apply inc_good
    | with_reducible apply raiseFault_good
    | (intro _ _)
    | intro _
    | dsimp only
    | split
    | with_reducible rfl
    | (fail_if_no_progress (with_reducible refine good_upd ?_ rfl (fun _ => rfl) (fun _ => rfl))))

theorem newSeals_good (h : s.Good ql pp qq tv) :
     (newSeals s).Good ql pp qq tv := by
  unfold newSeals
  repeat' (first
    | with_reducible assumption
    | with_reducible apply puts_good
    | (intro _ _)
    | intro _
    | dsimp only
    | split
    | with_reducible rfl
    | (fail_if_no_progress (with_reducible refine good_upd ?_ rfl (fun _ => rfl) (fun _ => rfl))))

theorem advanceTally_good (h : s.Good ql pp False tv) :
     (advanceTally s).Good ql pp False tv := by
  unfold advanceTally
  repeat' (first
    | with_reducible assumption
    | with_reducible apply when_good
    | with_reducible apply flag_good
    | with_reducible refine pair_good (by assumption) ?_
    | with_reducible refine triple_good (by assumption) ?_
    | (intro _ _)
    | intro _
    | dsimp only
    | split
    | with_reducible rfl
    | (fail_if_no_progress (with_reducible refine good_upd ?_ rfl (fun _ => rfl) (fun h => h.elim))))

theorem steer_good (h : s.Good ql pp qq tv) :
     (steer s).Good ql pp qq tv := by
  unfold steer
  repeat' (first
    | with_reducible assumption
    | with_reducible apply put_good
    | with_reducible apply fresh_good
    | (intro _ _)
    | intro _
    | dsimp only
    | split
    | with_reducible rfl
    | (fail_if_no_progress (with_reducible refine good_upd ?_ rfl (fun _ => rfl) (fun _ => rfl))))

theorem ppsLock_good (h : s.Good ql pp qq tv) (err : Int) :
     (ppsLock err s).Good ql pp qq tv := by
  unfold ppsLock
  repeat' (first
    | with_reducible assumption
    | with_reducible apply put_good
    | with_reducible apply inc_good
    | with_reducible apply steer_good
    | (intro _ _)
    | intro _
    | dsimp only
    | split
    | with_reducible rfl
    | (fail_if_no_progress (with_reducible refine good_upd ?_ rfl (fun _ => rfl) (fun _ => rfl))))

theorem ppsEdgeOp_good (h : s.Good ql pp qq tv) :
     (ppsEdgeOp s).Good ql pp qq tv := by
  unfold ppsEdgeOp
  repeat' (first
    | with_reducible assumption
    | with_reducible apply putS_good
    | with_reducible apply captureTally_good
    | with_reducible apply produce_good
    | with_reducible apply ppsLock_good
    | (intro _ _)
    | intro _
    | dsimp only
    | split
    | with_reducible rfl
    | (fail_if_no_progress (with_reducible refine good_upd ?_ rfl (fun _ => rfl) (fun _ => rfl))))

theorem ppsMissingOp_good (h : s.Good ql pp qq tv) :
     (ppsMissingOp s).Good ql pp qq tv := by
  unfold ppsMissingOp
  repeat' (first
    | with_reducible assumption
    | with_reducible apply puts_good
    | (intro _ _)
    | intro _
    | dsimp only
    | split
    | with_reducible rfl
    | (fail_if_no_progress (with_reducible refine good_upd ?_ rfl (fun _ => rfl) (fun _ => rfl))))

theorem newSrc_good (h : s.Good ql pp qq tv) :
     (newSrc s).Good ql pp qq tv := by
  unfold newSrc
  repeat' (first
    | with_reducible assumption
    | with_reducible apply put_good
    | (intro _ _)
    | intro _
    | dsimp only
    | split
    | with_reducible rfl
    | (fail_if_no_progress (with_reducible refine good_upd ?_ rfl (fun _ => rfl) (fun _ => rfl))))

theorem trimWrite_good (h : s.Good ql pp qq tv) (v : Nat) :
     (trimWrite v s).Good ql pp qq tv := by
  unfold trimWrite
  repeat' (first
    | with_reducible assumption
    | with_reducible apply put_good
    | (intro _ _)
    | intro _
    | dsimp only
    | split
    | with_reducible rfl
    | (fail_if_no_progress (with_reducible refine good_upd ?_ rfl (fun _ => rfl) (fun _ => rfl))))

theorem slewRequest_good (h : s.Good ql pp qq tv) (req : Int) :
     (slewRequest req s).Good ql pp qq tv := by
  unfold slewRequest
  repeat' (first
    | with_reducible assumption
    | with_reducible apply put_good
    | with_reducible apply putS_good
    | with_reducible apply fresh_good
    | (intro _ _)
    | intro _
    | dsimp only
    | split
    | with_reducible rfl
    | (fail_if_no_progress (with_reducible refine good_upd ?_ rfl (fun _ => rfl) (fun _ => rfl))))

theorem tickLoadGo_good (h : s.Good ql pp False tv) :
     (tickLoadGo s).Good ql pp False tv := by
  unfold tickLoadGo
  repeat' (first
    | with_reducible assumption
    | with_reducible apply flag_good
    | (intro _ _)
    | intro _
    | dsimp only
    | split
    | with_reducible rfl
    | (fail_if_no_progress (with_reducible refine good_upd ?_ rfl (fun _ => rfl) (fun h => h.elim))))

theorem tickClear_good (h : s.Good ql pp qq tv) :
     (tickClear s).Good ql pp qq tv := by
  unfold tickClear
  repeat' (first
    | with_reducible assumption
    | with_reducible apply setReg_good
    | with_reducible apply forN_good
    | with_reducible apply puts_good
    | (intro _ _)
    | intro _
    | dsimp only
    | split
    | with_reducible rfl
    | (fail_if_no_progress (with_reducible refine good_upd ?_ rfl (fun _ => rfl) (fun _ => rfl))))

end Sys2Proof.Machine
end

