-- ==== Sys2Proof/Laws/GoodAirSched.lean ====
section
/-!
SUPPORT. The operations of Machine/AirSched.lean keep the queue and the canonical form (Laws/Good.lean).
-/

namespace Sys2Proof.Machine

set_option linter.unusedTactic false
set_option linter.unreachableTactic false
set_option linter.unusedVariables false

variable {ql : List Instr} {pp qq : Prop} {tv : Nat × Nat × Nat × Nat × Option (Nat × Nat × Nat)} {s : State}

theorem sfArmOp_good (h : s.Good ql pp qq tv) (waitgo : Bool) :
     (sfArmOp waitgo s).Good ql pp qq tv := by
  unfold sfArmOp
  repeat' (first
    | with_reducible assumption
    | with_reducible apply flag_good
    | (intro _ _)
    | intro _
    | dsimp only
    | split
    | with_reducible rfl
    | (fail_if_no_progress (with_reducible refine good_upd ?_ rfl (fun _ => rfl) (fun _ => rfl))))

theorem sfArmEffect_good (h : s.Good ql pp qq tv) (waitgo : Bool) :
     (sfArmEffect waitgo s).Good ql pp qq tv := by
  unfold sfArmEffect
  repeat' (first
    | with_reducible assumption
    | with_reducible apply when_good
    | with_reducible apply flag_good
    | (intro _ _)
    | intro _
    | dsimp only
    | split
    | with_reducible rfl
    | (fail_if_no_progress (with_reducible refine good_upd ?_ rfl (fun _ => rfl) (fun _ => rfl))))

theorem sfArmTick_good (h : s.Good ql pp qq tv) :
     (sfArmTick s).Good ql pp qq tv := by
  unfold sfArmTick
  repeat' (first
    | with_reducible assumption
    | with_reducible apply sfArmEffect_good
    | with_reducible refine pair_good (by assumption) ?_
    | with_reducible refine triple_good (by assumption) ?_
    | (intro _ _)
    | intro _
    | dsimp only
    | split
    | with_reducible rfl
    | (fail_if_no_progress (with_reducible refine good_upd ?_ rfl (fun _ => rfl) (fun _ => rfl))))

theorem sfApply_good (h : s.Good ql pp qq tv) :
     (sfApply s).Good ql pp qq tv := by
  unfold sfApply
  repeat' (first
    | with_reducible assumption
    | with_reducible apply setReg_good
    | with_reducible apply forN_good
    | with_reducible apply put_good
    | with_reducible apply flag_good
    | with_reducible apply raiseVector_good
    | with_reducible refine pair_good (by assumption) ?_
    | with_reducible refine triple_good (by assumption) ?_
    | with_reducible apply getD_map_good
    | with_reducible apply getD_good
    | (intro _ _)
    | intro _
    | dsimp only
    | split
    | with_reducible rfl
    | (fail_if_no_progress (with_reducible refine good_upd ?_ rfl (fun _ => rfl) (fun _ => rfl))))

theorem sfDrop_good (h : s.Good ql pp qq tv) :
     (sfDrop s).Good ql pp qq tv := by
  unfold sfDrop
  repeat' (first
    | with_reducible assumption
    | with_reducible apply put_good
    | with_reducible apply flag_good
    | (intro _ _)
    | intro _
    | dsimp only
    | split
    | with_reducible rfl
    | (fail_if_no_progress (with_reducible refine good_upd ?_ rfl (fun _ => rfl) (fun _ => rfl))))

theorem sfUntie_good (h : s.Good ql pp qq tv) :
     (sfUntie s).Good ql pp qq tv := by
  unfold sfUntie
  repeat' (first
    | with_reducible assumption
    | with_reducible apply put_good
    | with_reducible refine pair_good (by assumption) ?_
    | with_reducible refine triple_good (by assumption) ?_
    | (intro _ _)
    | intro _
    | dsimp only
    | split
    | with_reducible rfl
    | (fail_if_no_progress (with_reducible refine good_upd ?_ rfl (fun _ => rfl) (fun _ => rfl))))

theorem bcnLatch_good (h : s.Good ql pp qq tv) (plan : List PlanChan) :
     (bcnLatch plan s).Good ql pp qq tv := by
  unfold bcnLatch
  repeat' (first
    | with_reducible assumption
    | with_reducible apply puts_good
    | (intro _ _)
    | intro _
    | dsimp only
    | split
    | with_reducible rfl
    | (fail_if_no_progress (with_reducible refine good_upd ?_ rfl (fun _ => rfl) (fun _ => rfl))))

theorem bcnBoundary_good (h : s.Good ql pp qq tv) :
     (bcnBoundary s).Good ql pp qq tv := by
  unfold bcnBoundary
  repeat' (first
    | with_reducible assumption
    | (intro _ _)
    | intro _
    | dsimp only
    | split
    | with_reducible rfl
    | (fail_if_no_progress (with_reducible refine good_upd ?_ rfl (fun _ => rfl) (fun _ => rfl))))

end Sys2Proof.Machine
end

