-- ==== Sys2Proof/Laws/GoodManifest.lean ====
section
/-!
SUPPORT. The operations of Machine/Manifest.lean keep the queue and the canonical form (Laws/Good.lean).
-/

namespace Sys2Proof.Machine

set_option linter.unusedTactic false
set_option linter.unreachableTactic false
set_option linter.unusedVariables false

variable {ql : List Instr} {pp qq : Prop} {tv : Nat × Nat × Nat × Nat × Option (Nat × Nat × Nat)} {s : State}

theorem slotRead_good (h : s.Good ql pp qq tv) (n : Nat) :
     (slotRead n s).Good ql pp qq tv := by
  unfold slotRead
  repeat' (first
    | with_reducible assumption
    | with_reducible apply decodeRange_good
    | (intro _ _)
    | intro _
    | dsimp only
    | split
    | with_reducible rfl
    | (fail_if_no_progress (with_reducible refine good_upd ?_ rfl (fun _ => rfl) (fun _ => rfl))))

theorem standRoute_good (h : s.Good ql pp qq tv) (r : RouteRow) :
     (standRoute r s).Good ql pp qq tv := by
  unfold standRoute
  repeat' (first
    | with_reducible assumption
    | with_reducible apply put_good
    | with_reducible apply flag_good
    | with_reducible apply puts_good
    | (intro _ _)
    | intro _
    | dsimp only
    | split
    | with_reducible rfl
    | (fail_if_no_progress (with_reducible refine good_upd ?_ rfl (fun _ => rfl) (fun _ => rfl))))

theorem installRoutes_good (h : s.Good ql pp qq tv) (l : List RouteRow) :
     (installRoutes l s).Good ql pp qq tv := by
  unfold installRoutes
  repeat' (first
    | with_reducible assumption
    | with_reducible apply forAll_good
    | with_reducible apply forN_good
    | with_reducible apply puts_good
    | with_reducible apply standRoute_good
    | (intro _ _)
    | intro _
    | dsimp only
    | split
    | with_reducible rfl
    | (fail_if_no_progress (with_reducible refine good_upd ?_ rfl (fun _ => rfl) (fun _ => rfl))))

theorem installEngine_good (h : s.Good ql pp qq tv) (b : List Byte) :
     (installEngine b s).Good ql pp qq tv := by
  unfold installEngine
  repeat' (first
    | with_reducible assumption
    | with_reducible apply forAll_good
    | with_reducible apply forN_good
    | with_reducible apply put_good
    | with_reducible apply puts_good
    | with_reducible apply installRoutes_good
    | with_reducible apply getD_map_good
    | with_reducible apply getD_good
    | (intro _ _)
    | intro _
    | dsimp only
    | split
    | with_reducible rfl
    | (fail_if_no_progress (with_reducible refine good_upd ?_ rfl (fun _ => rfl) (fun _ => rfl))))

theorem installShaper_good (h : s.Good ql pp qq tv) (b : List Byte) :
     (installShaper b s).Good ql pp qq tv := by
  unfold installShaper
  repeat' (first
    | with_reducible assumption
    | with_reducible apply setReg_good
    | with_reducible apply forN_good
    | with_reducible apply getD_map_good
    | with_reducible apply getD_good
    | (intro _ _)
    | intro _
    | dsimp only
    | split
    | with_reducible rfl
    | (fail_if_no_progress (with_reducible refine good_upd ?_ rfl (fun _ => rfl) (fun _ => rfl))))

theorem installAir_good (h : s.Good ql pp qq tv) (b : List Byte) :
     (installAir b s).Good ql pp qq tv := by
  unfold installAir
  repeat' (first
    | with_reducible assumption
    | with_reducible apply installShaper_good
    | (intro _ _)
    | intro _
    | dsimp only
    | split
    | with_reducible rfl
    | (fail_if_no_progress (with_reducible refine good_upd ?_ rfl (fun _ => rfl) (fun _ => rfl))))

theorem installBays_good (h : s.Good ql pp qq tv) (b : List Byte) :
     (installBays b s).Good ql pp qq tv := by
  unfold installBays
  repeat' (first
    | with_reducible assumption
    | with_reducible apply forAll_good
    | with_reducible apply puts_good
    | (intro _ _)
    | intro _
    | dsimp only
    | split
    | with_reducible rfl
    | (fail_if_no_progress (with_reducible refine good_upd ?_ rfl (fun _ => rfl) (fun _ => rfl))))

theorem zeroRange_good (h : s.Good ql pp qq tv) (off n : Nat) : (zeroRange off n s).Good ql pp qq tv :=
  ⟨h.pend, fun hp => ⟨(h.inv hp).regs, swf_filter _ _ _ (h.inv hp).mem, (h.inv hp).ram⟩, h.tal⟩

theorem zeroBays_good (h : s.Good ql pp qq tv) (b : List Byte) :
     (zeroBays b s).Good ql pp qq tv := by
  unfold zeroBays
  repeat' (first
    | with_reducible assumption
    | with_reducible apply forAll_good
    | with_reducible apply zeroRange_good
    | (intro _ _)
    | intro _
    | dsimp only
    | split
    | with_reducible rfl
    | (fail_if_no_progress (with_reducible refine good_upd ?_ rfl (fun _ => rfl) (fun _ => rfl))))

theorem exchangeSlots_good (h : s.Good ql pp qq tv) (mid : Nat) :
     (exchangeSlots mid s).Good ql pp qq tv := by
  unfold exchangeSlots
  repeat' (first
    | with_reducible assumption
    | with_reducible apply puts_good
    | (intro _ _)
    | intro _
    | dsimp only
    | split
    | with_reducible rfl
    | (fail_if_no_progress (with_reducible refine good_upd ?_ rfl (fun _ => rfl) (fun _ => rfl))))

theorem manCheckOp_good (h : s.Good ql pp qq tv) :
     (manCheckOp s).Good ql pp qq tv := by
  unfold manCheckOp
  repeat' (first
    | with_reducible assumption
    | with_reducible apply put_good
    | with_reducible apply flag_good
    | (intro _ _)
    | intro _
    | dsimp only
    | split
    | with_reducible rfl
    | (fail_if_no_progress (with_reducible refine good_upd ?_ rfl (fun _ => rfl) (fun _ => rfl))))

theorem manCheckDoneOp_good (h : s.Good ql pp qq tv) :
     (manCheckDoneOp s).Good ql pp qq tv := by
  unfold manCheckDoneOp
  repeat' (first
    | with_reducible assumption
    | with_reducible apply puts_good
    | with_reducible apply slotRead_good
    | with_reducible refine pair_good (by assumption) ?_
    | with_reducible refine triple_good (by assumption) ?_
    | (intro _ _)
    | intro _
    | dsimp only
    | split
    | with_reducible rfl
    | (fail_if_no_progress (with_reducible refine good_upd ?_ rfl (fun _ => rfl) (fun _ => rfl))))

theorem manDiscardOp_good (h : s.Good ql pp qq tv) :
     (manDiscardOp s).Good ql pp qq tv := by
  unfold manDiscardOp
  repeat' (first
    | with_reducible assumption
    | with_reducible apply flag_good
    | with_reducible apply puts_good
    | (intro _ _)
    | intro _
    | dsimp only
    | split
    | with_reducible rfl
    | (fail_if_no_progress (with_reducible refine good_upd ?_ rfl (fun _ => rfl) (fun _ => rfl))))

theorem manActivateOp_good (h : s.Good ql pp qq tv) :
     (manActivateOp s).Good ql pp qq tv := by
  unfold manActivateOp
  repeat' (first
    | with_reducible assumption
    | with_reducible apply when_good
    | with_reducible apply flag_good
    | with_reducible apply forDrovers_good
    | with_reducible apply holdOrStart_good
    | with_reducible apply slotRead_good
    | with_reducible apply installEngine_good
    | with_reducible apply installAir_good
    | with_reducible apply installBays_good
    | with_reducible apply zeroBays_good
    | with_reducible apply exchangeSlots_good
    | (intro _ _)
    | intro _
    | dsimp only
    | split
    | with_reducible rfl
    | (fail_if_no_progress (with_reducible refine good_upd ?_ rfl (fun _ => rfl) (fun _ => rfl))))

theorem judgeReady_good (h : s.Good ql pp qq tv) :
     (judgeReady s).Good ql pp qq tv := by
  unfold judgeReady
  repeat' (first
    | with_reducible assumption
    | with_reducible apply put_good
    | with_reducible apply puts_good
    | with_reducible apply slotRead_good
    | (intro _ _)
    | intro _
    | dsimp only
    | split
    | with_reducible rfl
    | (fail_if_no_progress (with_reducible refine good_upd ?_ rfl (fun _ => rfl) (fun _ => rfl))))

theorem broadcast_good (h : s.Good ql pp qq tv) (b : Bcast) :
     (broadcast b s).Good ql pp qq tv := by
  unfold broadcast
  repeat' (first
    | with_reducible assumption
    | with_reducible apply inc_good
    | with_reducible apply sendAll_good
    | (intro _ _)
    | intro _
    | dsimp only
    | split
    | with_reducible rfl
    | (fail_if_no_progress (with_reducible refine good_upd ?_ rfl (fun _ => rfl) (fun _ => rfl))))

theorem manArmed_good (h : s.Good ql pp qq tv) (t : Nat) :
     (manArmed t s).Good ql pp qq tv := by
  unfold manArmed
  repeat' (first
    | with_reducible assumption
    | with_reducible apply puts_good
    | with_reducible apply judgeReady_good
    | (intro _ _)
    | intro _
    | dsimp only
    | split
    | with_reducible rfl
    | (fail_if_no_progress (with_reducible refine good_upd ?_ rfl (fun _ => rfl) (fun _ => rfl))))

theorem manCancel_good (h : s.Good ql pp qq tv) (cause missing : Nat) :
     (manCancel cause missing s).Good ql pp qq tv := by
  unfold manCancel
  repeat' (first
    | with_reducible assumption
    | with_reducible apply when_good
    | with_reducible apply flag_good
    | with_reducible apply puts_good
    | with_reducible apply raiseVector_good
    | with_reducible apply sfUntie_good
    | (intro _ _)
    | intro _
    | dsimp only
    | split
    | with_reducible rfl
    | (fail_if_no_progress (with_reducible refine good_upd ?_ rfl (fun _ => rfl) (fun _ => rfl))))

theorem manModeCancel_good (h : s.Good ql pp qq tv) :
     (manModeCancel s).Good ql pp qq tv := by
  unfold manModeCancel
  repeat' (first
    | with_reducible assumption
    | with_reducible apply manCancel_good
    | (intro _ _)
    | intro _
    | dsimp only
    | split
    | with_reducible rfl
    | (fail_if_no_progress (with_reducible refine good_upd ?_ rfl (fun _ => rfl) (fun _ => rfl))))

theorem manSwitchArmOp_good (h : s.Good ql pp qq tv) :
     (manSwitchArmOp s).Good ql pp qq tv := by
  unfold manSwitchArmOp
  repeat' (first
    | with_reducible assumption
    | with_reducible apply flag_good
    | with_reducible apply broadcast_good
    | with_reducible apply manArmed_good
    | (intro _ _)
    | intro _
    | dsimp only
    | split
    | with_reducible rfl
    | (fail_if_no_progress (with_reducible refine good_upd ?_ rfl (fun _ => rfl) (fun _ => rfl))))

theorem manSwitchCancelOp_good (h : s.Good ql pp qq tv) :
     (manSwitchCancelOp s).Good ql pp qq tv := by
  unfold manSwitchCancelOp
  repeat' (first
    | with_reducible assumption
    | with_reducible apply flag_good
    | with_reducible apply broadcast_good
    | with_reducible apply manCancel_good
    | (intro _ _)
    | intro _
    | dsimp only
    | split
    | with_reducible rfl
    | (fail_if_no_progress (with_reducible refine good_upd ?_ rfl (fun _ => rfl) (fun _ => rfl))))

theorem barrierClose_good (h : s.Good ql pp qq tv) (ready : Nat) :
     (barrierClose ready s).Good ql pp qq tv := by
  unfold barrierClose
  repeat' (first
    | with_reducible assumption
    | with_reducible apply when_good
    | with_reducible apply inc_good
    | with_reducible apply puts_good
    | (intro _ _)
    | intro _
    | dsimp only
    | split
    | with_reducible rfl
    | (fail_if_no_progress (with_reducible refine good_upd ?_ rfl (fun _ => rfl) (fun _ => rfl))))

theorem barrierOpen_good (h : s.Good ql pp qq tv) :
     (barrierOpen s).Good ql pp qq tv := by
  unfold barrierOpen
  repeat' (first
    | with_reducible assumption
    | with_reducible apply sendAll_good
    | with_reducible apply judgeReady_good
    | with_reducible apply barrierClose_good
    | (intro _ _)
    | intro _
    | dsimp only
    | split
    | with_reducible rfl
    | (fail_if_no_progress (with_reducible refine good_upd ?_ rfl (fun _ => rfl) (fun _ => rfl))))

theorem manDecide_good (h : s.Good ql pp qq tv) :
     (manDecide s).Good ql pp qq tv := by
  unfold manDecide
  repeat' (first
    | with_reducible assumption
    | with_reducible apply flag_good
    | with_reducible apply broadcast_good
    | with_reducible apply manCancel_good
    | (intro _ _)
    | intro _
    | dsimp only
    | split
    | with_reducible rfl
    | (fail_if_no_progress (with_reducible refine good_upd ?_ rfl (fun _ => rfl) (fun _ => rfl))))

theorem engineSide_good (h : s.Good ql pp qq tv) :
     (engineSide s).Good ql pp qq tv := by
  unfold engineSide
  repeat' (first
    | with_reducible assumption
    | with_reducible apply flag_good
    | with_reducible apply forDrovers_good
    | with_reducible apply switchDrover_good
    | with_reducible apply slotRead_good
    | with_reducible apply installEngine_good
    | (intro _ _)
    | intro _
    | dsimp only
    | split
    | with_reducible rfl
    | (fail_if_no_progress (with_reducible refine good_upd ?_ rfl (fun _ => rfl) (fun _ => rfl))))

theorem airSide_good (h : s.Good ql pp qq tv) :
     (airSide s).Good ql pp qq tv := by
  unfold airSide
  repeat' (first
    | with_reducible assumption
    | with_reducible apply puts_good
    | with_reducible apply raiseVector_good
    | with_reducible apply slotRead_good
    | with_reducible apply installAir_good
    | with_reducible apply exchangeSlots_good
    | (intro _ _)
    | intro _
    | dsimp only
    | split
    | with_reducible rfl
    | (fail_if_no_progress (with_reducible refine good_upd ?_ rfl (fun _ => rfl) (fun _ => rfl))))

theorem manTick_good (h : s.Good ql pp qq tv) :
     (manTick s).Good ql pp qq tv := by
  unfold manTick
  repeat' (first
    | with_reducible assumption
    | with_reducible apply manCancel_good
    | with_reducible apply barrierOpen_good
    | with_reducible apply manDecide_good
    | with_reducible apply engineSide_good
    | (intro _ _)
    | intro _
    | dsimp only
    | split
    | with_reducible rfl
    | (fail_if_no_progress (with_reducible refine good_upd ?_ rfl (fun _ => rfl) (fun _ => rfl))))

end Sys2Proof.Machine
end

