-- ==== Sys2Proof/Laws/GoodFrx.lean ====
section
/-!
SUPPORT. The operations of Machine/Frx.lean keep the queue and the canonical form (Laws/Good.lean).
-/

namespace Sys2Proof.Machine

set_option linter.unusedTactic false
set_option linter.unreachableTactic false
set_option linter.unusedVariables false

variable {ql : List Instr} {pp qq : Prop} {tv : Nat × Nat × Nat × Nat × Option (Nat × Nat × Nat)} {s : State}

theorem markGain_good (h : s.Good ql pp qq tv) (sub : Bool) :
     (markGain sub s).Good ql pp qq tv := by
  unfold markGain
  repeat' (first
    | with_reducible assumption
    | (intro _ _)
    | intro _
    | dsimp only
    | split
    | with_reducible rfl
    | (fail_if_no_progress (with_reducible refine good_upd ?_ rfl (fun _ => rfl) (fun _ => rfl))))

theorem decidePairs_good (h : s.Good ql pp qq tv) (x0 : List RxEntry) (x1 : List RxEntry) :
     (decidePairs x0 x1 s).Good ql pp qq tv := by
  fun_induction decidePairs x0 x1 s
  all_goals repeat' (first
    | with_reducible assumption
    | with_reducible apply inc_good
    | with_reducible refine pair_good (by assumption) ?_
    | with_reducible refine triple_good (by assumption) ?_
    | (intro _ _)
    | intro _
    | dsimp only
    | split
    | with_reducible rfl
    | (fail_if_no_progress (with_reducible refine good_upd ?_ rfl (fun _ => rfl) (fun _ => rfl)))
    | with_reducible apply_assumption)

theorem rxProgramme_good (h : s.Good ql pp qq tv) :
     (rxProgramme s).Good ql pp qq tv := by
  unfold rxProgramme
  repeat' (first
    | with_reducible assumption
    | with_reducible apply when_good
    | with_reducible apply flag_good
    | with_reducible apply serRead_good
    | with_reducible apply decidePairs_good
    | with_reducible refine pair_good (by assumption) ?_
    | with_reducible refine triple_good (by assumption) ?_
    | (intro _ _)
    | intro _
    | dsimp only
    | split
    | with_reducible rfl
    | (fail_if_no_progress (with_reducible refine good_upd ?_ rfl (fun _ => rfl) (fun _ => rfl))))

theorem lnaStep_good (h : s.Good ql pp qq tv) (sub : Bool) (want : Option Nat) :
     (lnaStep sub want s).Good ql pp qq tv := by
  unfold lnaStep
  repeat' (first
    | with_reducible assumption
    | with_reducible apply put_good
    | with_reducible apply markGain_good
    | with_reducible refine pair_good (by assumption) ?_
    | with_reducible refine triple_good (by assumption) ?_
    | (intro _ _)
    | intro _
    | dsimp only
    | split
    | with_reducible rfl
    | (fail_if_no_progress (with_reducible refine good_upd ?_ rfl (fun _ => rfl) (fun _ => rfl))))

theorem agcBand_good (h : s.Good ql pp qq tv) (sub : Bool) (ports : List PortIn) :
     (agcBand sub ports s).Good ql pp qq tv := by
  unfold agcBand
  repeat' (first
    | with_reducible assumption
    | with_reducible apply forAll_good
    | with_reducible apply put_good
    | with_reducible apply lnaStep_good
    | with_reducible apply getD_map_good
    | with_reducible apply getD_good
    | (intro _ _)
    | intro _
    | dsimp only
    | split
    | with_reducible rfl
    | (fail_if_no_progress (with_reducible refine good_upd ?_ rfl (fun _ => rfl) (fun _ => rfl))))

theorem excludeBand_good (h : s.Good ql pp qq tv) (sub : Bool) (ports : List PortIn) :
     (excludeBand sub ports s).Good ql pp qq tv := by
  unfold excludeBand
  repeat' (first
    | with_reducible assumption
    | with_reducible apply forAll_good
    | with_reducible apply bitOn_good
    | with_reducible apply bitOff_good
    | with_reducible apply foldl_good
    | with_reducible apply foldl_pair_good
    | with_reducible apply getD_map_good
    | with_reducible apply getD_good
    | (intro _ _)
    | intro _
    | dsimp only
    | split
    | with_reducible rfl
    | (fail_if_no_progress (with_reducible refine good_upd ?_ rfl (fun _ => rfl) (fun _ => rfl))))

theorem countPorts_good (h : s.Good ql pp qq tv) :
     (countPorts s).Good ql pp qq tv := by
  unfold countPorts
  repeat' (first
    | with_reducible assumption
    | with_reducible apply getD_map_good
    | with_reducible apply getD_good
    | (intro _ _)
    | intro _
    | dsimp only
    | split
    | with_reducible rfl
    | (fail_if_no_progress (with_reducible refine good_upd ?_ rfl (fun _ => rfl) (fun _ => rfl))))

theorem chpwrLatch_good (h : s.Good ql pp qq tv) (l : List (Int × Int)) :
     (chpwrLatch l s).Good ql pp qq tv := by
  unfold chpwrLatch
  repeat' (first
    | with_reducible assumption
    | with_reducible apply forN_good
    | with_reducible apply putS_good
    | with_reducible apply getD_map_good
    | with_reducible apply getD_good
    | (intro _ _)
    | intro _
    | dsimp only
    | split
    | with_reducible rfl
    | (fail_if_no_progress (with_reducible refine good_upd ?_ rfl (fun _ => rfl) (fun _ => rfl))))

theorem frxMeasure_good (h : s.Good ql pp qq tv) (i : TickIn) :
     (frxMeasure i s).Good ql pp qq tv := by
  unfold frxMeasure
  repeat' (first
    | with_reducible assumption
    | with_reducible apply agcBand_good
    | with_reducible apply excludeBand_good
    | with_reducible apply countPorts_good
    | with_reducible apply chpwrLatch_good
    | with_reducible apply foldl_good
    | with_reducible apply foldl_pair_good
    | (intro _ _)
    | intro _
    | dsimp only
    | split
    | with_reducible rfl
    | (fail_if_no_progress (with_reducible refine good_upd ?_ rfl (fun _ => rfl) (fun _ => rfl))))

theorem shrDetect_good (h : s.Good ql pp qq tv) (src chan lag : Nat) (chest : List Byte) :
     (shrDetect src chan lag chest s).Good ql pp qq tv := by
  unfold shrDetect
  repeat' (first
    | with_reducible assumption
    | with_reducible apply inc_good
    | with_reducible refine pair_good (by assumption) ?_
    | with_reducible refine triple_good (by assumption) ?_
    | with_reducible apply getD_map_good
    | with_reducible apply getD_good
    | (intro _ _)
    | intro _
    | dsimp only
    | split
    | with_reducible rfl
    | (fail_if_no_progress (with_reducible refine good_upd ?_ rfl (fun _ => rfl) (fun _ => rfl))))

theorem rxForget_good (h : s.Good ql pp qq tv) (r : Rx) :
     (rxForget r s).Good ql pp qq tv := by
  unfold rxForget
  repeat' (first
    | with_reducible assumption
    | (intro _ _)
    | intro _
    | dsimp only
    | split
    | with_reducible rfl
    | (fail_if_no_progress (with_reducible refine good_upd ?_ rfl (fun _ => rfl) (fun _ => rfl))))

theorem rxUpdate_good (h : s.Good ql pp qq tv) (r : Rx) :
     (rxUpdate r s).Good ql pp qq tv := by
  unfold rxUpdate
  repeat' (first
    | with_reducible assumption
    | (intro _ _)
    | intro _
    | dsimp only
    | split
    | with_reducible rfl
    | (fail_if_no_progress (with_reducible refine good_upd ?_ rfl (fun _ => rfl) (fun _ => rfl))))

theorem poolTake_good (h : s.Good ql pp qq tv) (k : Nat) :
     ∀ u, poolTake k s = some u → u.2.Good ql pp qq tv := by
  intro u
  unfold poolTake
  repeat' (first
    | with_reducible assumption
    | (intro ht; cases ht)
    | with_reducible apply put_good
    | with_reducible apply serRead_good
    | with_reducible refine pair_good (by assumption) ?_
    | with_reducible refine triple_good (by assumption) ?_
    | dsimp only
    | split
    | with_reducible rfl
    | (fail_if_no_progress (with_reducible refine good_upd ?_ rfl (fun _ => rfl) (fun _ => rfl)))
    | (intro _ _)
    | intro _)

theorem poolReturn_good (h : s.Good ql pp qq tv) (r : Rx) :
     (poolReturn r s).Good ql pp qq tv := by
  unfold poolReturn
  repeat' (first
    | with_reducible assumption
    | (intro _ _)
    | intro _
    | dsimp only
    | split
    | with_reducible rfl
    | (fail_if_no_progress (with_reducible refine good_upd ?_ rfl (fun _ => rfl) (fun _ => rfl))))

theorem phrReceived_good (h : s.Good ql pp qq tv) (src chan stream phrBits : Nat) (rssi cfo : Int) :
     (phrReceived src chan stream phrBits rssi cfo s).Good ql pp qq tv := by
  unfold phrReceived
  repeat' (first
    | with_reducible assumption
    | with_reducible apply inc_good
    | with_reducible apply rxForget_good
    | with_reducible apply rxUpdate_good
    | with_reducible refine poolTake_good ?_ _ _ (by assumption)
    | with_reducible refine pair_good (by assumption) ?_
    | with_reducible refine triple_good (by assumption) ?_
    | (intro _ _)
    | intro _
    | dsimp only
    | split
    | with_reducible rfl
    | (fail_if_no_progress (with_reducible refine good_upd ?_ rfl (fun _ => rfl) (fun _ => rfl))))

theorem ringPut_good (h : s.Good ql pp qq tv) (n : Fin 12) (d : Desc) :
    ∀ u, ringPut n d s = some u → u.Good ql pp qq tv := by
  unfold ringPut
  extract_lets len wr q s1 z s2
  have h1 : s1.Good ql pp qq tv := serWrite_good h _ _ _
  have h2 : s2.Good ql pp qq tv := by refine good_upd ?_ rfl (fun _ => rfl) (fun _ => rfl); exact h1
  clear_value wr s2
  exact opt_ite opt_none (opt_some (afterWrites_good h2 _ _ _))

theorem rxPut_good (h : s.Good ql pp qq tv) (r : Rx) (len : Nat) (fin : Option (Nat × Int × Bool)) :
     ∀ u, rxPut r len fin s = some u → u.Good ql pp qq tv := by
  intro u
  unfold rxPut
  repeat' (first
    | with_reducible assumption
    | (intro ht; cases ht)
    | with_reducible refine ringPut_good ?_ _ _ _ (by assumption)
    | with_reducible apply bind_good
    | dsimp only
    | split
    | with_reducible rfl
    | (fail_if_no_progress (with_reducible refine good_upd ?_ rfl (fun _ => rfl) (fun _ => rfl)))
    | (intro _ _)
    | intro _)

theorem dropEnd_good (h : s.Good ql pp qq tv) (fin : Option (Nat × Int)) :
     (dropEnd fin s).2.Good ql pp qq tv := by
  unfold dropEnd
  repeat' (first
    | with_reducible assumption
    | with_reducible apply fresh_good
    | with_reducible refine pair_good (by assumption) ?_
    | with_reducible refine triple_good (by assumption) ?_
    | (intro _ _)
    | intro _
    | dsimp only
    | split
    | with_reducible rfl
    | (fail_if_no_progress (with_reducible refine good_upd ?_ rfl (fun _ => rfl) (fun _ => rfl))))

theorem rxDrop_good (h : s.Good ql pp qq tv) (k : Nat) (fin : Option (Nat × Int)) (r : Rx) :
     (rxDrop k fin r s).Good ql pp qq tv := by
  unfold rxDrop
  repeat' (first
    | with_reducible assumption
    | with_reducible apply inc_good
    | with_reducible apply rxForget_good
    | with_reducible apply poolReturn_good
    | with_reducible refine rxPut_good ?_ _ _ _ _ (by assumption)
    | with_reducible apply dropEnd_good
    | with_reducible apply getD_map_good
    | with_reducible apply getD_good
    | (intro _ _)
    | intro _
    | dsimp only
    | split
    | with_reducible rfl
    | (fail_if_no_progress (with_reducible refine good_upd ?_ rfl (fun _ => rfl) (fun _ => rfl))))

theorem earlyPut_good (h : s.Good ql pp qq tv) (r : Rx) (len : Nat) (psdu : List Byte) :
     (earlyPut r len psdu s).2.Good ql pp qq tv := by
  unfold earlyPut
  repeat' (first
    | with_reducible assumption
    | with_reducible apply serWrite_good
    | with_reducible refine rxPut_good ?_ _ _ _ _ (by assumption)
    | with_reducible refine pair_good (by assumption) ?_
    | with_reducible refine triple_good (by assumption) ?_
    | (intro _ _)
    | intro _
    | dsimp only
    | split
    | with_reducible rfl
    | (fail_if_no_progress (with_reducible refine good_upd ?_ rfl (fun _ => rfl) (fun _ => rfl))))

theorem earlyDescriptor_good (h : s.Good ql pp qq tv) (src chan stream : Nat) (psdu : List Byte) :
     (earlyDescriptor src chan stream psdu s).Good ql pp qq tv := by
  unfold earlyDescriptor
  repeat' (first
    | with_reducible assumption
    | with_reducible apply rxUpdate_good
    | with_reducible apply earlyPut_good
    | with_reducible refine pair_good (by assumption) ?_
    | with_reducible refine triple_good (by assumption) ?_
    | (intro _ _)
    | intro _
    | dsimp only
    | split
    | with_reducible rfl
    | (fail_if_no_progress (with_reducible refine good_upd ?_ rfl (fun _ => rfl) (fun _ => rfl))))

theorem cellSpan_good (h : s.Good ql pp qq tv) (node slot asn chan : Nat) (sub : Bool) :
     (cellSpan node slot asn chan sub s).2.Good ql pp qq tv := by
  unfold cellSpan
  repeat' (first
    | with_reducible assumption
    | with_reducible apply serRead_good
    | (intro _ _)
    | intro _
    | dsimp only
    | split
    | with_reducible rfl
    | (fail_if_no_progress (with_reducible refine good_upd ?_ rfl (fun _ => rfl) (fun _ => rfl))))

theorem overlong_good (h : s.Good ql pp qq tv) (r : Rx) (stop : Nat) :
     (overlong r stop s).2.Good ql pp qq tv := by
  unfold overlong
  repeat' (first
    | with_reducible assumption
    | with_reducible apply cellSpan_good
    | with_reducible apply getD_map_good
    | with_reducible apply getD_good
    | (intro _ _)
    | intro _
    | dsimp only
    | split
    | with_reducible rfl
    | (fail_if_no_progress (with_reducible refine good_upd ?_ rfl (fun _ => rfl) (fun _ => rfl))))

theorem allowed_good (h : s.Good ql pp qq tv) (eui : List Byte) (x0 : Nat) :
     (allowed eui x0 s).2.Good ql pp qq tv := by
  fun_induction allowed eui x0 s
  all_goals repeat' (first
    | with_reducible assumption
    | with_reducible apply serRead_good
    | (intro _ _)
    | intro _
    | dsimp only
    | split
    | with_reducible rfl
    | (fail_if_no_progress (with_reducible refine good_upd ?_ rfl (fun _ => rfl) (fun _ => rfl)))
    | with_reducible apply_assumption)

theorem joinTaken_good (h : s.Good ql pp qq tv) (psdu : List Byte) :
     (joinTaken psdu s).2.Good ql pp qq tv := by
  unfold joinTaken
  repeat' (first
    | with_reducible assumption
    | with_reducible apply allowed_good
    | with_reducible refine pair_good (by assumption) ?_
    | with_reducible refine triple_good (by assumption) ?_
    | (intro _ _)
    | intro _
    | dsimp only
    | split
    | with_reducible rfl
    | (fail_if_no_progress (with_reducible refine good_upd ?_ rfl (fun _ => rfl) (fun _ => rfl))))

theorem countUplink_good (h : s.Good ql pp qq tv) (r : Rx) (t1 : Nat × Nat) (stop : Nat) (psdu : List Byte) :
     (countUplink r t1 stop psdu s).Good ql pp qq tv := by
  unfold countUplink
  repeat' (first
    | with_reducible assumption
    | with_reducible apply when_good
    | with_reducible apply inc_good
    | with_reducible apply overlong_good
    | with_reducible apply joinTaken_good
    | (intro _ _)
    | intro _
    | dsimp only
    | split
    | with_reducible rfl
    | (fail_if_no_progress (with_reducible refine good_upd ?_ rfl (fun _ => rfl) (fun _ => rfl))))

theorem joinsTick_good (h : s.Good ql pp qq tv) :
     (joinsTick s).Good ql pp qq tv := by
  unfold joinsTick
  repeat' (first
    | with_reducible assumption
    | with_reducible apply add_good
    | (intro _ _)
    | intro _
    | dsimp only
    | split
    | with_reducible rfl
    | (fail_if_no_progress (with_reducible refine good_upd ?_ rfl (fun _ => rfl) (fun _ => rfl))))

theorem rxFinish_good (h : s.Good ql pp qq tv) (r : Rx) (len phr : Nat) (t1 : Nat × Nat) (psdu : List Byte) (sinr : Int) :
     (rxFinish r len phr t1 psdu sinr s).2.Good ql pp qq tv := by
  unfold rxFinish
  repeat' (first
    | with_reducible assumption
    | with_reducible apply serWrite_good
    | with_reducible apply rxForget_good
    | with_reducible refine rxPut_good ?_ _ _ _ _ (by assumption)
    | with_reducible apply rxDrop_good
    | with_reducible refine pair_good (by assumption) ?_
    | with_reducible refine triple_good (by assumption) ?_
    | (intro _ _)
    | intro _
    | dsimp only
    | split
    | with_reducible rfl
    | (fail_if_no_progress (with_reducible refine good_upd ?_ rfl (fun _ => rfl) (fun _ => rfl))))

theorem frameEnd_good (h : s.Good ql pp qq tv) (src chan stream lag : Nat) (psdu : List Byte) (sinr : Int) :
     (frameEnd src chan stream lag psdu sinr s).Good ql pp qq tv := by
  unfold frameEnd
  repeat' (first
    | with_reducible assumption
    | with_reducible apply inc_good
    | with_reducible apply countUplink_good
    | with_reducible apply rxFinish_good
    | with_reducible refine pair_good (by assumption) ?_
    | with_reducible refine triple_good (by assumption) ?_
    | (intro _ _)
    | intro _
    | dsimp only
    | split
    | with_reducible rfl
    | (fail_if_no_progress (with_reducible refine good_upd ?_ rfl (fun _ => rfl) (fun _ => rfl))))

theorem agcFast_good (h : s.Good ql pp qq tv) (p : Nat) :
     (agcFast p s).Good ql pp qq tv := by
  unfold agcFast
  repeat' (first
    | with_reducible assumption
    | with_reducible apply put_good
    | with_reducible apply markGain_good
    | (intro _ _)
    | intro _
    | dsimp only
    | split
    | with_reducible rfl
    | (fail_if_no_progress (with_reducible refine good_upd ?_ rfl (fun _ => rfl) (fun _ => rfl))))

theorem rxPowerDown_good (h : s.Good ql pp qq tv) :
     (rxPowerDown s).Good ql pp qq tv := by
  unfold rxPowerDown
  repeat' (first
    | with_reducible assumption
    | with_reducible apply forAll_good
    | with_reducible apply puts_good
    | with_reducible apply rxDrop_good
    | (intro _ _)
    | intro _
    | dsimp only
    | split
    | with_reducible rfl
    | (fail_if_no_progress (with_reducible refine good_upd ?_ rfl (fun _ => rfl) (fun _ => rfl))))

theorem rxPowerUp_good (h : s.Good ql pp qq tv) :
     (rxPowerUp s).Good ql pp qq tv := by
  unfold rxPowerUp
  repeat' (first
    | with_reducible assumption
    | with_reducible apply puts_good
    | (intro _ _)
    | intro _
    | dsimp only
    | split
    | with_reducible rfl
    | (fail_if_no_progress (with_reducible refine good_upd ?_ rfl (fun _ => rfl) (fun _ => rfl))))

theorem rxRetune_good (h : s.Good ql pp qq tv) :
     (rxRetune s).Good ql pp qq tv := by
  unfold rxRetune
  repeat' (first
    | with_reducible assumption
    | with_reducible apply forAll_good
    | with_reducible apply rxDrop_good
    | (intro _ _)
    | intro _
    | dsimp only
    | split
    | with_reducible rfl
    | (fail_if_no_progress (with_reducible refine good_upd ?_ rfl (fun _ => rfl) (fun _ => rfl))))

theorem frxClear_good (h : s.Good ql pp qq tv) :
     (frxClear s).Good ql pp qq tv := by
  unfold frxClear
  repeat' (first
    | with_reducible assumption
    | with_reducible apply forN_good
    | with_reducible apply put_good
    | with_reducible apply puts_good
    | (intro _ _)
    | intro _
    | dsimp only
    | split
    | with_reducible rfl
    | (fail_if_no_progress (with_reducible refine good_upd ?_ rfl (fun _ => rfl) (fun _ => rfl))))

end Sys2Proof.Machine
end

