-- ==== Sys2Proof/Laws/GoodFtx.lean ====
section
/-!
SUPPORT. The operations of Machine/Ftx.lean keep the queue and the canonical form (Laws/Good.lean).
-/

namespace Sys2Proof.Machine

set_option linter.unusedTactic false
set_option linter.unreachableTactic false
set_option linter.unusedVariables false

variable {ql : List Instr} {pp qq : Prop} {tv : Nat × Nat × Nat × Nat × Option (Nat × Nat × Nat)} {s : State}

theorem setTxo_good (h : s.Good ql pp qq tv) (o : Nat) (t : TxOut) :
     (State.setTxo s o t).Good ql pp qq tv := by
  unfold State.setTxo
  repeat' (first
    | with_reducible assumption
    | (intro _ _)
    | intro _
    | dsimp only
    | split
    | with_reducible rfl
    | (fail_if_no_progress (with_reducible refine good_upd ?_ rfl (fun _ => rfl) (fun _ => rfl))))

theorem showBusy_good (h : s.Good ql pp qq tv) :
     (showBusy s).Good ql pp qq tv := by
  unfold showBusy
  repeat' (first
    | with_reducible assumption
    | with_reducible apply put_good
    | (intro _ _)
    | intro _
    | dsimp only
    | split
    | with_reducible rfl
    | (fail_if_no_progress (with_reducible refine good_upd ?_ rfl (fun _ => rfl) (fun _ => rfl))))

theorem addCarrier_good (h : s.Good ql pp qq tv) (c : Carrier) :
     (addCarrier c s).Good ql pp qq tv := by
  unfold addCarrier
  repeat' (first
    | with_reducible assumption
    | (intro _ _)
    | intro _
    | dsimp only
    | split
    | with_reducible rfl
    | (fail_if_no_progress (with_reducible refine good_upd ?_ rfl (fun _ => rfl) (fun _ => rfl))))

theorem placeList_good (h : s.Good ql pp qq tv) (e : TxEntry) (o chan : Nat) (kind : CarKind) (span : Nat) :
     (placeList e o chan kind span s).2.Good ql pp qq tv := by
  unfold placeList
  repeat' (first
    | with_reducible assumption
    | with_reducible apply inc_good
    | with_reducible apply addCarrier_good
    | (intro _ _)
    | intro _
    | dsimp only
    | split
    | with_reducible rfl
    | (fail_if_no_progress (with_reducible refine good_upd ?_ rfl (fun _ => rfl) (fun _ => rfl))))

theorem noCarrier_good (h : s.Good ql pp qq tv) :
     (noCarrier s).Good ql pp qq tv := by
  unfold noCarrier
  repeat' (first
    | with_reducible assumption
    | with_reducible apply inc_good
    | (intro _ _)
    | intro _
    | dsimp only
    | split
    | with_reducible rfl
    | (fail_if_no_progress (with_reducible refine good_upd ?_ rfl (fun _ => rfl) (fun _ => rfl))))

theorem beaconOn_good (e : TxEntry) (chans : List Nat) {a : Bool × State} (o : Nat) (h : a.2.Good ql pp qq tv) :
    (beaconOn e chans a o).2.Good ql pp qq tv := by
  unfold beaconOn
  dsimp only
  split
  · refine foldl_pair_good _ _ (fun b t ch h => ?_) (when_good h _ _ fun _ h => flag_good h _)
    dsimp only
    split
    · exact h
    · exact placeList_good h _ _ _ _ _
  · exact h

theorem placeBeacon_good (h : s.Good ql pp qq tv) (e : TxEntry) :
     (placeBeacon e s).Good ql pp qq tv := by
  unfold placeBeacon
  repeat' (first
    | with_reducible assumption
    | with_reducible apply when_good
    | with_reducible apply noCarrier_good
    | with_reducible apply beaconOn_good
    | with_reducible apply foldl_good
    | with_reducible apply foldl_pair_good
    | (intro _ _)
    | intro _
    | dsimp only
    | split
    | with_reducible rfl
    | (fail_if_no_progress (with_reducible refine good_upd ?_ rfl (fun _ => rfl) (fun _ => rfl))))

theorem placeData_good (h : s.Good ql pp qq tv) (e : TxEntry) :
     (placeData e s).Good ql pp qq tv := by
  unfold placeData
  repeat' (first
    | with_reducible assumption
    | with_reducible apply inc_good
    | with_reducible apply placeList_good
    | with_reducible apply noCarrier_good
    | with_reducible refine pair_good (by assumption) ?_
    | with_reducible refine triple_good (by assumption) ?_
    | (intro _ _)
    | intro _
    | dsimp only
    | split
    | with_reducible rfl
    | (fail_if_no_progress (with_reducible refine good_upd ?_ rfl (fun _ => rfl) (fun _ => rfl))))

theorem txAssign_good (h : s.Good ql pp qq tv) :
     (txAssign s).Good ql pp qq tv := by
  unfold txAssign
  repeat' (first
    | with_reducible assumption
    | with_reducible apply forAll_good
    | with_reducible apply forN_good
    | with_reducible apply when_good
    | with_reducible apply flag_good
    | with_reducible apply inc_good
    | with_reducible apply serRead_good
    | with_reducible apply noCarrier_good
    | with_reducible apply placeBeacon_good
    | with_reducible apply placeData_good
    | with_reducible refine pair_good (by assumption) ?_
    | with_reducible refine triple_good (by assumption) ?_
    | with_reducible apply foldl_good
    | with_reducible apply foldl_pair_good
    | (intro _ _)
    | intro _
    | dsimp only
    | split
    | with_reducible rfl
    | (fail_if_no_progress (with_reducible refine good_upd ?_ rfl (fun _ => rfl) (fun _ => rfl))))

theorem txSettings_good (h : s.Good ql pp qq tv) :
     (txSettings s).Good ql pp qq tv := by
  unfold txSettings
  repeat' (first
    | with_reducible assumption
    | with_reducible apply forN_good
    | with_reducible apply setTxo_good
    | (intro _ _)
    | intro _
    | dsimp only
    | split
    | with_reducible rfl
    | (fail_if_no_progress (with_reducible refine good_upd ?_ rfl (fun _ => rfl) (fun _ => rfl))))

theorem dropPlanned_good (h : s.Good ql pp qq tv) :
     (dropPlanned s).Good ql pp qq tv := by
  unfold dropPlanned
  repeat' (first
    | with_reducible assumption
    | (intro _ _)
    | intro _
    | dsimp only
    | split
    | with_reducible rfl
    | (fail_if_no_progress (with_reducible refine good_upd ?_ rfl (fun _ => rfl) (fun _ => rfl))))

theorem dropStale_good (h : s.Good ql pp qq tv) :
     (dropStale s).Good ql pp qq tv := by
  unfold dropStale
  repeat' (first
    | with_reducible assumption
    | (intro _ _)
    | intro _
    | dsimp only
    | split
    | with_reducible rfl
    | (fail_if_no_progress (with_reducible refine good_upd ?_ rfl (fun _ => rfl) (fun _ => rfl))))

theorem dpdCapture_good (h : s.Good ql pp qq tv) (sub : Bool) :
     (dpdCapture sub s).Good ql pp qq tv := by
  unfold dpdCapture
  repeat' (first
    | with_reducible assumption
    | with_reducible refine pair_good (by assumption) ?_
    | with_reducible refine triple_good (by assumption) ?_
    | with_reducible apply getD_map_good
    | with_reducible apply getD_good
    | (intro _ _)
    | intro _
    | dsimp only
    | split
    | with_reducible rfl
    | (fail_if_no_progress (with_reducible refine good_upd ?_ rfl (fun _ => rfl) (fun _ => rfl))))

theorem dpdApply_good (h : s.Good ql pp qq tv) (o : Nat) :
     (dpdApply o s).Good ql pp qq tv := by
  unfold dpdApply
  repeat' (first
    | with_reducible assumption
    | with_reducible apply when_good
    | with_reducible apply put_good
    | with_reducible apply flag_good
    | with_reducible apply incWrap_good
    | with_reducible apply bitOn_good
    | with_reducible apply setTxo_good
    | (intro _ _)
    | intro _
    | dsimp only
    | split
    | with_reducible rfl
    | (fail_if_no_progress (with_reducible refine good_upd ?_ rfl (fun _ => rfl) (fun _ => rfl))))

theorem dpdDone_good (h : s.Good ql pp qq tv) (o err : Nat) :
     (dpdDone o err s).Good ql pp qq tv := by
  unfold dpdDone
  repeat' (first
    | with_reducible assumption
    | with_reducible apply put_good
    | with_reducible apply setTxo_good
    | with_reducible apply getD_map_good
    | with_reducible apply getD_good
    | (intro _ _)
    | intro _
    | dsimp only
    | split
    | with_reducible rfl
    | (fail_if_no_progress (with_reducible refine good_upd ?_ rfl (fun _ => rfl) (fun _ => rfl))))

theorem dpdReseedOp_good (h : s.Good ql pp qq tv) :
     (dpdReseedOp s).Good ql pp qq tv := by
  unfold dpdReseedOp
  repeat' (first
    | with_reducible assumption
    | with_reducible apply forN_good
    | with_reducible apply setTxo_good
    | (intro _ _)
    | intro _
    | dsimp only
    | split
    | with_reducible rfl
    | (fail_if_no_progress (with_reducible refine good_upd ?_ rfl (fun _ => rfl) (fun _ => rfl))))

theorem startCarrier_good (h : s.Good ql pp qq tv) (c : Carrier) :
     (startCarrier c s).Good ql pp qq tv := by
  unfold startCarrier
  repeat' (first
    | with_reducible assumption
    | with_reducible apply inc_good
    | with_reducible apply setTxo_good
    | with_reducible apply showBusy_good
    | with_reducible refine pair_good (by assumption) ?_
    | with_reducible refine triple_good (by assumption) ?_
    | with_reducible apply getD_map_good
    | with_reducible apply getD_good
    | (intro _ _)
    | intro _
    | dsimp only
    | split
    | with_reducible rfl
    | (fail_if_no_progress (with_reducible refine good_upd ?_ rfl (fun _ => rfl) (fun _ => rfl))))

theorem cancelCarrier_good (h : s.Good ql pp qq tv) (c : Carrier) :
     (cancelCarrier c s).Good ql pp qq tv := by
  unfold cancelCarrier
  repeat' (first
    | with_reducible assumption
    | (intro _ _)
    | intro _
    | dsimp only
    | split
    | with_reducible rfl
    | (fail_if_no_progress (with_reducible refine good_upd ?_ rfl (fun _ => rfl) (fun _ => rfl))))

theorem countGone_good (h : s.Good ql pp qq tv) (c : Carrier) :
     (countGone c s).Good ql pp qq tv := by
  unfold countGone
  repeat' (first
    | with_reducible assumption
    | with_reducible apply inc_good
    | (intro _ _)
    | intro _
    | dsimp only
    | split
    | with_reducible rfl
    | (fail_if_no_progress (with_reducible refine good_upd ?_ rfl (fun _ => rfl) (fun _ => rfl))))

theorem tryStart_good (h : s.Good ql pp qq tv) (level : Bool) (c : Carrier) :
     (tryStart level c s).Good ql pp qq tv := by
  unfold tryStart
  repeat' (first
    | with_reducible assumption
    | with_reducible apply inc_good
    | with_reducible apply emit_good
    | with_reducible apply serRead_good
    | with_reducible apply startCarrier_good
    | with_reducible apply cancelCarrier_good
    | with_reducible apply countGone_good
    | (intro _ _)
    | intro _
    | dsimp only
    | split
    | with_reducible rfl
    | (fail_if_no_progress (with_reducible refine good_upd ?_ rfl (fun _ => rfl) (fun _ => rfl))))

theorem listFrameStart_good (h : s.Good ql pp qq tv) (o : Nat) (level : Bool) :
     (listFrameStart o level s).Good ql pp qq tv := by
  unfold listFrameStart
  repeat' (first
    | with_reducible assumption
    | with_reducible apply forAll_good
    | with_reducible apply tryStart_good
    | (intro _ _)
    | intro _
    | dsimp only
    | split
    | with_reducible rfl
    | (fail_if_no_progress (with_reducible refine good_upd ?_ rfl (fun _ => rfl) (fun _ => rfl))))

theorem carrierEnd_good (h : s.Good ql pp qq tv) (o chan : Nat) :
     (carrierEnd o chan s).Good ql pp qq tv := by
  unfold carrierEnd
  repeat' (first
    | with_reducible assumption
    | with_reducible apply setTxo_good
    | with_reducible apply showBusy_good
    | with_reducible apply cancelCarrier_good
    | with_reducible refine pair_good (by assumption) ?_
    | with_reducible refine triple_good (by assumption) ?_
    | with_reducible apply getD_map_good
    | with_reducible apply getD_good
    | (intro _ _)
    | intro _
    | dsimp only
    | split
    | with_reducible rfl
    | (fail_if_no_progress (with_reducible refine good_upd ?_ rfl (fun _ => rfl) (fun _ => rfl))))

theorem grantWithdrawn_good (h : s.Good ql pp qq tv) :
     (grantWithdrawn s).Good ql pp qq tv := by
  unfold grantWithdrawn
  repeat' (first
    | with_reducible assumption
    | with_reducible apply inc_good
    | (intro _ _)
    | intro _
    | dsimp only
    | split
    | with_reducible rfl
    | (fail_if_no_progress (with_reducible refine good_upd ?_ rfl (fun _ => rfl) (fun _ => rfl))))

theorem takeAck_good (h : s.Good ql pp qq tv) (off : Nat) :
     (takeAck off s).Good ql pp qq tv := by
  unfold takeAck
  repeat' (first
    | with_reducible assumption
    | with_reducible apply flag_good
    | with_reducible apply inc_good
    | with_reducible apply serRead_good
    | with_reducible apply addCarrier_good
    | (intro _ _)
    | intro _
    | dsimp only
    | split
    | with_reducible rfl
    | (fail_if_no_progress (with_reducible refine good_upd ?_ rfl (fun _ => rfl) (fun _ => rfl))))

theorem ackDrain_good (j : Nat) (x0 : Nat) :
     ∀ {s : State}, s.Good ql pp qq tv → (ackDrain j x0 s).Good ql pp qq tv := by
  induction x0 with
  | zero => intro s h; unfold ackDrain; exact h
  | succ k ih =>
    intro s h
    unfold ackDrain
    repeat' (first
      | with_reducible assumption
      | with_reducible apply ih
      | with_reducible apply put_good
      | with_reducible apply takeAck_good
      | (intro _ _)
      | intro _
      | dsimp only
      | split
      | with_reducible rfl
      | (fail_if_no_progress (with_reducible refine good_upd ?_ rfl (fun _ => rfl) (fun _ => rfl))))

theorem ackEffect_good (h : s.Good ql pp qq tv) (j v : Nat) :
     (ackEffect j v s).Good ql pp qq tv := by
  unfold ackEffect
  repeat' (first
    | with_reducible assumption
    | with_reducible apply put_good
    | with_reducible apply ackDrain_good
    | (intro _ _)
    | intro _
    | dsimp only
    | split
    | with_reducible rfl
    | (fail_if_no_progress (with_reducible refine good_upd ?_ rfl (fun _ => rfl) (fun _ => rfl))))

theorem ackWrWrite_good (h : s.Good ql pp qq tv) (j v : Nat) :
     (ackWrWrite j v s).Good ql pp qq tv := by
  unfold ackWrWrite
  repeat' (first
    | with_reducible assumption
    | with_reducible apply flag_good
    | with_reducible apply ackEffect_good
    | (intro _ _)
    | intro _
    | dsimp only
    | split
    | with_reducible rfl
    | (fail_if_no_progress (with_reducible refine good_upd ?_ rfl (fun _ => rfl) (fun _ => rfl))))

theorem ackWrEffect_good (h : s.Good ql pp qq tv) (j : Nat) :
     (ackWrEffect j s).Good ql pp qq tv := by
  unfold ackWrEffect
  repeat' (first
    | with_reducible assumption
    | with_reducible apply ackEffect_good
    | with_reducible refine pair_good (by assumption) ?_
    | with_reducible refine triple_good (by assumption) ?_
    | (intro _ _)
    | intro _
    | dsimp only
    | split
    | with_reducible rfl
    | (fail_if_no_progress (with_reducible refine good_upd ?_ rfl (fun _ => rfl) (fun _ => rfl))))

theorem ackRelease_good (h : s.Good ql pp qq tv) :
     (ackRelease s).Good ql pp qq tv := by
  unfold ackRelease
  repeat' (first
    | with_reducible assumption
    | with_reducible apply forAll_good
    | with_reducible apply ackEffect_good
    | (intro _ _)
    | intro _
    | dsimp only
    | split
    | with_reducible rfl
    | (fail_if_no_progress (with_reducible refine good_upd ?_ rfl (fun _ => rfl) (fun _ => rfl))))

theorem ackSend_good (h : s.Good ql pp qq tv) (o chan : Nat) (level : Bool) :
     (ackSend o chan level s).Good ql pp qq tv := by
  unfold ackSend
  repeat' (first
    | with_reducible assumption
    | with_reducible apply tryStart_good
    | with_reducible refine pair_good (by assumption) ?_
    | with_reducible refine triple_good (by assumption) ?_
    | (intro _ _)
    | intro _
    | dsimp only
    | split
    | with_reducible rfl
    | (fail_if_no_progress (with_reducible refine good_upd ?_ rfl (fun _ => rfl) (fun _ => rfl))))

theorem ackDiscard_good (h : s.Good ql pp qq tv) :
     (ackDiscard s).Good ql pp qq tv := by
  unfold ackDiscard
  repeat' (first
    | with_reducible assumption
    | with_reducible apply forN_good
    | with_reducible apply put_good
    | (intro _ _)
    | intro _
    | dsimp only
    | split
    | with_reducible rfl
    | (fail_if_no_progress (with_reducible refine good_upd ?_ rfl (fun _ => rfl) (fun _ => rfl))))

theorem ftxTick_good (h : s.Good ql pp qq tv) :
     (ftxTick s).Good ql pp qq tv := by
  unfold ftxTick
  repeat' (first
    | with_reducible assumption
    | with_reducible apply forN_good
    | with_reducible apply setTxo_good
    | with_reducible apply txAssign_good
    | with_reducible apply txSettings_good
    | with_reducible apply dropPlanned_good
    | with_reducible apply dropStale_good
    | with_reducible apply dpdCapture_good
    | with_reducible apply dpdApply_good
    | with_reducible apply ackDiscard_good
    | with_reducible apply foldl_good
    | with_reducible apply foldl_pair_good
    | (intro _ _)
    | intro _
    | dsimp only
    | split
    | with_reducible rfl
    | (fail_if_no_progress (with_reducible refine good_upd ?_ rfl (fun _ => rfl) (fun _ => rfl))))

theorem txEstop_good (h : s.Good ql pp qq tv) :
     (txEstop s).Good ql pp qq tv := by
  unfold txEstop
  repeat' (first
    | with_reducible assumption
    | with_reducible apply forAll_good
    | with_reducible apply dropPlanned_good
    | with_reducible apply countGone_good
    | (intro _ _)
    | intro _
    | dsimp only
    | split
    | with_reducible rfl
    | (fail_if_no_progress (with_reducible refine good_upd ?_ rfl (fun _ => rfl) (fun _ => rfl))))

theorem txSafe_good (h : s.Good ql pp qq tv) :
     (txSafe s).Good ql pp qq tv := by
  unfold txSafe
  repeat' (first
    | with_reducible assumption
    | with_reducible apply forN_good
    | with_reducible apply setTxo_good
    | with_reducible apply showBusy_good
    | with_reducible apply getD_map_good
    | with_reducible apply getD_good
    | (intro _ _)
    | intro _
    | dsimp only
    | split
    | with_reducible rfl
    | (fail_if_no_progress (with_reducible refine good_upd ?_ rfl (fun _ => rfl) (fun _ => rfl))))

theorem ftxClear_good (h : s.Good ql pp qq tv) :
     (ftxClear s).Good ql pp qq tv := by
  unfold ftxClear
  repeat' (first
    | with_reducible assumption
    | with_reducible apply forN_good
    | with_reducible apply put_good
    | with_reducible apply setTxo_good
    | (intro _ _)
    | intro _
    | dsimp only
    | split
    | with_reducible rfl
    | (fail_if_no_progress (with_reducible refine good_upd ?_ rfl (fun _ => rfl) (fun _ => rfl))))

end Sys2Proof.Machine
end

