-- ==== Sys2Proof/Laws/GoodUnits.lean ====
section
/-!
SUPPORT. The operations of Machine/Units.lean keep the queue and the canonical form (Laws/Good.lean).
-/

namespace Sys2Proof.Machine

set_option linter.unusedTactic false
set_option linter.unreachableTactic false
set_option linter.unusedVariables false

variable {ql : List Instr} {pp qq : Prop} {tv : Nat × Nat × Nat × Nat × Option (Nat × Nat × Nat)} {s : State}

theorem URing_pop_good (h : s.Good ql pp qq tv) (r : URing) :
     (URing.pop r s).Good ql pp qq tv := by
  unfold URing.pop
  repeat' (first
    | with_reducible assumption
    | with_reducible apply put_good
    | (intro _ _)
    | intro _
    | dsimp only
    | split
    | with_reducible rfl
    | (fail_if_no_progress (with_reducible refine good_upd ?_ rfl (fun _ => rfl) (fun _ => rfl))))

theorem evinAll_good (h : s.Good ql pp qq tv) (k : Nat) :
     (evinAll k s).Good ql pp qq tv := by
  unfold evinAll
  repeat' (first
    | with_reducible assumption
    | with_reducible apply evin_good
    | with_reducible apply forDrovers_good
    | (intro _ _)
    | intro _
    | dsimp only
    | split
    | with_reducible rfl
    | (fail_if_no_progress (with_reducible refine good_upd ?_ rfl (fun _ => rfl) (fun _ => rfl))))

end Sys2Proof.Machine
end

