-- ==== Sys2Proof/Laws/GoodBbl.lean ====
section
/-!
SUPPORT. The operations of Machine/Bbl.lean keep the queue and the canonical form (Laws/Good.lean).
-/

namespace Sys2Proof.Machine

set_option linter.unusedTactic false
set_option linter.unreachableTactic false
set_option linter.unusedVariables false

variable {ql : List Instr} {pp qq : Prop} {tv : Nat × Nat × Nat × Nat × Option (Nat × Nat × Nat)} {s : State}

theorem modLane_good (h : s.Good ql pp qq tv) (l : Fin 2) (f : Lane → Lane) :
     (State.modLane s l f).Good ql pp qq tv := by
  unfold State.modLane
  repeat' (first
    | with_reducible assumption
    | (intro _ _)
    | intro _
    | dsimp only
    | split
    | with_reducible rfl
    | (fail_if_no_progress (with_reducible refine good_upd ?_ rfl (fun _ => rfl) (fun _ => rfl))))

theorem setLaneState_good (h : s.Good ql pp qq tv) (l : Fin 2) (v : Nat) :
     (setLaneState l v s).Good ql pp qq tv := by
  unfold setLaneState
  repeat' (first
    | with_reducible assumption
    | with_reducible apply put_good
    | (intro _ _)
    | intro _
    | dsimp only
    | split
    | with_reducible rfl
    | (fail_if_no_progress (with_reducible refine good_upd ?_ rfl (fun _ => rfl) (fun _ => rfl))))

theorem dwellOn_good (h : s.Good ql pp qq tv) (l : Fin 2) (c : Option Nat) :
     (dwellOn l c s).Good ql pp qq tv := by
  unfold dwellOn
  repeat' (first
    | with_reducible assumption
    | with_reducible apply put_good
    | with_reducible apply modLane_good
    | with_reducible refine pair_good (by assumption) ?_
    | with_reducible refine triple_good (by assumption) ?_
    | (intro _ _)
    | intro _
    | dsimp only
    | split
    | with_reducible rfl
    | (fail_if_no_progress (with_reducible refine good_upd ?_ rfl (fun _ => rfl) (fun _ => rfl))))

theorem enterSearch_good (h : s.Good ql pp qq tv) (l : Fin 2) :
     (enterSearch l s).Good ql pp qq tv := by
  unfold enterSearch
  repeat' (first
    | with_reducible assumption
    | with_reducible apply modLane_good
    | with_reducible apply setLaneState_good
    | with_reducible apply dwellOn_good
    | (intro _ _)
    | intro _
    | dsimp only
    | split
    | with_reducible rfl
    | (fail_if_no_progress (with_reducible refine good_upd ?_ rfl (fun _ => rfl) (fun _ => rfl))))

theorem laneStatus_good (h : s.Good ql pp qq tv) (base st : Nat) :
     (laneStatus base st s).Good ql pp qq tv := by
  unfold laneStatus
  repeat' (first
    | with_reducible assumption
    | with_reducible apply serWrite_good
    | (intro _ _)
    | intro _
    | dsimp only
    | split
    | with_reducible rfl
    | (fail_if_no_progress (with_reducible refine good_upd ?_ rfl (fun _ => rfl) (fun _ => rfl))))

theorem dropPins_good (h : s.Good ql pp qq tv) (l : Fin 2) :
     (dropPins l s).Good ql pp qq tv := by
  unfold dropPins
  repeat' (first
    | with_reducible assumption
    | with_reducible apply modLane_good
    | (intro _ _)
    | intro _
    | dsimp only
    | split
    | with_reducible rfl
    | (fail_if_no_progress (with_reducible refine good_upd ?_ rfl (fun _ => rfl) (fun _ => rfl))))

theorem laneEnd_good (h : s.Good ql pp qq tv) (l : Fin 2) (st : Nat) :
     (laneEnd l st s).Good ql pp qq tv := by
  unfold laneEnd
  repeat' (first
    | with_reducible assumption
    | with_reducible apply modLane_good
    | with_reducible apply laneStatus_good
    | with_reducible apply dropPins_good
    | (intro _ _)
    | intro _
    | dsimp only
    | split
    | with_reducible rfl
    | (fail_if_no_progress (with_reducible refine good_upd ?_ rfl (fun _ => rfl) (fun _ => rfl))))

theorem openWin_good (h : s.Good ql pp qq tv) (l : Fin 2) (k : LaneWinKind) (expect : Nat) :
     (openWin l k expect s).Good ql pp qq tv := by
  unfold openWin
  repeat' (first
    | with_reducible assumption
    | with_reducible apply modLane_good
    | (intro _ _)
    | intro _
    | dsimp only
    | split
    | with_reducible rfl
    | (fail_if_no_progress (with_reducible refine good_upd ?_ rfl (fun _ => rfl) (fun _ => rfl))))

theorem openBeacon_good (h : s.Good ql pp qq tv) (l : Fin 2) :
     (openBeacon l s).Good ql pp qq tv := by
  unfold openBeacon
  repeat' (first
    | with_reducible assumption
    | with_reducible apply modLane_good
    | with_reducible apply openWin_good
    | (intro _ _)
    | intro _
    | dsimp only
    | split
    | with_reducible rfl
    | (fail_if_no_progress (with_reducible refine good_upd ?_ rfl (fun _ => rfl) (fun _ => rfl))))

theorem beaconMissed_good (h : s.Good ql pp qq tv) (l : Fin 2) :
     (beaconMissed l s).Good ql pp qq tv := by
  unfold beaconMissed
  repeat' (first
    | with_reducible assumption
    | with_reducible apply inc_good
    | with_reducible apply produce_good
    | with_reducible apply modLane_good
    | with_reducible apply setLaneState_good
    | (intro _ _)
    | intro _
    | dsimp only
    | split
    | with_reducible rfl
    | (fail_if_no_progress (with_reducible refine good_upd ?_ rfl (fun _ => rfl) (fun _ => rfl))))

theorem laneWindowClose_good (h : s.Good ql pp qq tv) (l : Fin 2) :
     (laneWindowClose l s).Good ql pp qq tv := by
  unfold laneWindowClose
  repeat' (first
    | with_reducible assumption
    | with_reducible apply modLane_good
    | with_reducible apply laneEnd_good
    | with_reducible apply beaconMissed_good
    | with_reducible refine pair_good (by assumption) ?_
    | with_reducible refine triple_good (by assumption) ?_
    | (intro _ _)
    | intro _
    | dsimp only
    | split
    | with_reducible rfl
    | (fail_if_no_progress (with_reducible refine good_upd ?_ rfl (fun _ => rfl) (fun _ => rfl))))

theorem laneSlotEnd_good (h : s.Good ql pp qq tv) (l : Fin 2) :
     (laneSlotEnd l s).Good ql pp qq tv := by
  unfold laneSlotEnd
  repeat' (first
    | with_reducible assumption
    | with_reducible apply inc_good
    | with_reducible apply laneEnd_good
    | with_reducible apply laneWindowClose_good
    | (intro _ _)
    | intro _
    | dsimp only
    | split
    | with_reducible rfl
    | (fail_if_no_progress (with_reducible refine good_upd ?_ rfl (fun _ => rfl) (fun _ => rfl))))

theorem clearProg_good (h : s.Good ql pp qq tv) (l : Fin 2) :
     (clearProg l s).Good ql pp qq tv := by
  unfold clearProg
  repeat' (first
    | with_reducible assumption
    | (intro _ _)
    | intro _
    | dsimp only
    | split
    | with_reducible rfl
    | (fail_if_no_progress (with_reducible refine good_upd ?_ rfl (fun _ => rfl) (fun _ => rfl))))

theorem startWork_good (h : s.Good ql pp qq tv) (l : Fin 2) (chan : Nat) :
     (startWork l chan s).Good ql pp qq tv := by
  unfold startWork
  repeat' (first
    | with_reducible assumption
    | with_reducible apply puts_good
    | (intro _ _)
    | intro _
    | dsimp only
    | split
    | with_reducible rfl
    | (fail_if_no_progress (with_reducible refine good_upd ?_ rfl (fun _ => rfl) (fun _ => rfl))))

theorem planPins_good (h : s.Good ql pp qq tv) (l : Fin 2) (op len : Nat) (pri : Bool) :
     (planPins l op len pri s).Good ql pp qq tv := by
  unfold planPins
  repeat' (first
    | with_reducible assumption
    | with_reducible apply modLane_good
    | (intro _ _)
    | intro _
    | dsimp only
    | split
    | with_reducible rfl
    | (fail_if_no_progress (with_reducible refine good_upd ?_ rfl (fun _ => rfl) (fun _ => rfl))))

theorem takeEntry_good (h : s.Good ql pp qq tv) (l : Fin 2) (base : Nat) (e : List Byte) :
     (takeEntry l base e s).Good ql pp qq tv := by
  unfold takeEntry
  repeat' (first
    | with_reducible assumption
    | with_reducible apply flag_good
    | with_reducible apply modLane_good
    | with_reducible apply laneStatus_good
    | with_reducible apply openWin_good
    | with_reducible apply startWork_good
    | with_reducible apply planPins_good
    | with_reducible refine pair_good (by assumption) ?_
    | with_reducible refine triple_good (by assumption) ?_
    | with_reducible apply getD_map_good
    | with_reducible apply getD_good
    | (intro _ _)
    | intro _
    | dsimp only
    | split
    | with_reducible rfl
    | (fail_if_no_progress (with_reducible refine good_upd ?_ rfl (fun _ => rfl) (fun _ => rfl))))

theorem cancelEntry_good (h : s.Good ql pp qq tv) (l : Fin 2) (base : Nat) :
     (cancelEntry l base s).Good ql pp qq tv := by
  unfold cancelEntry
  repeat' (first
    | with_reducible assumption
    | with_reducible apply inc_good
    | with_reducible apply laneStatus_good
    | (intro _ _)
    | intro _
    | dsimp only
    | split
    | with_reducible rfl
    | (fail_if_no_progress (with_reducible refine good_upd ?_ rfl (fun _ => rfl) (fun _ => rfl))))

theorem beaconSlot_good (h : s.Good ql pp qq tv) (l : Fin 2) :
     (beaconSlot l s).Good ql pp qq tv := by
  unfold beaconSlot
  repeat' (first
    | with_reducible assumption
    | with_reducible apply openBeacon_good
    | with_reducible apply startWork_good
    | with_reducible refine pair_good (by assumption) ?_
    | with_reducible refine triple_good (by assumption) ?_
    | (intro _ _)
    | intro _
    | dsimp only
    | split
    | with_reducible rfl
    | (fail_if_no_progress (with_reducible refine good_upd ?_ rfl (fun _ => rfl) (fun _ => rfl))))

theorem stagedEntry_good (h : s.Good ql pp qq tv) (l : Fin 2) :
     (stagedEntry l s).2.Good ql pp qq tv := by
  unfold stagedEntry
  repeat' (first
    | with_reducible assumption
    | with_reducible apply inc_good
    | with_reducible apply serRead_good
    | with_reducible apply clearProg_good
    | with_reducible refine pair_good (by assumption) ?_
    | with_reducible refine triple_good (by assumption) ?_
    | (intro _ _)
    | intro _
    | dsimp only
    | split
    | with_reducible rfl
    | (fail_if_no_progress (with_reducible refine good_upd ?_ rfl (fun _ => rfl) (fun _ => rfl))))

theorem laneSlotStart_good (h : s.Good ql pp qq tv) (l : Fin 2) :
     (laneSlotStart l s).Good ql pp qq tv := by
  unfold laneSlotStart
  repeat' (first
    | with_reducible assumption
    | with_reducible apply when_good
    | with_reducible apply put_good
    | with_reducible apply modLane_good
    | with_reducible apply laneStatus_good
    | with_reducible apply laneSlotEnd_good
    | with_reducible apply takeEntry_good
    | with_reducible apply cancelEntry_good
    | with_reducible apply beaconSlot_good
    | with_reducible apply stagedEntry_good
    | with_reducible refine pair_good (by assumption) ?_
    | with_reducible refine triple_good (by assumption) ?_
    | with_reducible apply getD_map_good
    | with_reducible apply getD_good
    | (intro _ _)
    | intro _
    | dsimp only
    | split
    | with_reducible rfl
    | (fail_if_no_progress (with_reducible refine good_upd ?_ rfl (fun _ => rfl) (fun _ => rfl))))

theorem laneCalEnd_good (h : s.Good ql pp qq tv) (l : Fin 2) :
     (laneCalEnd l s).Good ql pp qq tv := by
  unfold laneCalEnd
  repeat' (first
    | with_reducible assumption
    | with_reducible apply put_good
    | with_reducible apply modLane_good
    | (intro _ _)
    | intro _
    | dsimp only
    | split
    | with_reducible rfl
    | (fail_if_no_progress (with_reducible refine good_upd ?_ rfl (fun _ => rfl) (fun _ => rfl))))

theorem laneGo_good (h : s.Good ql pp qq tv) (l : Fin 2) (m : Nat) (entry : Option Nat) (ackreq : Bool) (cls : Nat) (pri white : Bool) (psdu : List Byte) :
     (laneGo l m entry ackreq cls pri white psdu s).Good ql pp qq tv := by
  unfold laneGo
  repeat' (first
    | with_reducible assumption
    | with_reducible apply puts_good
    | with_reducible apply emit_good
    | with_reducible apply modLane_good
    | (intro _ _)
    | intro _
    | dsimp only
    | split
    | with_reducible rfl
    | (fail_if_no_progress (with_reducible refine good_upd ?_ rfl (fun _ => rfl) (fun _ => rfl))))

theorem laneTxStart_good (h : s.Good ql pp qq tv) (l : Fin 2) (level : Bool) :
     (laneTxStart l level s).Good ql pp qq tv := by
  unfold laneTxStart
  repeat' (first
    | with_reducible assumption
    | with_reducible apply inc_good
    | with_reducible apply serRead_good
    | with_reducible apply modLane_good
    | with_reducible apply laneEnd_good
    | with_reducible apply laneGo_good
    | with_reducible refine pair_good (by assumption) ?_
    | with_reducible refine triple_good (by assumption) ?_
    | (intro _ _)
    | intro _
    | dsimp only
    | split
    | with_reducible rfl
    | (fail_if_no_progress (with_reducible refine good_upd ?_ rfl (fun _ => rfl) (fun _ => rfl))))

theorem laneTxEnd_good (h : s.Good ql pp qq tv) (l : Fin 2) :
     (laneTxEnd l s).Good ql pp qq tv := by
  unfold laneTxEnd
  repeat' (first
    | with_reducible assumption
    | with_reducible apply put_good
    | with_reducible apply inc_good
    | with_reducible apply modLane_good
    | with_reducible apply laneStatus_good
    | with_reducible apply laneEnd_good
    | with_reducible apply openWin_good
    | with_reducible refine pair_good (by assumption) ?_
    | with_reducible refine triple_good (by assumption) ?_
    | (intro _ _)
    | intro _
    | dsimp only
    | split
    | with_reducible rfl
    | (fail_if_no_progress (with_reducible refine good_upd ?_ rfl (fun _ => rfl) (fun _ => rfl))))

theorem laneWrEffect_good (h : s.Good ql pp qq tv) (l : Fin 2) (v : Nat) :
     (laneWrEffect l v s).Good ql pp qq tv := by
  unfold laneWrEffect
  repeat' (first
    | with_reducible assumption
    | with_reducible apply put_good
    | with_reducible apply modLane_good
    | (intro _ _)
    | intro _
    | dsimp only
    | split
    | with_reducible rfl
    | (fail_if_no_progress (with_reducible refine good_upd ?_ rfl (fun _ => rfl) (fun _ => rfl))))

theorem laneWrWrite_good (h : s.Good ql pp qq tv) (l : Fin 2) (v : Nat) :
     (laneWrWrite l v s).Good ql pp qq tv := by
  unfold laneWrWrite
  repeat' (first
    | with_reducible assumption
    | with_reducible apply flag_good
    | with_reducible apply laneWrEffect_good
    | (intro _ _)
    | intro _
    | dsimp only
    | split
    | with_reducible rfl
    | (fail_if_no_progress (with_reducible refine good_upd ?_ rfl (fun _ => rfl) (fun _ => rfl))))

theorem laneRelease_good (h : s.Good ql pp qq tv) :
     (laneRelease s).Good ql pp qq tv := by
  unfold laneRelease
  repeat' (first
    | with_reducible assumption
    | with_reducible apply forAll_good
    | with_reducible apply laneWrEffect_good
    | (intro _ _)
    | intro _
    | dsimp only
    | split
    | with_reducible rfl
    | (fail_if_no_progress (with_reducible refine good_upd ?_ rfl (fun _ => rfl) (fun _ => rfl))))

theorem sendPop_good (h : s.Good ql pp qq tv) (l : Fin 2) :
     (sendPop l s).Good ql pp qq tv := by
  unfold sendPop
  repeat' (first
    | with_reducible assumption
    | with_reducible apply put_good
    | with_reducible apply modLane_good
    | (intro _ _)
    | intro _
    | dsimp only
    | split
    | with_reducible rfl
    | (fail_if_no_progress (with_reducible refine good_upd ?_ rfl (fun _ => rfl) (fun _ => rfl))))

theorem laneSendEntry_good (h : s.Good ql pp qq tv) (l : Fin 2) (level : Bool) :
    (laneSendEntry l level s).Good ql pp qq tv := by
  unfold laneSendEntry
  split
  · exact h
  · extract_lets r s1 f e a chan phy good m stop overlap cls s2 p
    have hr : r.2.2.Good ql pp qq tv := by apply serRead_good h
    have h1 : s1.Good ql pp qq tv := by apply sendPop_good hr
    have h2 : s2.Good ql pp qq tv := by apply modLane_good; exact put_good h1 _ _
    have hp : p.2.2.Good ql pp qq tv := by apply serRead_good h2
    clear_value r s1 good m stop overlap s2 p
    refine ite_good (fun _ => inc_good h1 _) fun _ => ite_good (fun _ => h1) fun _ => ite_good (fun _ => inc_good h1 _) fun _ => ?_
    refine ite_good (fun _ => flag_good h1 _) fun _ => ite_good (fun _ => inc_good h1 _) fun _ => ?_
    refine ite_good (fun _ => by apply dropPins_good h2) fun _ => ?_
    exact ite_good (fun _ => by apply dropPins_good; exact inc_good hp _) fun _ => by apply laneGo_good hp

theorem setLasnOff_good (h : s.Good ql pp qq tv) (l : Fin 2) (v : Int) :
     (setLasnOff l v s).Good ql pp qq tv := by
  unfold setLasnOff
  repeat' (first
    | with_reducible assumption
    | with_reducible apply puts_good
    | (intro _ _)
    | intro _
    | dsimp only
    | split
    | with_reducible rfl
    | (fail_if_no_progress (with_reducible refine good_upd ?_ rfl (fun _ => rfl) (fun _ => rfl))))

theorem setPhase_good (h : s.Good ql pp qq tv) (l : Fin 2) (v : Int) :
     (setPhase l v s).Good ql pp qq tv := by
  unfold setPhase
  repeat' (first
    | with_reducible assumption
    | with_reducible apply putS_good
    | with_reducible apply modLane_good
    | (intro _ _)
    | intro _
    | dsimp only
    | split
    | with_reducible rfl
    | (fail_if_no_progress (with_reducible refine good_upd ?_ rfl (fun _ => rfl) (fun _ => rfl))))

theorem normPhase_good (h : s.Good ql pp qq tv) (l : Fin 2) :
     (normPhase l s).Good ql pp qq tv := by
  unfold normPhase
  repeat' (first
    | with_reducible assumption
    | with_reducible apply putS_good
    | with_reducible apply setLasnOff_good
    | (intro _ _)
    | intro _
    | dsimp only
    | split
    | with_reducible rfl
    | (fail_if_no_progress (with_reducible refine good_upd ?_ rfl (fun _ => rfl) (fun _ => rfl))))

theorem trackUpdate_good (h : s.Good ql pp qq tv) (l : Fin 2) (e : Int) (t0 : Nat) :
     (trackUpdate l e t0 s).Good ql pp qq tv := by
  unfold trackUpdate
  repeat' (first
    | with_reducible assumption
    | with_reducible apply putS_good
    | with_reducible apply add_good
    | with_reducible apply fresh_good
    | with_reducible apply modLane_good
    | with_reducible apply setPhase_good
    | (intro _ _)
    | intro _
    | dsimp only
    | split
    | with_reducible rfl
    | (fail_if_no_progress (with_reducible refine good_upd ?_ rfl (fun _ => rfl) (fun _ => rfl))))

theorem acceptBeacon_good (h : s.Good ql pp qq tv) (l : Fin 2) (lasn mask : Nat) (t0 : Nat) (i : Nat × Nat) (expect : Nat) :
     (acceptBeacon l lasn mask t0 i expect s).Good ql pp qq tv := by
  unfold acceptBeacon
  repeat' (first
    | with_reducible assumption
    | with_reducible apply put_good
    | with_reducible apply modLane_good
    | with_reducible apply setLaneState_good
    | with_reducible apply setLasnOff_good
    | with_reducible apply setPhase_good
    | with_reducible apply normPhase_good
    | with_reducible apply trackUpdate_good
    | (intro _ _)
    | intro _
    | dsimp only
    | split
    | with_reducible rfl
    | (fail_if_no_progress (with_reducible refine good_upd ?_ rfl (fun _ => rfl) (fun _ => rfl))))

theorem laneDeliver_good (h : s.Good ql pp qq tv) (l : Fin 2) (r : Rx) (phr : Nat) (t1 : Nat × Nat) (psdu : List Byte) (sinr : Int) :
     (laneDeliver l r phr t1 psdu sinr s).Good ql pp qq tv := by
  unfold laneDeliver
  repeat' (first
    | with_reducible assumption
    | with_reducible apply when_good
    | with_reducible apply inc_good
    | with_reducible refine poolTake_good ?_ _ _ (by assumption)
    | with_reducible apply earlyPut_good
    | with_reducible apply rxFinish_good
    | with_reducible refine pair_good (by assumption) ?_
    | with_reducible refine triple_good (by assumption) ?_
    | (intro _ _)
    | intro _
    | dsimp only
    | split
    | with_reducible rfl
    | (fail_if_no_progress (with_reducible refine good_upd ?_ rfl (fun _ => rfl) (fun _ => rfl))))

theorem laneFrame_good (h : s.Good ql pp qq tv) (l : Fin 2) (lagS lagE phrBits : Nat) (raw : List Byte) (power sinr cfo : Int) :
     (laneFrame l lagS lagE phrBits raw power sinr cfo s).Good ql pp qq tv := by
  unfold laneFrame
  repeat' (first
    | with_reducible assumption
    | with_reducible apply modLane_good
    | with_reducible apply laneEnd_good
    | with_reducible apply beaconMissed_good
    | with_reducible apply trackUpdate_good
    | with_reducible apply acceptBeacon_good
    | with_reducible apply laneDeliver_good
    | with_reducible refine pair_good (by assumption) ?_
    | with_reducible refine triple_good (by assumption) ?_
    | with_reducible apply getD_map_good
    | with_reducible apply getD_good
    | (intro _ _)
    | intro _
    | dsimp only
    | split
    | with_reducible rfl
    | (fail_if_no_progress (with_reducible refine good_upd ?_ rfl (fun _ => rfl) (fun _ => rfl))))

theorem reacqEnd_good (h : s.Good ql pp qq tv) (l : Fin 2) :
     (reacqEnd l s).Good ql pp qq tv := by
  unfold reacqEnd
  repeat' (first
    | with_reducible assumption
    | with_reducible apply enterSearch_good
    | (intro _ _)
    | intro _
    | dsimp only
    | split
    | with_reducible rfl
    | (fail_if_no_progress (with_reducible refine good_upd ?_ rfl (fun _ => rfl) (fun _ => rfl))))

theorem dwellEnd_good (h : s.Good ql pp qq tv) (l : Fin 2) :
     (dwellEnd l s).Good ql pp qq tv := by
  unfold dwellEnd
  repeat' (first
    | with_reducible assumption
    | with_reducible apply dwellOn_good
    | (intro _ _)
    | intro _
    | dsimp only
    | split
    | with_reducible rfl
    | (fail_if_no_progress (with_reducible refine good_upd ?_ rfl (fun _ => rfl) (fun _ => rfl))))

theorem researchOp_good (h : s.Good ql pp qq tv) (l : Fin 2) :
     (researchOp l s).Good ql pp qq tv := by
  unfold researchOp
  repeat' (first
    | with_reducible assumption
    | with_reducible apply puts_good
    | with_reducible apply modLane_good
    | with_reducible apply enterSearch_good
    | with_reducible apply laneEnd_good
    | (intro _ _)
    | intro _
    | dsimp only
    | split
    | with_reducible rfl
    | (fail_if_no_progress (with_reducible refine good_upd ?_ rfl (fun _ => rfl) (fun _ => rfl))))

theorem bgStep_good (h : s.Good ql pp qq tv) (l : Fin 2) (k : Fin 4) (abort : Bool) :
     (bgStep l k abort s).Good ql pp qq tv := by
  unfold bgStep
  repeat' (first
    | with_reducible assumption
    | with_reducible apply modLane_good
    | (intro _ _)
    | intro _
    | dsimp only
    | split
    | with_reducible rfl
    | (fail_if_no_progress (with_reducible refine good_upd ?_ rfl (fun _ => rfl) (fun _ => rfl))))

theorem bgOverdue_good (h : s.Good ql pp qq tv) (l : Fin 2) (k : Fin 4) :
     (bgOverdue l k s).Good ql pp qq tv := by
  unfold bgOverdue
  repeat' (first
    | with_reducible assumption
    | with_reducible apply inc_good
    | with_reducible apply modLane_good
    | with_reducible apply getD_map_good
    | with_reducible apply getD_good
    | (intro _ _)
    | intro _
    | dsimp only
    | split
    | with_reducible rfl
    | (fail_if_no_progress (with_reducible refine good_upd ?_ rfl (fun _ => rfl) (fun _ => rfl))))

theorem laneStart_good (h : s.Good ql pp qq tv) (l : Fin 2) :
     (laneStart l s).Good ql pp qq tv := by
  unfold laneStart
  repeat' (first
    | with_reducible assumption
    | with_reducible apply modLane_good
    | with_reducible apply setLaneState_good
    | with_reducible apply enterSearch_good
    | (intro _ _)
    | intro _
    | dsimp only
    | split
    | with_reducible rfl
    | (fail_if_no_progress (with_reducible refine good_upd ?_ rfl (fun _ => rfl) (fun _ => rfl))))

theorem laneStop_good (h : s.Good ql pp qq tv) (l : Fin 2) :
     (laneStop l s).Good ql pp qq tv := by
  unfold laneStop
  repeat' (first
    | with_reducible assumption
    | with_reducible apply setReg_good
    | with_reducible apply modLane_good
    | (intro _ _)
    | intro _
    | dsimp only
    | split
    | with_reducible rfl
    | (fail_if_no_progress (with_reducible refine good_upd ?_ rfl (fun _ => rfl) (fun _ => rfl))))

theorem laneQuit_good (h : s.Good ql pp qq tv) (l : Fin 2) :
     (laneQuit l s).Good ql pp qq tv := by
  unfold laneQuit
  repeat' (first
    | with_reducible assumption
    | with_reducible apply setReg_good
    | with_reducible apply puts_good
    | with_reducible apply modLane_good
    | with_reducible apply laneEnd_good
    | with_reducible apply laneStop_good
    | (intro _ _)
    | intro _
    | dsimp only
    | split
    | with_reducible rfl
    | (fail_if_no_progress (with_reducible refine good_upd ?_ rfl (fun _ => rfl) (fun _ => rfl))))

theorem laneTick_good (h : s.Good ql pp qq tv) (l : Fin 2) :
     (laneTick l s).Good ql pp qq tv := by
  unfold laneTick
  repeat' (first
    | with_reducible assumption
    | with_reducible apply modLane_good
    | (intro _ _)
    | intro _
    | dsimp only
    | split
    | with_reducible rfl
    | (fail_if_no_progress (with_reducible refine good_upd ?_ rfl (fun _ => rfl) (fun _ => rfl))))

theorem bblClear_good (h : s.Good ql pp qq tv) :
     (bblClear s).Good ql pp qq tv := by
  unfold bblClear
  repeat' (first
    | with_reducible assumption
    | with_reducible apply forN_good
    | with_reducible apply put_good
    | (intro _ _)
    | intro _
    | dsimp only
    | split
    | with_reducible rfl
    | (fail_if_no_progress (with_reducible refine good_upd ?_ rfl (fun _ => rfl) (fun _ => rfl))))

end Sys2Proof.Machine
end

