-- ==== Sys2Proof/Laws/GoodFlash.lean ====
section
/-!
SUPPORT. The operations of Machine/Flash.lean keep the queue and the canonical form (Laws/Good.lean).
-/

namespace Sys2Proof.Machine

set_option linter.unusedTactic false
set_option linter.unreachableTactic false
set_option linter.unusedVariables false

variable {ql : List Instr} {pp qq : Prop} {tv : Nat × Nat × Nat × Nat × Option (Nat × Nat × Nat)} {s : State}

theorem flsPutWord_good (h : s.Good ql pp qq tv) (w v : Nat) :
     (flsPutWord w v s).Good ql pp qq tv := by
  unfold flsPutWord
  repeat' (first
    | with_reducible assumption
    | with_reducible apply fresh_good
    | with_reducible refine pair_good (by assumption) ?_
    | with_reducible refine triple_good (by assumption) ?_
    | (intro _ _)
    | intro _
    | dsimp only
    | split
    | with_reducible rfl
    | (fail_if_no_progress (with_reducible refine good_upd ?_ rfl (fun _ => rfl) (fun _ => rfl))))

theorem flsPut_good (h : s.Good ql pp qq tv) (a : Nat) (bs : List Byte) : (flsPut a bs s).Good ql pp qq tv := by
  fun_induction flsPut a bs s with
  | case1 _ _ _ _ _ _ _ _ _ _ _ ih => exact ih (flsPutWord_good h _ _)
  | case2 => exact h

theorem flsBlankSector_good (h : s.Good ql pp qq tv) (k : Nat) :
     (flsBlankSector k s).Good ql pp qq tv := by
  unfold flsBlankSector
  repeat' (first
    | with_reducible assumption
    | (intro _ _)
    | intro _
    | dsimp only
    | split
    | with_reducible rfl
    | (fail_if_no_progress (with_reducible refine good_upd ?_ rfl (fun _ => rfl) (fun _ => rfl))))

theorem openAdd_good (h : s.Good ql pp qq tv) (k : Nat) (failed : Bool) :
     (openAdd k failed s).Good ql pp qq tv := by
  unfold openAdd
  repeat' (first
    | with_reducible assumption
    | with_reducible apply put_good
    | with_reducible apply puts_good
    | with_reducible refine pair_good (by assumption) ?_
    | with_reducible refine triple_good (by assumption) ?_
    | (intro _ _)
    | intro _
    | dsimp only
    | split
    | with_reducible rfl
    | (fail_if_no_progress (with_reducible refine good_upd ?_ rfl (fun _ => rfl) (fun _ => rfl))))

theorem openDel_good (h : s.Good ql pp qq tv) (k : Nat) :
     (openDel k s).Good ql pp qq tv := by
  unfold openDel
  repeat' (first
    | with_reducible assumption
    | with_reducible apply setReg_good
    | with_reducible apply forN_good
    | (intro _ _)
    | intro _
    | dsimp only
    | split
    | with_reducible rfl
    | (fail_if_no_progress (with_reducible refine good_upd ?_ rfl (fun _ => rfl) (fun _ => rfl))))

theorem jPut_good (h : s.Good ql pp qq tv) (ty pulses sector : Nat) :
     (jPut ty pulses sector s).Good ql pp qq tv := by
  unfold jPut
  repeat' (first
    | with_reducible assumption
    | with_reducible apply flsPut_good
    | (intro _ _)
    | intro _
    | dsimp only
    | split
    | with_reducible rfl
    | (fail_if_no_progress (with_reducible refine good_upd ?_ rfl (fun _ => rfl) (fun _ => rfl))))

theorem jMove_good (h : s.Good ql pp qq tv) (k : Nat) :
     (jMove k s).Good ql pp qq tv := by
  unfold jMove
  repeat' (first
    | with_reducible assumption
    | with_reducible apply forAll_good
    | with_reducible apply flsBlankSector_good
    | with_reducible apply jPut_good
    | (intro _ _)
    | intro _
    | dsimp only
    | split
    | with_reducible rfl
    | (fail_if_no_progress (with_reducible refine good_upd ?_ rfl (fun _ => rfl) (fun _ => rfl))))

theorem jRecord_good (h : s.Good ql pp qq tv) (ty pulses sector : Nat) :
     (jRecord ty pulses sector s).Good ql pp qq tv := by
  unfold jRecord
  repeat' (first
    | with_reducible assumption
    | with_reducible apply jPut_good
    | with_reducible apply jMove_good
    | (intro _ _)
    | intro _
    | dsimp only
    | split
    | with_reducible rfl
    | (fail_if_no_progress (with_reducible refine good_upd ?_ rfl (fun _ => rfl) (fun _ => rfl))))

theorem flsScan_good (h : s.Good ql pp qq tv) :
     (flsScan s).Good ql pp qq tv := by
  unfold flsScan
  repeat' (first
    | with_reducible assumption
    | with_reducible apply forAll_good
    | with_reducible apply flsBlankSector_good
    | with_reducible apply openAdd_good
    | with_reducible refine pair_good (by assumption) ?_
    | with_reducible refine triple_good (by assumption) ?_
    | with_reducible apply foldl_good
    | with_reducible apply foldl_pair_good
    | (intro _ _)
    | intro _
    | dsimp only
    | split
    | with_reducible rfl
    | (fail_if_no_progress (with_reducible refine good_upd ?_ rfl (fun _ => rfl) (fun _ => rfl))))

theorem eraseDone_good (h : s.Good ql pp qq tv) (k pulses : Nat) :
     (eraseDone k pulses s).Good ql pp qq tv := by
  unfold eraseDone
  repeat' (first
    | with_reducible assumption
    | with_reducible apply flag_good
    | with_reducible apply inc_good
    | with_reducible apply produce_good
    | with_reducible apply flsBlankSector_good
    | with_reducible apply openDel_good
    | with_reducible apply jRecord_good
    | (intro _ _)
    | intro _
    | dsimp only
    | split
    | with_reducible rfl
    | (fail_if_no_progress (with_reducible refine good_upd ?_ rfl (fun _ => rfl) (fun _ => rfl))))

theorem hwErase_good (h : s.Good ql pp qq tv) (k : Nat) :
     (hwErase k s).Good ql pp qq tv := by
  unfold hwErase
  repeat' (first
    | with_reducible assumption
    | with_reducible apply fresh_good
    | with_reducible apply jRecord_good
    | with_reducible apply eraseDone_good
    | (intro _ _)
    | intro _
    | dsimp only
    | split
    | with_reducible rfl
    | (fail_if_no_progress (with_reducible refine good_upd ?_ rfl (fun _ => rfl) (fun _ => rfl))))

theorem flsRefuse_good (h : s.Good ql pp qq tv) (st : Nat) :
     (flsRefuse st s).Good ql pp qq tv := by
  unfold flsRefuse
  repeat' (first
    | with_reducible assumption
    | with_reducible apply when_good
    | with_reducible apply put_good
    | with_reducible apply flag_good
    | with_reducible apply produce_good
    | (intro _ _)
    | intro _
    | dsimp only
    | split
    | with_reducible rfl
    | (fail_if_no_progress (with_reducible refine good_upd ?_ rfl (fun _ => rfl) (fun _ => rfl))))

theorem flsEnd_good (h : s.Good ql pp qq tv) (st : Nat) :
     (flsEnd st s).Good ql pp qq tv := by
  unfold flsEnd
  repeat' (first
    | with_reducible assumption
    | with_reducible apply puts_good
    | with_reducible apply produce_good
    | (intro _ _)
    | intro _
    | dsimp only
    | split
    | with_reducible rfl
    | (fail_if_no_progress (with_reducible refine good_upd ?_ rfl (fun _ => rfl) (fun _ => rfl))))

theorem flsStart_good (h : s.Good ql pp qq tv) (op : FlsOp) :
     (flsStart op s).Good ql pp qq tv := by
  unfold flsStart
  repeat' (first
    | with_reducible assumption
    | with_reducible apply puts_good
    | (intro _ _)
    | intro _
    | dsimp only
    | split
    | with_reducible rfl
    | (fail_if_no_progress (with_reducible refine good_upd ?_ rfl (fun _ => rfl) (fun _ => rfl))))

theorem flsReadOp_good (h : s.Good ql pp qq tv) (margin : Bool) :
     (flsReadOp margin s).Good ql pp qq tv := by
  unfold flsReadOp
  repeat' (first
    | with_reducible assumption
    | with_reducible apply flsRefuse_good
    | with_reducible apply flsStart_good
    | (intro _ _)
    | intro _
    | dsimp only
    | split
    | with_reducible rfl
    | (fail_if_no_progress (with_reducible refine good_upd ?_ rfl (fun _ => rfl) (fun _ => rfl))))

theorem flsProgramOp_good (h : s.Good ql pp qq tv) :
     (flsProgramOp s).Good ql pp qq tv := by
  unfold flsProgramOp
  repeat' (first
    | with_reducible assumption
    | with_reducible apply serRead_good
    | with_reducible apply flsRefuse_good
    | with_reducible apply flsStart_good
    | (intro _ _)
    | intro _
    | dsimp only
    | split
    | with_reducible rfl
    | (fail_if_no_progress (with_reducible refine good_upd ?_ rfl (fun _ => rfl) (fun _ => rfl))))

theorem flsEraseOp_good (h : s.Good ql pp qq tv) :
     (flsEraseOp s).Good ql pp qq tv := by
  unfold flsEraseOp
  repeat' (first
    | with_reducible assumption
    | with_reducible apply jRecord_good
    | with_reducible apply flsRefuse_good
    | with_reducible apply flsStart_good
    | (intro _ _)
    | intro _
    | dsimp only
    | split
    | with_reducible rfl
    | (fail_if_no_progress (with_reducible refine good_upd ?_ rfl (fun _ => rfl) (fun _ => rfl))))

theorem flsSuspendOp_good (h : s.Good ql pp qq tv) :
     (flsSuspendOp s).Good ql pp qq tv := by
  unfold flsSuspendOp
  repeat' (first
    | with_reducible assumption
    | with_reducible apply inc_good
    | with_reducible apply puts_good
    | with_reducible apply flsRefuse_good
    | with_reducible apply flsEnd_good
    | with_reducible refine pair_good (by assumption) ?_
    | with_reducible refine triple_good (by assumption) ?_
    | (intro _ _)
    | intro _
    | dsimp only
    | split
    | with_reducible rfl
    | (fail_if_no_progress (with_reducible refine good_upd ?_ rfl (fun _ => rfl) (fun _ => rfl))))

theorem flsResumeOp_good (h : s.Good ql pp qq tv) :
     (flsResumeOp s).Good ql pp qq tv := by
  unfold flsResumeOp
  repeat' (first
    | with_reducible assumption
    | with_reducible apply puts_good
    | with_reducible apply flsRefuse_good
    | with_reducible apply flsStart_good
    | with_reducible refine pair_good (by assumption) ?_
    | with_reducible refine triple_good (by assumption) ?_
    | (intro _ _)
    | intro _
    | dsimp only
    | split
    | with_reducible rfl
    | (fail_if_no_progress (with_reducible refine good_upd ?_ rfl (fun _ => rfl) (fun _ => rfl))))

theorem flsOptwriteOp_good (h : s.Good ql pp qq tv) :
     (flsOptwriteOp s).Good ql pp qq tv := by
  unfold flsOptwriteOp
  repeat' (first
    | with_reducible assumption
    | with_reducible apply serRead_good
    | with_reducible apply jRecord_good
    | with_reducible apply flsRefuse_good
    | with_reducible apply flsStart_good
    | (intro _ _)
    | intro _
    | dsimp only
    | split
    | with_reducible rfl
    | (fail_if_no_progress (with_reducible refine good_upd ?_ rfl (fun _ => rfl) (fun _ => rfl))))

theorem serPoison_good (h : s.Good ql pp qq tv) (m g : Nat) :
     (serPoison m g s).Good ql pp qq tv := by
  unfold serPoison
  repeat' (first
    | with_reducible assumption
    | with_reducible apply poisonGranule_good
    | with_reducible refine writeBlocked_good ?_ _ _ _ (by assumption)
    | with_reducible refine pair_good (by assumption) ?_
    | with_reducible refine triple_good (by assumption) ?_
    | (intro _ _)
    | intro _
    | dsimp only
    | split
    | with_reducible rfl
    | (fail_if_no_progress (with_reducible refine good_upd ?_ rfl (fun _ => rfl) (fun _ => rfl))))

theorem readGranule_good (a ser i : Nat) (errs : List (Nat × Nat)) {acc : Nat × State} (h : acc.2.Good ql pp qq tv) :
    (readGranule a ser i errs acc).2.Good ql pp qq tv := by
  have k : ∀ ce ue : Nat, (((acc.2.add F.FLS_RES_CE ce).add (F.FLS_CNT_k_COUNT 3) ce).add (F.FLS_CNT_k_COUNT 4) ue).Good ql pp qq tv :=
    fun _ _ => add_good (add_good (add_good h _ _) _ _) _ _
  unfold readGranule
  dsimp only
  split
  · exact serWrite_good (k _ _) _ _ _
  · exact serPoison_good (k _ _) _ _

theorem flsReadDone_good (h : s.Good ql pp qq tv) (errs : List (Nat × Nat)) (weak : Nat) :
     (flsReadDone errs weak s).Good ql pp qq tv := by
  unfold flsReadDone
  repeat' (first
    | with_reducible assumption
    | with_reducible apply when_good
    | with_reducible apply add_good
    | with_reducible apply inc_good
    | with_reducible apply flsEnd_good
    | with_reducible apply readGranule_good
    | with_reducible refine pair_good (by assumption) ?_
    | with_reducible refine triple_good (by assumption) ?_
    | with_reducible apply foldl_good
    | with_reducible apply foldl_pair_good
    | (intro _ _)
    | intro _
    | dsimp only
    | split
    | with_reducible rfl
    | (fail_if_no_progress (with_reducible refine good_upd ?_ rfl (fun _ => rfl) (fun _ => rfl))))

theorem flsProgramDone_good (h : s.Good ql pp qq tv) :
     (flsProgramDone s).Good ql pp qq tv := by
  unfold flsProgramDone
  repeat' (first
    | with_reducible assumption
    | with_reducible apply inc_good
    | with_reducible apply flsPut_good
    | with_reducible apply flsEnd_good
    | with_reducible refine pair_good (by assumption) ?_
    | with_reducible refine triple_good (by assumption) ?_
    | (intro _ _)
    | intro _
    | dsimp only
    | split
    | with_reducible rfl
    | (fail_if_no_progress (with_reducible refine good_upd ?_ rfl (fun _ => rfl) (fun _ => rfl))))

theorem flsPulse_good (h : s.Good ql pp qq tv) (verify : Bool) :
     (flsPulse verify s).Good ql pp qq tv := by
  unfold flsPulse
  repeat' (first
    | with_reducible assumption
    | with_reducible apply put_good
    | with_reducible apply inc_good
    | with_reducible apply openAdd_good
    | with_reducible apply jRecord_good
    | with_reducible apply eraseDone_good
    | with_reducible apply flsEnd_good
    | with_reducible refine pair_good (by assumption) ?_
    | with_reducible refine triple_good (by assumption) ?_
    | (intro _ _)
    | intro _
    | dsimp only
    | split
    | with_reducible rfl
    | (fail_if_no_progress (with_reducible refine good_upd ?_ rfl (fun _ => rfl) (fun _ => rfl))))

theorem flsOptDone_good (h : s.Good ql pp qq tv) (bad : List (Nat × Byte)) :
     (flsOptDone bad s).Good ql pp qq tv := by
  unfold flsOptDone
  repeat' (first
    | with_reducible assumption
    | with_reducible apply put_good
    | with_reducible apply fresh_good
    | with_reducible apply flsPut_good
    | with_reducible apply eraseDone_good
    | with_reducible apply flsEnd_good
    | with_reducible refine pair_good (by assumption) ?_
    | with_reducible refine triple_good (by assumption) ?_
    | (intro _ _)
    | intro _
    | dsimp only
    | split
    | with_reducible rfl
    | (fail_if_no_progress (with_reducible refine good_upd ?_ rfl (fun _ => rfl) (fun _ => rfl))))

theorem flsClear_good (h : s.Good ql pp qq tv) :
     (flsClear s).Good ql pp qq tv := by
  unfold flsClear
  repeat' (first
    | with_reducible assumption
    | with_reducible apply forN_good
    | with_reducible apply put_good
    | (intro _ _)
    | intro _
    | dsimp only
    | split
    | with_reducible rfl
    | (fail_if_no_progress (with_reducible refine good_upd ?_ rfl (fun _ => rfl) (fun _ => rfl))))

theorem flsPfail_good (h : s.Good ql pp qq tv) :
     (flsPfail s).Good ql pp qq tv := by
  unfold flsPfail
  repeat' (first
    | with_reducible assumption
    | with_reducible apply flag_good
    | with_reducible apply raiseFault_good
    | with_reducible apply journal_good
    | with_reducible apply flsBlankSector_good
    | with_reducible apply openAdd_good
    | with_reducible apply flsEnd_good
    | with_reducible refine pair_good (by assumption) ?_
    | with_reducible refine triple_good (by assumption) ?_
    | (intro _ _)
    | intro _
    | dsimp only
    | split
    | with_reducible rfl
    | (fail_if_no_progress (with_reducible refine good_upd ?_ rfl (fun _ => rfl) (fun _ => rfl))))

theorem flsClose_good (h : s.Good ql pp qq tv) :
     (flsClose s).Good ql pp qq tv := by
  unfold flsClose
  repeat' (first
    | with_reducible assumption
    | with_reducible apply jRecord_good
    | with_reducible apply flsEnd_good
    | with_reducible apply flsProgramDone_good
    | with_reducible refine pair_good (by assumption) ?_
    | with_reducible refine triple_good (by assumption) ?_
    | (intro _ _)
    | intro _
    | dsimp only
    | split
    | with_reducible rfl
    | (fail_if_no_progress (with_reducible refine good_upd ?_ rfl (fun _ => rfl) (fun _ => rfl))))

theorem leaseScan_good (h : s.Good ql pp qq tv) :
     (leaseScan s).Good ql pp qq tv := by
  unfold leaseScan
  repeat' (first
    | with_reducible assumption
    | with_reducible apply puts_good
    | with_reducible refine pair_good (by assumption) ?_
    | with_reducible refine triple_good (by assumption) ?_
    | with_reducible apply getD_map_good
    | with_reducible apply getD_good
    | (intro _ _)
    | intro _
    | dsimp only
    | split
    | with_reducible rfl
    | (fail_if_no_progress (with_reducible refine good_upd ?_ rfl (fun _ => rfl) (fun _ => rfl))))

theorem leaseProgram_good (h : s.Good ql pp qq tv) (l : Lease) (bad : List (Nat × Byte)) :
     (leaseProgram l bad s).Good ql pp qq tv := by
  unfold leaseProgram
  repeat' (first
    | with_reducible assumption
    | with_reducible apply flsPut_good
    | (intro _ _)
    | intro _
    | dsimp only
    | split
    | with_reducible rfl
    | (fail_if_no_progress (with_reducible refine good_upd ?_ rfl (fun _ => rfl) (fun _ => rfl))))

theorem leaseCompact_good (h : s.Good ql pp qq tv) :
     (leaseCompact s).Good ql pp qq tv := by
  unfold leaseCompact
  repeat' (first
    | with_reducible assumption
    | with_reducible apply forAll_good
    | with_reducible apply hwErase_good
    | with_reducible apply leaseProgram_good
    | (intro _ _)
    | intro _
    | dsimp only
    | split
    | with_reducible rfl
    | (fail_if_no_progress (with_reducible refine good_upd ?_ rfl (fun _ => rfl) (fun _ => rfl))))

theorem leaseWrite_good (h : s.Good ql pp qq tv) (l : Lease) (bad : List (Nat × Byte)) :
     (leaseWrite l bad s).2.Good ql pp qq tv := by
  unfold leaseWrite
  repeat' (first
    | with_reducible assumption
    | with_reducible apply inc_good
    | with_reducible apply leaseProgram_good
    | with_reducible apply leaseCompact_good
    | with_reducible refine pair_good (by assumption) ?_
    | with_reducible refine triple_good (by assumption) ?_
    | (intro _ _)
    | intro _
    | dsimp only
    | split
    | with_reducible rfl
    | (fail_if_no_progress (with_reducible refine good_upd ?_ rfl (fun _ => rfl) (fun _ => rfl))))

end Sys2Proof.Machine
end

