-- ==== Sys2Proof/Laws/GoodCal.lean ====
section
/-!
SUPPORT. The operations of Machine/Cal.lean keep the queue and the canonical form (Laws/Good.lean).
-/

namespace Sys2Proof.Machine

set_option linter.unusedTactic false
set_option linter.unreachableTactic false
set_option linter.unusedVariables false

variable {ql : List Instr} {pp qq : Prop} {tv : Nat × Nat × Nat × Nat × Option (Nat × Nat × Nat)} {s : State}

theorem calLoad_good (h : s.Good ql pp qq tv) :
     (calLoad s).Good ql pp qq tv := by
  unfold calLoad
  repeat' (first
    | with_reducible assumption
    | with_reducible apply puts_good
    | with_reducible refine pair_good (by assumption) ?_
    | with_reducible refine triple_good (by assumption) ?_
    | (intro _ _)
    | intro _
    | dsimp only
    | split
    | with_reducible rfl
    | (fail_if_no_progress (with_reducible refine good_upd ?_ rfl (fun _ => rfl) (fun _ => rfl))))

theorem calBoot_good (h : s.Good ql pp qq tv) :
     (calBoot s).Good ql pp qq tv := by
  unfold calBoot
  repeat' (first
    | with_reducible assumption
    | with_reducible apply put_good
    | with_reducible apply calLoad_good
    | (intro _ _)
    | intro _
    | dsimp only
    | split
    | with_reducible rfl
    | (fail_if_no_progress (with_reducible refine good_upd ?_ rfl (fun _ => rfl) (fun _ => rfl))))

theorem calRunOp_good (h : s.Good ql pp qq tv) :
     (calRunOp s).Good ql pp qq tv := by
  unfold calRunOp
  repeat' (first
    | with_reducible assumption
    | with_reducible apply flag_good
    | with_reducible apply puts_good
    | (intro _ _)
    | intro _
    | dsimp only
    | split
    | with_reducible rfl
    | (fail_if_no_progress (with_reducible refine good_upd ?_ rfl (fun _ => rfl) (fun _ => rfl))))

theorem calEnd_good (h : s.Good ql pp qq tv) (result : Nat) :
     (calEnd result s).Good ql pp qq tv := by
  unfold calEnd
  repeat' (first
    | with_reducible assumption
    | with_reducible apply puts_good
    | (intro _ _)
    | intro _
    | dsimp only
    | split
    | with_reducible rfl
    | (fail_if_no_progress (with_reducible refine good_upd ?_ rfl (fun _ => rfl) (fun _ => rfl))))

theorem calRunDone_good (h : s.Good ql pp qq tv) (meas : List Byte) (pps : Bool) (fail : Option (Fin 7)) :
     (calRunDone meas pps fail s).Good ql pp qq tv := by
  unfold calRunDone
  repeat' (first
    | with_reducible assumption
    | with_reducible apply put_good
    | with_reducible apply serWrite_good
    | with_reducible apply calEnd_good
    | with_reducible refine pair_good (by assumption) ?_
    | with_reducible refine triple_good (by assumption) ?_
    | (intro _ _)
    | intro _
    | dsimp only
    | split
    | with_reducible rfl
    | (fail_if_no_progress (with_reducible refine good_upd ?_ rfl (fun _ => rfl) (fun _ => rfl))))

theorem calAbortOp_good (h : s.Good ql pp qq tv) :
     (calAbortOp s).Good ql pp qq tv := by
  unfold calAbortOp
  repeat' (first
    | with_reducible assumption
    | with_reducible apply calEnd_good
    | (intro _ _)
    | intro _
    | dsimp only
    | split
    | with_reducible rfl
    | (fail_if_no_progress (with_reducible refine good_upd ?_ rfl (fun _ => rfl) (fun _ => rfl))))

theorem calCommitOp_good (h : s.Good ql pp qq tv) :
     (calCommitOp s).Good ql pp qq tv := by
  unfold calCommitOp
  repeat' (first
    | with_reducible assumption
    | with_reducible apply flag_good
    | with_reducible apply puts_good
    | with_reducible apply serRead_good
    | (intro _ _)
    | intro _
    | dsimp only
    | split
    | with_reducible rfl
    | (fail_if_no_progress (with_reducible refine good_upd ?_ rfl (fun _ => rfl) (fun _ => rfl))))

theorem calErase_good (h : s.Good ql pp qq tv) :
     (calErase s).Good ql pp qq tv := by
  unfold calErase
  repeat' (first
    | with_reducible assumption
    | with_reducible apply forN_good
    | with_reducible apply hwErase_good
    | (intro _ _)
    | intro _
    | dsimp only
    | split
    | with_reducible rfl
    | (fail_if_no_progress (with_reducible refine good_upd ?_ rfl (fun _ => rfl) (fun _ => rfl))))

theorem calCommitDone_good (h : s.Good ql pp qq tv) (bad : List (Nat × Byte)) :
     (calCommitDone bad s).Good ql pp qq tv := by
  unfold calCommitDone
  repeat' (first
    | with_reducible assumption
    | with_reducible apply flsPut_good
    | with_reducible apply calEnd_good
    | with_reducible apply calErase_good
    | with_reducible refine pair_good (by assumption) ?_
    | with_reducible refine triple_good (by assumption) ?_
    | (intro _ _)
    | intro _
    | dsimp only
    | split
    | with_reducible rfl
    | (fail_if_no_progress (with_reducible refine good_upd ?_ rfl (fun _ => rfl) (fun _ => rfl))))

theorem calPfail_good (h : s.Good ql pp qq tv) :
     (calPfail s).Good ql pp qq tv := by
  unfold calPfail
  repeat' (first
    | with_reducible assumption
    | with_reducible apply calEnd_good
    | with_reducible apply calErase_good
    | (intro _ _)
    | intro _
    | dsimp only
    | split
    | with_reducible rfl
    | (fail_if_no_progress (with_reducible refine good_upd ?_ rfl (fun _ => rfl) (fun _ => rfl))))

theorem temperatureOp_good (h : s.Good ql pp qq tv) (t : Int) :
     (temperatureOp t s).Good ql pp qq tv := by
  unfold temperatureOp
  repeat' (first
    | with_reducible assumption
    | with_reducible apply when_good
    | with_reducible apply putS_good
    | with_reducible apply raiseFault_good
    | (intro _ _)
    | intro _
    | dsimp only
    | split
    | with_reducible rfl
    | (fail_if_no_progress (with_reducible refine good_upd ?_ rfl (fun _ => rfl) (fun _ => rfl))))

end Sys2Proof.Machine
end

