-- ==== Sys2Proof/Laws/GoodSec.lean ====
section
/-!
SUPPORT. The operations of Machine/Sec.lean keep the queue and the canonical form (Laws/Good.lean).
-/

namespace Sys2Proof.Machine

set_option linter.unusedTactic false
set_option linter.unreachableTactic false
set_option linter.unusedVariables false

variable {ql : List Instr} {pp qq : Prop} {tv : Nat × Nat × Nat × Nat × Option (Nat × Nat × Nat)} {s : State}

theorem drbg_good (h : s.Good ql pp qq tv) (n : Nat) :
     (drbg n s).2.Good ql pp qq tv := by
  unfold drbg
  repeat' (first
    | with_reducible assumption
    | (intro _ _)
    | intro _
    | dsimp only
    | split
    | with_reducible rfl
    | (fail_if_no_progress (with_reducible refine good_upd ?_ rfl (fun _ => rfl) (fun _ => rfl))))

theorem storageForm_good (h : s.Good ql pp qq tv) (key : List Byte) :
     (storageForm key s).2.Good ql pp qq tv := by
  unfold storageForm
  repeat' (first
    | with_reducible assumption
    | with_reducible apply fresh_good
    | with_reducible refine pair_good (by assumption) ?_
    | with_reducible refine triple_good (by assumption) ?_
    | (intro _ _)
    | intro _
    | dsimp only
    | split
    | with_reducible rfl
    | (fail_if_no_progress (with_reducible refine good_upd ?_ rfl (fun _ => rfl) (fun _ => rfl))))

theorem secLoad_good (h : s.Good ql pp qq tv) (node n : Nat) :
     (secLoad node n s).2.Good ql pp qq tv := by
  unfold secLoad
  repeat' (first
    | with_reducible assumption
    | with_reducible apply serRead_good
    | (intro _ _)
    | intro _
    | dsimp only
    | split
    | with_reducible rfl
    | (fail_if_no_progress (with_reducible refine good_upd ?_ rfl (fun _ => rfl) (fun _ => rfl))))

theorem secPatch_good (h : s.Good ql pp qq tv) (node j at_ : Nat) (f : List Byte → List Byte) :
     (secPatch node j at_ f s).Good ql pp qq tv := by
  unfold secPatch
  repeat' (first
    | with_reducible assumption
    | with_reducible apply serRead_good
    | with_reducible apply serWrite_good
    | (intro _ _)
    | intro _
    | dsimp only
    | split
    | with_reducible rfl
    | (fail_if_no_progress (with_reducible refine good_upd ?_ rfl (fun _ => rfl) (fun _ => rfl))))

theorem secStore_good (h : s.Good ql pp qq tv) (node : Nat) (old e : List Byte) (all : Bool) :
     (secStore node old e all s).2.Good ql pp qq tv := by
  unfold secStore
  repeat' (first
    | with_reducible assumption
    | with_reducible apply forAll_good
    | with_reducible apply serWrite_good
    | (intro _ _)
    | intro _
    | dsimp only
    | split
    | with_reducible rfl
    | (fail_if_no_progress (with_reducible refine good_upd ?_ rfl (fun _ => rfl) (fun _ => rfl))))

theorem leaseStart_good (h : s.Good ql pp qq tv) (kind idx keyidx : Nat) (fp : List Byte) (end_ : Nat) :
     (leaseStart kind idx keyidx fp end_ s).Good ql pp qq tv := by
  unfold leaseStart
  repeat' (first
    | with_reducible assumption
    | with_reducible apply journal_good
    | (intro _ _)
    | intro _
    | dsimp only
    | split
    | with_reducible rfl
    | (fail_if_no_progress (with_reducible refine good_upd ?_ rfl (fun _ => rfl) (fun _ => rfl))))

theorem leaseWant_good (h : s.Good ql pp qq tv) (kind idx keyidx ctr end_ : Nat) :
     (leaseWant kind idx keyidx ctr end_ s).Good ql pp qq tv := by
  unfold leaseWant
  repeat' (first
    | with_reducible assumption
    | with_reducible apply leaseStart_good
    | (intro _ _)
    | intro _
    | dsimp only
    | split
    | with_reducible rfl
    | (fail_if_no_progress (with_reducible refine good_upd ?_ rfl (fun _ => rfl) (fun _ => rfl))))

theorem leaseApply_good (h : s.Good ql pp qq tv) (l : Lease) :
     (leaseApply l s).Good ql pp qq tv := by
  unfold leaseApply
  repeat' (first
    | with_reducible assumption
    | with_reducible apply put_good
    | with_reducible apply secPatch_good
    | (intro _ _)
    | intro _
    | dsimp only
    | split
    | with_reducible rfl
    | (fail_if_no_progress (with_reducible refine good_upd ?_ rfl (fun _ => rfl) (fun _ => rfl))))

theorem leasesDue_good (h : s.Good ql pp qq tv) :
     (leasesDue s).Good ql pp qq tv := by
  unfold leasesDue
  repeat' (first
    | with_reducible assumption
    | with_reducible apply forAll_good
    | with_reducible apply leaseApply_good
    | (intro _ _)
    | intro _
    | dsimp only
    | split
    | with_reducible rfl
    | (fail_if_no_progress (with_reducible refine good_upd ?_ rfl (fun _ => rfl) (fun _ => rfl))))

theorem leaseRaiseOp_good (h : s.Good ql pp qq tv) (bad : List (Nat × Byte)) :
     (leaseRaiseOp bad s).Good ql pp qq tv := by
  unfold leaseRaiseOp
  repeat' (first
    | with_reducible assumption
    | with_reducible apply when_good
    | with_reducible apply flag_good
    | with_reducible apply inc_good
    | with_reducible apply leaseWrite_good
    | with_reducible apply leasesDue_good
    | with_reducible refine pair_good (by assumption) ?_
    | with_reducible refine triple_good (by assumption) ?_
    | (intro _ _)
    | intro _
    | dsimp only
    | split
    | with_reducible rfl
    | (fail_if_no_progress (with_reducible refine good_upd ?_ rfl (fun _ => rfl) (fun _ => rfl))))

theorem leaseConfirmed_good (h : s.Good ql pp qq tv) (j : Nat) :
     (leaseConfirmed j s).Good ql pp qq tv := by
  unfold leaseConfirmed
  repeat' (first
    | with_reducible assumption
    | with_reducible apply leasesDue_good
    | (intro _ _)
    | intro _
    | dsimp only
    | split
    | with_reducible rfl
    | (fail_if_no_progress (with_reducible refine good_upd ?_ rfl (fun _ => rfl) (fun _ => rfl))))

theorem leasesAlone_good (h : s.Good ql pp qq tv) :
     (leasesAlone s).Good ql pp qq tv := by
  unfold leasesAlone
  repeat' (first
    | with_reducible assumption
    | with_reducible apply leasesDue_good
    | (intro _ _)
    | intro _
    | dsimp only
    | split
    | with_reducible rfl
    | (fail_if_no_progress (with_reducible refine good_upd ?_ rfl (fun _ => rfl) (fun _ => rfl))))

theorem leasePersistOwn_good (h : s.Good ql pp qq tv) (j : Nat) (bad : List (Nat × Byte)) :
     (leasePersistOwn j bad s).Good ql pp qq tv := by
  unfold leasePersistOwn
  repeat' (first
    | with_reducible assumption
    | with_reducible apply when_good
    | with_reducible apply put_good
    | with_reducible apply flag_good
    | with_reducible apply emit_good
    | with_reducible apply leaseWrite_good
    | with_reducible refine pair_good (by assumption) ?_
    | with_reducible refine triple_good (by assumption) ?_
    | (intro _ _)
    | intro _
    | dsimp only
    | split
    | with_reducible rfl
    | (fail_if_no_progress (with_reducible refine good_upd ?_ rfl (fun _ => rfl) (fun _ => rfl))))

theorem leaseRetryTick_good (h : s.Good ql pp qq tv) :
     (leaseRetryTick s).Good ql pp qq tv := by
  unfold leaseRetryTick
  repeat' (first
    | with_reducible assumption
    | (intro _ _)
    | intro _
    | dsimp only
    | split
    | with_reducible rfl
    | (fail_if_no_progress (with_reducible refine good_upd ?_ rfl (fun _ => rfl) (fun _ => rfl))))

theorem secForget_good (h : s.Good ql pp qq tv) (node : Nat) :
     (secForget node s).Good ql pp qq tv := by
  unfold secForget
  repeat' (first
    | with_reducible assumption
    | (intro _ _)
    | intro _
    | dsimp only
    | split
    | with_reducible rfl
    | (fail_if_no_progress (with_reducible refine good_upd ?_ rfl (fun _ => rfl) (fun _ => rfl))))

theorem secCheckRun_good (h : s.Good ql pp qq tv) (node c level idx : Nat) (e : List Byte) :
     (secCheckRun node c level idx e s).2.Good ql pp qq tv := by
  unfold secCheckRun
  repeat' (first
    | with_reducible assumption
    | with_reducible apply inc_good
    | with_reducible refine pair_good (by assumption) ?_
    | with_reducible refine triple_good (by assumption) ?_
    | (intro _ _)
    | intro _
    | dsimp only
    | split
    | with_reducible rfl
    | (fail_if_no_progress (with_reducible refine good_upd ?_ rfl (fun _ => rfl) (fun _ => rfl))))

theorem secCommitRun_good (h : s.Good ql pp qq tv) (node c : Nat) (tag : List Byte) (micok : Bool) (e : List Byte) :
     (secCommitRun node c tag micok e s).2.Good ql pp qq tv := by
  unfold secCommitRun
  repeat' (first
    | with_reducible assumption
    | with_reducible apply flag_good
    | with_reducible apply inc_good
    | with_reducible apply produce_good
    | with_reducible apply secStore_good
    | with_reducible refine pair_good (by assumption) ?_
    | with_reducible refine triple_good (by assumption) ?_
    | with_reducible apply getD_map_good
    | with_reducible apply getD_good
    | (intro _ _)
    | intro _
    | dsimp only
    | split
    | with_reducible rfl
    | (fail_if_no_progress (with_reducible refine good_upd ?_ rfl (fun _ => rfl) (fun _ => rfl))))

theorem takeRefused_good (h : s.Good ql pp qq tv) (st : Nat) :
     (takeRefused st s).Good ql pp qq tv := by
  unfold takeRefused
  repeat' (first
    | with_reducible assumption
    | with_reducible apply when_good
    | with_reducible apply flag_good
    | with_reducible apply inc_good
    | (intro _ _)
    | intro _
    | dsimp only
    | split
    | with_reducible rfl
    | (fail_if_no_progress (with_reducible refine good_upd ?_ rfl (fun _ => rfl) (fun _ => rfl))))

theorem secTakeRun_good (h : s.Good ql pp qq tv) (node : Nat) (e : List Byte) :
     (secTakeRun node e s).2.Good ql pp qq tv := by
  unfold secTakeRun
  repeat' (first
    | with_reducible assumption
    | with_reducible apply when_good
    | with_reducible apply secStore_good
    | with_reducible apply leaseWant_good
    | with_reducible apply takeRefused_good
    | with_reducible refine pair_good (by assumption) ?_
    | with_reducible refine triple_good (by assumption) ?_
    | (intro _ _)
    | intro _
    | dsimp only
    | split
    | with_reducible rfl
    | (fail_if_no_progress (with_reducible refine good_upd ?_ rfl (fun _ => rfl) (fun _ => rfl))))

theorem secTakecellRun_good (h : s.Good ql pp qq tv) :
     (secTakecellRun s).2.Good ql pp qq tv := by
  unfold secTakecellRun
  repeat' (first
    | with_reducible assumption
    | with_reducible apply when_good
    | with_reducible apply put_good
    | with_reducible apply leaseWant_good
    | with_reducible apply takeRefused_good
    | with_reducible refine pair_good (by assumption) ?_
    | with_reducible refine triple_good (by assumption) ?_
    | (intro _ _)
    | intro _
    | dsimp only
    | split
    | with_reducible rfl
    | (fail_if_no_progress (with_reducible refine good_upd ?_ rfl (fun _ => rfl) (fun _ => rfl))))

theorem secInitRun_good (h : s.Good ql pp qq tv) (node : Nat) (e : List Byte) :
     (secInitRun node e s).2.Good ql pp qq tv := by
  unfold secInitRun
  repeat' (first
    | with_reducible assumption
    | with_reducible apply drbg_good
    | with_reducible apply storageForm_good
    | with_reducible apply secStore_good
    | with_reducible apply leaseWant_good
    | with_reducible apply secForget_good
    | (intro _ _)
    | intro _
    | dsimp only
    | split
    | with_reducible rfl
    | (fail_if_no_progress (with_reducible refine good_upd ?_ rfl (fun _ => rfl) (fun _ => rfl))))

theorem secRotateRun_good (h : s.Good ql pp qq tv) (node : Nat) (e : List Byte) :
     (secRotateRun node e s).2.Good ql pp qq tv := by
  unfold secRotateRun
  repeat' (first
    | with_reducible assumption
    | with_reducible apply drbg_good
    | with_reducible apply storageForm_good
    | with_reducible apply secStore_good
    | (intro _ _)
    | intro _
    | dsimp only
    | split
    | with_reducible rfl
    | (fail_if_no_progress (with_reducible refine good_upd ?_ rfl (fun _ => rfl) (fun _ => rfl))))

theorem secFreeRun_good (h : s.Good ql pp qq tv) (node : Nat) (e : List Byte) :
     (secFreeRun node e s).2.Good ql pp qq tv := by
  unfold secFreeRun
  repeat' (first
    | with_reducible assumption
    | with_reducible apply secStore_good
    | with_reducible apply secForget_good
    | (intro _ _)
    | intro _
    | dsimp only
    | split
    | with_reducible rfl
    | (fail_if_no_progress (with_reducible refine good_upd ?_ rfl (fun _ => rfl) (fun _ => rfl))))

theorem secEnd_good (h : s.Good ql pp qq tv) (j off : Nat) (a : SecAnswer) :
     (secEnd j off a s).Good ql pp qq tv := by
  unfold secEnd
  repeat' (first
    | with_reducible assumption
    | with_reducible apply when_good
    | with_reducible apply flag_good
    | with_reducible apply serWrite_good
    | with_reducible apply URing_pop_good
    | with_reducible apply evinAll_good
    | (intro _ _)
    | intro _
    | dsimp only
    | split
    | with_reducible rfl
    | (fail_if_no_progress (with_reducible refine good_upd ?_ rfl (fun _ => rfl) (fun _ => rfl))))

theorem secRun_good (h : s.Good ql pp qq tv) (b : List Byte) :
     (secRun b s).2.Good ql pp qq tv := by
  unfold secRun
  repeat' (first
    | with_reducible assumption
    | with_reducible apply secLoad_good
    | with_reducible apply secCheckRun_good
    | with_reducible apply secCommitRun_good
    | with_reducible apply secTakeRun_good
    | with_reducible apply secTakecellRun_good
    | with_reducible apply secInitRun_good
    | with_reducible apply secRotateRun_good
    | with_reducible apply secFreeRun_good
    | with_reducible refine pair_good (by assumption) ?_
    | with_reducible refine triple_good (by assumption) ?_
    | (intro _ _)
    | intro _
    | dsimp only
    | split
    | with_reducible rfl
    | (fail_if_no_progress (with_reducible refine good_upd ?_ rfl (fun _ => rfl) (fun _ => rfl))))

theorem secCommand_good (h : s.Good ql pp qq tv) (op : Nat) :
     (secCommand op s).Good ql pp qq tv := by
  unfold secCommand
  repeat' (first
    | with_reducible assumption
    | with_reducible apply serRead_good
    | with_reducible apply secEnd_good
    | with_reducible apply secRun_good
    | with_reducible refine pair_good (by assumption) ?_
    | with_reducible refine triple_good (by assumption) ?_
    | (intro _ _)
    | intro _
    | dsimp only
    | split
    | with_reducible rfl
    | (fail_if_no_progress (with_reducible refine good_upd ?_ rfl (fun _ => rfl) (fun _ => rfl))))

theorem secServe_good (h : s.Good ql pp qq tv) (op : Nat) :
     (secServe op s).Good ql pp qq tv := by
  unfold secServe
  repeat' (first
    | with_reducible assumption
    | with_reducible apply orStall_good
    | with_reducible apply secCommand_good
    | (intro _ _)
    | intro _
    | dsimp only
    | split
    | with_reducible rfl
    | (fail_if_no_progress (with_reducible refine good_upd ?_ rfl (fun _ => rfl) (fun _ => rfl))))

theorem nodeToLease_good (h : s.Good ql pp qq tv) (n : Nat) :
     (nodeToLease n s).Good ql pp qq tv := by
  unfold nodeToLease
  repeat' (first
    | with_reducible assumption
    | with_reducible apply serRead_good
    | with_reducible apply secPatch_good
    | with_reducible apply leaseWant_good
    | (intro _ _)
    | intro _
    | dsimp only
    | split
    | with_reducible rfl
    | (fail_if_no_progress (with_reducible refine good_upd ?_ rfl (fun _ => rfl) (fun _ => rfl))))

theorem cellToLease_good (h : s.Good ql pp qq tv) :
     (cellToLease s).Good ql pp qq tv := by
  unfold cellToLease
  repeat' (first
    | with_reducible assumption
    | with_reducible apply put_good
    | with_reducible apply leaseWant_good
    | (intro _ _)
    | intro _
    | dsimp only
    | split
    | with_reducible rfl
    | (fail_if_no_progress (with_reducible refine good_upd ?_ rfl (fun _ => rfl) (fun _ => rfl))))

theorem countersToLease_good (h : s.Good ql pp qq tv) :
     (countersToLease s).Good ql pp qq tv := by
  unfold countersToLease
  repeat' (first
    | with_reducible assumption
    | with_reducible apply forAll_good
    | with_reducible apply nodeToLease_good
    | with_reducible apply cellToLease_good
    | (intro _ _)
    | intro _
    | dsimp only
    | split
    | with_reducible rfl
    | (fail_if_no_progress (with_reducible refine good_upd ?_ rfl (fun _ => rfl) (fun _ => rfl))))

theorem secClear_good (h : s.Good ql pp qq tv) :
     (secClear s).Good ql pp qq tv := by
  unfold secClear
  repeat' (first
    | with_reducible assumption
    | with_reducible apply forN_good
    | with_reducible apply put_good
    | (intro _ _)
    | intro _
    | dsimp only
    | split
    | with_reducible rfl
    | (fail_if_no_progress (with_reducible refine good_upd ?_ rfl (fun _ => rfl) (fun _ => rfl))))

end Sys2Proof.Machine
end

