-- ==== Sys2Proof/Laws/GoodCipher.lean ====
section
/-!
SUPPORT. The operations of Machine/Cipher.lean keep the queue and the canonical form (Laws/Good.lean).
-/

namespace Sys2Proof.Machine

set_option linter.unusedTactic false
set_option linter.unreachableTactic false
set_option linter.unusedVariables false

variable {ql : List Instr} {pp qq : Prop} {tv : Nat × Nat × Nat × Nat × Option (Nat × Nat × Nat)} {s : State}

theorem modCu_good (h : s.Good ql pp qq tv) (u : CU) (f : CiphUnit → CiphUnit) :
     (State.modCu s u f).Good ql pp qq tv := by
  unfold State.modCu
  repeat' (first
    | with_reducible assumption
    | (intro _ _)
    | intro _
    | dsimp only
    | split
    | with_reducible rfl
    | (fail_if_no_progress (with_reducible refine good_upd ?_ rfl (fun _ => rfl) (fun _ => rfl))))

theorem wipeUnit_good (h : s.Good ql pp qq tv) (u : CU) :
     (wipeUnit u s).Good ql pp qq tv := by
  unfold wipeUnit
  repeat' (first
    | with_reducible assumption
    | with_reducible apply puts_good
    | with_reducible apply modCu_good
    | (intro _ _)
    | intro _
    | dsimp only
    | split
    | with_reducible rfl
    | (fail_if_no_progress (with_reducible refine good_upd ?_ rfl (fun _ => rfl) (fun _ => rfl))))

theorem endClaim_good (h : s.Good ql pp qq tv) (u : CU) :
     (endClaim u s).Good ql pp qq tv := by
  unfold endClaim
  repeat' (first
    | with_reducible assumption
    | with_reducible apply put_good
    | with_reducible apply wipeUnit_good
    | (intro _ _)
    | intro _
    | dsimp only
    | split
    | with_reducible rfl
    | (fail_if_no_progress (with_reducible refine good_upd ?_ rfl (fun _ => rfl) (fun _ => rfl))))

theorem ciphWipe_good (h : s.Good ql pp qq tv) :
     (ciphWipe s).Good ql pp qq tv := by
  unfold ciphWipe
  repeat' (first
    | with_reducible assumption
    | with_reducible apply forAll_good
    | with_reducible apply endClaim_good
    | (intro _ _)
    | intro _
    | dsimp only
    | split
    | with_reducible rfl
    | (fail_if_no_progress (with_reducible refine good_upd ?_ rfl (fun _ => rfl) (fun _ => rfl))))

theorem ciphClaim_good (h : s.Good ql pp qq tv) (u : CU) (n : Nat) :
     (ciphClaim u n s).Good ql pp qq tv := by
  unfold ciphClaim
  repeat' (first
    | with_reducible assumption
    | with_reducible apply put_good
    | with_reducible apply getD_map_good
    | with_reducible apply getD_good
    | (intro _ _)
    | intro _
    | dsimp only
    | split
    | with_reducible rfl
    | (fail_if_no_progress (with_reducible refine good_upd ?_ rfl (fun _ => rfl) (fun _ => rfl))))

theorem ciphDrop_good (h : s.Good ql pp qq tv) (u : CU) (n : Nat) :
     (ciphDrop u n s).Good ql pp qq tv := by
  unfold ciphDrop
  repeat' (first
    | with_reducible assumption
    | with_reducible apply endClaim_good
    | (intro _ _)
    | intro _
    | dsimp only
    | split
    | with_reducible rfl
    | (fail_if_no_progress (with_reducible refine good_upd ?_ rfl (fun _ => rfl) (fun _ => rfl))))

theorem readLoc_good (h : s.Good ql pp qq tv) (u : CU) (v n : Nat) :
     (readLoc u v n s).2.2.Good ql pp qq tv := by
  unfold readLoc
  repeat' (first
    | with_reducible assumption
    | with_reducible apply serRead_good
    | (intro _ _)
    | intro _
    | dsimp only
    | split
    | with_reducible rfl
    | (fail_if_no_progress (with_reducible refine good_upd ?_ rfl (fun _ => rfl) (fun _ => rfl))))

theorem writeLoc_good (h : s.Good ql pp qq tv) (u : CU) (v : Nat) (bs : List Byte) :
     (writeLoc u v bs s).Good ql pp qq tv := by
  unfold writeLoc
  repeat' (first
    | with_reducible assumption
    | with_reducible apply serWrite_good
    | with_reducible apply modCu_good
    | (intro _ _)
    | intro _
    | dsimp only
    | split
    | with_reducible rfl
    | (fail_if_no_progress (with_reducible refine good_upd ?_ rfl (fun _ => rfl) (fun _ => rfl))))

theorem findKey_good (h : s.Good ql pp qq tv) (u : CU) (v : Nat) :
     (findKey u v s).2.Good ql pp qq tv := by
  unfold findKey
  repeat' (first
    | with_reducible assumption
    | with_reducible apply serRead_good
    | with_reducible refine pair_good (by assumption) ?_
    | with_reducible refine triple_good (by assumption) ?_
    | (intro _ _)
    | intro _
    | dsimp only
    | split
    | with_reducible rfl
    | (fail_if_no_progress (with_reducible refine good_upd ?_ rfl (fun _ => rfl) (fun _ => rfl))))

theorem cachePut_good (h : s.Good ql pp qq tv) (c : CacheEntry) :
     (cachePut c s).Good ql pp qq tv := by
  unfold cachePut
  repeat' (first
    | with_reducible assumption
    | with_reducible refine pair_good (by assumption) ?_
    | with_reducible refine triple_good (by assumption) ?_
    | (intro _ _)
    | intro _
    | dsimp only
    | split
    | with_reducible rfl
    | (fail_if_no_progress (with_reducible refine good_upd ?_ rfl (fun _ => rfl) (fun _ => rfl))))

theorem putUsed_good (h : s.Good ql pp qq tv) (v n : Nat) :
     (putUsed v n s).Good ql pp qq tv := by
  unfold putUsed
  repeat' (first
    | with_reducible assumption
    | with_reducible apply put_good
    | with_reducible apply journal_good
    | with_reducible apply serWrite_good
    | with_reducible apply secPatch_good
    | (intro _ _)
    | intro _
    | dsimp only
    | split
    | with_reducible rfl
    | (fail_if_no_progress (with_reducible refine good_upd ?_ rfl (fun _ => rfl) (fun _ => rfl))))

theorem reserve_good (h : s.Good ql pp qq tv) (v b : Nat) (k : KeyRef) :
     (reserve v b k s).2.2.Good ql pp qq tv := by
  unfold reserve
  repeat' (first
    | with_reducible assumption
    | with_reducible apply when_good
    | with_reducible apply inc_good
    | with_reducible apply produce_good
    | with_reducible apply leaseStart_good
    | with_reducible apply cachePut_good
    | with_reducible apply putUsed_good
    | (intro _ _)
    | intro _
    | dsimp only
    | split
    | with_reducible rfl
    | (fail_if_no_progress (with_reducible refine good_upd ?_ rfl (fun _ => rfl) (fun _ => rfl))))

theorem ciMessage_good (h : s.Good ql pp qq tv) (u : CU) (e : List Byte) :
     (ciMessage u e s).2.2.Good ql pp qq tv := by
  unfold ciMessage
  repeat' (first
    | with_reducible assumption
    | with_reducible apply readLoc_good
    | (intro _ _)
    | intro _
    | dsimp only
    | split
    | with_reducible rfl
    | (fail_if_no_progress (with_reducible refine good_upd ?_ rfl (fun _ => rfl) (fun _ => rfl))))

theorem ciSel_good (h : s.Good ql pp qq tv) (u : CU) (e : List Byte) :
     (ciSel u e s).2.Good ql pp qq tv := by
  unfold ciSel
  repeat' (first
    | with_reducible assumption
    | with_reducible apply puts_good
    | with_reducible apply modCu_good
    | with_reducible apply wipeUnit_good
    | with_reducible apply findKey_good
    | with_reducible apply reserve_good
    | with_reducible refine pair_good (by assumption) ?_
    | with_reducible refine triple_good (by assumption) ?_
    | (intro _ _)
    | intro _
    | dsimp only
    | split
    | with_reducible rfl
    | (fail_if_no_progress (with_reducible refine good_upd ?_ rfl (fun _ => rfl) (fun _ => rfl))))

theorem ciKeyin_good (h : s.Good ql pp qq tv) (u : CU) (e : List Byte) :
     (ciKeyin u e s).2.Good ql pp qq tv := by
  unfold ciKeyin
  repeat' (first
    | with_reducible assumption
    | with_reducible apply put_good
    | with_reducible apply modCu_good
    | with_reducible apply findKey_good
    | with_reducible refine pair_good (by assumption) ?_
    | with_reducible refine triple_good (by assumption) ?_
    | (intro _ _)
    | intro _
    | dsimp only
    | split
    | with_reducible rfl
    | (fail_if_no_progress (with_reducible refine good_upd ?_ rfl (fun _ => rfl) (fun _ => rfl))))

theorem ciNonce_good (h : s.Good ql pp qq tv) (u : CU) (e : List Byte) :
     (ciNonce u e s).2.Good ql pp qq tv := by
  unfold ciNonce
  repeat' (first
    | with_reducible assumption
    | with_reducible apply modCu_good
    | with_reducible apply readLoc_good
    | (intro _ _)
    | intro _
    | dsimp only
    | split
    | with_reducible rfl
    | (fail_if_no_progress (with_reducible refine good_upd ?_ rfl (fun _ => rfl) (fun _ => rfl))))

theorem ciB0_good (h : s.Good ql pp qq tv) (u : CU) (e : List Byte) :
     (ciB0 u e s).2.Good ql pp qq tv := by
  unfold ciB0
  repeat' (first
    | with_reducible assumption
    | with_reducible apply modCu_good
    | (intro _ _)
    | intro _
    | dsimp only
    | split
    | with_reducible rfl
    | (fail_if_no_progress (with_reducible refine good_upd ?_ rfl (fun _ => rfl) (fun _ => rfl))))

theorem ciMac_good (h : s.Good ql pp qq tv) (u : CU) (e : List Byte) :
     (ciMac u e s).2.Good ql pp qq tv := by
  unfold ciMac
  repeat' (first
    | with_reducible assumption
    | with_reducible apply modCu_good
    | with_reducible apply ciMessage_good
    | with_reducible apply foldl_good
    | with_reducible apply foldl_pair_good
    | (intro _ _)
    | intro _
    | dsimp only
    | split
    | with_reducible rfl
    | (fail_if_no_progress (with_reducible refine good_upd ?_ rfl (fun _ => rfl) (fun _ => rfl))))

theorem ciCtr_good (h : s.Good ql pp qq tv) (u : CU) (e : List Byte) :
     (ciCtr u e s).2.Good ql pp qq tv := by
  unfold ciCtr
  repeat' (first
    | with_reducible assumption
    | with_reducible apply modCu_good
    | with_reducible apply writeLoc_good
    | with_reducible apply ciMessage_good
    | (intro _ _)
    | intro _
    | dsimp only
    | split
    | with_reducible rfl
    | (fail_if_no_progress (with_reducible refine good_upd ?_ rfl (fun _ => rfl) (fun _ => rfl))))

theorem ciRaw_good (h : s.Good ql pp qq tv) (u : CU) (e : List Byte) :
     (ciRaw u e s).2.Good ql pp qq tv := by
  unfold ciRaw
  repeat' (first
    | with_reducible assumption
    | with_reducible apply writeLoc_good
    | with_reducible apply ciMessage_good
    | (intro _ _)
    | intro _
    | dsimp only
    | split
    | with_reducible rfl
    | (fail_if_no_progress (with_reducible refine good_upd ?_ rfl (fun _ => rfl) (fun _ => rfl))))

theorem ciOpen_good (h : s.Good ql pp qq tv) (u : CU) (e : List Byte) :
     (ciOpen u e s).2.Good ql pp qq tv := by
  unfold ciOpen
  repeat' (first
    | with_reducible assumption
    | with_reducible apply writeLoc_good
    | (intro _ _)
    | intro _
    | dsimp only
    | split
    | with_reducible rfl
    | (fail_if_no_progress (with_reducible refine good_upd ?_ rfl (fun _ => rfl) (fun _ => rfl))))

theorem ciFinal_good (h : s.Good ql pp qq tv) (u : CU) (e : List Byte) :
     (ciFinal u e s).2.Good ql pp qq tv := by
  unfold ciFinal
  repeat' (first
    | with_reducible assumption
    | with_reducible apply inc_good
    | with_reducible apply modCu_good
    | with_reducible apply readLoc_good
    | with_reducible apply writeLoc_good
    | (intro _ _)
    | intro _
    | dsimp only
    | split
    | with_reducible rfl
    | (fail_if_no_progress (with_reducible refine good_upd ?_ rfl (fun _ => rfl) (fun _ => rfl))))

theorem ciEnd_good (h : s.Good ql pp qq tv) (u : CU) (off : Nat) (a : CiAnswer) :
     (ciEnd u off a s).Good ql pp qq tv := by
  unfold ciEnd
  repeat' (first
    | with_reducible assumption
    | with_reducible apply when_good
    | with_reducible apply flag_good
    | with_reducible apply add_good
    | with_reducible apply inc_good
    | with_reducible apply evin_good
    | with_reducible apply serWrite_good
    | with_reducible apply URing_pop_good
    | with_reducible apply modCu_good
    | with_reducible apply wipeUnit_good
    | (intro _ _)
    | intro _
    | dsimp only
    | split
    | with_reducible rfl
    | (fail_if_no_progress (with_reducible refine good_upd ?_ rfl (fun _ => rfl) (fun _ => rfl))))

theorem ciRun_good (h : s.Good ql pp qq tv) (u : CU) (e : List Byte) :
     (ciRun u e s).2.Good ql pp qq tv := by
  unfold ciRun
  repeat' (first
    | with_reducible assumption
    | with_reducible apply wipeUnit_good
    | with_reducible apply ciSel_good
    | with_reducible apply ciKeyin_good
    | with_reducible apply ciNonce_good
    | with_reducible apply ciB0_good
    | with_reducible apply ciMac_good
    | with_reducible apply ciCtr_good
    | with_reducible apply ciRaw_good
    | with_reducible apply ciOpen_good
    | with_reducible apply ciFinal_good
    | (intro _ _)
    | intro _
    | dsimp only
    | split
    | with_reducible rfl
    | (fail_if_no_progress (with_reducible refine good_upd ?_ rfl (fun _ => rfl) (fun _ => rfl))))

theorem drawMask_good (h : s.Good ql pp qq tv) (u : CU) (n : Nat) :
     (drawMask u n s).2.Good ql pp qq tv := by
  unfold drawMask
  repeat' (first
    | with_reducible assumption
    | with_reducible apply put_good
    | (intro _ _)
    | intro _
    | dsimp only
    | split
    | with_reducible rfl
    | (fail_if_no_progress (with_reducible refine good_upd ?_ rfl (fun _ => rfl) (fun _ => rfl))))

theorem ciStall_good (h : s.Good ql pp qq tv) (u : CU) (e : List Byte) (n : Nat) :
     (ciStall u e n s).Good ql pp qq tv := by
  unfold ciStall
  repeat' (first
    | with_reducible assumption
    | with_reducible apply inc_good
    | with_reducible apply puts_good
    | with_reducible apply raiseFault_good
    | with_reducible apply modCu_good
    | (intro _ _)
    | intro _
    | dsimp only
    | split
    | with_reducible rfl
    | (fail_if_no_progress (with_reducible refine good_upd ?_ rfl (fun _ => rfl) (fun _ => rfl))))

theorem ciExec_good (h : s.Good ql pp qq tv) (u : CU) (off : Nat) (e : List Byte) :
     (ciExec u off e s).Good ql pp qq tv := by
  unfold ciExec
  repeat' (first
    | with_reducible assumption
    | with_reducible apply endClaim_good
    | with_reducible apply ciEnd_good
    | with_reducible apply ciRun_good
    | (intro _ _)
    | intro _
    | dsimp only
    | split
    | with_reducible rfl
    | (fail_if_no_progress (with_reducible refine good_upd ?_ rfl (fun _ => rfl) (fun _ => rfl))))

theorem ciDraw_good (h : s.Good ql pp qq tv) (u : CU) (off : Nat) (e : List Byte) (n : Nat) :
     (ciDraw u off e n s).Good ql pp qq tv := by
  unfold ciDraw
  repeat' (first
    | with_reducible assumption
    | with_reducible apply drawMask_good
    | with_reducible apply ciStall_good
    | with_reducible apply ciExec_good
    | (intro _ _)
    | intro _
    | dsimp only
    | split
    | with_reducible rfl
    | (fail_if_no_progress (with_reducible refine good_upd ?_ rfl (fun _ => rfl) (fun _ => rfl))))

theorem ciCommand_good (h : s.Good ql pp qq tv) (u : CU) (op : Nat) :
     (ciCommand u op s).Good ql pp qq tv := by
  unfold ciCommand
  repeat' (first
    | with_reducible assumption
    | with_reducible apply serRead_good
    | with_reducible apply ciEnd_good
    | with_reducible apply ciDraw_good
    | with_reducible refine pair_good (by assumption) ?_
    | with_reducible refine triple_good (by assumption) ?_
    | (intro _ _)
    | intro _
    | dsimp only
    | split
    | with_reducible rfl
    | (fail_if_no_progress (with_reducible refine good_upd ?_ rfl (fun _ => rfl) (fun _ => rfl))))

theorem ciServe_good (h : s.Good ql pp qq tv) (u : CU) (op : Nat) :
     (ciServe u op s).Good ql pp qq tv := by
  unfold ciServe
  repeat' (first
    | with_reducible assumption
    | with_reducible apply orStall_good
    | with_reducible apply ciCommand_good
    | (intro _ _)
    | intro _
    | dsimp only
    | split
    | with_reducible rfl
    | (fail_if_no_progress (with_reducible refine good_upd ?_ rfl (fun _ => rfl) (fun _ => rfl))))

theorem ciUnstall_good (h : s.Good ql pp qq tv) (u : CU) :
     (ciUnstall u s).Good ql pp qq tv := by
  unfold ciUnstall
  repeat' (first
    | with_reducible assumption
    | with_reducible apply puts_good
    | with_reducible apply modCu_good
    | (intro _ _)
    | intro _
    | dsimp only
    | split
    | with_reducible rfl
    | (fail_if_no_progress (with_reducible refine good_upd ?_ rfl (fun _ => rfl) (fun _ => rfl))))

theorem ciStarved_good (h : s.Good ql pp qq tv) (u : CU) :
     (ciStarved u s).Good ql pp qq tv := by
  unfold ciStarved
  repeat' (first
    | with_reducible assumption
    | with_reducible apply orStall_good
    | with_reducible apply ciEnd_good
    | with_reducible apply ciUnstall_good
    | with_reducible refine pair_good (by assumption) ?_
    | with_reducible refine triple_good (by assumption) ?_
    | (intro _ _)
    | intro _
    | dsimp only
    | split
    | with_reducible rfl
    | (fail_if_no_progress (with_reducible refine good_upd ?_ rfl (fun _ => rfl) (fun _ => rfl))))

theorem ciRefill_good (h : s.Good ql pp qq tv) (u : CU) :
     (ciRefill u s).Good ql pp qq tv := by
  unfold ciRefill
  repeat' (first
    | with_reducible assumption
    | with_reducible apply put_good
    | with_reducible apply orStall_good
    | with_reducible apply ciDraw_good
    | with_reducible apply ciUnstall_good
    | with_reducible refine pair_good (by assumption) ?_
    | with_reducible refine triple_good (by assumption) ?_
    | (intro _ _)
    | intro _
    | dsimp only
    | split
    | with_reducible rfl
    | (fail_if_no_progress (with_reducible refine good_upd ?_ rfl (fun _ => rfl) (fun _ => rfl))))

theorem fillPools_good (h : s.Good ql pp qq tv) :
     (fillPools s).Good ql pp qq tv := by
  unfold fillPools
  repeat' (first
    | with_reducible assumption
    | with_reducible apply forN_good
    | with_reducible apply put_good
    | (intro _ _)
    | intro _
    | dsimp only
    | split
    | with_reducible rfl
    | (fail_if_no_progress (with_reducible refine good_upd ?_ rfl (fun _ => rfl) (fun _ => rfl))))

theorem ciphClear_good (h : s.Good ql pp qq tv) :
     (ciphClear s).Good ql pp qq tv := by
  unfold ciphClear
  repeat' (first
    | with_reducible assumption
    | with_reducible apply forN_good
    | with_reducible apply put_good
    | (intro _ _)
    | intro _
    | dsimp only
    | split
    | with_reducible rfl
    | (fail_if_no_progress (with_reducible refine good_upd ?_ rfl (fun _ => rfl) (fun _ => rfl))))

end Sys2Proof.Machine
end

