-- ==== Sys2Proof/Laws/GoodTrust.lean ====
section
/-!
SUPPORT. The operations of Machine/Trust.lean keep the queue and the canonical form (Laws/Good.lean).
-/

namespace Sys2Proof.Machine

set_option linter.unusedTactic false
set_option linter.unreachableTactic false
set_option linter.unusedVariables false

variable {ql : List Instr} {pp qq : Prop} {tv : Nat × Nat × Nat × Nat × Option (Nat × Nat × Nat)} {s : State}

theorem showBytes_good (h : s.Good ql pp qq tv) (f : Nat → Field) (n : Nat) (bs : List Byte) :
     (showBytes f n bs s).Good ql pp qq tv := by
  unfold showBytes
  repeat' (first
    | with_reducible assumption
    | with_reducible apply forN_good
    | with_reducible apply put_good
    | (intro _ _)
    | intro _
    | dsimp only
    | split
    | with_reducible rfl
    | (fail_if_no_progress (with_reducible refine good_upd ?_ rfl (fun _ => rfl) (fun _ => rfl))))

theorem optPatch_good (h : s.Good ql pp qq tv) (off : Nat) (bs : List Byte) :
     (optPatch off bs s).Good ql pp qq tv := by
  unfold optPatch
  repeat' (first
    | with_reducible assumption
    | with_reducible apply flsPut_good
    | with_reducible apply hwErase_good
    | (intro _ _)
    | intro _
    | dsimp only
    | split
    | with_reducible rfl
    | (fail_if_no_progress (with_reducible refine good_upd ?_ rfl (fun _ => rfl) (fun _ => rfl))))

theorem burnLife_good (h : s.Good ql pp qq tv) (v : Nat) :
     (burnLife v s).Good ql pp qq tv := by
  unfold burnLife
  repeat' (first
    | with_reducible assumption
    | with_reducible apply put_good
    | with_reducible apply optPatch_good
    | (intro _ _)
    | intro _
    | dsimp only
    | split
    | with_reducible rfl
    | (fail_if_no_progress (with_reducible refine good_upd ?_ rfl (fun _ => rfl) (fun _ => rfl))))

theorem drawNonce_good (h : s.Good ql pp qq tv) :
     (drawNonce s).Good ql pp qq tv := by
  unfold drawNonce
  repeat' (first
    | with_reducible assumption
    | with_reducible apply drbg_good
    | with_reducible apply showBytes_good
    | (intro _ _)
    | intro _
    | dsimp only
    | split
    | with_reducible rfl
    | (fail_if_no_progress (with_reducible refine good_upd ?_ rfl (fun _ => rfl) (fun _ => rfl))))

theorem trustBoot_good (h : s.Good ql pp qq tv) :
     (trustBoot s).Good ql pp qq tv := by
  unfold trustBoot
  repeat' (first
    | with_reducible assumption
    | with_reducible apply puts_good
    | with_reducible apply showBytes_good
    | (intro _ _)
    | intro _
    | dsimp only
    | split
    | with_reducible rfl
    | (fail_if_no_progress (with_reducible refine good_upd ?_ rfl (fun _ => rfl) (fun _ => rfl))))

theorem burnIdentity_good (h : s.Good ql pp qq tv) :
     (burnIdentity s).Good ql pp qq tv := by
  unfold burnIdentity
  repeat' (first
    | with_reducible assumption
    | with_reducible apply flag_good
    | with_reducible apply drbg_good
    | with_reducible apply showBytes_good
    | (intro _ _)
    | intro _
    | dsimp only
    | split
    | with_reducible rfl
    | (fail_if_no_progress (with_reducible refine good_upd ?_ rfl (fun _ => rfl) (fun _ => rfl))))

theorem noiseFail_good (h : s.Good ql pp qq tv) :
     (noiseFail s).Good ql pp qq tv := by
  unfold noiseFail
  repeat' (first
    | with_reducible assumption
    | with_reducible apply put_good
    | with_reducible apply flag_good
    | with_reducible apply inc_good
    | with_reducible apply produce_good
    | (intro _ _)
    | intro _
    | dsimp only
    | split
    | with_reducible rfl
    | (fail_if_no_progress (with_reducible refine good_upd ?_ rfl (fun _ => rfl) (fun _ => rfl))))

theorem drbgReseed_good (h : s.Good ql pp qq tv) :
     (drbgReseed s).Good ql pp qq tv := by
  unfold drbgReseed
  repeat' (first
    | with_reducible assumption
    | with_reducible apply inc_good
    | (intro _ _)
    | intro _
    | dsimp only
    | split
    | with_reducible rfl
    | (fail_if_no_progress (with_reducible refine good_upd ?_ rfl (fun _ => rfl) (fun _ => rfl))))

theorem drbgRestart_good (h : s.Good ql pp qq tv) :
     (drbgRestart s).Good ql pp qq tv := by
  unfold drbgRestart
  repeat' (first
    | with_reducible assumption
    | with_reducible apply flag_good
    | with_reducible apply inc_good
    | with_reducible apply fillPools_good
    | (intro _ _)
    | intro _
    | dsimp only
    | split
    | with_reducible rfl
    | (fail_if_no_progress (with_reducible refine good_upd ?_ rfl (fun _ => rfl) (fun _ => rfl))))

theorem randRead_good (h : s.Good ql pp qq tv) :
     (randRead s).Good ql pp qq tv := by
  unfold randRead
  repeat' (first
    | with_reducible assumption
    | with_reducible apply put_good
    | with_reducible apply drbg_good
    | (intro _ _)
    | intro _
    | dsimp only
    | split
    | with_reducible rfl
    | (fail_if_no_progress (with_reducible refine good_upd ?_ rfl (fun _ => rfl) (fun _ => rfl))))

theorem truGate_good (h : s.Good ql pp qq tv) (f : State → State) (hf : ∀ s, s.Good ql pp qq tv → (f s).Good ql pp qq tv) :
     (truGate f s).Good ql pp qq tv := by
  unfold truGate
  repeat' (first
    | with_reducible assumption
    | with_reducible apply flag_good
    | apply hf
    | (intro _ _)
    | intro _
    | dsimp only
    | split
    | with_reducible rfl
    | (fail_if_no_progress (with_reducible refine good_upd ?_ rfl (fun _ => rfl) (fun _ => rfl))))

theorem truEnd_good (h : s.Good ql pp qq tv) (st entry : Nat) :
     (truEnd st entry s).Good ql pp qq tv := by
  unfold truEnd
  repeat' (first
    | with_reducible assumption
    | with_reducible apply puts_good
    | (intro _ _)
    | intro _
    | dsimp only
    | split
    | with_reducible rfl
    | (fail_if_no_progress (with_reducible refine good_upd ?_ rfl (fun _ => rfl) (fun _ => rfl))))

theorem claimOp_good (h : s.Good ql pp qq tv) :
     (claimOp s).Good ql pp qq tv := by
  unfold claimOp
  repeat' (first
    | with_reducible assumption
    | with_reducible apply optPatch_good
    | with_reducible apply burnLife_good
    | with_reducible apply truGate_good
    | with_reducible apply truEnd_good
    | (intro _ _)
    | intro _
    | dsimp only
    | split
    | with_reducible rfl
    | (fail_if_no_progress (with_reducible refine good_upd ?_ rfl (fun _ => rfl) (fun _ => rfl))))

theorem setpubOp_good (h : s.Good ql pp qq tv) :
     (setpubOp s).Good ql pp qq tv := by
  unfold setpubOp
  repeat' (first
    | with_reducible assumption
    | with_reducible apply flag_good
    | with_reducible apply optPatch_good
    | with_reducible apply truGate_good
    | with_reducible apply truEnd_good
    | (intro _ _)
    | intro _
    | dsimp only
    | split
    | with_reducible rfl
    | (fail_if_no_progress (with_reducible refine good_upd ?_ rfl (fun _ => rfl) (fun _ => rfl))))

theorem rbumpOp_good (h : s.Good ql pp qq tv) :
     (rbumpOp s).Good ql pp qq tv := by
  unfold rbumpOp
  repeat' (first
    | with_reducible assumption
    | with_reducible apply truGate_good
    | with_reducible apply truEnd_good
    | (intro _ _)
    | intro _
    | dsimp only
    | split
    | with_reducible rfl
    | (fail_if_no_progress (with_reducible refine good_upd ?_ rfl (fun _ => rfl) (fun _ => rfl))))

theorem rbumpDone_good (h : s.Good ql pp qq tv) :
     (rbumpDone s).Good ql pp qq tv := by
  unfold rbumpDone
  repeat' (first
    | with_reducible assumption
    | with_reducible apply put_good
    | with_reducible apply truEnd_good
    | (intro _ _)
    | intro _
    | dsimp only
    | split
    | with_reducible rfl
    | (fail_if_no_progress (with_reducible refine good_upd ?_ rfl (fun _ => rfl) (fun _ => rfl))))

theorem rbumpCut_good (h : s.Good ql pp qq tv) :
     (rbumpCut s).Good ql pp qq tv := by
  unfold rbumpCut
  repeat' (first
    | with_reducible assumption
    | with_reducible apply fresh_good
    | (intro _ _)
    | intro _
    | dsimp only
    | split
    | with_reducible rfl
    | (fail_if_no_progress (with_reducible refine good_upd ?_ rfl (fun _ => rfl) (fun _ => rfl))))

theorem ownerGo_good (h : s.Good ql pp qq tv) :
     (ownerGo s).Good ql pp qq tv := by
  unfold ownerGo
  repeat' (first
    | with_reducible assumption
    | with_reducible apply serRead_good
    | with_reducible apply truGate_good
    | with_reducible apply truEnd_good
    | (intro _ _)
    | intro _
    | dsimp only
    | split
    | with_reducible rfl
    | (fail_if_no_progress (with_reducible refine good_upd ?_ rfl (fun _ => rfl) (fun _ => rfl))))

theorem ownerRow_good (h : s.Good ql pp qq tv) (ty : Nat) :
     (ownerRow ty s).Good ql pp qq tv := by
  unfold ownerRow
  repeat' (first
    | with_reducible assumption
    | with_reducible apply ownerGo_good
    | (intro _ _)
    | intro _
    | dsimp only
    | split
    | with_reducible rfl
    | (fail_if_no_progress (with_reducible refine good_upd ?_ rfl (fun _ => rfl) (fun _ => rfl))))

theorem imInstall_good (h : s.Good ql pp qq tv) (b e : List Byte) :
     (imInstall b e s).Good ql pp qq tv := by
  unfold imInstall
  repeat' (first
    | with_reducible assumption
    | with_reducible apply flag_good
    | with_reducible apply puts_good
    | with_reducible apply serWrite_good
    | with_reducible apply storageForm_good
    | with_reducible apply cachePut_good
    | with_reducible apply getD_map_good
    | with_reducible apply getD_good
    | (intro _ _)
    | intro _
    | dsimp only
    | split
    | with_reducible rfl
    | (fail_if_no_progress (with_reducible refine good_upd ?_ rfl (fun _ => rfl) (fun _ => rfl))))

theorem importRun_good (h : s.Good ql pp qq tv) (b : List Byte) :
     (importRun b s).Good ql pp qq tv := by
  unfold importRun
  repeat' (first
    | with_reducible assumption
    | with_reducible apply forAll_good
    | with_reducible apply add_good
    | with_reducible apply inc_good
    | with_reducible apply truEnd_good
    | with_reducible apply imInstall_good
    | with_reducible refine pair_good (by assumption) ?_
    | with_reducible refine triple_good (by assumption) ?_
    | with_reducible apply getD_map_good
    | with_reducible apply getD_good
    | (intro _ _)
    | intro _
    | dsimp only
    | split
    | with_reducible rfl
    | (fail_if_no_progress (with_reducible refine good_upd ?_ rfl (fun _ => rfl) (fun _ => rfl))))

theorem ocRun_good (h : s.Good ql pp qq tv) (b : List Byte) :
     (ocRun b s).Good ql pp qq tv := by
  unfold ocRun
  repeat' (first
    | with_reducible assumption
    | with_reducible apply setReg_good
    | with_reducible apply inc_good
    | with_reducible apply optPatch_good
    | with_reducible apply burnLife_good
    | with_reducible apply truEnd_good
    | with_reducible apply importRun_good
    | (intro _ _)
    | intro _
    | dsimp only
    | split
    | with_reducible rfl
    | (fail_if_no_progress (with_reducible refine good_upd ?_ rfl (fun _ => rfl) (fun _ => rfl))))

theorem ownerDone_good (h : s.Good ql pp qq tv) :
     (ownerDone s).Good ql pp qq tv := by
  unfold ownerDone
  repeat' (first
    | with_reducible assumption
    | with_reducible apply when_good
    | with_reducible apply inc_good
    | with_reducible apply drawNonce_good
    | with_reducible apply truEnd_good
    | with_reducible apply ocRun_good
    | with_reducible refine pair_good (by assumption) ?_
    | with_reducible refine triple_good (by assumption) ?_
    | (intro _ _)
    | intro _
    | dsimp only
    | split
    | with_reducible rfl
    | (fail_if_no_progress (with_reducible refine good_upd ?_ rfl (fun _ => rfl) (fun _ => rfl))))

theorem lockSet_good (h : s.Good ql pp qq tv) (v : Nat) :
     (lockSet v s).Good ql pp qq tv := by
  unfold lockSet
  repeat' (first
    | with_reducible assumption
    | with_reducible apply setReg_good
    | with_reducible apply add_good
    | (intro _ _)
    | intro _
    | dsimp only
    | split
    | with_reducible rfl
    | (fail_if_no_progress (with_reducible refine good_upd ?_ rfl (fun _ => rfl) (fun _ => rfl))))

theorem jtagOp_good (h : s.Good ql pp qq tv) (j : Jtag) :
     (jtagOp j s).Good ql pp qq tv := by
  unfold jtagOp
  repeat' (first
    | with_reducible assumption
    | with_reducible apply when_good
    | with_reducible apply inc_good
    | (intro _ _)
    | intro _
    | dsimp only
    | split
    | with_reducible rfl
    | (fail_if_no_progress (with_reducible refine good_upd ?_ rfl (fun _ => rfl) (fun _ => rfl))))

end Sys2Proof.Machine
end

