-- ==== Sys2Proof/Laws/GoodUpd.lean ====
section
/-!
SUPPORT. The operations of Machine/Upd.lean keep the queue and the canonical form (Laws/Good.lean).
-/

namespace Sys2Proof.Machine

set_option linter.unusedTactic false
set_option linter.unreachableTactic false
set_option linter.unusedVariables false

variable {ql : List Instr} {pp qq : Prop} {tv : Nat × Nat × Nat × Nat × Option (Nat × Nat × Nat)} {s : State}

theorem putSyllables_good (h : s.Good ql pp qq tv) (n : Fin 12) (b i : Nat) (bs : List Byte) :
     (putSyllables n b i bs s).Good ql pp qq tv := by
  unfold putSyllables
  repeat' (first
    | with_reducible assumption
    | with_reducible refine modDrv_good' ?_ _ _ (fun _ _ => ?_)
    | with_reducible apply put_good
    | with_reducible apply swf_sset
    | with_reducible apply foldl_good
    | with_reducible apply foldl_pair_good
    | (intro _ _)
    | intro _
    | dsimp only
    | split
    | with_reducible rfl
    | (fail_if_no_progress (with_reducible refine good_upd ?_ rfl (fun _ => rfl) (fun _ => rfl))))

theorem clearBank_good (h : s.Good ql pp qq tv) (n : Fin 12) (b : Nat) :
     (clearBank n b s).Good ql pp qq tv := by
  unfold clearBank
  repeat' (first
    | with_reducible assumption
    | with_reducible refine modDrv_good' ?_ _ _ (fun _ _ => ?_)
    | (intro _ _)
    | intro _
    | dsimp only
    | split
    | with_reducible rfl
    | (fail_if_no_progress (with_reducible refine good_upd ?_ rfl (fun _ => rfl) (fun _ => rfl))))

theorem validBank_good (h : s.Good ql pp qq tv) (n : Fin 12) (b : Nat) (h : List Byte) :
     (validBank n b h s).Good ql pp qq tv := by
  unfold validBank
  repeat' (first
    | with_reducible assumption
    | with_reducible apply puts_good
    | (intro _ _)
    | intro _
    | dsimp only
    | split
    | with_reducible rfl
    | (fail_if_no_progress (with_reducible refine good_upd ?_ rfl (fun _ => rfl) (fun _ => rfl))))

theorem updErr_good (h : s.Good ql pp qq tv) (c : Nat) :
     (updErr c s).Good ql pp qq tv := by
  unfold updErr
  repeat' (first
    | with_reducible assumption
    | with_reducible apply put_good
    | (intro _ _)
    | intro _
    | dsimp only
    | split
    | with_reducible rfl
    | (fail_if_no_progress (with_reducible refine good_upd ?_ rfl (fun _ => rfl) (fun _ => rfl))))

theorem updAbort_good (h : s.Good ql pp qq tv) (c : Nat) :
     (updAbort c s).Good ql pp qq tv := by
  unfold updAbort
  repeat' (first
    | with_reducible assumption
    | with_reducible apply forAll_good
    | with_reducible apply put_good
    | with_reducible apply inc_good
    | with_reducible apply puts_good
    | with_reducible apply updErr_good
    | (intro _ _)
    | intro _
    | dsimp only
    | split
    | with_reducible rfl
    | (fail_if_no_progress (with_reducible refine good_upd ?_ rfl (fun _ => rfl) (fun _ => rfl))))

theorem updWatch_good (h : s.Good ql pp qq tv) :
     (updWatch s).Good ql pp qq tv := by
  unfold updWatch
  repeat' (first
    | with_reducible assumption
    | with_reducible apply updAbort_good
    | (intro _ _)
    | intro _
    | dsimp only
    | split
    | with_reducible rfl
    | (fail_if_no_progress (with_reducible refine good_upd ?_ rfl (fun _ => rfl) (fun _ => rfl))))

theorem updHeader_good (h : s.Good ql pp qq tv) :
     (updHeader s).Good ql pp qq tv := by
  unfold updHeader
  repeat' (first
    | with_reducible assumption
    | with_reducible apply inc_good
    | with_reducible apply puts_good
    | with_reducible apply serRead_good
    | with_reducible apply updErr_good
    | (intro _ _)
    | intro _
    | dsimp only
    | split
    | with_reducible rfl
    | (fail_if_no_progress (with_reducible refine good_upd ?_ rfl (fun _ => rfl) (fun _ => rfl))))

theorem updChunk_good (h : s.Good ql pp qq tv) :
     (updChunk s).Good ql pp qq tv := by
  unfold updChunk
  repeat' (first
    | with_reducible assumption
    | with_reducible apply forAll_good
    | with_reducible apply put_good
    | with_reducible apply puts_good
    | with_reducible apply serRead_good
    | with_reducible apply putSyllables_good
    | with_reducible apply clearBank_good
    | with_reducible apply updErr_good
    | with_reducible apply updAbort_good
    | (intro _ _)
    | intro _
    | dsimp only
    | split
    | with_reducible rfl
    | (fail_if_no_progress (with_reducible refine good_upd ?_ rfl (fun _ => rfl) (fun _ => rfl))))

theorem updChunkDone_good (h : s.Good ql pp qq tv) :
     (updChunkDone s).Good ql pp qq tv := by
  unfold updChunkDone
  repeat' (first
    | with_reducible assumption
    | with_reducible apply put_good
    | (intro _ _)
    | intro _
    | dsimp only
    | split
    | with_reducible rfl
    | (fail_if_no_progress (with_reducible refine good_upd ?_ rfl (fun _ => rfl) (fun _ => rfl))))

theorem updFinish_good (h : s.Good ql pp qq tv) :
     (updFinish s).Good ql pp qq tv := by
  unfold updFinish
  repeat' (first
    | with_reducible assumption
    | with_reducible apply forAll_good
    | with_reducible apply put_good
    | with_reducible apply inc_good
    | with_reducible apply validBank_good
    | with_reducible apply updErr_good
    | with_reducible apply updAbort_good
    | (intro _ _)
    | intro _
    | dsimp only
    | split
    | with_reducible rfl
    | (fail_if_no_progress (with_reducible refine good_upd ?_ rfl (fun _ => rfl) (fun _ => rfl))))

theorem holdupSample_good (h : s.Good ql pp qq tv) (mv : Nat) :
     (holdupSample mv s).Good ql pp qq tv := by
  unfold holdupSample
  repeat' (first
    | with_reducible assumption
    | with_reducible apply put_good
    | with_reducible apply updWatch_good
    | (intro _ _)
    | intro _
    | dsimp only
    | split
    | with_reducible rfl
    | (fail_if_no_progress (with_reducible refine good_upd ?_ rfl (fun _ => rfl) (fun _ => rfl))))

theorem updClear_good (h : s.Good ql pp qq tv) :
     (updClear s).Good ql pp qq tv := by
  unfold updClear
  repeat' (first
    | with_reducible assumption
    | with_reducible apply forN_good
    | with_reducible apply put_good
    | (intro _ _)
    | intro _
    | dsimp only
    | split
    | with_reducible rfl
    | (fail_if_no_progress (with_reducible refine good_upd ?_ rfl (fun _ => rfl) (fun _ => rfl))))

theorem loadDrover_good (h : s.Good ql pp qq tv) (n : Fin 12) (i : List Byte) :
     (loadDrover n i s).Good ql pp qq tv := by
  unfold loadDrover
  repeat' (first
    | with_reducible assumption
    | with_reducible apply exchangeBanks_good
    | with_reducible apply putSyllables_good
    | with_reducible apply clearBank_good
    | with_reducible apply validBank_good
    | (intro _ _)
    | intro _
    | dsimp only
    | split
    | with_reducible rfl
    | (fail_if_no_progress (with_reducible refine good_upd ?_ rfl (fun _ => rfl) (fun _ => rfl))))

theorem loadSet_good (h : s.Good ql pp qq tv) (x : ImageSet) :
     (loadSet x s).Good ql pp qq tv := by
  unfold loadSet
  repeat' (first
    | with_reducible assumption
    | with_reducible apply poke_good
    | with_reducible apply puts_good
    | with_reducible apply forDrovers_good
    | with_reducible apply loadDrover_good
    | with_reducible refine pair_good (by assumption) ?_
    | with_reducible refine triple_good (by assumption) ?_
    | with_reducible apply getD_map_good
    | with_reducible apply getD_good
    | (intro _ _)
    | intro _
    | dsimp only
    | split
    | with_reducible rfl
    | (fail_if_no_progress (with_reducible refine good_upd ?_ rfl (fun _ => rfl) (fun _ => rfl))))

theorem eraseRange_good (h : s.Good ql pp qq tv) (lo hi : Nat) :
     (eraseRange lo hi s).Good ql pp qq tv := by
  unfold eraseRange
  repeat' (first
    | with_reducible assumption
    | with_reducible apply forN_good
    | with_reducible apply hwErase_good
    | (intro _ _)
    | intro _
    | dsimp only
    | split
    | with_reducible rfl
    | (fail_if_no_progress (with_reducible refine good_upd ?_ rfl (fun _ => rfl) (fun _ => rfl))))

theorem buildSet_good (h : s.Good ql pp qq tv) (area seq : Nat) (imgs : List (List Byte)) :
     (buildSet area seq imgs s).Good ql pp qq tv := by
  unfold buildSet
  repeat' (first
    | with_reducible assumption
    | with_reducible apply forAll_good
    | with_reducible apply flsPut_good
    | with_reducible apply eraseRange_good
    | (intro _ _)
    | intro _
    | dsimp only
    | split
    | with_reducible rfl
    | (fail_if_no_progress (with_reducible refine good_upd ?_ rfl (fun _ => rfl) (fun _ => rfl))))

theorem promoteStaged_good (h : s.Good ql pp qq tv) :
     (promoteStaged s).Good ql pp qq tv := by
  unfold promoteStaged
  repeat' (first
    | with_reducible assumption
    | with_reducible apply flag_good
    | with_reducible apply inc_good
    | with_reducible apply eraseRange_good
    | with_reducible apply buildSet_good
    | with_reducible refine pair_good (by assumption) ?_
    | with_reducible refine triple_good (by assumption) ?_
    | (intro _ _)
    | intro _
    | dsimp only
    | split
    | with_reducible rfl
    | (fail_if_no_progress (with_reducible refine good_upd ?_ rfl (fun _ => rfl) (fun _ => rfl))))

theorem bootShow_good (h : s.Good ql pp qq tv) (i : List Byte) :
     (bootShow i s).Good ql pp qq tv := by
  unfold bootShow
  repeat' (first
    | with_reducible assumption
    | with_reducible apply puts_good
    | (intro _ _)
    | intro _
    | dsimp only
    | split
    | with_reducible rfl
    | (fail_if_no_progress (with_reducible refine good_upd ?_ rfl (fun _ => rfl) (fun _ => rfl))))

theorem bootFlash_good (h : s.Good ql pp qq tv) :
     (bootFlash s).2.Good ql pp qq tv := by
  unfold bootFlash
  repeat' (first
    | with_reducible assumption
    | with_reducible apply flag_good
    | with_reducible apply loadSet_good
    | with_reducible apply promoteStaged_good
    | with_reducible refine pair_good (by assumption) ?_
    | with_reducible refine triple_good (by assumption) ?_
    | (intro _ _)
    | intro _
    | dsimp only
    | split
    | with_reducible rfl
    | (fail_if_no_progress (with_reducible refine good_upd ?_ rfl (fun _ => rfl) (fun _ => rfl))))

theorem bootHost_good (h : s.Good ql pp qq tv) (i : List Byte) :
     (bootHost i s).2.Good ql pp qq tv := by
  unfold bootHost
  repeat' (first
    | with_reducible assumption
    | with_reducible apply puts_good
    | with_reducible apply loadDrover_good
    | (intro _ _)
    | intro _
    | dsimp only
    | split
    | with_reducible rfl
    | (fail_if_no_progress (with_reducible refine good_upd ?_ rfl (fun _ => rfl) (fun _ => rfl))))

end Sys2Proof.Machine
end

