-- ==== Sys2Proof/Laws/GoodNt.lean ====
section
/-!
SUPPORT. The operations of Machine/Nt.lean keep the queue and the canonical form (Laws/Good.lean).
-/

namespace Sys2Proof.Machine

set_option linter.unusedTactic false
set_option linter.unreachableTactic false
set_option linter.unusedVariables false

variable {ql : List Instr} {pp qq : Prop} {tv : Nat × Nat × Nat × Nat × Option (Nat × Nat × Nat)} {s : State}

theorem ntEpoch_good (h : s.Good ql pp qq tv) :
     (ntEpoch s).Good ql pp qq tv := by
  unfold ntEpoch
  repeat' (first
    | with_reducible assumption
    | with_reducible apply puts_good
    | (intro _ _)
    | intro _
    | dsimp only
    | split
    | with_reducible rfl
    | (fail_if_no_progress (with_reducible refine good_upd ?_ rfl (fun _ => rfl) (fun _ => rfl))))

theorem ntMissModel_good (h : s.Good ql pp qq tv) (m : Drift) :
     (ntMissModel m s).2.Good ql pp qq tv := by
  unfold ntMissModel
  repeat' (first
    | with_reducible assumption
    | with_reducible apply inc_good
    | with_reducible apply produce_good
    | (intro _ _)
    | intro _
    | dsimp only
    | split
    | with_reducible rfl
    | (fail_if_no_progress (with_reducible refine good_upd ?_ rfl (fun _ => rfl) (fun _ => rfl))))

theorem ntInitRun_good (h : s.Good ql pp qq tv) (fl arg : Nat) (value : Nat) :
     (ntInitRun fl arg value s).2.Good ql pp qq tv := by
  unfold ntInitRun
  repeat' (first
    | with_reducible assumption
    | (intro _ _)
    | intro _
    | dsimp only
    | split
    | with_reducible rfl
    | (fail_if_no_progress (with_reducible refine good_upd ?_ rfl (fun _ => rfl) (fun _ => rfl))))

theorem ntPredictRun_good (h : s.Good ql pp qq tv) (m0 : Drift) (arg : Nat) : (ntPredictRun m0 arg s).2.Good ql pp qq tv := by
  have h1 : (s.inc (F.NT_CNT_k_COUNT 1)).Good ql pp qq tv := inc_good h _
  unfold ntPredictRun
  extract_lets n m ws tx gx dt s1 c g g0 gw mid wo wc r
  by_cases hn : 65535 < n
  · rw [if_pos hn]; exact h
  · rw [if_neg hn]
    replace h1 : s1.Good ql pp qq tv := h1
    clear_value s1
    by_cases hl : m.state = ntLost
    · rw [if_pos hl]; exact h1
    · rw [if_neg hl]
      clear_value wo wc
      split
      · exact ntMissModel_good h1 _
      · exact h1

theorem overDt_good (h : s.Good ql pp qq tv) (a dt : Frac) :
     (overDt a dt s).2.Good ql pp qq tv := by
  unfold overDt
  repeat' (first
    | with_reducible assumption
    | (intro _ _)
    | intro _
    | dsimp only
    | split
    | with_reducible rfl
    | (fail_if_no_progress (with_reducible refine good_upd ?_ rfl (fun _ => rfl) (fun _ => rfl))))

theorem ntUpdateRun_good (h : s.Good ql pp qq tv) (m0 : Drift) (fl arg value : Nat) :
    (ntUpdateRun m0 fl arg value s).2.Good ql pp qq tv := by
  unfold ntUpdateRun
  extract_lets t m1 m2 m obs dt pred d rate acc moved spread gate learning jump s1 restart q kb kg ka q1 q2 r jumps wasLost nupd st0 st s2 m3 e
  by_cases hc : (asnAfter m0.anchor t.1 || (m0.anchor == t.1 && decide (t.2 < m0.anchq))) = true
  · rw [if_pos hc]; exact h
  · rw [if_neg hc]
    have h1 : s1.Good ql pp qq tv := when_good h _ _ fun _ h => inc_good h _
    have hr : r.2.2.2.2.Good ql pp qq tv := by
      show (if _ then _ else _ : Frac × Frac × Frac × Frac × State).2.2.2.2.Good ql pp qq tv
      clear_value s1
      split
      · split
        · exact overDt_good h1 _ _
        · exact h1
      · split
        · exact h1
        · exact overDt_good (overDt_good h1 _ _) _ _
    clear_value r
    exact inc_good (when_good hr _ _ fun _ h => inc_good h _) _

theorem ntEnd_good (h : s.Good ql pp qq tv) (j off : Nat) (a : NtAnswer) :
     (ntEnd j off a s).Good ql pp qq tv := by
  unfold ntEnd
  repeat' (first
    | with_reducible assumption
    | with_reducible apply when_good
    | with_reducible apply flag_good
    | with_reducible apply serWrite_good
    | with_reducible apply URing_pop_good
    | with_reducible apply evinAll_good
    | with_reducible apply getD_map_good
    | with_reducible apply getD_good
    | (intro _ _)
    | intro _
    | dsimp only
    | split
    | with_reducible rfl
    | (fail_if_no_progress (with_reducible refine good_upd ?_ rfl (fun _ => rfl) (fun _ => rfl))))

theorem ntRun_good (h : s.Good ql pp qq tv) (e : List Byte) :
     (ntRun e s).2.Good ql pp qq tv := by
  unfold ntRun
  repeat' (first
    | with_reducible assumption
    | with_reducible apply serRead_good
    | with_reducible apply serWrite_good
    | with_reducible apply ntMissModel_good
    | with_reducible apply ntInitRun_good
    | with_reducible apply ntPredictRun_good
    | with_reducible apply ntUpdateRun_good
    | with_reducible apply getD_map_good
    | with_reducible apply getD_good
    | (intro _ _)
    | intro _
    | dsimp only
    | split
    | with_reducible rfl
    | (fail_if_no_progress (with_reducible refine good_upd ?_ rfl (fun _ => rfl) (fun _ => rfl))))

theorem ntCommand_good (h : s.Good ql pp qq tv) (op : Nat) :
     (ntCommand op s).Good ql pp qq tv := by
  unfold ntCommand
  repeat' (first
    | with_reducible assumption
    | with_reducible apply serRead_good
    | with_reducible apply ntEnd_good
    | with_reducible apply ntRun_good
    | with_reducible refine pair_good (by assumption) ?_
    | with_reducible refine triple_good (by assumption) ?_
    | (intro _ _)
    | intro _
    | dsimp only
    | split
    | with_reducible rfl
    | (fail_if_no_progress (with_reducible refine good_upd ?_ rfl (fun _ => rfl) (fun _ => rfl))))

theorem ntServe_good (h : s.Good ql pp qq tv) (op : Nat) :
     (ntServe op s).Good ql pp qq tv := by
  unfold ntServe
  repeat' (first
    | with_reducible assumption
    | with_reducible apply orStall_good
    | with_reducible apply ntCommand_good
    | (intro _ _)
    | intro _
    | dsimp only
    | split
    | with_reducible rfl
    | (fail_if_no_progress (with_reducible refine good_upd ?_ rfl (fun _ => rfl) (fun _ => rfl))))

theorem ntClear_good (h : s.Good ql pp qq tv) :
     (ntClear s).Good ql pp qq tv := by
  unfold ntClear
  repeat' (first
    | with_reducible assumption
    | with_reducible apply forN_good
    | with_reducible apply put_good
    | (intro _ _)
    | intro _
    | dsimp only
    | split
    | with_reducible rfl
    | (fail_if_no_progress (with_reducible refine good_upd ?_ rfl (fun _ => rfl) (fun _ => rfl))))

end Sys2Proof.Machine
end

