-- ==== Sys2Proof/Laws/GoodCar.lean ====
section
/-!
SUPPORT. The operations of Machine/Car.lean keep the queue and the canonical form (Laws/Good.lean).
-/

namespace Sys2Proof.Machine

set_option linter.unusedTactic false
set_option linter.unreachableTactic false
set_option linter.unusedVariables false

variable {ql : List Instr} {pp qq : Prop} {tv : Nat × Nat × Nat × Nat × Option (Nat × Nat × Nat)} {s : State}

theorem leadCmd_good (h : s.Good ql pp qq tv) (f : State → State) (hf : ∀ s, s.Good ql pp qq tv → (f s).Good ql pp qq tv) :
     (leadCmd f s).Good ql pp qq tv := by
  unfold leadCmd
  repeat' (first
    | with_reducible assumption
    | with_reducible apply flag_good
    | apply hf
    | (intro _ _)
    | intro _
    | dsimp only
    | split
    | with_reducible rfl
    | (fail_if_no_progress (with_reducible refine good_upd ?_ rfl (fun _ => rfl) (fun _ => rfl))))

theorem setCarSet_good (h : s.Good ql pp qq tv) (k v : Nat) :
     (setCarSet k v s).Good ql pp qq tv := by
  unfold setCarSet
  repeat' (first
    | with_reducible assumption
    | with_reducible apply puts_good
    | (intro _ _)
    | intro _
    | dsimp only
    | split
    | with_reducible rfl
    | (fail_if_no_progress (with_reducible refine good_upd ?_ rfl (fun _ => rfl) (fun _ => rfl))))

theorem reportBit_good (h : s.Good ql pp qq tv) (k : Nat) :
     (reportBit k s).Good ql pp qq tv := by
  unfold reportBit
  repeat' (first
    | with_reducible assumption
    | with_reducible apply emit_good
    | with_reducible apply setCarSet_good
    | (intro _ _)
    | intro _
    | dsimp only
    | split
    | with_reducible rfl
    | (fail_if_no_progress (with_reducible refine good_upd ?_ rfl (fun _ => rfl) (fun _ => rfl))))

theorem carRecord_good (h : s.Good ql pp qq tv) (off v : Nat) :
     (carRecord off v s).Good ql pp qq tv := by
  unfold carRecord
  repeat' (first
    | with_reducible assumption
    | with_reducible apply journal_good
    | (intro _ _)
    | intro _
    | dsimp only
    | split
    | with_reducible rfl
    | (fail_if_no_progress (with_reducible refine good_upd ?_ rfl (fun _ => rfl) (fun _ => rfl))))

theorem returnReport_good (h : s.Good ql pp qq tv) :
     (returnReport s).Good ql pp qq tv := by
  unfold returnReport
  repeat' (first
    | with_reducible assumption
    | with_reducible apply reportBit_good
    | (intro _ _)
    | intro _
    | dsimp only
    | split
    | with_reducible rfl
    | (fail_if_no_progress (with_reducible refine good_upd ?_ rfl (fun _ => rfl) (fun _ => rfl))))

theorem setRole_good (h : s.Good ql pp qq tv) (r : Nat) :
     (setRole r s).Good ql pp qq tv := by
  unfold setRole
  repeat' (first
    | with_reducible assumption
    | with_reducible apply put_good
    | with_reducible apply raiseVector_good
    | (intro _ _)
    | intro _
    | dsimp only
    | split
    | with_reducible rfl
    | (fail_if_no_progress (with_reducible refine good_upd ?_ rfl (fun _ => rfl) (fun _ => rfl))))

theorem leadRole_good (h : s.Good ql pp qq tv) :
     (leadRole s).Good ql pp qq tv := by
  unfold leadRole
  repeat' (first
    | with_reducible assumption
    | with_reducible apply setRole_good
    | (intro _ _)
    | intro _
    | dsimp only
    | split
    | with_reducible rfl
    | (fail_if_no_progress (with_reducible refine good_upd ?_ rfl (fun _ => rfl) (fun _ => rfl))))

theorem hopIn_good (h : s.Good ql pp qq tv) (h : PktHead) :
     (hopIn h s).Good ql pp qq tv := by
  unfold hopIn
  repeat' (first
    | with_reducible assumption
    | with_reducible apply add_good
    | with_reducible apply emit_good
    | (intro _ _)
    | intro _
    | dsimp only
    | split
    | with_reducible rfl
    | (fail_if_no_progress (with_reducible refine good_upd ?_ rfl (fun _ => rfl) (fun _ => rfl))))

theorem relayPkt_good (h : s.Good ql pp qq tv) (h : PktHead) (p : Packet) :
     (relayPkt h p s).Good ql pp qq tv := by
  unfold relayPkt
  repeat' (first
    | with_reducible assumption
    | with_reducible apply emit_good
    | (intro _ _)
    | intro _
    | dsimp only
    | split
    | with_reducible rfl
    | (fail_if_no_progress (with_reducible refine good_upd ?_ rfl (fun _ => rfl) (fun _ => rfl))))

theorem neighbourPkt_good (h : s.Good ql pp qq tv) (h : PktHead) (take : State → State) (hf : ∀ s, s.Good ql pp qq tv → (take s).Good ql pp qq tv) :
     (neighbourPkt h take s).Good ql pp qq tv := by
  unfold neighbourPkt
  repeat' (first
    | with_reducible assumption
    | with_reducible apply hopIn_good
    | apply hf
    | (intro _ _)
    | intro _
    | dsimp only
    | split
    | with_reducible rfl
    | (fail_if_no_progress (with_reducible refine good_upd ?_ rfl (fun _ => rfl) (fun _ => rfl))))

theorem receivePkt_good (h : s.Good ql pp qq tv) (h : PktHead) (p : Packet) (take : State → State) (hf : ∀ s, s.Good ql pp qq tv → (take s).Good ql pp qq tv) :
     (receivePkt h p take s).Good ql pp qq tv := by
  unfold receivePkt
  repeat' (first
    | with_reducible assumption
    | with_reducible apply hopIn_good
    | with_reducible apply relayPkt_good
    | apply hf
    | (intro _ _)
    | intro _
    | dsimp only
    | split
    | with_reducible rfl
    | (fail_if_no_progress (with_reducible refine good_upd ?_ rfl (fun _ => rfl) (fun _ => rfl))))

theorem enumerated_good (h : s.Good ql pp qq tv) (n : Nat) :
     (enumerated n s).Good ql pp qq tv := by
  unfold enumerated
  repeat' (first
    | with_reducible assumption
    | with_reducible apply when_good
    | with_reducible apply put_good
    | with_reducible apply flag_good
    | with_reducible apply manCheckDoneOp_good
    | with_reducible apply setCarSet_good
    | (intro _ _)
    | intro _
    | dsimp only
    | split
    | with_reducible rfl
    | (fail_if_no_progress (with_reducible refine good_upd ?_ rfl (fun _ => rfl) (fun _ => rfl))))

theorem enumStart_good (h : s.Good ql pp qq tv) :
     (enumStart s).Good ql pp qq tv := by
  unfold enumStart
  repeat' (first
    | with_reducible assumption
    | with_reducible apply puts_good
    | with_reducible apply emit_good
    | (intro _ _)
    | intro _
    | dsimp only
    | split
    | with_reducible rfl
    | (fail_if_no_progress (with_reducible refine good_upd ?_ rfl (fun _ => rfl) (fun _ => rfl))))

theorem carEnum_good (h : s.Good ql pp qq tv) :
     (carEnum s).Good ql pp qq tv := by
  unfold carEnum
  repeat' (first
    | with_reducible assumption
    | with_reducible apply leadCmd_good
    | with_reducible apply enumStart_good
    | (intro _ _)
    | intro _
    | dsimp only
    | split
    | with_reducible rfl
    | (fail_if_no_progress (with_reducible refine good_upd ?_ rfl (fun _ => rfl) (fun _ => rfl))))

theorem twoLeads_good (h : s.Good ql pp qq tv) :
     (twoLeads s).Good ql pp qq tv := by
  unfold twoLeads
  repeat' (first
    | with_reducible assumption
    | with_reducible apply flag_good
    | (intro _ _)
    | intro _
    | dsimp only
    | split
    | with_reducible rfl
    | (fail_if_no_progress (with_reducible refine good_upd ?_ rfl (fun _ => rfl) (fun _ => rfl))))

theorem enumRx_good (h : s.Good ql pp qq tv) (h : PktHead) (next count size : Nat) :
     (enumRx h next count size s).Good ql pp qq tv := by
  unfold enumRx
  repeat' (first
    | with_reducible assumption
    | with_reducible apply puts_good
    | with_reducible apply emit_good
    | with_reducible apply returnReport_good
    | with_reducible apply leadRole_good
    | with_reducible apply enumerated_good
    | (intro _ _)
    | intro _
    | dsimp only
    | split
    | with_reducible rfl
    | (fail_if_no_progress (with_reducible refine good_upd ?_ rfl (fun _ => rfl) (fun _ => rfl))))

theorem enumTimeout_good (h : s.Good ql pp qq tv) (east west : Nat) :
     (enumTimeout east west s).Good ql pp qq tv := by
  unfold enumTimeout
  repeat' (first
    | with_reducible assumption
    | with_reducible apply emit_good
    | with_reducible apply enumerated_good
    | with_reducible refine pair_good (by assumption) ?_
    | with_reducible refine triple_good (by assumption) ?_
    | (intro _ _)
    | intro _
    | dsimp only
    | split
    | with_reducible rfl
    | (fail_if_no_progress (with_reducible refine good_upd ?_ rfl (fun _ => rfl) (fun _ => rfl))))

theorem setPort_good (h : s.Good ql pp qq tv) (p : Fin 2) (up : Bool) :
     (setPort p up s).Good ql pp qq tv := by
  unfold setPort
  repeat' (first
    | with_reducible assumption
    | with_reducible apply puts_good
    | (intro _ _)
    | intro _
    | dsimp only
    | split
    | with_reducible rfl
    | (fail_if_no_progress (with_reducible refine good_upd ?_ rfl (fun _ => rfl) (fun _ => rfl))))

theorem portDown_good (h : s.Good ql pp qq tv) (p : Fin 2) :
     (portDown p s).Good ql pp qq tv := by
  unfold portDown
  repeat' (first
    | with_reducible assumption
    | with_reducible apply inc_good
    | with_reducible apply sendAll_good
    | with_reducible apply raiseVector_good
    | with_reducible apply raiseFault_good
    | with_reducible apply setPort_good
    | (intro _ _)
    | intro _
    | dsimp only
    | split
    | with_reducible rfl
    | (fail_if_no_progress (with_reducible refine good_upd ?_ rfl (fun _ => rfl) (fun _ => rfl))))

theorem pingSend_good (h : s.Good ql pp qq tv) :
     (pingSend s).Good ql pp qq tv := by
  unfold pingSend
  repeat' (first
    | with_reducible assumption
    | with_reducible apply forAll_good
    | with_reducible apply emit_good
    | with_reducible apply portDown_good
    | with_reducible apply getD_map_good
    | with_reducible apply getD_good
    | (intro _ _)
    | intro _
    | dsimp only
    | split
    | with_reducible rfl
    | (fail_if_no_progress (with_reducible refine good_upd ?_ rfl (fun _ => rfl) (fun _ => rfl))))

theorem pingRx_good (h : s.Good ql pp qq tv) (p : Fin 2) (rtt : Nat) :
     (pingRx p rtt s).Good ql pp qq tv := by
  unfold pingRx
  repeat' (first
    | with_reducible assumption
    | with_reducible apply put_good
    | (intro _ _)
    | intro _
    | dsimp only
    | split
    | with_reducible rfl
    | (fail_if_no_progress (with_reducible refine good_upd ?_ rfl (fun _ => rfl) (fun _ => rfl))))

theorem linkRx_good (h : s.Good ql pp qq tv) (chip port : Nat) (up : Bool) :
     (linkRx chip port up s).Good ql pp qq tv := by
  unfold linkRx
  repeat' (first
    | with_reducible assumption
    | with_reducible apply enumStart_good
    | with_reducible apply portDown_good
    | (intro _ _)
    | intro _
    | dsimp only
    | split
    | with_reducible rfl
    | (fail_if_no_progress (with_reducible refine good_upd ?_ rfl (fun _ => rfl) (fun _ => rfl))))

theorem tickSend_good (h : s.Good ql pp qq tv) :
     (tickSend s).Good ql pp qq tv := by
  unfold tickSend
  repeat' (first
    | with_reducible assumption
    | with_reducible apply sendAll_good
    | (intro _ _)
    | intro _
    | dsimp only
    | split
    | with_reducible rfl
    | (fail_if_no_progress (with_reducible refine good_upd ?_ rfl (fun _ => rfl) (fun _ => rfl))))

theorem tickCorrect_good (h : s.Good ql pp qq tv) (err : Int) :
     (tickCorrect err s).Good ql pp qq tv := by
  unfold tickCorrect
  repeat' (first
    | with_reducible assumption
    | with_reducible apply putS_good
    | (intro _ _)
    | intro _
    | dsimp only
    | split
    | with_reducible rfl
    | (fail_if_no_progress (with_reducible refine good_upd ?_ rfl (fun _ => rfl) (fun _ => rfl))))

theorem tickRx_good (h : s.Good ql pp qq tv) (late : Nat) (h : PktHead) (ttt asn sfn slot slotlen sflen res : Nat) :
     (tickRx late h ttt asn sfn slot slotlen sflen res s).Good ql pp qq tv := by
  unfold tickRx
  repeat' (first
    | with_reducible assumption
    | with_reducible apply when_good
    | with_reducible apply put_good
    | with_reducible apply flag_good
    | with_reducible apply putS_good
    | with_reducible apply puts_good
    | with_reducible apply reportBit_good
    | with_reducible apply relayPkt_good
    | with_reducible apply tickCorrect_good
    | (intro _ _)
    | intro _
    | dsimp only
    | split
    | with_reducible rfl
    | (fail_if_no_progress (with_reducible refine good_upd ?_ rfl (fun _ => rfl) (fun _ => rfl))))

theorem ringLoad_good (h : s.Good ql pp False tv) :
     (ringLoad s).Good ql pp False tv := by
  unfold ringLoad
  repeat' (first
    | with_reducible assumption
    | with_reducible refine pair_good (by assumption) ?_
    | with_reducible refine triple_good (by assumption) ?_
    | (intro _ _)
    | intro _
    | dsimp only
    | split
    | with_reducible rfl
    | (fail_if_no_progress (with_reducible refine good_upd ?_ rfl (fun _ => rfl) (fun h => h.elim))))

theorem carTick_good (h : s.Good ql pp qq tv) :
     (carTick s).Good ql pp qq tv := by
  unfold carTick
  repeat' (first
    | with_reducible assumption
    | with_reducible apply when_good
    | with_reducible apply inc_good
    | (intro _ _)
    | intro _
    | dsimp only
    | split
    | with_reducible rfl
    | (fail_if_no_progress (with_reducible refine good_upd ?_ rfl (fun _ => rfl) (fun _ => rfl))))

theorem bcastRx_good (h : s.Good ql pp qq tv) (b : Bcast) :
     (bcastRx b s).Good ql pp qq tv := by
  unfold bcastRx
  repeat' (first
    | with_reducible assumption
    | with_reducible apply flag_good
    | with_reducible apply manArmed_good
    | with_reducible apply manCancel_good
    | with_reducible refine pair_good (by assumption) ?_
    | with_reducible refine triple_good (by assumption) ?_
    | (intro _ _)
    | intro _
    | dsimp only
    | split
    | with_reducible rfl
    | (fail_if_no_progress (with_reducible refine good_upd ?_ rfl (fun _ => rfl) (fun _ => rfl))))

theorem barqRx_good (h : s.Good ql pp qq tv) (lead : Nat) :
     (barqRx lead s).Good ql pp qq tv := by
  unfold barqRx
  repeat' (first
    | with_reducible assumption
    | with_reducible apply sendTo_good
    | with_reducible apply judgeReady_good
    | (intro _ _)
    | intro _
    | dsimp only
    | split
    | with_reducible rfl
    | (fail_if_no_progress (with_reducible refine good_upd ?_ rfl (fun _ => rfl) (fun _ => rfl))))

theorem baraRx_good (h : s.Good ql pp qq tv) (chip : Nat) (ready : Bool) :
     (baraRx chip ready s).Good ql pp qq tv := by
  unfold baraRx
  repeat' (first
    | with_reducible assumption
    | with_reducible apply barrierClose_good
    | with_reducible refine pair_good (by assumption) ?_
    | with_reducible refine triple_good (by assumption) ?_
    | (intro _ _)
    | intro _
    | dsimp only
    | split
    | with_reducible rfl
    | (fail_if_no_progress (with_reducible refine good_upd ?_ rfl (fun _ => rfl) (fun _ => rfl))))

theorem barrierTimeout_good (h : s.Good ql pp qq tv) :
     (barrierTimeout s).Good ql pp qq tv := by
  unfold barrierTimeout
  repeat' (first
    | with_reducible assumption
    | with_reducible apply barrierClose_good
    | with_reducible refine pair_good (by assumption) ?_
    | with_reducible refine triple_good (by assumption) ?_
    | (intro _ _)
    | intro _
    | dsimp only
    | split
    | with_reducible rfl
    | (fail_if_no_progress (with_reducible refine good_upd ?_ rfl (fun _ => rfl) (fun _ => rfl))))

theorem carSnapOp_good (h : s.Good ql pp qq tv) :
     (carSnapOp s).Good ql pp qq tv := by
  unfold carSnapOp
  repeat' (first
    | with_reducible assumption
    | with_reducible apply flag_good
    | with_reducible apply sendAll_good
    | with_reducible apply leadCmd_good
    | with_reducible apply setCarSet_good
    | (intro _ _)
    | intro _
    | dsimp only
    | split
    | with_reducible rfl
    | (fail_if_no_progress (with_reducible refine good_upd ?_ rfl (fun _ => rfl) (fun _ => rfl))))

theorem snapRx_good (h : s.Good ql pp qq tv) (t : Nat) :
     (snapRx t s).Good ql pp qq tv := by
  unfold snapRx
  repeat' (first
    | with_reducible assumption
    | (intro _ _)
    | intro _
    | dsimp only
    | split
    | with_reducible rfl
    | (fail_if_no_progress (with_reducible refine good_upd ?_ rfl (fun _ => rfl) (fun _ => rfl))))

theorem snapTick_good (h : s.Good ql pp qq tv) :
     (snapTick s).Good ql pp qq tv := by
  unfold snapTick
  repeat' (first
    | with_reducible assumption
    | with_reducible apply captureTally_good
    | with_reducible apply produce_good
    | with_reducible apply reportBit_good
    | (intro _ _)
    | intro _
    | dsimp only
    | split
    | with_reducible rfl
    | (fail_if_no_progress (with_reducible refine good_upd ?_ rfl (fun _ => rfl) (fun _ => rfl))))

theorem sendResets_good (h : s.Good ql pp qq tv) (m : Nat) :
     (sendResets m s).Good ql pp qq tv := by
  unfold sendResets
  repeat' (first
    | with_reducible assumption
    | with_reducible apply forAll_good
    | with_reducible apply sendTo_good
    | (intro _ _)
    | intro _
    | dsimp only
    | split
    | with_reducible rfl
    | (fail_if_no_progress (with_reducible refine good_upd ?_ rfl (fun _ => rfl) (fun _ => rfl))))

theorem carResetOp_good (h : s.Good ql pp qq tv) :
     (carResetOp s).Good ql pp qq tv := by
  unfold carResetOp
  repeat' (first
    | with_reducible assumption
    | with_reducible apply put_good
    | with_reducible apply leadCmd_good
    | with_reducible apply setCarSet_good
    | with_reducible apply carRecord_good
    | with_reducible apply sendResets_good
    | (intro _ _)
    | intro _
    | dsimp only
    | split
    | with_reducible rfl
    | (fail_if_no_progress (with_reducible refine good_upd ?_ rfl (fun _ => rfl) (fun _ => rfl))))

theorem programmeEnds_good (h : s.Good ql pp qq tv) :
     (programmeEnds s).Good ql pp qq tv := by
  unfold programmeEnds
  repeat' (first
    | with_reducible assumption
    | with_reducible apply put_good
    | (intro _ _)
    | intro _
    | dsimp only
    | split
    | with_reducible rfl
    | (fail_if_no_progress (with_reducible refine good_upd ?_ rfl (fun _ => rfl) (fun _ => rfl))))

theorem carAbortOp_good (h : s.Good ql pp qq tv) :
     (carAbortOp s).Good ql pp qq tv := by
  unfold carAbortOp
  repeat' (first
    | with_reducible assumption
    | with_reducible apply leadCmd_good
    | with_reducible apply carRecord_good
    | with_reducible apply programmeEnds_good
    | (intro _ _)
    | intro _
    | dsimp only
    | split
    | with_reducible rfl
    | (fail_if_no_progress (with_reducible refine good_upd ?_ rfl (fun _ => rfl) (fun _ => rfl))))

theorem waveTwo_good (h : s.Good ql pp qq tv) :
     (waveTwo s).Good ql pp qq tv := by
  unfold waveTwo
  repeat' (first
    | with_reducible assumption
    | with_reducible apply put_good
    | (intro _ _)
    | intro _
    | dsimp only
    | split
    | with_reducible rfl
    | (fail_if_no_progress (with_reducible refine good_upd ?_ rfl (fun _ => rfl) (fun _ => rfl))))

theorem resetWave2_good (h : s.Good ql pp qq tv) :
     (resetWave2 s).Good ql pp qq tv := by
  unfold resetWave2
  repeat' (first
    | with_reducible assumption
    | with_reducible apply carRecord_good
    | with_reducible apply sendResets_good
    | with_reducible apply waveTwo_good
    | (intro _ _)
    | intro _
    | dsimp only
    | split
    | with_reducible rfl
    | (fail_if_no_progress (with_reducible refine good_upd ?_ rfl (fun _ => rfl) (fun _ => rfl))))

theorem carFollow_good (h : s.Good ql pp qq tv) (v : Nat) :
     (carFollow v s).Good ql pp qq tv := by
  unfold carFollow
  repeat' (first
    | with_reducible assumption
    | with_reducible apply put_good
    | with_reducible apply programmeEnds_good
    | with_reducible apply waveTwo_good
    | (intro _ _)
    | intro _
    | dsimp only
    | split
    | with_reducible rfl
    | (fail_if_no_progress (with_reducible refine good_upd ?_ rfl (fun _ => rfl) (fun _ => rfl))))

theorem resetReturned_good (h : s.Good ql pp qq tv) (m : Nat) :
     (resetReturned m s).Good ql pp qq tv := by
  unfold resetReturned
  repeat' (first
    | with_reducible assumption
    | with_reducible apply put_good
    | with_reducible apply carRecord_good
    | (intro _ _)
    | intro _
    | dsimp only
    | split
    | with_reducible rfl
    | (fail_if_no_progress (with_reducible refine good_upd ?_ rfl (fun _ => rfl) (fun _ => rfl))))

theorem isolate_good (h : s.Good ql pp qq tv) :
     (isolate s).Good ql pp qq tv := by
  unfold isolate
  repeat' (first
    | with_reducible assumption
    | with_reducible apply puts_good
    | (intro _ _)
    | intro _
    | dsimp only
    | split
    | with_reducible rfl
    | (fail_if_no_progress (with_reducible refine good_upd ?_ rfl (fun _ => rfl) (fun _ => rfl))))

theorem rejoin_good (h : s.Good ql pp qq tv) (err : Int) (sameAsn : Bool) :
     (rejoin err sameAsn s).Good ql pp qq tv := by
  unfold rejoin
  repeat' (first
    | with_reducible assumption
    | with_reducible apply put_good
    | with_reducible apply flag_good
    | with_reducible apply inc_good
    | with_reducible apply emit_good
    | with_reducible apply raiseVector_good
    | with_reducible apply tickCorrect_good
    | (intro _ _)
    | intro _
    | dsimp only
    | split
    | with_reducible rfl
    | (fail_if_no_progress (with_reducible refine good_upd ?_ rfl (fun _ => rfl) (fun _ => rfl))))

theorem linkUp_good (h : s.Good ql pp qq tv) (p : Fin 2) (err : Int) (sameAsn : Bool) :
     (linkUp p err sameAsn s).Good ql pp qq tv := by
  unfold linkUp
  repeat' (first
    | with_reducible assumption
    | with_reducible apply sendAll_good
    | with_reducible apply enumStart_good
    | with_reducible apply setPort_good
    | with_reducible apply rejoin_good
    | (intro _ _)
    | intro _
    | dsimp only
    | split
    | with_reducible rfl
    | (fail_if_no_progress (with_reducible refine good_upd ?_ rfl (fun _ => rfl) (fun _ => rfl))))

theorem sendSector_good (h : s.Good ql pp qq tv) (k : Nat) :
     (sendSector k s).Good ql pp qq tv := by
  unfold sendSector
  repeat' (first
    | with_reducible assumption
    | with_reducible apply forAll_good
    | with_reducible apply sendTo_good
    | (intro _ _)
    | intro _
    | dsimp only
    | split
    | with_reducible rfl
    | (fail_if_no_progress (with_reducible refine good_upd ?_ rfl (fun _ => rfl) (fun _ => rfl))))

theorem imageRun_good (x0 : Nat) :
     ∀ {s : State}, s.Good ql pp qq tv → (imageRun x0 s).Good ql pp qq tv := by
  induction x0 with
  | zero => intro s h; unfold imageRun; exact h
  | succ k ih =>
    intro s h
    unfold imageRun
    repeat' (first
      | with_reducible assumption
      | with_reducible apply ih
      | with_reducible apply sendSector_good
      | (intro _ _)
      | intro _
      | dsimp only
      | split
      | with_reducible rfl
      | (fail_if_no_progress (with_reducible refine good_upd ?_ rfl (fun _ => rfl) (fun _ => rfl))))

theorem imageEnd_good (h : s.Good ql pp qq tv) :
     (imageEnd s).Good ql pp qq tv := by
  unfold imageEnd
  repeat' (first
    | with_reducible assumption
    | with_reducible apply put_good
    | (intro _ _)
    | intro _
    | dsimp only
    | split
    | with_reducible rfl
    | (fail_if_no_progress (with_reducible refine good_upd ?_ rfl (fun _ => rfl) (fun _ => rfl))))

theorem carImageOp_good (h : s.Good ql pp qq tv) :
     (carImageOp s).Good ql pp qq tv := by
  unfold carImageOp
  repeat' (first
    | with_reducible assumption
    | with_reducible apply flag_good
    | with_reducible apply leadCmd_good
    | with_reducible apply setCarSet_good
    | with_reducible apply imageRun_good
    | with_reducible apply imageEnd_good
    | (intro _ _)
    | intro _
    | dsimp only
    | split
    | with_reducible rfl
    | (fail_if_no_progress (with_reducible refine good_upd ?_ rfl (fun _ => rfl) (fun _ => rfl))))

theorem imageRx_good (h : s.Good ql pp qq tv) (off : Nat) (bytes : List Byte) (last : Bool) (bad : List (Nat × Byte)) :
     (imageRx off bytes last bad s).Good ql pp qq tv := by
  unfold imageRx
  repeat' (first
    | with_reducible assumption
    | with_reducible apply emit_good
    | with_reducible apply flsPut_good
    | with_reducible apply hwErase_good
    | (intro _ _)
    | intro _
    | dsimp only
    | split
    | with_reducible rfl
    | (fail_if_no_progress (with_reducible refine good_upd ?_ rfl (fun _ => rfl) (fun _ => rfl))))

theorem imageConfirm_good (h : s.Good ql pp qq tv) (chip : Nat) (ok : Bool) :
     (imageConfirm chip ok s).Good ql pp qq tv := by
  unfold imageConfirm
  repeat' (first
    | with_reducible assumption
    | with_reducible apply setCarSet_good
    | with_reducible apply imageRun_good
    | with_reducible apply imageEnd_good
    | with_reducible refine pair_good (by assumption) ?_
    | with_reducible refine triple_good (by assumption) ?_
    | (intro _ _)
    | intro _
    | dsimp only
    | split
    | with_reducible rfl
    | (fail_if_no_progress (with_reducible refine good_upd ?_ rfl (fun _ => rfl) (fun _ => rfl))))

theorem carClear_good (h : s.Good ql pp qq tv) :
     (carClear s).Good ql pp qq tv := by
  unfold carClear
  repeat' (first
    | with_reducible assumption
    | with_reducible apply forN_good
    | with_reducible apply put_good
    | (intro _ _)
    | intro _
    | dsimp only
    | split
    | with_reducible rfl
    | (fail_if_no_progress (with_reducible refine good_upd ?_ rfl (fun _ => rfl) (fun _ => rfl))))

end Sys2Proof.Machine
end

