-- ==== Sys2Proof/Laws/GoodShp.lean ====
section
/-!
SUPPORT. The operations of Machine/Shp.lean keep the queue and the canonical form (Laws/Good.lean).
-/

namespace Sys2Proof.Machine

set_option linter.unusedTactic false
set_option linter.unreachableTactic false
set_option linter.unusedVariables false

variable {ql : List Instr} {pp qq : Prop} {tv : Nat × Nat × Nat × Nat × Option (Nat × Nat × Nat)} {s : State}

theorem setTokens_good (h : s.Good ql pp qq tv) (n v : Nat) :
     (setTokens n v s).Good ql pp qq tv := by
  unfold setTokens
  repeat' (first
    | with_reducible assumption
    | with_reducible apply put_good
    | (intro _ _)
    | intro _
    | dsimp only
    | split
    | with_reducible rfl
    | (fail_if_no_progress (with_reducible refine good_upd ?_ rfl (fun _ => rfl) (fun _ => rfl))))

theorem tokenCredit_good (h : s.Good ql pp qq tv) (l : Nat) :
     (tokenCredit l s).Good ql pp qq tv := by
  unfold tokenCredit
  repeat' (first
    | with_reducible assumption
    | with_reducible apply forN_good
    | with_reducible apply setTokens_good
    | (intro _ _)
    | intro _
    | dsimp only
    | split
    | with_reducible rfl
    | (fail_if_no_progress (with_reducible refine good_upd ?_ rfl (fun _ => rfl) (fun _ => rfl))))

theorem tokenReset_good (h : s.Good ql pp qq tv) (n : Nat) :
     (tokenReset n s).Good ql pp qq tv := by
  unfold tokenReset
  repeat' (first
    | with_reducible assumption
    | with_reducible apply setTokens_good
    | (intro _ _)
    | intro _
    | dsimp only
    | split
    | with_reducible rfl
    | (fail_if_no_progress (with_reducible refine good_upd ?_ rfl (fun _ => rfl) (fun _ => rfl))))

theorem tokenResetAll_good (h : s.Good ql pp qq tv) :
     (tokenResetAll s).Good ql pp qq tv := by
  unfold tokenResetAll
  repeat' (first
    | with_reducible assumption
    | with_reducible apply forN_good
    | with_reducible apply tokenReset_good
    | (intro _ _)
    | intro _
    | dsimp only
    | split
    | with_reducible rfl
    | (fail_if_no_progress (with_reducible refine good_upd ?_ rfl (fun _ => rfl) (fun _ => rfl))))

theorem readEntry_good (h : s.Good ql pp qq tv) (e : Nat) :
     (readEntry e s).2.Good ql pp qq tv := by
  unfold readEntry
  repeat' (first
    | with_reducible assumption
    | with_reducible apply serRead_good
    | with_reducible refine pair_good (by assumption) ?_
    | with_reducible refine triple_good (by assumption) ?_
    | (intro _ _)
    | intro _
    | dsimp only
    | split
    | with_reducible rfl
    | (fail_if_no_progress (with_reducible refine good_upd ?_ rfl (fun _ => rfl) (fun _ => rfl))))

theorem writeEntry_good (h : s.Good ql pp qq tv) (e : Nat) (b : List Byte) :
     (writeEntry e b s).Good ql pp qq tv := by
  unfold writeEntry
  repeat' (first
    | with_reducible assumption
    | with_reducible apply serWrite_good
    | with_reducible refine pair_good (by assumption) ?_
    | with_reducible refine triple_good (by assumption) ?_
    | (intro _ _)
    | intro _
    | dsimp only
    | split
    | with_reducible rfl
    | (fail_if_no_progress (with_reducible refine good_upd ?_ rfl (fun _ => rfl) (fun _ => rfl))))

theorem writeQueue_good (h : s.Good ql pp qq tv) (node c : Nat) (g : List Byte) (q : Nat) :
     (writeQueue node c g q s).Good ql pp qq tv := by
  unfold writeQueue
  repeat' (first
    | with_reducible assumption
    | with_reducible apply serWrite_good
    | (intro _ _)
    | intro _
    | dsimp only
    | split
    | with_reducible rfl
    | (fail_if_no_progress (with_reducible refine good_upd ?_ rfl (fun _ => rfl) (fun _ => rfl))))

theorem shpEnq_good (h : s.Good ql pp qq tv) (node c e : Nat) (g : List Byte) :
     (shpEnq node c e g s).2.Good ql pp qq tv := by
  unfold shpEnq
  repeat' (first
    | with_reducible assumption
    | with_reducible apply inc_good
    | with_reducible apply readEntry_good
    | with_reducible apply writeEntry_good
    | with_reducible apply writeQueue_good
    | with_reducible refine pair_good (by assumption) ?_
    | with_reducible refine triple_good (by assumption) ?_
    | (intro _ _)
    | intro _
    | dsimp only
    | split
    | with_reducible rfl
    | (fail_if_no_progress (with_reducible refine good_upd ?_ rfl (fun _ => rfl) (fun _ => rfl))))

theorem shpDone_good (h : s.Good ql pp qq tv) (node c : Nat) (g : List Byte) :
     (shpDone node c g s).2.Good ql pp qq tv := by
  unfold shpDone
  repeat' (first
    | with_reducible assumption
    | with_reducible apply readEntry_good
    | with_reducible apply writeEntry_good
    | with_reducible apply writeQueue_good
    | with_reducible refine pair_good (by assumption) ?_
    | with_reducible refine triple_good (by assumption) ?_
    | (intro _ _)
    | intro _
    | dsimp only
    | split
    | with_reducible rfl
    | (fail_if_no_progress (with_reducible refine good_upd ?_ rfl (fun _ => rfl) (fun _ => rfl))))

theorem shpAdmit_good (h : s.Good ql pp qq tv) (node c phy : Nat) (ack : Bool) (start span : Nat) (g0 g : List Byte) :
     (shpAdmit node c phy ack start span g0 g s).2.Good ql pp qq tv := by
  unfold shpAdmit
  repeat' (first
    | with_reducible assumption
    | with_reducible apply inc_good
    | with_reducible apply serRead_good
    | with_reducible apply setTokens_good
    | with_reducible apply readEntry_good
    | with_reducible refine pair_good (by assumption) ?_
    | with_reducible refine triple_good (by assumption) ?_
    | (intro _ _)
    | intro _
    | dsimp only
    | split
    | with_reducible rfl
    | (fail_if_no_progress (with_reducible refine good_upd ?_ rfl (fun _ => rfl) (fun _ => rfl))))

theorem shpPolice_good (h : s.Good ql pp qq tv) (node c len : Nat) :
     (shpPolice node c len s).2.Good ql pp qq tv := by
  unfold shpPolice
  repeat' (first
    | with_reducible assumption
    | with_reducible apply inc_good
    | with_reducible apply serRead_good
    | with_reducible apply serWrite_good
    | with_reducible apply setTokens_good
    | (intro _ _)
    | intro _
    | dsimp only
    | split
    | with_reducible rfl
    | (fail_if_no_progress (with_reducible refine good_upd ?_ rfl (fun _ => rfl) (fun _ => rfl))))

theorem shpEnd_good (h : s.Good ql pp qq tv) (j off : Nat) (e : List Byte) (a : ShpAnswer) :
     (shpEnd j off e a s).Good ql pp qq tv := by
  unfold shpEnd
  repeat' (first
    | with_reducible assumption
    | with_reducible apply when_good
    | with_reducible apply flag_good
    | with_reducible apply produce_good
    | with_reducible apply serWrite_good
    | with_reducible apply URing_pop_good
    | with_reducible apply shpDone_good
    | (intro _ _)
    | intro _
    | dsimp only
    | split
    | with_reducible rfl
    | (fail_if_no_progress (with_reducible refine good_upd ?_ rfl (fun _ => rfl) (fun _ => rfl))))

theorem shpRun_good (h : s.Good ql pp qq tv) (e : List Byte) :
     (shpRun e s).2.Good ql pp qq tv := by
  unfold shpRun
  repeat' (first
    | with_reducible assumption
    | with_reducible apply serRead_good
    | with_reducible apply shpEnq_good
    | with_reducible apply shpDone_good
    | with_reducible apply shpAdmit_good
    | with_reducible apply shpPolice_good
    | (intro _ _)
    | intro _
    | dsimp only
    | split
    | with_reducible rfl
    | (fail_if_no_progress (with_reducible refine good_upd ?_ rfl (fun _ => rfl) (fun _ => rfl))))

theorem shpCommand_good (h : s.Good ql pp qq tv) (op : Nat) :
     (shpCommand op s).Good ql pp qq tv := by
  unfold shpCommand
  repeat' (first
    | with_reducible assumption
    | with_reducible apply serRead_good
    | with_reducible apply shpEnd_good
    | with_reducible apply shpRun_good
    | with_reducible refine pair_good (by assumption) ?_
    | with_reducible refine triple_good (by assumption) ?_
    | (intro _ _)
    | intro _
    | dsimp only
    | split
    | with_reducible rfl
    | (fail_if_no_progress (with_reducible refine good_upd ?_ rfl (fun _ => rfl) (fun _ => rfl))))

theorem shpServe_good (h : s.Good ql pp qq tv) (op : Nat) :
     (shpServe op s).Good ql pp qq tv := by
  unfold shpServe
  repeat' (first
    | with_reducible assumption
    | with_reducible apply orStall_good
    | with_reducible apply shpCommand_good
    | (intro _ _)
    | intro _
    | dsimp only
    | split
    | with_reducible rfl
    | (fail_if_no_progress (with_reducible refine good_upd ?_ rfl (fun _ => rfl) (fun _ => rfl))))

theorem shpClear_good (h : s.Good ql pp qq tv) :
     (shpClear s).Good ql pp qq tv := by
  unfold shpClear
  repeat' (first
    | with_reducible assumption
    | with_reducible apply forN_good
    | with_reducible apply put_good
    | (intro _ _)
    | intro _
    | dsimp only
    | split
    | with_reducible rfl
    | (fail_if_no_progress (with_reducible refine good_upd ?_ rfl (fun _ => rfl) (fun _ => rfl))))

end Sys2Proof.Machine
end

