-- ==== Sys2Proof/Laws/GoodTan.lean ====
section
/-!
SUPPORT. The operations of Machine/Tan.lean keep the queue and the canonical form (Laws/Good.lean).
-/

namespace Sys2Proof.Machine

set_option linter.unusedTactic false
set_option linter.unreachableTactic false
set_option linter.unusedVariables false

variable {ql : List Instr} {pp qq : Prop} {tv : Nat × Nat × Nat × Nat × Option (Nat × Nat × Nat)} {s : State}

theorem tanRole_good (h : s.Good ql pp qq tv) :
     (tanRole s).Good ql pp qq tv := by
  unfold tanRole
  repeat' (first
    | with_reducible assumption
    | with_reducible apply put_good
    | with_reducible apply leadRole_good
    | (intro _ _)
    | intro _
    | dsimp only
    | split
    | with_reducible rfl
    | (fail_if_no_progress (with_reducible refine good_upd ?_ rfl (fun _ => rfl) (fun _ => rfl))))

theorem sampleLine_good (h : s.Good ql pp qq tv) (low : Bool) :
     (sampleLine low s).Good ql pp qq tv := by
  unfold sampleLine
  repeat' (first
    | with_reducible assumption
    | with_reducible apply put_good
    | (intro _ _)
    | intro _
    | dsimp only
    | split
    | with_reducible rfl
    | (fail_if_no_progress (with_reducible refine good_upd ?_ rfl (fun _ => rfl) (fun _ => rfl))))

theorem dropHeld_good (h : s.Good ql pp qq tv) :
     (dropHeld s).Good ql pp qq tv := by
  unfold dropHeld
  repeat' (first
    | with_reducible assumption
    | with_reducible apply forAll_good
    | with_reducible apply put_good
    | with_reducible apply landHeld_good
    | (intro _ _)
    | intro _
    | dsimp only
    | split
    | with_reducible rfl
    | (fail_if_no_progress (with_reducible refine good_upd ?_ rfl (fun _ => rfl) (fun _ => rfl))))

theorem syncLost_good (h : s.Good ql pp qq tv) :
     (syncLost s).Good ql pp qq tv := by
  unfold syncLost
  repeat' (first
    | with_reducible assumption
    | with_reducible apply put_good
    | with_reducible apply ackRelease_good
    | with_reducible apply laneRelease_good
    | with_reducible apply leasesAlone_good
    | with_reducible apply updWatch_good
    | with_reducible apply dropHeld_good
    | (intro _ _)
    | intro _
    | dsimp only
    | split
    | with_reducible rfl
    | (fail_if_no_progress (with_reducible refine good_upd ?_ rfl (fun _ => rfl) (fun _ => rfl))))

theorem syncBreaks_good (h : s.Good ql pp qq tv) :
     (syncBreaks s).Good ql pp qq tv := by
  unfold syncBreaks
  repeat' (first
    | with_reducible assumption
    | with_reducible apply syncLost_good
    | (intro _ _)
    | intro _
    | dsimp only
    | split
    | with_reducible rfl
    | (fail_if_no_progress (with_reducible refine good_upd ?_ rfl (fun _ => rfl) (fun _ => rfl))))

theorem takeLine_good (h : s.Good ql pp qq tv) :
     (takeLine s).Good ql pp qq tv := by
  unfold takeLine
  repeat' (first
    | with_reducible assumption
    | with_reducible apply puts_good
    | with_reducible apply tanRole_good
    | (intro _ _)
    | intro _
    | dsimp only
    | split
    | with_reducible rfl
    | (fail_if_no_progress (with_reducible refine good_upd ?_ rfl (fun _ => rfl) (fun _ => rfl))))

theorem dropLine_good (h : s.Good ql pp qq tv) :
     (dropLine s).Good ql pp qq tv := by
  unfold dropLine
  repeat' (first
    | with_reducible assumption
    | with_reducible apply put_good
    | with_reducible apply tanRole_good
    | with_reducible apply syncBreaks_good
    | (intro _ _)
    | intro _
    | dsimp only
    | split
    | with_reducible rfl
    | (fail_if_no_progress (with_reducible refine good_upd ?_ rfl (fun _ => rfl) (fun _ => rfl))))

theorem tanMode_good (h : s.Good ql pp qq tv) (m : Nat) :
     (tanMode m s).Good ql pp qq tv := by
  unfold tanMode
  repeat' (first
    | with_reducible assumption
    | with_reducible apply tanRole_good
    | with_reducible apply syncBreaks_good
    | with_reducible apply takeLine_good
    | with_reducible apply dropLine_good
    | (intro _ _)
    | intro _
    | dsimp only
    | split
    | with_reducible rfl
    | (fail_if_no_progress (with_reducible refine good_upd ?_ rfl (fun _ => rfl) (fun _ => rfl))))

theorem modeRecord_good (h : s.Good ql pp qq tv) (m : Nat) (estop : Bool) :
     (modeRecord m estop s).Good ql pp qq tv := by
  unfold modeRecord
  repeat' (first
    | with_reducible assumption
    | with_reducible apply journal_good
    | (intro _ _)
    | intro _
    | dsimp only
    | split
    | with_reducible rfl
    | (fail_if_no_progress (with_reducible refine good_upd ?_ rfl (fun _ => rfl) (fun _ => rfl))))

theorem requestMode_good (h : s.Good ql pp qq tv) (m : Nat) :
     (requestMode m s).Good ql pp qq tv := by
  unfold requestMode
  repeat' (first
    | with_reducible assumption
    | with_reducible apply flag_good
    | (intro _ _)
    | intro _
    | dsimp only
    | split
    | with_reducible rfl
    | (fail_if_no_progress (with_reducible refine good_upd ?_ rfl (fun _ => rfl) (fun _ => rfl))))

theorem partnerLost_good (h : s.Good ql pp qq tv) :
     (partnerLost s).Good ql pp qq tv := by
  unfold partnerLost
  repeat' (first
    | with_reducible assumption
    | with_reducible apply flag_good
    | with_reducible apply raiseVector_good
    | (intro _ _)
    | intro _
    | dsimp only
    | split
    | with_reducible rfl
    | (fail_if_no_progress (with_reducible refine good_upd ?_ rfl (fun _ => rfl) (fun _ => rfl))))

theorem pathsLost_good (h : s.Good ql pp qq tv) :
     (pathsLost s).Good ql pp qq tv := by
  unfold pathsLost
  repeat' (first
    | with_reducible assumption
    | with_reducible apply raiseFault_good
    | with_reducible apply syncLost_good
    | with_reducible apply takeLine_good
    | with_reducible apply dropLine_good
    | with_reducible apply requestMode_good
    | with_reducible apply partnerLost_good
    | with_reducible refine pair_good (by assumption) ?_
    | with_reducible refine triple_good (by assumption) ?_
    | (intro _ _)
    | intro _
    | dsimp only
    | split
    | with_reducible rfl
    | (fail_if_no_progress (with_reducible refine good_upd ?_ rfl (fun _ => rfl) (fun _ => rfl))))

theorem heartbeatSend_good (h : s.Good ql pp qq tv) :
     (heartbeatSend s).Good ql pp qq tv := by
  unfold heartbeatSend
  repeat' (first
    | with_reducible assumption
    | with_reducible apply emit_good
    | (intro _ _)
    | intro _
    | dsimp only
    | split
    | with_reducible rfl
    | (fail_if_no_progress (with_reducible refine good_upd ?_ rfl (fun _ => rfl) (fun _ => rfl))))

theorem withholdTick_good (h : s.Good ql pp qq tv) (late : Bool) :
     (withholdTick late s).Good ql pp qq tv := by
  unfold withholdTick
  repeat' (first
    | with_reducible assumption
    | with_reducible apply pathsLost_good
    | (intro _ _)
    | intro _
    | dsimp only
    | split
    | with_reducible rfl
    | (fail_if_no_progress (with_reducible refine good_upd ?_ rfl (fun _ => rfl) (fun _ => rfl))))

theorem heartbeatSync_good (h : s.Good ql pp qq tv) (path : Nat) (h : Heartbeat) :
     (heartbeatSync path h s).Good ql pp qq tv := by
  unfold heartbeatSync
  repeat' (first
    | with_reducible assumption
    | with_reducible apply syncLost_good
    | with_reducible apply syncBreaks_good
    | (intro _ _)
    | intro _
    | dsimp only
    | split
    | with_reducible rfl
    | (fail_if_no_progress (with_reducible refine good_upd ?_ rfl (fun _ => rfl) (fun _ => rfl))))

theorem heartbeatRx_good (h : s.Good ql pp qq tv) (path : Fin 2) (h : Heartbeat) :
     (heartbeatRx path h s).Good ql pp qq tv := by
  unfold heartbeatRx
  repeat' (first
    | with_reducible assumption
    | with_reducible apply puts_good
    | with_reducible apply raiseFault_good
    | with_reducible apply updWatch_good
    | with_reducible apply heartbeatSync_good
    | (intro _ _)
    | intro _
    | dsimp only
    | split
    | with_reducible rfl
    | (fail_if_no_progress (with_reducible refine good_upd ?_ rfl (fun _ => rfl) (fun _ => rfl))))

theorem pathMiss_good (h : s.Good ql pp qq tv) (p : Nat) :
     (pathMiss p s).Good ql pp qq tv := by
  unfold pathMiss
  repeat' (first
    | with_reducible assumption
    | with_reducible apply flag_good
    | with_reducible apply inc_good
    | (intro _ _)
    | intro _
    | dsimp only
    | split
    | with_reducible rfl
    | (fail_if_no_progress (with_reducible refine good_upd ?_ rfl (fun _ => rfl) (fun _ => rfl))))

theorem heartbeatMiss_good (h : s.Good ql pp qq tv) (low : Bool) :
     (heartbeatMiss low s).Good ql pp qq tv := by
  unfold heartbeatMiss
  repeat' (first
    | with_reducible assumption
    | with_reducible apply raiseFault_good
    | with_reducible apply sampleLine_good
    | with_reducible apply pathsLost_good
    | with_reducible apply pathMiss_good
    | (intro _ _)
    | intro _
    | dsimp only
    | split
    | with_reducible rfl
    | (fail_if_no_progress (with_reducible refine good_upd ?_ rfl (fun _ => rfl) (fun _ => rfl))))

theorem showRtt_good (h : s.Good ql pp qq tv) :
     (showRtt s).Good ql pp qq tv := by
  unfold showRtt
  repeat' (first
    | with_reducible assumption
    | with_reducible apply puts_good
    | (intro _ _)
    | intro _
    | dsimp only
    | split
    | with_reducible rfl
    | (fail_if_no_progress (with_reducible refine good_upd ?_ rfl (fun _ => rfl) (fun _ => rfl))))

theorem joinComplete_good (h : s.Good ql pp qq tv) :
     (joinComplete s).Good ql pp qq tv := by
  unfold joinComplete
  repeat' (first
    | with_reducible assumption
    | with_reducible apply put_good
    | with_reducible refine pair_good (by assumption) ?_
    | with_reducible refine triple_good (by assumption) ?_
    | (intro _ _)
    | intro _
    | dsimp only
    | split
    | with_reducible rfl
    | (fail_if_no_progress (with_reducible refine good_upd ?_ rfl (fun _ => rfl) (fun _ => rfl))))

theorem journalConfirm_good (h : s.Good ql pp qq tv) (j : Nat) (persisted : Bool) :
     (journalConfirm j persisted s).Good ql pp qq tv := by
  unfold journalConfirm
  repeat' (first
    | with_reducible assumption
    | with_reducible apply put_good
    | with_reducible apply releaseHeld_good
    | with_reducible apply laneRelease_good
    | with_reducible apply leaseConfirmed_good
    | with_reducible apply showRtt_good
    | with_reducible apply joinComplete_good
    | (intro _ _)
    | intro _
    | dsimp only
    | split
    | with_reducible rfl
    | (fail_if_no_progress (with_reducible refine good_upd ?_ rfl (fun _ => rfl) (fun _ => rfl))))

theorem tanJoin_good (h : s.Good ql pp qq tv) (partner same : Bool) :
     (tanJoin partner same s).Good ql pp qq tv := by
  unfold tanJoin
  repeat' (first
    | with_reducible assumption
    | with_reducible apply put_good
    | with_reducible apply flag_good
    | with_reducible apply puts_good
    | with_reducible apply emit_good
    | with_reducible apply getD_map_good
    | with_reducible apply getD_good
    | (intro _ _)
    | intro _
    | dsimp only
    | split
    | with_reducible rfl
    | (fail_if_no_progress (with_reducible refine good_upd ?_ rfl (fun _ => rfl) (fun _ => rfl))))

theorem copyGranule_good (h : s.Good ql pp qq tv) (g : Nat) :
     (copyGranule g s).Good ql pp qq tv := by
  unfold copyGranule
  repeat' (first
    | with_reducible assumption
    | with_reducible apply sendRec_good
    | with_reducible apply serRead_good
    | (intro _ _)
    | intro _
    | dsimp only
    | split
    | with_reducible rfl
    | (fail_if_no_progress (with_reducible refine good_upd ?_ rfl (fun _ => rfl) (fun _ => rfl))))

theorem copyNext_good (h : s.Good ql pp qq tv) (a : Nat) :
     (copyNext a s).Good ql pp qq tv := by
  unfold copyNext
  repeat' (first
    | with_reducible assumption
    | with_reducible apply put_good
    | with_reducible refine pair_good (by assumption) ?_
    | with_reducible refine triple_good (by assumption) ?_
    | (intro _ _)
    | intro _
    | dsimp only
    | split
    | with_reducible rfl
    | (fail_if_no_progress (with_reducible refine good_upd ?_ rfl (fun _ => rfl) (fun _ => rfl))))

theorem joinCopyStep_good (h : s.Good ql pp qq tv) :
     (joinCopyStep s).Good ql pp qq tv := by
  unfold joinCopyStep
  repeat' (first
    | with_reducible assumption
    | with_reducible apply copyGranule_good
    | with_reducible apply copyNext_good
    | (intro _ _)
    | intro _
    | dsimp only
    | split
    | with_reducible rfl
    | (fail_if_no_progress (with_reducible refine good_upd ?_ rfl (fun _ => rfl) (fun _ => rfl))))

theorem tanHandover_good (h : s.Good ql pp qq tv) :
     (tanHandover s).Good ql pp qq tv := by
  unfold tanHandover
  repeat' (first
    | with_reducible assumption
    | with_reducible apply flag_good
    | (intro _ _)
    | intro _
    | dsimp only
    | split
    | with_reducible rfl
    | (fail_if_no_progress (with_reducible refine good_upd ?_ rfl (fun _ => rfl) (fun _ => rfl))))

theorem handoverDeadline_good (h : s.Good ql pp qq tv) :
     (handoverDeadline s).Good ql pp qq tv := by
  unfold handoverDeadline
  repeat' (first
    | with_reducible assumption
    | with_reducible apply flag_good
    | with_reducible refine pair_good (by assumption) ?_
    | with_reducible refine triple_good (by assumption) ?_
    | (intro _ _)
    | intro _
    | dsimp only
    | split
    | with_reducible rfl
    | (fail_if_no_progress (with_reducible refine good_upd ?_ rfl (fun _ => rfl) (fun _ => rfl))))

theorem tanFetch_good (h : s.Good ql pp qq tv) :
     (tanFetch s).Good ql pp qq tv := by
  unfold tanFetch
  repeat' (first
    | with_reducible assumption
    | with_reducible apply flag_good
    | with_reducible apply emit_good
    | (intro _ _)
    | intro _
    | dsimp only
    | split
    | with_reducible rfl
    | (fail_if_no_progress (with_reducible refine good_upd ?_ rfl (fun _ => rfl) (fun _ => rfl))))

theorem fetchAnswer_good (h : s.Good ql pp qq tv) (g : Nat) (bytes : List Byte) (poison : Bool) :
     (fetchAnswer g bytes poison s).Good ql pp qq tv := by
  unfold fetchAnswer
  repeat' (first
    | with_reducible assumption
    | with_reducible apply put_good
    | with_reducible apply writeG_good
    | (intro _ _)
    | intro _
    | dsimp only
    | split
    | with_reducible rfl
    | (fail_if_no_progress (with_reducible refine good_upd ?_ rfl (fun _ => rfl) (fun _ => rfl))))

theorem fetchRequest_good (h : s.Good ql pp qq tv) (g : Nat) :
     (fetchRequest g s).Good ql pp qq tv := by
  unfold fetchRequest
  repeat' (first
    | with_reducible assumption
    | with_reducible apply emit_good
    | with_reducible apply serRead_good
    | (intro _ _)
    | intro _
    | dsimp only
    | split
    | with_reducible rfl
    | (fail_if_no_progress (with_reducible refine good_upd ?_ rfl (fun _ => rfl) (fun _ => rfl))))

theorem showTail_good (h : s.Good ql pp qq tv) :
     (showTail s).Good ql pp qq tv := by
  unfold showTail
  repeat' (first
    | with_reducible assumption
    | with_reducible apply puts_good
    | with_reducible apply getD_map_good
    | with_reducible apply getD_good
    | (intro _ _)
    | intro _
    | dsimp only
    | split
    | with_reducible rfl
    | (fail_if_no_progress (with_reducible refine good_upd ?_ rfl (fun _ => rfl) (fun _ => rfl))))

theorem takeoverEntered_good (h : s.Good ql pp qq tv) :
     (takeoverEntered s).Good ql pp qq tv := by
  unfold takeoverEntered
  repeat' (first
    | with_reducible assumption
    | with_reducible apply inc_good
    | with_reducible apply raiseVector_good
    | with_reducible apply raiseFault_good
    | with_reducible apply countersToLease_good
    | with_reducible apply tokenResetAll_good
    | with_reducible apply syncLost_good
    | with_reducible apply showTail_good
    | (intro _ _)
    | intro _
    | dsimp only
    | split
    | with_reducible rfl
    | (fail_if_no_progress (with_reducible refine good_upd ?_ rfl (fun _ => rfl) (fun _ => rfl))))

theorem replayDone_good (h : s.Good ql pp qq tv) :
     (replayDone s).Good ql pp qq tv := by
  unfold replayDone
  repeat' (first
    | with_reducible assumption
    | with_reducible apply put_good
    | with_reducible apply flag_good
    | with_reducible apply requestMode_good
    | with_reducible refine pair_good (by assumption) ?_
    | with_reducible refine triple_good (by assumption) ?_
    | (intro _ _)
    | intro _
    | dsimp only
    | split
    | with_reducible rfl
    | (fail_if_no_progress (with_reducible refine good_upd ?_ rfl (fun _ => rfl) (fun _ => rfl))))

theorem replayTimeout_good (h : s.Good ql pp qq tv) :
     (replayTimeout s).Good ql pp qq tv := by
  unfold replayTimeout
  repeat' (first
    | with_reducible assumption
    | with_reducible apply raiseFault_good
    | (intro _ _)
    | intro _
    | dsimp only
    | split
    | with_reducible rfl
    | (fail_if_no_progress (with_reducible refine good_upd ?_ rfl (fun _ => rfl) (fun _ => rfl))))

theorem linkDown_good (h : s.Good ql pp qq tv) :
     (linkDown s).Good ql pp qq tv := by
  unfold linkDown
  repeat' (first
    | with_reducible assumption
    | with_reducible apply put_good
    | with_reducible apply syncBreaks_good
    | (intro _ _)
    | intro _
    | dsimp only
    | split
    | with_reducible rfl
    | (fail_if_no_progress (with_reducible refine good_upd ?_ rfl (fun _ => rfl) (fun _ => rfl))))

theorem tandemLinkUp_good (h : s.Good ql pp qq tv) :
     (tandemLinkUp s).Good ql pp qq tv := by
  unfold tandemLinkUp
  repeat' (first
    | with_reducible assumption
    | with_reducible apply put_good
    | (intro _ _)
    | intro _
    | dsimp only
    | split
    | with_reducible rfl
    | (fail_if_no_progress (with_reducible refine good_upd ?_ rfl (fun _ => rfl) (fun _ => rfl))))

theorem tickRecord_good (h : s.Good ql pp qq tv) (ho : Option Nat) :
     (tickRecord ho s).Good ql pp qq tv := by
  unfold tickRecord
  repeat' (first
    | with_reducible assumption
    | with_reducible apply sendRec_good
    | with_reducible apply getD_map_good
    | with_reducible apply getD_good
    | (intro _ _)
    | intro _
    | dsimp only
    | split
    | with_reducible rfl
    | (fail_if_no_progress (with_reducible refine good_upd ?_ rfl (fun _ => rfl) (fun _ => rfl))))

theorem tickJournal_good (h : s.Good ql pp qq tv) :
     (tickJournal s).Good ql pp qq tv := by
  unfold tickJournal
  repeat' (first
    | with_reducible assumption
    | with_reducible apply put_good
    | with_reducible apply tickRecord_good
    | with_reducible refine pair_good (by assumption) ?_
    | with_reducible refine triple_good (by assumption) ?_
    | (intro _ _)
    | intro _
    | dsimp only
    | split
    | with_reducible rfl
    | (fail_if_no_progress (with_reducible refine good_upd ?_ rfl (fun _ => rfl) (fun _ => rfl))))

theorem ownLineCheck_good (h : s.Good ql pp qq tv) (low : Bool) :
     (ownLineCheck low s).Good ql pp qq tv := by
  unfold ownLineCheck
  repeat' (first
    | with_reducible assumption
    | with_reducible apply flag_good
    | with_reducible apply raiseVector_good
    | with_reducible apply raiseFault_good
    | with_reducible apply getD_map_good
    | with_reducible apply getD_good
    | (intro _ _)
    | intro _
    | dsimp only
    | split
    | with_reducible rfl
    | (fail_if_no_progress (with_reducible refine good_upd ?_ rfl (fun _ => rfl) (fun _ => rfl))))

theorem tanTick_good (h : s.Good ql pp qq tv) (low : Bool) :
     (tanTick low s).Good ql pp qq tv := by
  unfold tanTick
  repeat' (first
    | with_reducible assumption
    | with_reducible apply sampleLine_good
    | with_reducible apply tickJournal_good
    | with_reducible apply ownLineCheck_good
    | (intro _ _)
    | intro _
    | dsimp only
    | split
    | with_reducible rfl
    | (fail_if_no_progress (with_reducible refine good_upd ?_ rfl (fun _ => rfl) (fun _ => rfl))))

theorem tanClear_good (h : s.Good ql pp qq tv) :
     (tanClear s).Good ql pp qq tv := by
  unfold tanClear
  repeat' (first
    | with_reducible assumption
    | with_reducible apply forN_good
    | with_reducible apply put_good
    | (intro _ _)
    | intro _
    | dsimp only
    | split
    | with_reducible rfl
    | (fail_if_no_progress (with_reducible refine good_upd ?_ rfl (fun _ => rfl) (fun _ => rfl))))

end Sys2Proof.Machine
end

