-- ==== Sys2Proof/Laws/GoodDma.lean ====
section
/-!
SUPPORT. The operations of Machine/Dma.lean keep the queue and the canonical form (Laws/Good.lean).
-/

namespace Sys2Proof.Machine

set_option linter.unusedTactic false
set_option linter.unreachableTactic false
set_option linter.unusedVariables false

variable {ql : List Instr} {pp qq : Prop} {tv : Nat × Nat × Nat × Nat × Option (Nat × Nat × Nat)} {s : State}

theorem modDma_good (h : s.Good ql pp qq tv) (n : Chan) (f : DmaChan → DmaChan) :
     (State.modDma s n f).Good ql pp qq tv := by
  unfold State.modDma
  repeat' (first
    | with_reducible assumption
    | (intro _ _)
    | intro _
    | dsimp only
    | split
    | with_reducible rfl
    | (fail_if_no_progress (with_reducible refine good_upd ?_ rfl (fun _ => rfl) (fun _ => rfl))))

theorem dmaSignal_good (h : s.Good ql pp qq tv) (n : Chan) :
     (dmaSignal n s).Good ql pp qq tv := by
  unfold dmaSignal
  repeat' (first
    | with_reducible assumption
    | with_reducible apply evin_good
    | with_reducible apply raiseVector_good
    | with_reducible refine pair_good (by assumption) ?_
    | with_reducible refine triple_good (by assumption) ?_
    | (intro _ _)
    | intro _
    | dsimp only
    | split
    | with_reducible rfl
    | (fail_if_no_progress (with_reducible refine good_upd ?_ rfl (fun _ => rfl) (fun _ => rfl))))

theorem putStatus_good (h : s.Good ql pp qq tv) (n : Chan) (st mis : Nat) :
     (putStatus n st mis s).Good ql pp qq tv := by
  unfold putStatus
  repeat' (first
    | with_reducible assumption
    | with_reducible apply put_good
    | with_reducible apply serWrite_good
    | (intro _ _)
    | intro _
    | dsimp only
    | split
    | with_reducible rfl
    | (fail_if_no_progress (with_reducible refine good_upd ?_ rfl (fun _ => rfl) (fun _ => rfl))))

theorem dmaDrop_good (h : s.Good ql pp qq tv) (n : Nat) :
     (dmaDrop n s).Good ql pp qq tv := by
  unfold dmaDrop
  repeat' (first
    | with_reducible assumption
    | (intro _ _)
    | intro _
    | dsimp only
    | split
    | with_reducible rfl
    | (fail_if_no_progress (with_reducible refine good_upd ?_ rfl (fun _ => rfl) (fun _ => rfl))))

theorem dmaHalt_good (h : s.Good ql pp qq tv) (n : Chan) (state st : Nat) :
     (dmaHalt n state st s).Good ql pp qq tv := by
  unfold dmaHalt
  repeat' (first
    | with_reducible assumption
    | with_reducible apply put_good
    | with_reducible apply inc_good
    | with_reducible apply modDma_good
    | with_reducible apply dmaSignal_good
    | with_reducible apply putStatus_good
    | with_reducible apply dmaDrop_good
    | (intro _ _)
    | intro _
    | dsimp only
    | split
    | with_reducible rfl
    | (fail_if_no_progress (with_reducible refine good_upd ?_ rfl (fun _ => rfl) (fun _ => rfl))))

theorem decodeUpTo_good (h : s.Good ql pp qq tv) (m : Nat) (x0 : List Nat) :
     (decodeUpTo m x0 s).2.Good ql pp qq tv := by
  fun_induction decodeUpTo m x0 s
  all_goals repeat' (first
    | with_reducible assumption
    | with_reducible apply decodeG_good
    | (intro _ _)
    | intro _
    | dsimp only
    | split
    | with_reducible rfl
    | (fail_if_no_progress (with_reducible refine good_upd ?_ rfl (fun _ => rfl) (fun _ => rfl)))
    | with_reducible apply_assumption)

theorem dmaRead_good (h : s.Good ql pp qq tv) (a n : Nat) :
     (dmaRead a n s).2.2.Good ql pp qq tv := by
  unfold dmaRead
  repeat' (first
    | with_reducible assumption
    | with_reducible apply decodeUpTo_good
    | (intro _ _)
    | intro _
    | dsimp only
    | split
    | with_reducible rfl
    | (fail_if_no_progress (with_reducible refine good_upd ?_ rfl (fun _ => rfl) (fun _ => rfl))))

theorem wbRead_good (h : s.Good ql pp qq tv) (space a n : Nat) (host : List Byte) :
     (wbRead space a n host s).2.2.Good ql pp qq tv := by
  unfold wbRead
  repeat' (first
    | with_reducible assumption
    | with_reducible apply dmaRead_good
    | (intro _ _)
    | intro _
    | dsimp only
    | split
    | with_reducible rfl
    | (fail_if_no_progress (with_reducible refine good_upd ?_ rfl (fun _ => rfl) (fun _ => rfl))))

theorem wbWrite_good (h : s.Good ql pp qq tv) (space a : Nat) (bs : List Byte) :
     (wbWrite space a bs s).Good ql pp qq tv := by
  unfold wbWrite
  repeat' (first
    | with_reducible assumption
    | with_reducible apply emit_good
    | with_reducible apply serWrite_good
    | (intro _ _)
    | intro _
    | dsimp only
    | split
    | with_reducible rfl
    | (fail_if_no_progress (with_reducible refine good_upd ?_ rfl (fun _ => rfl) (fun _ => rfl))))

theorem dmaFetch_good (h : s.Good ql pp qq tv) (n : Chan) :
     (dmaFetch n s).Good ql pp qq tv := by
  unfold dmaFetch
  repeat' (first
    | with_reducible assumption
    | with_reducible apply modDma_good
    | with_reducible apply dmaHalt_good
    | with_reducible apply wbRead_good
    | (intro _ _)
    | intro _
    | dsimp only
    | split
    | with_reducible rfl
    | (fail_if_no_progress (with_reducible refine good_upd ?_ rfl (fun _ => rfl) (fun _ => rfl))))

theorem dmaFetchAll_good (h : s.Good ql pp qq tv) (x0 : Nat) :
     (dmaFetchAll x0 s).Good ql pp qq tv := by
  fun_induction dmaFetchAll x0 s
  all_goals repeat' (first
    | with_reducible assumption
    | with_reducible apply dmaFetch_good
    | with_reducible refine pair_good (by assumption) ?_
    | with_reducible refine triple_good (by assumption) ?_
    | (intro _ _)
    | intro _
    | dsimp only
    | split
    | with_reducible rfl
    | (fail_if_no_progress (with_reducible refine good_upd ?_ rfl (fun _ => rfl) (fun _ => rfl)))
    | with_reducible apply_assumption)

theorem dmaDrain_good (h : s.Good ql pp qq tv) :
     (dmaDrain s).Good ql pp qq tv := by
  unfold dmaDrain
  repeat' (first
    | with_reducible assumption
    | with_reducible apply wbWrite_good
    | with_reducible refine pair_good (by assumption) ?_
    | with_reducible refine triple_good (by assumption) ?_
    | (intro _ _)
    | intro _
    | dsimp only
    | split
    | with_reducible rfl
    | (fail_if_no_progress (with_reducible refine good_upd ?_ rfl (fun _ => rfl) (fun _ => rfl))))

theorem dmaMove_good (h : s.Good ql pp qq tv) (n : Chan) (x0 : Nat) :
     (dmaMove n x0 s).Good ql pp qq tv := by
  fun_induction dmaMove n x0 s
  all_goals repeat' (first
    | with_reducible assumption
    | with_reducible apply dmaFetchAll_good
    | with_reducible apply dmaDrain_good
    | (intro _ _)
    | intro _
    | dsimp only
    | split
    | with_reducible rfl
    | (fail_if_no_progress (with_reducible refine good_upd ?_ rfl (fun _ => rfl) (fun _ => rfl)))
    | with_reducible apply_assumption)

theorem dmaBegin_good (h : s.Good ql pp qq tv) (n : Chan) (off : Nat) :
     (dmaBegin n off s).Good ql pp qq tv := by
  unfold dmaBegin
  repeat' (first
    | with_reducible assumption
    | with_reducible apply puts_good
    | with_reducible apply modDma_good
    | (intro _ _)
    | intro _
    | dsimp only
    | split
    | with_reducible rfl
    | (fail_if_no_progress (with_reducible refine good_upd ?_ rfl (fun _ => rfl) (fun _ => rfl))))

theorem dmaGoOp_good (h : s.Good ql pp qq tv) (n : Chan) :
     (dmaGoOp n s).Good ql pp qq tv := by
  unfold dmaGoOp
  repeat' (first
    | with_reducible assumption
    | with_reducible apply flag_good
    | with_reducible apply dmaBegin_good
    | (intro _ _)
    | intro _
    | dsimp only
    | split
    | with_reducible rfl
    | (fail_if_no_progress (with_reducible refine good_upd ?_ rfl (fun _ => rfl) (fun _ => rfl))))

theorem dmaResumeOp_good (h : s.Good ql pp qq tv) (n : Chan) :
     (dmaResumeOp n s).Good ql pp qq tv := by
  unfold dmaResumeOp
  repeat' (first
    | with_reducible assumption
    | with_reducible apply flag_good
    | with_reducible apply dmaBegin_good
    | (intro _ _)
    | intro _
    | dsimp only
    | split
    | with_reducible rfl
    | (fail_if_no_progress (with_reducible refine good_upd ?_ rfl (fun _ => rfl) (fun _ => rfl))))

theorem dmaStopOp_good (h : s.Good ql pp qq tv) (n : Chan) :
     (dmaStopOp n s).Good ql pp qq tv := by
  unfold dmaStopOp
  repeat' (first
    | with_reducible assumption
    | with_reducible apply modDma_good
    | (intro _ _)
    | intro _
    | dsimp only
    | split
    | with_reducible rfl
    | (fail_if_no_progress (with_reducible refine good_upd ?_ rfl (fun _ => rfl) (fun _ => rfl))))

theorem dmaDrained_good (h : s.Good ql pp qq tv) (n : Chan) :
     (dmaDrained n s).Good ql pp qq tv := by
  unfold dmaDrained
  repeat' (first
    | with_reducible assumption
    | with_reducible apply dmaHalt_good
    | with_reducible apply dmaMove_good
    | (intro _ _)
    | intro _
    | dsimp only
    | split
    | with_reducible rfl
    | (fail_if_no_progress (with_reducible refine good_upd ?_ rfl (fun _ => rfl) (fun _ => rfl))))

theorem wbBegin_good (h : s.Good ql pp qq tv) (n : Chan) (w : List Byte) (hsrc hdst : List Byte) :
     (wbBegin n w hsrc hdst s).Good ql pp qq tv := by
  unfold wbBegin
  repeat' (first
    | with_reducible assumption
    | with_reducible apply modDma_good
    | with_reducible apply dmaHalt_good
    | with_reducible apply wbRead_good
    | with_reducible apply wbWrite_good
    | with_reducible apply dmaFetchAll_good
    | with_reducible refine pair_good (by assumption) ?_
    | with_reducible refine triple_good (by assumption) ?_
    | (intro _ _)
    | intro _
    | dsimp only
    | split
    | with_reducible rfl
    | (fail_if_no_progress (with_reducible refine good_upd ?_ rfl (fun _ => rfl) (fun _ => rfl))))

theorem wbBarrier_good (h : s.Good ql pp qq tv) (w : List Byte) :
     (wbBarrier w s).Good ql pp qq tv := by
  unfold wbBarrier
  repeat' (first
    | with_reducible assumption
    | with_reducible apply when_good
    | with_reducible apply emit_good
    | (intro _ _)
    | intro _
    | dsimp only
    | split
    | with_reducible rfl
    | (fail_if_no_progress (with_reducible refine good_upd ?_ rfl (fun _ => rfl) (fun _ => rfl))))

theorem wbEnd_good (h : s.Good ql pp qq tv) (n : Chan) (st mis : Nat) :
     (wbEnd n st mis s).Good ql pp qq tv := by
  unfold wbEnd
  repeat' (first
    | with_reducible assumption
    | with_reducible apply when_good
    | with_reducible apply put_good
    | with_reducible apply inc_good
    | with_reducible apply modDma_good
    | with_reducible apply dmaSignal_good
    | with_reducible apply putStatus_good
    | (intro _ _)
    | intro _
    | dsimp only
    | split
    | with_reducible rfl
    | (fail_if_no_progress (with_reducible refine good_upd ?_ rfl (fun _ => rfl) (fun _ => rfl))))

theorem waybillDone_good (h : s.Good ql pp qq tv) (n : Chan) :
     (waybillDone n s).Good ql pp qq tv := by
  unfold waybillDone
  repeat' (first
    | with_reducible assumption
    | with_reducible apply dmaMove_good
    | with_reducible apply wbBarrier_good
    | with_reducible apply wbEnd_good
    | with_reducible refine pair_good (by assumption) ?_
    | with_reducible refine triple_good (by assumption) ?_
    | (intro _ _)
    | intro _
    | dsimp only
    | split
    | with_reducible rfl
    | (fail_if_no_progress (with_reducible refine good_upd ?_ rfl (fun _ => rfl) (fun _ => rfl))))

theorem waybill_good (h : s.Good ql pp qq tv) (n : Chan) (op : Nat) (hsrc hdst : List Byte) :
     (waybill n op hsrc hdst s).Good ql pp qq tv := by
  unfold waybill
  repeat' (first
    | with_reducible assumption
    | with_reducible apply raiseFault_good
    | with_reducible apply dmaHalt_good
    | with_reducible apply dmaRead_good
    | with_reducible apply wbBegin_good
    | with_reducible apply waybillDone_good
    | (intro _ _)
    | intro _
    | dsimp only
    | split
    | with_reducible rfl
    | (fail_if_no_progress (with_reducible refine good_upd ?_ rfl (fun _ => rfl) (fun _ => rfl))))

theorem dmaServe_good (h : s.Good ql pp qq tv) (n : Chan) (run : State → State) (hf : ∀ s, s.Good ql pp qq tv → (run s).Good ql pp qq tv) :
     (dmaServe n run s).Good ql pp qq tv := by
  unfold dmaServe
  repeat' (first
    | with_reducible assumption
    | with_reducible apply orStall_good
    | apply hf
    | (intro _ _)
    | intro _
    | dsimp only
    | split
    | with_reducible rfl
    | (fail_if_no_progress (with_reducible refine good_upd ?_ rfl (fun _ => rfl) (fun _ => rfl))))

theorem busError_good (h : s.Good ql pp qq tv) (cause addr : Nat) :
     (busError cause addr s).Good ql pp qq tv := by
  unfold busError
  repeat' (first
    | with_reducible assumption
    | with_reducible apply forAll_good
    | with_reducible apply puts_good
    | with_reducible apply raiseFault_good
    | with_reducible apply dmaHalt_good
    | (intro _ _)
    | intro _
    | dsimp only
    | split
    | with_reducible rfl
    | (fail_if_no_progress (with_reducible refine good_upd ?_ rfl (fun _ => rfl) (fun _ => rfl))))

theorem busErrClear_good (h : s.Good ql pp qq tv) (idle : Bool) :
     (busErrClear idle s).Good ql pp qq tv := by
  unfold busErrClear
  repeat' (first
    | with_reducible assumption
    | with_reducible apply put_good
    | (intro _ _)
    | intro _
    | dsimp only
    | split
    | with_reducible rfl
    | (fail_if_no_progress (with_reducible refine good_upd ?_ rfl (fun _ => rfl) (fun _ => rfl))))

theorem dmaSafeStop_good (h : s.Good ql pp qq tv) :
     (dmaSafeStop s).Good ql pp qq tv := by
  unfold dmaSafeStop
  repeat' (first
    | with_reducible assumption
    | with_reducible apply forAll_good
    | with_reducible apply inc_good
    | with_reducible apply puts_good
    | with_reducible apply modDma_good
    | with_reducible apply dmaSignal_good
    | (intro _ _)
    | intro _
    | dsimp only
    | split
    | with_reducible rfl
    | (fail_if_no_progress (with_reducible refine good_upd ?_ rfl (fun _ => rfl) (fun _ => rfl))))

theorem dmaClear_good (h : s.Good ql pp qq tv) :
     (dmaClear s).Good ql pp qq tv := by
  unfold dmaClear
  repeat' (first
    | with_reducible assumption
    | with_reducible apply forN_good
    | with_reducible apply puts_good
    | (intro _ _)
    | intro _
    | dsimp only
    | split
    | with_reducible rfl
    | (fail_if_no_progress (with_reducible refine good_upd ?_ rfl (fun _ => rfl) (fun _ => rfl))))

end Sys2Proof.Machine
end

