-- ==== Sys2Proof/Laws/GoodTimers.lean ====
section
/-!
SUPPORT. The operations of Machine/Timers.lean keep the queue and the canonical form (Laws/Good.lean).
-/

namespace Sys2Proof.Machine

set_option linter.unusedTactic false
set_option linter.unreachableTactic false
set_option linter.unusedVariables false

variable {ql : List Instr} {pp qq : Prop} {tv : Nat × Nat × Nat × Nat × Option (Nat × Nat × Nat)} {s : State}

theorem tmrCompare_good (h : s.Good ql pp qq tv) (n : Nat) :
     (tmrCompare n s).Good ql pp qq tv := by
  unfold tmrCompare
  repeat' (first
    | with_reducible assumption
    | with_reducible apply flag_good
    | with_reducible apply produce_good
    | (intro _ _)
    | intro _
    | dsimp only
    | split
    | with_reducible rfl
    | (fail_if_no_progress (with_reducible refine good_upd ?_ rfl (fun _ => rfl) (fun _ => rfl))))

theorem tmrSet_good (h : s.Good ql pp qq tv) (n v : Nat) :
     (tmrSet n v s).Good ql pp qq tv := by
  unfold tmrSet
  repeat' (first
    | with_reducible assumption
    | with_reducible apply put_good
    | with_reducible apply tmrCompare_good
    | (intro _ _)
    | intro _
    | dsimp only
    | split
    | with_reducible rfl
    | (fail_if_no_progress (with_reducible refine good_upd ?_ rfl (fun _ => rfl) (fun _ => rfl))))

theorem tmrWrap1_good (h : s.Good ql pp qq tv) (n : Nat) :
     (tmrWrap1 n s).Good ql pp qq tv := by
  unfold tmrWrap1
  repeat' (first
    | with_reducible assumption
    | with_reducible apply when_good
    | with_reducible apply put_good
    | with_reducible apply flag_good
    | with_reducible apply produce_good
    | with_reducible apply tmrSet_good
    | (intro _ _)
    | intro _
    | dsimp only
    | split
    | with_reducible rfl
    | (fail_if_no_progress (with_reducible refine good_upd ?_ rfl (fun _ => rfl) (fun _ => rfl))))

theorem tmrStep1_good (h : s.Good ql pp qq tv) (n : Nat) :
     (tmrStep1 n s).Good ql pp qq tv := by
  unfold tmrStep1
  repeat' (first
    | with_reducible assumption
    | with_reducible apply tmrSet_good
    | with_reducible apply tmrWrap1_good
    | (intro _ _)
    | intro _
    | dsimp only
    | split
    | with_reducible rfl
    | (fail_if_no_progress (with_reducible refine good_upd ?_ rfl (fun _ => rfl) (fun _ => rfl))))

theorem tmrWrapOp_good (h : s.Good ql pp qq tv) (n : Nat) :
     (tmrWrapOp n s).Good ql pp qq tv := by
  unfold tmrWrapOp
  repeat' (first
    | with_reducible assumption
    | with_reducible apply tmrWrap1_good
    | with_reducible apply tmrStep1_good
    | (intro _ _)
    | intro _
    | dsimp only
    | split
    | with_reducible rfl
    | (fail_if_no_progress (with_reducible refine good_upd ?_ rfl (fun _ => rfl) (fun _ => rfl))))

theorem tmrStep_good (h : s.Good ql pp qq tv) (n : Nat) :
     (tmrStep n s).Good ql pp qq tv := by
  unfold tmrStep
  repeat' (first
    | with_reducible assumption
    | with_reducible apply tmrSet_good
    | with_reducible apply tmrWrapOp_good
    | (intro _ _)
    | intro _
    | dsimp only
    | split
    | with_reducible rfl
    | (fail_if_no_progress (with_reducible refine good_upd ?_ rfl (fun _ => rfl) (fun _ => rfl))))

theorem compareMatch_good (h : s.Good ql pp qq tv) (n : Nat) :
     (compareMatch n s).Good ql pp qq tv := by
  unfold compareMatch
  repeat' (first
    | with_reducible assumption
    | with_reducible apply tmrStep_good
    | (intro _ _)
    | intro _
    | dsimp only
    | split
    | with_reducible rfl
    | (fail_if_no_progress (with_reducible refine good_upd ?_ rfl (fun _ => rfl) (fun _ => rfl))))

theorem timerWrap_good (h : s.Good ql pp qq tv) (n : Nat) :
     (timerWrap n s).Good ql pp qq tv := by
  unfold timerWrap
  repeat' (first
    | with_reducible assumption
    | with_reducible apply tmrStep_good
    | (intro _ _)
    | intro _
    | dsimp only
    | split
    | with_reducible rfl
    | (fail_if_no_progress (with_reducible refine good_upd ?_ rfl (fun _ => rfl) (fun _ => rfl))))

theorem tmrStart_good (h : s.Good ql pp qq tv) (n : Nat) :
     (tmrStart n s).Good ql pp qq tv := by
  unfold tmrStart
  repeat' (first
    | with_reducible assumption
    | with_reducible apply put_good
    | with_reducible apply tmrSet_good
    | (intro _ _)
    | intro _
    | dsimp only
    | split
    | with_reducible rfl
    | (fail_if_no_progress (with_reducible refine good_upd ?_ rfl (fun _ => rfl) (fun _ => rfl))))

theorem tmrAtTick_good (h : s.Good ql pp qq tv) (n : Fin 16) (left : Nat) :
     (tmrAtTick n left s).Good ql pp qq tv := by
  unfold tmrAtTick
  repeat' (first
    | with_reducible assumption
    | (intro _ _)
    | intro _
    | dsimp only
    | split
    | with_reducible rfl
    | (fail_if_no_progress (with_reducible refine good_upd ?_ rfl (fun _ => rfl) (fun _ => rfl))))

theorem tmrStartOp_good (h : s.Good ql pp qq tv) (mask : Nat) (atTick : Bool) :
     (tmrStartOp mask atTick s).Good ql pp qq tv := by
  unfold tmrStartOp
  repeat' (first
    | with_reducible assumption
    | with_reducible apply forAll_good
    | with_reducible apply flag_good
    | with_reducible apply tmrStart_good
    | with_reducible apply tmrAtTick_good
    | (intro _ _)
    | intro _
    | dsimp only
    | split
    | with_reducible rfl
    | (fail_if_no_progress (with_reducible refine good_upd ?_ rfl (fun _ => rfl) (fun _ => rfl))))

theorem tmrStopOp_good (h : s.Good ql pp qq tv) (mask : Nat) :
     (tmrStopOp mask s).Good ql pp qq tv := by
  unfold tmrStopOp
  repeat' (first
    | with_reducible assumption
    | with_reducible apply forAll_good
    | with_reducible apply put_good
    | with_reducible apply tmrAtTick_good
    | (intro _ _)
    | intro _
    | dsimp only
    | split
    | with_reducible rfl
    | (fail_if_no_progress (with_reducible refine good_upd ?_ rfl (fun _ => rfl) (fun _ => rfl))))

theorem tmrCmpWrite_good (h : s.Good ql pp qq tv) (n v : Nat) :
     (tmrCmpWrite n v s).Good ql pp qq tv := by
  unfold tmrCmpWrite
  repeat' (first
    | with_reducible assumption
    | with_reducible apply put_good
    | with_reducible apply tmrCompare_good
    | (intro _ _)
    | intro _
    | dsimp only
    | split
    | with_reducible rfl
    | (fail_if_no_progress (with_reducible refine good_upd ?_ rfl (fun _ => rfl) (fun _ => rfl))))

theorem tmrPeriodWrite_good (h : s.Good ql pp qq tv) (n v : Nat) :
     (tmrPeriodWrite n v s).Good ql pp qq tv := by
  unfold tmrPeriodWrite
  repeat' (first
    | with_reducible assumption
    | with_reducible apply put_good
    | with_reducible apply tmrWrapOp_good
    | (intro _ _)
    | intro _
    | dsimp only
    | split
    | with_reducible rfl
    | (fail_if_no_progress (with_reducible refine good_upd ?_ rfl (fun _ => rfl) (fun _ => rfl))))

theorem tmrTick_good (h : s.Good ql pp qq tv) :
     (tmrTick s).Good ql pp qq tv := by
  unfold tmrTick
  repeat' (first
    | with_reducible assumption
    | with_reducible apply forAll_good
    | with_reducible apply tmrStep_good
    | with_reducible apply tmrStart_good
    | (intro _ _)
    | intro _
    | dsimp only
    | split
    | with_reducible rfl
    | (fail_if_no_progress (with_reducible refine good_upd ?_ rfl (fun _ => rfl) (fun _ => rfl))))

theorem fireAlarm_good (h : s.Good ql pp qq tv) :
     (fireAlarm s).Good ql pp qq tv := by
  unfold fireAlarm
  repeat' (first
    | with_reducible assumption
    | with_reducible apply flag_good
    | with_reducible apply produce_good
    | (intro _ _)
    | intro _
    | dsimp only
    | split
    | with_reducible rfl
    | (fail_if_no_progress (with_reducible refine good_upd ?_ rfl (fun _ => rfl) (fun _ => rfl))))

theorem rtcSecond_good (h : s.Good ql pp qq tv) :
     (rtcSecond s).Good ql pp qq tv := by
  unfold rtcSecond
  repeat' (first
    | with_reducible assumption
    | with_reducible apply when_good
    | with_reducible apply flag_good
    | with_reducible apply fireAlarm_good
    | (intro _ _)
    | intro _
    | dsimp only
    | split
    | with_reducible rfl
    | (fail_if_no_progress (with_reducible refine good_upd ?_ rfl (fun _ => rfl) (fun _ => rfl))))

theorem rtcCaptureOp_good (h : s.Good ql pp qq tv) :
     (rtcCaptureOp s).Good ql pp qq tv := by
  unfold rtcCaptureOp
  repeat' (first
    | with_reducible assumption
    | with_reducible apply flag_good
    | (intro _ _)
    | intro _
    | dsimp only
    | split
    | with_reducible rfl
    | (fail_if_no_progress (with_reducible refine good_upd ?_ rfl (fun _ => rfl) (fun _ => rfl))))

theorem rtcCaptureDone_good (h : s.Good ql pp qq tv) (sub : Nat) :
     (rtcCaptureDone sub s).Good ql pp qq tv := by
  unfold rtcCaptureDone
  repeat' (first
    | with_reducible assumption
    | with_reducible apply puts_good
    | (intro _ _)
    | intro _
    | dsimp only
    | split
    | with_reducible rfl
    | (fail_if_no_progress (with_reducible refine good_upd ?_ rfl (fun _ => rfl) (fun _ => rfl))))

theorem rtcCommitOp_good (h : s.Good ql pp qq tv) (sec : Nat) :
     (rtcCommitOp sec s).Good ql pp qq tv := by
  unfold rtcCommitOp
  repeat' (first
    | with_reducible assumption
    | with_reducible apply flag_good
    | with_reducible refine pair_good (by assumption) ?_
    | with_reducible refine triple_good (by assumption) ?_
    | (intro _ _)
    | intro _
    | dsimp only
    | split
    | with_reducible rfl
    | (fail_if_no_progress (with_reducible refine good_upd ?_ rfl (fun _ => rfl) (fun _ => rfl))))

theorem rtcCommitDone_good (h : s.Good ql pp qq tv) :
     (rtcCommitDone s).Good ql pp qq tv := by
  unfold rtcCommitDone
  repeat' (first
    | with_reducible assumption
    | with_reducible apply when_good
    | with_reducible apply flag_good
    | with_reducible apply puts_good
    | with_reducible apply fireAlarm_good
    | with_reducible refine pair_good (by assumption) ?_
    | with_reducible refine triple_good (by assumption) ?_
    | (intro _ _)
    | intro _
    | dsimp only
    | split
    | with_reducible rfl
    | (fail_if_no_progress (with_reducible refine good_upd ?_ rfl (fun _ => rfl) (fun _ => rfl))))

theorem rtcMark_good (h : s.Good ql pp qq tv) :
     (rtcMark s).Good ql pp qq tv := by
  unfold rtcMark
  repeat' (first
    | with_reducible assumption
    | (intro _ _)
    | intro _
    | dsimp only
    | split
    | with_reducible rfl
    | (fail_if_no_progress (with_reducible refine good_upd ?_ rfl (fun _ => rfl) (fun _ => rfl))))

theorem rtcWakeWrite_good (h : s.Good ql pp qq tv) (p : Nat) :
     (rtcWakeWrite p s).Good ql pp qq tv := by
  unfold rtcWakeWrite
  repeat' (first
    | with_reducible assumption
    | with_reducible apply put_good
    | with_reducible apply flag_good
    | (intro _ _)
    | intro _
    | dsimp only
    | split
    | with_reducible rfl
    | (fail_if_no_progress (with_reducible refine good_upd ?_ rfl (fun _ => rfl) (fun _ => rfl))))

theorem rtcWake_good (h : s.Good ql pp qq tv) :
     (rtcWake s).Good ql pp qq tv := by
  unfold rtcWake
  repeat' (first
    | with_reducible assumption
    | with_reducible apply flag_good
    | with_reducible apply inc_good
    | with_reducible apply produce_good
    | (intro _ _)
    | intro _
    | dsimp only
    | split
    | with_reducible rfl
    | (fail_if_no_progress (with_reducible refine good_upd ?_ rfl (fun _ => rfl) (fun _ => rfl))))

theorem backupLoss_good (h : s.Good ql pp qq tv) : (backupLoss s).Good ql pp qq tv := by
  unfold backupLoss
  refine puts_good ?_ _
  exact ⟨h.pend, fun hp => ⟨swf_filter _ _ _ (h.inv hp).regs, (h.inv hp).mem, (h.inv hp).ram⟩, h.tal⟩

theorem batteryLow_good (h : s.Good ql pp qq tv) (low : Bool) :
     (batteryLow low s).Good ql pp qq tv := by
  unfold batteryLow
  repeat' (first
    | with_reducible assumption
    | with_reducible apply put_good
    | (intro _ _)
    | intro _
    | dsimp only
    | split
    | with_reducible rfl
    | (fail_if_no_progress (with_reducible refine good_upd ?_ rfl (fun _ => rfl) (fun _ => rfl))))

end Sys2Proof.Machine
end

