-- ==== Sys2Proof/Laws/GoodSpi.lean ====
section
/-!
SUPPORT. The operations of Machine/Spi.lean keep the queue and the canonical form (Laws/Good.lean).
-/

namespace Sys2Proof.Machine

set_option linter.unusedTactic false
set_option linter.unreachableTactic false
set_option linter.unusedVariables false

variable {ql : List Instr} {pp qq : Prop} {tv : Nat × Nat × Nat × Nat × Option (Nat × Nat × Nat)} {s : State}

theorem modPort_good (h : s.Good ql pp qq tv) (i : Fin 2) (f : SpiPort → SpiPort) :
     (State.modPort s i f).Good ql pp qq tv := by
  unfold State.modPort
  repeat' (first
    | with_reducible assumption
    | (intro _ _)
    | intro _
    | dsimp only
    | split
    | with_reducible rfl
    | (fail_if_no_progress (with_reducible refine good_upd ?_ rfl (fun _ => rfl) (fun _ => rfl))))

theorem showPort_good (h : s.Good ql pp qq tv) (i : Fin 2) :
     (showPort i s).Good ql pp qq tv := by
  unfold showPort
  repeat' (first
    | with_reducible assumption
    | with_reducible apply puts_good
    | (intro _ _)
    | intro _
    | dsimp only
    | split
    | with_reducible rfl
    | (fail_if_no_progress (with_reducible refine good_upd ?_ rfl (fun _ => rfl) (fun _ => rfl))))

theorem spiEnd_good (h : s.Good ql pp qq tv) (i : Fin 2) (bits : Nat) (short long part : Bool) :
     (spiEnd i bits short long part s).Good ql pp qq tv := by
  unfold spiEnd
  repeat' (first
    | with_reducible assumption
    | with_reducible apply when_good
    | with_reducible apply flag_good
    | with_reducible apply inc_good
    | with_reducible apply puts_good
    | with_reducible apply produce_good
    | with_reducible apply modPort_good
    | with_reducible apply showPort_good
    | (intro _ _)
    | intro _
    | dsimp only
    | split
    | with_reducible rfl
    | (fail_if_no_progress (with_reducible refine good_upd ?_ rfl (fun _ => rfl) (fun _ => rfl))))

theorem misoWord_good (h : s.Good ql pp qq tv) (i : Fin 2) (bits : Nat) :
     (misoWord i bits s).2.Good ql pp qq tv := by
  unfold misoWord
  repeat' (first
    | with_reducible assumption
    | with_reducible apply fresh_good
    | with_reducible apply modPort_good
    | with_reducible refine pair_good (by assumption) ?_
    | with_reducible refine triple_good (by assumption) ?_
    | (intro _ _)
    | intro _
    | dsimp only
    | split
    | with_reducible rfl
    | (fail_if_no_progress (with_reducible refine good_upd ?_ rfl (fun _ => rfl) (fun _ => rfl))))

theorem masterRun_good (i : Fin 2) (x0 : Nat) :
     ∀ {s : State}, s.Good ql pp qq tv → (masterRun i x0 s).Good ql pp qq tv := by
  induction x0 with
  | zero => intro s h; unfold masterRun; exact h
  | succ k ih =>
    intro s h
    unfold masterRun
    repeat' (first
      | with_reducible assumption
      | with_reducible apply ih
      | with_reducible apply emit_good
      | with_reducible apply modPort_good
      | with_reducible apply misoWord_good
      | with_reducible refine pair_good (by assumption) ?_
      | with_reducible refine triple_good (by assumption) ?_
      | (intro _ _)
      | intro _
      | dsimp only
      | split
      | with_reducible rfl
      | (fail_if_no_progress (with_reducible refine good_upd ?_ rfl (fun _ => rfl) (fun _ => rfl))))

theorem masterGo_good (h : s.Good ql pp qq tv) (i : Fin 2) :
     (masterGo i s).Good ql pp qq tv := by
  unfold masterGo
  repeat' (first
    | with_reducible assumption
    | with_reducible apply showPort_good
    | with_reducible apply masterRun_good
    | (intro _ _)
    | intro _
    | dsimp only
    | split
    | with_reducible rfl
    | (fail_if_no_progress (with_reducible refine good_upd ?_ rfl (fun _ => rfl) (fun _ => rfl))))

theorem spiStart_good (h : s.Good ql pp qq tv) (i : Fin 2) (miso : List Nat) :
     (spiStart i miso s).Good ql pp qq tv := by
  unfold spiStart
  repeat' (first
    | with_reducible assumption
    | with_reducible apply modPort_good
    | with_reducible apply masterGo_good
    | (intro _ _)
    | intro _
    | dsimp only
    | split
    | with_reducible rfl
    | (fail_if_no_progress (with_reducible refine good_upd ?_ rfl (fun _ => rfl) (fun _ => rfl))))

theorem spiGo_good (h : s.Good ql pp qq tv) (i : Fin 2) (miso : List Nat) :
     (spiGo i miso s).Good ql pp qq tv := by
  unfold spiGo
  repeat' (first
    | with_reducible assumption
    | with_reducible apply flag_good
    | with_reducible apply spiStart_good
    | (intro _ _)
    | intro _
    | dsimp only
    | split
    | with_reducible rfl
    | (fail_if_no_progress (with_reducible refine good_upd ?_ rfl (fun _ => rfl) (fun _ => rfl))))

theorem masterEnd_good (h : s.Good ql pp qq tv) (i : Fin 2) :
     (masterEnd i s).Good ql pp qq tv := by
  unfold masterEnd
  repeat' (first
    | with_reducible assumption
    | with_reducible apply spiEnd_good
    | (intro _ _)
    | intro _
    | dsimp only
    | split
    | with_reducible rfl
    | (fail_if_no_progress (with_reducible refine good_upd ?_ rfl (fun _ => rfl) (fun _ => rfl))))

theorem spiFlush_good (h : s.Good ql pp qq tv) (i : Fin 2) :
     (spiFlush i s).Good ql pp qq tv := by
  unfold spiFlush
  repeat' (first
    | with_reducible assumption
    | with_reducible apply flag_good
    | with_reducible apply modPort_good
    | with_reducible apply showPort_good
    | (intro _ _)
    | intro _
    | dsimp only
    | split
    | with_reducible rfl
    | (fail_if_no_progress (with_reducible refine good_upd ?_ rfl (fun _ => rfl) (fun _ => rfl))))

theorem spiTxd_good (h : s.Good ql pp qq tv) (i : Fin 2) (v : Nat) :
     (spiTxd i v s).Good ql pp qq tv := by
  unfold spiTxd
  repeat' (first
    | with_reducible assumption
    | with_reducible apply flag_good
    | with_reducible apply modPort_good
    | with_reducible apply masterGo_good
    | (intro _ _)
    | intro _
    | dsimp only
    | split
    | with_reducible rfl
    | (fail_if_no_progress (with_reducible refine good_upd ?_ rfl (fun _ => rfl) (fun _ => rfl))))

theorem spiRxd_good (h : s.Good ql pp qq tv) (i : Fin 2) :
     (spiRxd i s).Good ql pp qq tv := by
  unfold spiRxd
  repeat' (first
    | with_reducible assumption
    | with_reducible apply put_good
    | with_reducible apply flag_good
    | with_reducible apply modPort_good
    | with_reducible apply masterGo_good
    | with_reducible refine pair_good (by assumption) ?_
    | with_reducible refine triple_good (by assumption) ?_
    | (intro _ _)
    | intro _
    | dsimp only
    | split
    | with_reducible rfl
    | (fail_if_no_progress (with_reducible refine good_upd ?_ rfl (fun _ => rfl) (fun _ => rfl))))

theorem slaveStart_good (h : s.Good ql pp qq tv) (i : Fin 2) :
     (slaveStart i s).Good ql pp qq tv := by
  unfold slaveStart
  repeat' (first
    | with_reducible assumption
    | with_reducible apply flag_good
    | with_reducible apply modPort_good
    | with_reducible refine pair_good (by assumption) ?_
    | with_reducible refine triple_good (by assumption) ?_
    | (intro _ _)
    | intro _
    | dsimp only
    | split
    | with_reducible rfl
    | (fail_if_no_progress (with_reducible refine good_upd ?_ rfl (fun _ => rfl) (fun _ => rfl))))

theorem csnFall_good (h : s.Good ql pp qq tv) (i : Fin 2) :
     (csnFall i s).Good ql pp qq tv := by
  unfold csnFall
  repeat' (first
    | with_reducible assumption
    | with_reducible apply modPort_good
    | with_reducible apply showPort_good
    | with_reducible apply slaveStart_good
    | (intro _ _)
    | intro _
    | dsimp only
    | split
    | with_reducible rfl
    | (fail_if_no_progress (with_reducible refine good_upd ?_ rfl (fun _ => rfl) (fun _ => rfl))))

theorem slaveWord_good (h : s.Good ql pp qq tv) (i : Fin 2) (mosi : Nat) :
     (slaveWord i mosi s).Good ql pp qq tv := by
  unfold slaveWord
  repeat' (first
    | with_reducible assumption
    | with_reducible apply flag_good
    | with_reducible apply emit_good
    | with_reducible apply modPort_good
    | with_reducible apply showPort_good
    | with_reducible apply slaveStart_good
    | with_reducible apply getD_map_good
    | with_reducible apply getD_good
    | (intro _ _)
    | intro _
    | dsimp only
    | split
    | with_reducible rfl
    | (fail_if_no_progress (with_reducible refine good_upd ?_ rfl (fun _ => rfl) (fun _ => rfl))))

theorem csnRise_good (h : s.Good ql pp qq tv) (i : Fin 2) (edges : Nat) :
     (csnRise i edges s).Good ql pp qq tv := by
  unfold csnRise
  repeat' (first
    | with_reducible assumption
    | with_reducible apply modPort_good
    | with_reducible apply spiEnd_good
    | (intro _ _)
    | intro _
    | dsimp only
    | split
    | with_reducible rfl
    | (fail_if_no_progress (with_reducible refine good_upd ?_ rfl (fun _ => rfl) (fun _ => rfl))))

theorem mwGive_good (h : s.Good ql pp qq tv) (a : Nat) (l : MwLine) :
     (mwGive a l s).Good ql pp qq tv := by
  unfold mwGive
  repeat' (first
    | with_reducible assumption
    | with_reducible apply when_good
    | with_reducible apply put_good
    | (intro _ _)
    | intro _
    | dsimp only
    | split
    | with_reducible rfl
    | (fail_if_no_progress (with_reducible refine good_upd ?_ rfl (fun _ => rfl) (fun _ => rfl))))

theorem mwHand_good (h : s.Good ql pp qq tv) (who : Option (Fin 12)) :
     (mwHand who s).Good ql pp qq tv := by
  unfold mwHand
  repeat' (first
    | with_reducible assumption
    | with_reducible refine modDrv_good' ?_ _ _ (fun _ _ => ?_)
    | with_reducible apply emit_good
    | with_reducible refine pair_good (by assumption) ?_
    | with_reducible refine triple_good (by assumption) ?_
    | (intro _ _)
    | intro _
    | dsimp only
    | split
    | with_reducible rfl
    | (fail_if_no_progress (with_reducible refine good_upd ?_ rfl (fun _ => rfl) (fun _ => rfl))))

theorem mwHit_good (h : s.Good ql pp qq tv) (a : Nat) (l : MwLine) :
     (mwHit a l s).Good ql pp qq tv := by
  unfold mwHit
  repeat' (first
    | with_reducible assumption
    | with_reducible apply inc_good
    | with_reducible apply mwGive_good
    | (intro _ _)
    | intro _
    | dsimp only
    | split
    | with_reducible rfl
    | (fail_if_no_progress (with_reducible refine good_upd ?_ rfl (fun _ => rfl) (fun _ => rfl))))

theorem mwRead_good (h : s.Good ql pp qq tv) (who : Option (Fin 12)) :
     (mwRead who s).Good ql pp qq tv := by
  unfold mwRead
  repeat' (first
    | with_reducible assumption
    | with_reducible apply put_good
    | with_reducible apply flag_good
    | with_reducible apply showPort_good
    | with_reducible apply mwHit_good
    | with_reducible refine pair_good (by assumption) ?_
    | with_reducible refine triple_good (by assumption) ?_
    | (intro _ _)
    | intro _
    | dsimp only
    | split
    | with_reducible rfl
    | (fail_if_no_progress (with_reducible refine good_upd ?_ rfl (fun _ => rfl) (fun _ => rfl))))

theorem mwWaiting_good (x0 : Nat) :
     ∀ {s : State}, s.Good ql pp qq tv → (mwWaiting x0 s).Good ql pp qq tv := by
  induction x0 with
  | zero => intro s h; unfold mwWaiting; exact h
  | succ k ih =>
    intro s h
    unfold mwWaiting
    repeat' (first
      | with_reducible assumption
      | with_reducible apply ih
      | with_reducible apply mwHand_good
      | with_reducible apply mwHit_good
      | with_reducible refine pair_good (by assumption) ?_
      | with_reducible refine triple_good (by assumption) ?_
      | (intro _ _)
      | intro _
      | dsimp only
      | split
      | with_reducible rfl
      | (fail_if_no_progress (with_reducible refine good_upd ?_ rfl (fun _ => rfl) (fun _ => rfl))))

theorem mwDone_good (h : s.Good ql pp qq tv) (bytes : List Byte) :
     (mwDone bytes s).Good ql pp qq tv := by
  unfold mwDone
  repeat' (first
    | with_reducible assumption
    | with_reducible apply inc_good
    | with_reducible apply showPort_good
    | with_reducible apply spiStart_good
    | with_reducible apply mwGive_good
    | with_reducible apply mwHand_good
    | with_reducible apply mwWaiting_good
    | with_reducible refine pair_good (by assumption) ?_
    | with_reducible refine triple_good (by assumption) ?_
    | (intro _ _)
    | intro _
    | dsimp only
    | split
    | with_reducible rfl
    | (fail_if_no_progress (with_reducible refine good_upd ?_ rfl (fun _ => rfl) (fun _ => rfl))))

theorem mwInval_good (h : s.Good ql pp qq tv) :
     (mwInval s).Good ql pp qq tv := by
  unfold mwInval
  repeat' (first
    | with_reducible assumption
    | (intro _ _)
    | intro _
    | dsimp only
    | split
    | with_reducible rfl
    | (fail_if_no_progress (with_reducible refine good_upd ?_ rfl (fun _ => rfl) (fun _ => rfl))))

theorem spiClear_good (h : s.Good ql pp qq tv) :
     (spiClear s).Good ql pp qq tv := by
  unfold spiClear
  repeat' (first
    | with_reducible assumption
    | with_reducible apply setReg_good
    | (intro _ _)
    | intro _
    | dsimp only
    | split
    | with_reducible rfl
    | (fail_if_no_progress (with_reducible refine good_upd ?_ rfl (fun _ => rfl) (fun _ => rfl))))

theorem spiDisable_good (h : s.Good ql pp qq tv) (i : Fin 2) :
     (spiDisable i s).Good ql pp qq tv := by
  unfold spiDisable
  repeat' (first
    | with_reducible assumption
    | with_reducible apply modPort_good
    | with_reducible apply showPort_good
    | (intro _ _)
    | intro _
    | dsimp only
    | split
    | with_reducible rfl
    | (fail_if_no_progress (with_reducible refine good_upd ?_ rfl (fun _ => rfl) (fun _ => rfl))))

end Sys2Proof.Machine
end

