-- ==== Sys2Proof/Laws/GoodModes.lean ====
section
/-!
SUPPORT. The operations of Machine/Modes.lean keep the queue and the canonical form (Laws/Good.lean).
-/

namespace Sys2Proof.Machine

set_option linter.unusedTactic false
set_option linter.unreachableTactic false
set_option linter.unusedVariables false

variable {ql : List Instr} {pp qq : Prop} {tv : Nat × Nat × Nat × Nat × Option (Nat × Nat × Nat)} {s : State}

theorem tickStart_good (h : s.Good ql pp qq tv) :
     (tickStart s).Good ql pp qq tv := by
  unfold tickStart
  repeat' (first
    | with_reducible assumption
    | with_reducible apply puts_good
    | with_reducible apply laneStart_good
    | with_reducible apply tokenResetAll_good
    | (intro _ _)
    | intro _
    | dsimp only
    | split
    | with_reducible rfl
    | (fail_if_no_progress (with_reducible refine good_upd ?_ rfl (fun _ => rfl) (fun _ => rfl))))

theorem tickStop_good (h : s.Good ql pp qq tv) :
     (tickStop s).Good ql pp qq tv := by
  unfold tickStop
  repeat' (first
    | with_reducible assumption
    | with_reducible apply sfDrop_good
    | with_reducible apply laneQuit_good
    | (intro _ _)
    | intro _
    | dsimp only
    | split
    | with_reducible rfl
    | (fail_if_no_progress (with_reducible refine good_upd ?_ rfl (fun _ => rfl) (fun _ => rfl))))

theorem rxModeChange_good (h : s.Good ql pp qq tv) (was m : Nat) :
     (rxModeChange was m s).Good ql pp qq tv := by
  unfold rxModeChange
  repeat' (first
    | with_reducible assumption
    | with_reducible apply rxPowerDown_good
    | with_reducible apply rxPowerUp_good
    | (intro _ _)
    | intro _
    | dsimp only
    | split
    | with_reducible rfl
    | (fail_if_no_progress (with_reducible refine good_upd ?_ rfl (fun _ => rfl) (fun _ => rfl))))

theorem cancelStaged_good (h : s.Good ql pp qq tv) :
     (cancelStaged s).Good ql pp qq tv := by
  unfold cancelStaged
  repeat' (first
    | with_reducible assumption
    | with_reducible apply add_good
    | (intro _ _)
    | intro _
    | dsimp only
    | split
    | with_reducible rfl
    | (fail_if_no_progress (with_reducible refine good_upd ?_ rfl (fun _ => rfl) (fun _ => rfl))))

theorem txModeChange_good (h : s.Good ql pp qq tv) (was m : Nat) (estop : Bool) :
     (txModeChange was m estop s).Good ql pp qq tv := by
  unfold txModeChange
  repeat' (first
    | with_reducible assumption
    | with_reducible apply dropPlanned_good
    | with_reducible apply ackDiscard_good
    | with_reducible apply txEstop_good
    | with_reducible apply cancelStaged_good
    | (intro _ _)
    | intro _
    | dsimp only
    | split
    | with_reducible rfl
    | (fail_if_no_progress (with_reducible refine good_upd ?_ rfl (fun _ => rfl) (fun _ => rfl))))

theorem enterMode_good (h : s.Good ql pp qq tv) (m : Nat) (estop : Bool) :
     (enterMode m estop s).Good ql pp qq tv := by
  unfold enterMode
  repeat' (first
    | with_reducible assumption
    | with_reducible apply puts_good
    | with_reducible apply raiseVector_good
    | with_reducible apply manModeCancel_good
    | with_reducible apply updWatch_good
    | with_reducible apply tanMode_good
    | with_reducible apply modeRecord_good
    | with_reducible apply tickStart_good
    | with_reducible apply tickStop_good
    | with_reducible apply rxModeChange_good
    | with_reducible apply txModeChange_good
    | (intro _ _)
    | intro _
    | dsimp only
    | split
    | with_reducible rfl
    | (fail_if_no_progress (with_reducible refine good_upd ?_ rfl (fun _ => rfl) (fun _ => rfl))))

theorem changeMode_good (h : s.Good ql pp qq tv) (m : Nat) (estop : Bool) :
     (changeMode m estop s).Good ql pp qq tv := by
  unfold changeMode
  repeat' (first
    | with_reducible assumption
    | with_reducible apply modeVectors_good
    | with_reducible apply calLoad_good
    | with_reducible apply returnReport_good
    | with_reducible apply enumStart_good
    | with_reducible apply enterMode_good
    | (intro _ _)
    | intro _
    | dsimp only
    | split
    | with_reducible rfl
    | (fail_if_no_progress (with_reducible refine good_upd ?_ rfl (fun _ => rfl) (fun _ => rfl))))

theorem standbyRefused_good (h : s.Good ql pp qq tv) :
     ∀ u, standbyRefused s = some u → u.Good ql pp qq tv := by
  intro u
  unfold standbyRefused
  repeat' (first
    | with_reducible assumption
    | (intro ht; cases ht)
    | with_reducible apply flag_good
    | dsimp only
    | split
    | with_reducible rfl
    | (fail_if_no_progress (with_reducible refine good_upd ?_ rfl (fun _ => rfl) (fun _ => rfl)))
    | (intro _ _)
    | intro _)

theorem judgeRequest_good (h : s.Good ql pp qq tv) (t : Nat) (estop : Bool) :
    ∀ u, judgeRequest t estop s = some u → u.Good ql pp qq tv := by
  unfold judgeRequest
  extract_lets m
  repeat' (first
    | with_reducible apply opt_ite
    | exact opt_none
    | exact standbyRefused_good h
    | with_reducible exact opt_some h
    | exact opt_some (flag_good h _))

theorem pendMode_good (h : s.Good ql pp qq tv) (t : Nat) (estop : Bool) :
     (pendMode t estop s).Good ql pp qq tv := by
  unfold pendMode
  repeat' (first
    | with_reducible assumption
    | with_reducible apply when_good
    | with_reducible apply flag_good
    | (intro _ _)
    | intro _
    | dsimp only
    | split
    | with_reducible rfl
    | (fail_if_no_progress (with_reducible refine good_upd ?_ rfl (fun _ => rfl) (fun _ => rfl))))

theorem calLeave_good (h : s.Good ql pp qq tv) :
     (calLeave s).Good ql pp qq tv := by
  unfold calLeave
  repeat' (first
    | with_reducible assumption
    | with_reducible apply changeMode_good
    | (intro _ _)
    | intro _
    | dsimp only
    | split
    | with_reducible rfl
    | (fail_if_no_progress (with_reducible refine good_upd ?_ rfl (fun _ => rfl) (fun _ => rfl))))

theorem calAbortCmd_good (h : s.Good ql pp qq tv) :
     (calAbortCmd s).Good ql pp qq tv := by
  unfold calAbortCmd
  repeat' (first
    | with_reducible assumption
    | with_reducible apply calAbortOp_good
    | with_reducible apply calLeave_good
    | (intro _ _)
    | intro _
    | dsimp only
    | split
    | with_reducible rfl
    | (fail_if_no_progress (with_reducible refine good_upd ?_ rfl (fun _ => rfl) (fun _ => rfl))))

theorem modeRequestOp_good (h : s.Good ql pp qq tv) (v : Nat) :
     (modeRequestOp v s).Good ql pp qq tv := by
  unfold modeRequestOp
  repeat' (first
    | with_reducible assumption
    | with_reducible apply when_good
    | with_reducible apply flag_good
    | with_reducible apply puts_good
    | with_reducible apply calAbortOp_good
    | with_reducible refine judgeRequest_good ?_ _ _ _ (by assumption)
    | with_reducible apply pendMode_good
    | with_reducible refine pair_good (by assumption) ?_
    | with_reducible refine triple_good (by assumption) ?_
    | (intro _ _)
    | intro _
    | dsimp only
    | split
    | with_reducible rfl
    | (fail_if_no_progress (with_reducible refine good_upd ?_ rfl (fun _ => rfl) (fun _ => rfl))))

theorem surveyEnd_good (h : s.Good ql pp qq tv) :
     (surveyEnd s).Good ql pp qq tv := by
  unfold surveyEnd
  repeat' (first
    | with_reducible assumption
    | with_reducible apply pendMode_good
    | (intro _ _)
    | intro _
    | dsimp only
    | split
    | with_reducible rfl
    | (fail_if_no_progress (with_reducible refine good_upd ?_ rfl (fun _ => rfl) (fun _ => rfl))))

theorem runChange_good (h : s.Good ql pp qq tv) (p : ModePend) :
     (runChange p s).Good ql pp qq tv := by
  unfold runChange
  repeat' (first
    | with_reducible assumption
    | with_reducible apply put_good
    | with_reducible apply flag_good
    | with_reducible apply changeMode_good
    | (intro _ _)
    | intro _
    | dsimp only
    | split
    | with_reducible rfl
    | (fail_if_no_progress (with_reducible refine good_upd ?_ rfl (fun _ => rfl) (fun _ => rfl))))

theorem modeChangeOp_good (h : s.Good ql pp qq tv) (estop low : Bool) :
     (modeChangeOp estop low s).Good ql pp qq tv := by
  unfold modeChangeOp
  repeat' (first
    | with_reducible assumption
    | with_reducible apply sampleLine_good
    | with_reducible apply runChange_good
    | with_reducible refine pair_good (by assumption) ?_
    | with_reducible refine triple_good (by assumption) ?_
    | (intro _ _)
    | intro _
    | dsimp only
    | split
    | with_reducible rfl
    | (fail_if_no_progress (with_reducible refine good_upd ?_ rfl (fun _ => rfl) (fun _ => rfl))))

theorem modeTick_good (h : s.Good ql pp qq tv) (low : Bool) :
     (modeTick low s).Good ql pp qq tv := by
  unfold modeTick
  repeat' (first
    | with_reducible assumption
    | with_reducible apply sampleLine_good
    | with_reducible apply runChange_good
    | with_reducible refine pair_good (by assumption) ?_
    | with_reducible refine triple_good (by assumption) ?_
    | (intro _ _)
    | intro _
    | dsimp only
    | split
    | with_reducible rfl
    | (fail_if_no_progress (with_reducible refine good_upd ?_ rfl (fun _ => rfl) (fun _ => rfl))))

theorem takeoverEntry_good (h : s.Good ql pp qq tv) (low : Bool) :
     (takeoverEntry low s).Good ql pp qq tv := by
  unfold takeoverEntry
  repeat' (first
    | with_reducible assumption
    | with_reducible apply put_good
    | with_reducible apply sampleLine_good
    | with_reducible apply takeoverEntered_good
    | with_reducible apply changeMode_good
    | with_reducible refine pair_good (by assumption) ?_
    | with_reducible refine triple_good (by assumption) ?_
    | (intro _ _)
    | intro _
    | dsimp only
    | split
    | with_reducible rfl
    | (fail_if_no_progress (with_reducible refine good_upd ?_ rfl (fun _ => rfl) (fun _ => rfl))))

theorem drainEnd_good (h : s.Good ql pp qq tv) :
     (drainEnd s).Good ql pp qq tv := by
  unfold drainEnd
  repeat' (first
    | with_reducible assumption
    | with_reducible apply raiseVector_good
    | with_reducible apply changeMode_good
    | (intro _ _)
    | intro _
    | dsimp only
    | split
    | with_reducible rfl
    | (fail_if_no_progress (with_reducible refine good_upd ?_ rfl (fun _ => rfl) (fun _ => rfl))))

theorem handoverTick_good (h : s.Good ql pp qq tv) :
     (handoverTick s).Good ql pp qq tv := by
  unfold handoverTick
  repeat' (first
    | with_reducible assumption
    | with_reducible apply flag_good
    | with_reducible apply inc_good
    | with_reducible apply dropLine_good
    | with_reducible apply changeMode_good
    | (intro _ _)
    | intro _
    | dsimp only
    | split
    | with_reducible rfl
    | (fail_if_no_progress (with_reducible refine good_upd ?_ rfl (fun _ => rfl) (fun _ => rfl))))

theorem handlerTmoOp_good (h : s.Good ql pp qq tv) :
     (handlerTmoOp s).Good ql pp qq tv := by
  unfold handlerTmoOp
  repeat' (first
    | with_reducible assumption
    | with_reducible apply raiseSafe_good
    | (intro _ _)
    | intro _
    | dsimp only
    | split
    | with_reducible rfl
    | (fail_if_no_progress (with_reducible refine good_upd ?_ rfl (fun _ => rfl) (fun _ => rfl))))

theorem safeEntryOp_good (h : s.Good ql pp qq tv) :
     (safeEntryOp s).Good ql pp qq tv := by
  unfold safeEntryOp
  repeat' (first
    | with_reducible assumption
    | with_reducible apply put_good
    | with_reducible apply raiseVector_good
    | with_reducible apply forDrovers_good
    | with_reducible apply dueVector_good
    | with_reducible apply txSafe_good
    | with_reducible apply laneStop_good
    | with_reducible apply ciphWipe_good
    | with_reducible apply dropLine_good
    | with_reducible apply dmaSafeStop_good
    | with_reducible apply enterMode_good
    | (intro _ _)
    | intro _
    | dsimp only
    | split
    | with_reducible rfl
    | (fail_if_no_progress (with_reducible refine good_upd ?_ rfl (fun _ => rfl) (fun _ => rfl))))

theorem fenceTick_good (h : s.Good ql pp qq tv) :
     (fenceTick s).Good ql pp qq tv := by
  unfold fenceTick
  repeat' (first
    | with_reducible assumption
    | with_reducible apply txSafe_good
    | with_reducible apply laneStop_good
    | with_reducible refine pair_good (by assumption) ?_
    | with_reducible refine triple_good (by assumption) ?_
    | (intro _ _)
    | intro _
    | dsimp only
    | split
    | with_reducible rfl
    | (fail_if_no_progress (with_reducible refine good_upd ?_ rfl (fun _ => rfl) (fun _ => rfl))))

theorem keptSerai_wf (por : Bool) (m : Serai) (h : Memory.wf m.mem = true) : Memory.wf (keptSerai por m).mem = true := by
  unfold keptSerai
  split
  · rfl
  · exact swf_filter _ _ _ h

theorem init_ram (n : Fin 12) : swf (fun _ => (0 : Byte)) (Vector.replicate 12 Drover.init)[n].ram = true := by
  simp [Drover.init, swf]

theorem wholeReset_good (h : s.Good ql pp False tv) (por : Bool) (cause : Field) : (wholeReset por cause s).Good ql pp False tv := by
  have hc := rbumpCut_good h
  unfold wholeReset
  extract_lets safe c z0 z1 z2 z3 z4 z5 r
  have hr : r.Good ql pp False tv :=
    ⟨hc.pend, fun hp => ⟨swf_filter _ _ _ (hc.inv hp).regs, keptSerai_wf _ _ (hc.inv hp).mem, init_ram⟩, fun h => h.elim⟩
  clear_value r
  split
  · exact hr
  · exact when_good (flag_good hr _) _ _ fun _ h => flag_good h _

theorem softResetOp_good (h : s.Good ql pp False tv) (v : Nat) :
     (softResetOp v s).Good ql pp False tv := by
  unfold softResetOp
  repeat' (first
    | with_reducible assumption
    | with_reducible apply flag_good
    | with_reducible apply wholeReset_good
    | (intro _ _)
    | intro _
    | dsimp only
    | split
    | with_reducible rfl
    | (fail_if_no_progress (with_reducible refine good_upd ?_ rfl (fun _ => rfl) (fun h => h.elim))))

theorem resetReleaseOp_good (h : s.Good ql pp qq tv) (pins : Straps) :
     (resetReleaseOp pins s).Good ql pp qq tv := by
  unfold resetReleaseOp
  repeat' (first
    | with_reducible assumption
    | with_reducible apply puts_good
    | with_reducible apply flsScan_good
    | with_reducible apply getD_map_good
    | with_reducible apply getD_good
    | (intro _ _)
    | intro _
    | dsimp only
    | split
    | with_reducible rfl
    | (fail_if_no_progress (with_reducible refine good_upd ?_ rfl (fun _ => rfl) (fun _ => rfl))))

theorem resetCompleteOp_good (h : s.Good ql pp qq tv) :
     (resetCompleteOp s).Good ql pp qq tv := by
  unfold resetCompleteOp
  repeat' (first
    | with_reducible assumption
    | with_reducible apply puts_good
    | with_reducible apply trustBoot_good
    | (intro _ _)
    | intro _
    | dsimp only
    | split
    | with_reducible rfl
    | (fail_if_no_progress (with_reducible refine good_upd ?_ rfl (fun _ => rfl) (fun _ => rfl))))

theorem startImage_good (h : s.Good ql pp qq tv) (img : List Byte) :
     (startImage img s).Good ql pp qq tv := by
  unfold startImage
  repeat' (first
    | with_reducible assumption
    | with_reducible apply startDrover_good
    | with_reducible apply bootShow_good
    | with_reducible apply changeMode_good
    | (intro _ _)
    | intro _
    | dsimp only
    | split
    | with_reducible rfl
    | (fail_if_no_progress (with_reducible refine good_upd ?_ rfl (fun _ => rfl) (fun _ => rfl))))

theorem bootBegin_good (h : s.Good ql pp qq tv) :
     (bootBegin s).Good ql pp qq tv := by
  unfold bootBegin
  repeat' (first
    | with_reducible assumption
    | with_reducible apply leaseScan_good
    | with_reducible apply calBoot_good
    | with_reducible apply cellToLease_good
    | (intro _ _)
    | intro _
    | dsimp only
    | split
    | with_reducible rfl
    | (fail_if_no_progress (with_reducible refine good_upd ?_ rfl (fun _ => rfl) (fun _ => rfl))))

theorem bootLoad_good (h : s.Good ql pp qq tv) (host : List Byte) :
     (bootLoad host s).Good ql pp qq tv := by
  unfold bootLoad
  repeat' (first
    | with_reducible assumption
    | with_reducible apply bootFlash_good
    | with_reducible apply bootHost_good
    | with_reducible apply startImage_good
    | with_reducible refine pair_good (by assumption) ?_
    | with_reducible refine triple_good (by assumption) ?_
    | (intro _ _)
    | intro _
    | dsimp only
    | split
    | with_reducible rfl
    | (fail_if_no_progress (with_reducible refine good_upd ?_ rfl (fun _ => rfl) (fun _ => rfl))))

theorem secureBootOp_good (h : s.Good ql pp qq tv) (noise : Bool) (host : List Byte) :
     (secureBootOp noise host s).Good ql pp qq tv := by
  unfold secureBootOp
  repeat' (first
    | with_reducible assumption
    | with_reducible apply flag_good
    | with_reducible apply fillPools_good
    | with_reducible apply drawNonce_good
    | with_reducible apply burnIdentity_good
    | with_reducible apply noiseFail_good
    | with_reducible apply bootBegin_good
    | with_reducible apply bootLoad_good
    | (intro _ _)
    | intro _
    | dsimp only
    | split
    | with_reducible rfl
    | (fail_if_no_progress (with_reducible refine good_upd ?_ rfl (fun _ => rfl) (fun _ => rfl))))

end Sys2Proof.Machine
end

