-- ==== Sys2Proof/Laws/GoodRegRead.lean ====
section
/-!
SUPPORT. The operations of Machine/RegRead.lean keep the queue and the canonical form (Laws/Good.lean).
-/

namespace Sys2Proof.Machine

set_option linter.unusedTactic false
set_option linter.unreachableTactic false
set_option linter.unusedVariables false

variable {ql : List Instr} {pp qq : Prop} {tv : Nat × Nat × Nat × Nat × Option (Nat × Nat × Nat)} {s : State}

theorem ladvance_good (h : s.Good ql pp qq tv) (n : Nat) :
     (ladvance n s).Good ql pp qq tv := by
  unfold ladvance
  repeat' (first
    | with_reducible assumption
    | with_reducible apply put_good
    | (intro _ _)
    | intro _
    | dsimp only
    | split
    | with_reducible rfl
    | (fail_if_no_progress (with_reducible refine good_upd ?_ rfl (fun _ => rfl) (fun _ => rfl))))

theorem readEffect_good (h : s.Good ql pp qq tv) (off : Nat) :
     (readEffect off s).Good ql pp qq tv := by
  unfold readEffect
  repeat' (first
    | with_reducible assumption
    | with_reducible apply when_good
    | with_reducible apply flag_good
    | with_reducible apply randRead_good
    | with_reducible apply spiRxd_good
    | with_reducible apply mwRead_good
    | with_reducible apply ladvance_good
    | (intro _ _)
    | intro _
    | dsimp only
    | split
    | with_reducible rfl
    | (fail_if_no_progress (with_reducible refine good_upd ?_ rfl (fun _ => rfl) (fun _ => rfl))))

theorem readReg_good (h : s.Good ql pp qq tv) (off : Nat) :
     (readReg off s).2.Good ql pp qq tv := by
  unfold readReg
  repeat' (first
    | with_reducible assumption
    | with_reducible apply readEffect_good
    | (intro _ _)
    | intro _
    | dsimp only
    | split
    | with_reducible rfl
    | (fail_if_no_progress (with_reducible refine good_upd ?_ rfl (fun _ => rfl) (fun _ => rfl))))

end Sys2Proof.Machine
end

