-- ==== Sys2Proof/Laws/GoodHostIf.lean ====
section
/-!
SUPPORT. The operations of Machine/HostIf.lean keep the queue and the canonical form (Laws/Good.lean).
-/

namespace Sys2Proof.Machine

set_option linter.unusedTactic false
set_option linter.unreachableTactic false
set_option linter.unusedVariables false

variable {ql : List Instr} {pp qq : Prop} {tv : Nat × Nat × Nat × Nat × Option (Nat × Nat × Nat)} {s : State}

theorem msixFlush_good (h : s.Good ql pp qq tv) :
     (msixFlush s).Good ql pp qq tv := by
  unfold msixFlush
  repeat' (first
    | with_reducible assumption
    | with_reducible apply inc_good
    | with_reducible apply emit_good
    | with_reducible apply foldl_good
    | with_reducible apply foldl_pair_good
    | (intro _ _)
    | intro _
    | dsimp only
    | split
    | with_reducible rfl
    | (fail_if_no_progress (with_reducible refine good_upd ?_ rfl (fun _ => rfl) (fun _ => rfl))))

theorem msixWrite_good (h : s.Good ql pp qq tv) (e : Fin 64) (w v : Nat) :
     (msixWrite e w v s).Good ql pp qq tv := by
  unfold msixWrite
  repeat' (first
    | with_reducible assumption
    | with_reducible apply msixFlush_good
    | (intro _ _)
    | intro _
    | dsimp only
    | split
    | with_reducible rfl
    | (fail_if_no_progress (with_reducible refine good_upd ?_ rfl (fun _ => rfl) (fun _ => rfl))))

theorem msixUnmask_good (h : s.Good ql pp qq tv) (e : Option (Fin 64)) :
     (msixUnmask e s).Good ql pp qq tv := by
  unfold msixUnmask
  repeat' (first
    | with_reducible assumption
    | with_reducible apply put_good
    | with_reducible apply msixFlush_good
    | with_reducible apply msixWrite_good
    | with_reducible refine pair_good (by assumption) ?_
    | with_reducible refine triple_good (by assumption) ?_
    | (intro _ _)
    | intro _
    | dsimp only
    | split
    | with_reducible rfl
    | (fail_if_no_progress (with_reducible refine good_upd ?_ rfl (fun _ => rfl) (fun _ => rfl))))

theorem msixControl_good (h : s.Good ql pp qq tv) (v : Nat) :
     (msixControl v s).Good ql pp qq tv := by
  unfold msixControl
  repeat' (first
    | with_reducible assumption
    | with_reducible apply puts_good
    | with_reducible apply msixFlush_good
    | (intro _ _)
    | intro _
    | dsimp only
    | split
    | with_reducible rfl
    | (fail_if_no_progress (with_reducible refine good_upd ?_ rfl (fun _ => rfl) (fun _ => rfl))))

theorem endpointReset_good (h : s.Good ql pp qq tv) (speed width : Nat) :
     (endpointReset speed width s).Good ql pp qq tv := by
  unfold endpointReset
  repeat' (first
    | with_reducible assumption
    | with_reducible apply puts_good
    | (intro _ _)
    | intro _
    | dsimp only
    | split
    | with_reducible rfl
    | (fail_if_no_progress (with_reducible refine good_upd ?_ rfl (fun _ => rfl) (fun _ => rfl))))

theorem doorbell_good (h : s.Good ql pp qq tv) (r v : Nat) :
     (doorbell r v s).Good ql pp qq tv := by
  unfold doorbell
  repeat' (first
    | with_reducible assumption
    | with_reducible apply when_good
    | with_reducible apply put_good
    | with_reducible apply flag_good
    | with_reducible apply inc_good
    | with_reducible apply evin_good
    | (intro _ _)
    | intro _
    | dsimp only
    | split
    | with_reducible rfl
    | (fail_if_no_progress (with_reducible refine good_upd ?_ rfl (fun _ => rfl) (fun _ => rfl))))

theorem devWrite_good (h : s.Good ql pp qq tv) (d : Fin 12) (r : Fin 16) (v : Nat) :
     (devWrite d r v s).Good ql pp qq tv := by
  unfold devWrite
  repeat' (first
    | with_reducible assumption
    | with_reducible apply flag_good
    | with_reducible apply afterWrites_good
    | (intro _ _)
    | intro _
    | dsimp only
    | split
    | with_reducible rfl
    | (fail_if_no_progress (with_reducible refine good_upd ?_ rfl (fun _ => rfl) (fun _ => rfl))))

theorem hstClear_good (h : s.Good ql pp qq tv) :
     (hstClear s).Good ql pp qq tv := by
  unfold hstClear
  repeat' (first
    | with_reducible assumption
    | with_reducible apply forN_good
    | with_reducible apply put_good
    | (intro _ _)
    | intro _
    | dsimp only
    | split
    | with_reducible rfl
    | (fail_if_no_progress (with_reducible refine good_upd ?_ rfl (fun _ => rfl) (fun _ => rfl))))

end Sys2Proof.Machine
end

