-- ==== Sys2Proof/Laws/GoodRegWrite.lean ====
section
/-!
SUPPORT. The operations of Machine/RegWrite.lean keep the queue and the canonical form (Laws/Good.lean).
-/

namespace Sys2Proof.Machine

set_option linter.unusedTactic false
set_option linter.unreachableTactic false
set_option linter.unusedVariables false

variable {ql : List Instr} {pp qq : Prop} {tv : Nat × Nat × Nat × Nat × Option (Nat × Nat × Nat)} {s : State}

theorem writeField_good (h : s.Good ql pp qq tv) (off v : Nat) (owner : Option Nat) (runs : Bool) (f : FieldSpec) :
     (writeField off v owner runs s f).Good ql pp qq tv := by
  unfold writeField
  repeat' (first
    | with_reducible assumption
    | with_reducible apply put_good
    | with_reducible apply stage_good
    | with_reducible refine pair_good (by assumption) ?_
    | with_reducible refine triple_good (by assumption) ?_
    | (intro _ _)
    | intro _
    | dsimp only
    | split
    | with_reducible rfl
    | (fail_if_no_progress (with_reducible refine good_upd ?_ rfl (fun _ => rfl) (fun _ => rfl))))

theorem writeFields_good (h : s.Good ql pp qq tv) (off v : Nat) (owner : Option Nat) (fs : List FieldSpec) :
     (writeFields off v owner fs s).Good ql pp qq tv := by
  unfold writeFields
  repeat' (first
    | with_reducible assumption
    | with_reducible apply when_good
    | with_reducible apply flag_good
    | with_reducible apply writeField_good
    | with_reducible apply foldl_good
    | with_reducible apply foldl_pair_good
    | (intro _ _)
    | intro _
    | dsimp only
    | split
    | with_reducible rfl
    | (fail_if_no_progress (with_reducible refine good_upd ?_ rfl (fun _ => rfl) (fun _ => rfl))))

theorem onBit_good (h : s.Good ql pp qq tv) (v i : Nat) (f : State → State) (hf : ∀ s, s.Good ql pp qq tv → (f s).Good ql pp qq tv) :
     (onBit v i f s).Good ql pp qq tv := by
  unfold onBit
  repeat' (first
    | with_reducible assumption
    | apply hf
    | (intro _ _)
    | intro _
    | dsimp only
    | split
    | with_reducible rfl
    | (fail_if_no_progress (with_reducible refine good_upd ?_ rfl (fun _ => rfl) (fun _ => rfl))))

theorem sysWrite_good (h : s.Good ql pp False tv) (off v : Nat) :
     (sysWrite off v s).Good ql pp False tv := by
  unfold sysWrite
  repeat' (first
    | with_reducible assumption
    | with_reducible apply setReg_good
    | with_reducible apply puts_good
    | with_reducible apply ackFault_good
    | with_reducible apply modeRequestOp_good
    | with_reducible apply softResetOp_good
    | with_reducible apply onBit_good
    | (intro _ _)
    | intro _
    | dsimp only
    | split
    | with_reducible rfl
    | (fail_if_no_progress (with_reducible refine good_upd ?_ rfl (fun _ => rfl) (fun h => h.elim))))

theorem tickWrite_good (h : s.Good ql pp False tv) (who : Writer) (off v : Nat) :
     (tickWrite who off v s).Good ql pp False tv := by
  unfold tickWrite
  repeat' (first
    | with_reducible assumption
    | with_reducible apply captureTally_good
    | with_reducible apply sealWrite_good
    | with_reducible apply trimWrite_good
    | with_reducible apply slewRequest_good
    | with_reducible apply tickLoadGo_good
    | with_reducible apply onBit_good
    | with_reducible refine pair_good (by assumption) ?_
    | with_reducible refine triple_good (by assumption) ?_
    | (intro _ _)
    | intro _
    | dsimp only
    | split
    | with_reducible rfl
    | (fail_if_no_progress (with_reducible refine good_upd ?_ rfl (fun _ => rfl) (fun h => h.elim))))

theorem tickCtl_good (h : s.Good ql pp qq tv) (v : Nat) :
     (tickCtl v s).Good ql pp qq tv := by
  unfold tickCtl
  repeat' (first
    | with_reducible assumption
    | with_reducible apply newSrc_good
    | with_reducible apply tickClear_good
    | with_reducible apply writeFields_good
    | with_reducible apply onBit_good
    | (intro _ _)
    | intro _
    | dsimp only
    | split
    | with_reducible rfl
    | (fail_if_no_progress (with_reducible refine good_upd ?_ rfl (fun _ => rfl) (fun _ => rfl))))

theorem manWrite_good (h : s.Good ql pp qq tv) (off v : Nat) :
     (manWrite off v s).Good ql pp qq tv := by
  unfold manWrite
  repeat' (first
    | with_reducible assumption
    | with_reducible apply manCheckOp_good
    | with_reducible apply manDiscardOp_good
    | with_reducible apply manActivateOp_good
    | with_reducible apply manSwitchArmOp_good
    | with_reducible apply manSwitchCancelOp_good
    | with_reducible apply onBit_good
    | (intro _ _)
    | intro _
    | dsimp only
    | split
    | with_reducible rfl
    | (fail_if_no_progress (with_reducible refine good_upd ?_ rfl (fun _ => rfl) (fun _ => rfl))))

theorem spareCmd_good (h : s.Good ql pp qq tv) :
     (spareCmd s).Good ql pp qq tv := by
  unfold spareCmd
  repeat' (first
    | with_reducible assumption
    | with_reducible apply flag_good
    | with_reducible apply spareStart_good
    | (intro _ _)
    | intro _
    | dsimp only
    | split
    | with_reducible rfl
    | (fail_if_no_progress (with_reducible refine good_upd ?_ rfl (fun _ => rfl) (fun _ => rfl))))

theorem drvWrite_good (h : s.Good ql pp qq tv) (n : Fin 12) (o v : Nat) :
     (drvWrite n o v s).Good ql pp qq tv := by
  unfold drvWrite
  repeat' (first
    | with_reducible assumption
    | with_reducible refine modDrv_good' ?_ _ _ (fun _ _ => ?_)
    | with_reducible apply forAll_good
    | with_reducible apply put_good
    | with_reducible apply flag_good
    | with_reducible apply switchArm_good
    | with_reducible apply switchCancel_good
    | with_reducible apply drvHaltOp_good
    | with_reducible apply drvResumeOp_good
    | with_reducible apply setLocalByte_good
    | with_reducible apply ladvance_good
    | with_reducible apply onBit_good
    | (intro _ _)
    | intro _
    | dsimp only
    | split
    | with_reducible rfl
    | (fail_if_no_progress (with_reducible refine good_upd ?_ rfl (fun _ => rfl) (fun _ => rfl))))

theorem claimWrite_good (h : s.Good ql pp qq tv) (who : Writer) (u : Fin 4) (v : Nat) :
     (claimWrite who u v s).Good ql pp qq tv := by
  unfold claimWrite
  repeat' (first
    | with_reducible assumption
    | with_reducible apply ciphClaim_good
    | with_reducible apply ciphDrop_good
    | with_reducible apply onBit_good
    | with_reducible refine pair_good (by assumption) ?_
    | with_reducible refine triple_good (by assumption) ?_
    | (intro _ _)
    | intro _
    | dsimp only
    | split
    | with_reducible rfl
    | (fail_if_no_progress (with_reducible refine good_upd ?_ rfl (fun _ => rfl) (fun _ => rfl))))

theorem dmaWrite_good (h : s.Good ql pp qq tv) (who : Writer) (n : Fin 16) (o v : Nat) :
     (dmaWrite who n o v s).Good ql pp qq tv := by
  unfold dmaWrite
  repeat' (first
    | with_reducible assumption
    | with_reducible apply put_good
    | with_reducible apply flag_good
    | with_reducible apply puts_good
    | with_reducible apply dmaGoOp_good
    | with_reducible apply dmaResumeOp_good
    | with_reducible apply dmaStopOp_good
    | with_reducible apply onBit_good
    | (intro _ _)
    | intro _
    | dsimp only
    | split
    | with_reducible rfl
    | (fail_if_no_progress (with_reducible refine good_upd ?_ rfl (fun _ => rfl) (fun _ => rfl))))

theorem carResetCmd_good (h : s.Good ql pp False tv) :
     (carResetCmd s).Good ql pp False tv := by
  unfold carResetCmd
  repeat' (first
    | with_reducible assumption
    | with_reducible apply carResetOp_good
    | with_reducible apply wholeReset_good
    | (intro _ _)
    | intro _
    | dsimp only
    | split
    | with_reducible rfl
    | (fail_if_no_progress (with_reducible refine good_upd ?_ rfl (fun _ => rfl) (fun h => h.elim))))

theorem resetWave2Cmd_good (h : s.Good ql pp False tv) :
     (resetWave2Cmd s).Good ql pp False tv := by
  unfold resetWave2Cmd
  repeat' (first
    | with_reducible assumption
    | with_reducible apply resetWave2_good
    | with_reducible apply wholeReset_good
    | (intro _ _)
    | intro _
    | dsimp only
    | split
    | with_reducible rfl
    | (fail_if_no_progress (with_reducible refine good_upd ?_ rfl (fun _ => rfl) (fun h => h.elim))))

theorem carWrite_good (h : s.Good ql pp False tv) (v : Nat) :
     (carWrite v s).Good ql pp False tv := by
  unfold carWrite
  repeat' (first
    | with_reducible assumption
    | with_reducible apply carEnum_good
    | with_reducible apply carSnapOp_good
    | with_reducible apply carAbortOp_good
    | with_reducible apply carImageOp_good
    | with_reducible apply onBit_good
    | with_reducible apply carResetCmd_good
    | (intro _ _)
    | intro _
    | dsimp only
    | split
    | with_reducible rfl
    | (fail_if_no_progress (with_reducible refine good_upd ?_ rfl (fun _ => rfl) (fun h => h.elim))))

theorem tanWrite_good (h : s.Good ql pp qq tv) (v : Nat) :
     (tanWrite v s).Good ql pp qq tv := by
  unfold tanWrite
  repeat' (first
    | with_reducible assumption
    | with_reducible apply fresh_good
    | with_reducible apply tanJoin_good
    | with_reducible apply tanHandover_good
    | with_reducible apply tanFetch_good
    | with_reducible apply replayDone_good
    | with_reducible apply onBit_good
    | (intro _ _)
    | intro _
    | dsimp only
    | split
    | with_reducible rfl
    | (fail_if_no_progress (with_reducible refine good_upd ?_ rfl (fun _ => rfl) (fun _ => rfl))))

theorem truWrite_good (h : s.Good ql pp qq tv) (off v : Nat) :
     (truWrite off v s).Good ql pp qq tv := by
  unfold truWrite
  repeat' (first
    | with_reducible assumption
    | with_reducible apply claimOp_good
    | with_reducible apply setpubOp_good
    | with_reducible apply rbumpOp_good
    | with_reducible apply ownerGo_good
    | with_reducible apply lockSet_good
    | with_reducible apply updWatch_good
    | with_reducible apply onBit_good
    | (intro _ _)
    | intro _
    | dsimp only
    | split
    | with_reducible rfl
    | (fail_if_no_progress (with_reducible refine good_upd ?_ rfl (fun _ => rfl) (fun _ => rfl))))

theorem updWrite_good (h : s.Good ql pp qq tv) (off v : Nat) :
     (updWrite off v s).Good ql pp qq tv := by
  unfold updWrite
  repeat' (first
    | with_reducible assumption
    | with_reducible apply updAbort_good
    | with_reducible apply updHeader_good
    | with_reducible apply updChunk_good
    | with_reducible apply updFinish_good
    | with_reducible apply updClear_good
    | with_reducible apply onBit_good
    | (intro _ _)
    | intro _
    | dsimp only
    | split
    | with_reducible rfl
    | (fail_if_no_progress (with_reducible refine good_upd ?_ rfl (fun _ => rfl) (fun _ => rfl))))

theorem flsWrite_good (h : s.Good ql pp qq tv) (v : Nat) :
     (flsWrite v s).Good ql pp qq tv := by
  unfold flsWrite
  repeat' (first
    | with_reducible assumption
    | with_reducible apply flsReadOp_good
    | with_reducible apply flsProgramOp_good
    | with_reducible apply flsEraseOp_good
    | with_reducible apply flsSuspendOp_good
    | with_reducible apply flsResumeOp_good
    | with_reducible apply flsOptwriteOp_good
    | with_reducible apply onBit_good
    | (intro _ _)
    | intro _
    | dsimp only
    | split
    | with_reducible rfl
    | (fail_if_no_progress (with_reducible refine good_upd ?_ rfl (fun _ => rfl) (fun _ => rfl))))

theorem calWrite_good (h : s.Good ql pp qq tv) (v : Nat) :
     (calWrite v s).Good ql pp qq tv := by
  unfold calWrite
  repeat' (first
    | with_reducible assumption
    | with_reducible apply calRunOp_good
    | with_reducible apply calCommitOp_good
    | with_reducible apply calAbortCmd_good
    | with_reducible apply onBit_good
    | (intro _ _)
    | intro _
    | dsimp only
    | split
    | with_reducible rfl
    | (fail_if_no_progress (with_reducible refine good_upd ?_ rfl (fun _ => rfl) (fun _ => rfl))))

theorem tmrWrite_good (h : s.Good ql pp qq tv) (off v : Nat) (fs : List FieldSpec) :
     (tmrWrite off v fs s).Good ql pp qq tv := by
  unfold tmrWrite
  repeat' (first
    | with_reducible assumption
    | with_reducible apply tmrCapture_good
    | with_reducible apply tmrStartOp_good
    | with_reducible apply tmrStopOp_good
    | with_reducible apply tmrCmpWrite_good
    | with_reducible apply tmrPeriodWrite_good
    | with_reducible apply writeFields_good
    | with_reducible apply onBit_good
    | (intro _ _)
    | intro _
    | dsimp only
    | split
    | with_reducible rfl
    | (fail_if_no_progress (with_reducible refine good_upd ?_ rfl (fun _ => rfl) (fun _ => rfl))))

theorem rtcWrite_good (h : s.Good ql pp qq tv) (off v : Nat) (fs : List FieldSpec) :
     (rtcWrite off v fs s).Good ql pp qq tv := by
  unfold rtcWrite
  repeat' (first
    | with_reducible assumption
    | with_reducible apply when_good
    | with_reducible apply put_good
    | with_reducible apply flag_good
    | with_reducible apply rtcCaptureOp_good
    | with_reducible apply rtcCommitOp_good
    | with_reducible apply rtcMark_good
    | with_reducible apply rtcWakeWrite_good
    | with_reducible apply writeFields_good
    | with_reducible apply onBit_good
    | (intro _ _)
    | intro _
    | dsimp only
    | split
    | with_reducible rfl
    | (fail_if_no_progress (with_reducible refine good_upd ?_ rfl (fun _ => rfl) (fun _ => rfl))))

theorem chanWrite_good (h : s.Good ql pp qq tv) (who : Writer) (c : Fin 64) (w v : Nat) (fs : List FieldSpec) :
     (chanWrite who c w v fs s).Good ql pp qq tv := by
  unfold chanWrite
  repeat' (first
    | with_reducible assumption
    | with_reducible apply flag_good
    | with_reducible apply writeFields_good
    | with_reducible apply onBit_good
    | (intro _ _)
    | intro _
    | dsimp only
    | split
    | with_reducible rfl
    | (fail_if_no_progress (with_reducible refine good_upd ?_ rfl (fun _ => rfl) (fun _ => rfl))))

theorem evtClear_good (h : s.Good ql pp qq tv) :
     (evtClear s).Good ql pp qq tv := by
  unfold evtClear
  repeat' (first
    | with_reducible assumption
    | with_reducible apply setReg_good
    | with_reducible apply forN_good
    | with_reducible apply put_good
    | (intro _ _)
    | intro _
    | dsimp only
    | split
    | with_reducible rfl
    | (fail_if_no_progress (with_reducible refine good_upd ?_ rfl (fun _ => rfl) (fun _ => rfl))))

theorem spiWrite_good (h : s.Good ql pp qq tv) (off v : Nat) (fs : List FieldSpec) :
     (spiWrite off v fs s).Good ql pp qq tv := by
  unfold spiWrite
  repeat' (first
    | with_reducible assumption
    | with_reducible apply flag_good
    | with_reducible apply spiGo_good
    | with_reducible apply spiFlush_good
    | with_reducible apply spiTxd_good
    | with_reducible apply mwInval_good
    | with_reducible apply spiDisable_good
    | with_reducible apply writeFields_good
    | with_reducible apply onBit_good
    | (intro _ _)
    | intro _
    | dsimp only
    | split
    | with_reducible rfl
    | (fail_if_no_progress (with_reducible refine good_upd ?_ rfl (fun _ => rfl) (fun _ => rfl))))

theorem serClear_good (h : s.Good ql pp qq tv) :
     (serClear s).Good ql pp qq tv := by
  unfold serClear
  repeat' (first
    | with_reducible assumption
    | with_reducible apply forN_good
    | with_reducible apply put_good
    | (intro _ _)
    | intro _
    | dsimp only
    | split
    | with_reducible rfl
    | (fail_if_no_progress (with_reducible refine good_upd ?_ rfl (fun _ => rfl) (fun _ => rfl))))

theorem indexWrite_good (h : s.Good ql pp qq tv) (who : Writer) (off v : Nat) :
     (indexWrite who off v s).Good ql pp qq tv := by
  unfold indexWrite
  repeat' (first
    | with_reducible assumption
    | with_reducible apply put_good
    | with_reducible apply flag_good
    | with_reducible apply ackWrWrite_good
    | with_reducible apply laneWrWrite_good
    | with_reducible apply devWrite_good
    | with_reducible refine pair_good (by assumption) ?_
    | with_reducible refine triple_good (by assumption) ?_
    | with_reducible apply getD_map_good
    | with_reducible apply getD_good
    | (intro _ _)
    | intro _
    | dsimp only
    | split
    | with_reducible rfl
    | (fail_if_no_progress (with_reducible refine good_upd ?_ rfl (fun _ => rfl) (fun _ => rfl))))

theorem sfWrite_good (h : s.Good ql pp qq tv) (off v : Nat) (fs : List FieldSpec) :
     (sfWrite off v fs s).Good ql pp qq tv := by
  unfold sfWrite
  repeat' (first
    | with_reducible assumption
    | with_reducible apply flag_good
    | with_reducible apply sfArmOp_good
    | with_reducible apply writeFields_good
    | with_reducible apply onBit_good
    | (intro _ _)
    | intro _
    | dsimp only
    | split
    | with_reducible rfl
    | (fail_if_no_progress (with_reducible refine good_upd ?_ rfl (fun _ => rfl) (fun _ => rfl))))

theorem bblWrite_good (h : s.Good ql pp qq tv) (who : Writer) (off v : Nat) (fs : List FieldSpec) :
     (bblWrite who off v fs s).Good ql pp qq tv := by
  unfold bblWrite
  repeat' (first
    | with_reducible assumption
    | with_reducible apply researchOp_good
    | with_reducible apply writeFields_good
    | with_reducible apply onBit_good
    | (intro _ _)
    | intro _
    | dsimp only
    | split
    | with_reducible rfl
    | (fail_if_no_progress (with_reducible refine good_upd ?_ rfl (fun _ => rfl) (fun _ => rfl))))

theorem ringRestart_good {t : State} (off v : Nat) (fs : List FieldSpec) (h : t.Good ql pp qq tv) :
    (ringRestart off v fs s t).Good ql pp qq tv := by
  unfold ringRestart
  split
  · exact good_upd h rfl (fun _ => rfl) (fun _ => rfl)
  · exact h

theorem writeBlock_good (h : s.Good ql pp False tv) (who : Writer) (off v : Nat) (fs : List FieldSpec) :
     (writeBlock who off v fs s).Good ql pp False tv := by
  unfold writeBlock
  repeat' (first
    | with_reducible assumption
    | with_reducible apply swFire_good
    | with_reducible apply dpdReseedOp_good
    | with_reducible apply updWatch_good
    | with_reducible apply busErrClear_good
    | with_reducible apply doorbell_good
    | with_reducible apply writeFields_good
    | with_reducible apply onBit_good
    | with_reducible apply sysWrite_good
    | with_reducible apply tickWrite_good
    | with_reducible apply tickCtl_good
    | with_reducible apply manWrite_good
    | with_reducible apply spareCmd_good
    | with_reducible apply drvWrite_good
    | with_reducible apply claimWrite_good
    | with_reducible apply dmaWrite_good
    | with_reducible apply carWrite_good
    | with_reducible apply tanWrite_good
    | with_reducible apply truWrite_good
    | with_reducible apply updWrite_good
    | with_reducible apply flsWrite_good
    | with_reducible apply calWrite_good
    | with_reducible apply tmrWrite_good
    | with_reducible apply rtcWrite_good
    | with_reducible apply chanWrite_good
    | with_reducible apply spiWrite_good
    | with_reducible apply sfWrite_good
    | with_reducible apply bblWrite_good
    | with_reducible apply ringRestart_good
    | with_reducible refine pair_good (by assumption) ?_
    | with_reducible refine triple_good (by assumption) ?_
    | (intro _ _)
    | intro _
    | dsimp only
    | split
    | with_reducible rfl
    | (fail_if_no_progress (with_reducible refine good_upd ?_ rfl (fun _ => rfl) (fun h => h.elim))))

theorem clearOf_good {off i : Nat} {f : State → State} (e : clearOf off = some (i, f)) (h : s.Good ql pp qq tv) :
    (f s).Good ql pp qq tv := by
  unfold clearOf at e
  split at e
  · cases e; exact frxClear_good h
  · cases e; exact ftxClear_good h
  · cases e; exact ntClear_good h
  · cases e; exact secClear_good h
  · cases e; exact bblClear_good h
  · cases e; exact serClear_good h
  · cases e; exact ciphClear_good h
  · cases e; exact shpClear_good h
  · cases e; exact dmaClear_good h
  · cases e; exact carClear_good h
  · cases e; exact tanClear_good h
  · cases e; exact hstClear_good h
  · cases e; exact flsClear_good h
  · cases e; exact evtClear_good h
  · cases e; exact spiClear_good h
  · cases e

theorem clearBy_good (h : s.Good ql pp qq tv) (off v : Nat) : (clearBy off v s).Good ql pp qq tv := by
  unfold clearBy
  split
  · rename_i i f e
    exact onBit_good h _ _ _ fun _ h => clearOf_good e h
  · exact h

theorem writeChecked_good (h : s.Good ql pp False tv) (who : Writer) (off v : Nat) (fs : List FieldSpec) :
     (writeChecked who off v fs s).Good ql pp False tv := by
  unfold writeChecked
  repeat' (first
    | with_reducible assumption
    | with_reducible apply flag_good
    | with_reducible apply journal_good
    | with_reducible apply indexWrite_good
    | with_reducible apply writeBlock_good
    | with_reducible apply clearBy_good
    | with_reducible refine pair_good (by assumption) ?_
    | with_reducible refine triple_good (by assumption) ?_
    | (intro _ _)
    | intro _
    | dsimp only
    | split
    | with_reducible rfl
    | (fail_if_no_progress (with_reducible refine good_upd ?_ rfl (fun _ => rfl) (fun h => h.elim))))

theorem writeReg_good (h : s.Good ql pp False tv) (who : Writer) (off v : Nat) :
     (writeReg who off v s).Good ql pp False tv := by
  unfold writeReg
  repeat' (first
    | with_reducible assumption
    | with_reducible apply inc_good
    | with_reducible apply writeFields_good
    | with_reducible apply clearBy_good
    | with_reducible apply writeChecked_good
    | with_reducible refine pair_good (by assumption) ?_
    | with_reducible refine triple_good (by assumption) ?_
    | (intro _ _)
    | intro _
    | dsimp only
    | split
    | with_reducible rfl
    | (fail_if_no_progress (with_reducible refine good_upd ?_ rfl (fun _ => rfl) (fun h => h.elim))))

end Sys2Proof.Machine
end

