-- ==== Sys2Proof/Laws/GoodRemote.lean ====
section
/-!
SUPPORT. The operations of Machine/Remote.lean keep the queue and the canonical form (Laws/Good.lean).
-/

namespace Sys2Proof.Machine

set_option linter.unusedTactic false
set_option linter.unreachableTactic false
set_option linter.unusedVariables false

variable {ql : List Instr} {pp qq : Prop} {tv : Nat × Nat × Nat × Nat × Option (Nat × Nat × Nat)} {s : State}

theorem apertureRead_good (h : s.Good ql pp qq tv) (off n : Nat) :
     (apertureRead off n s).2.2.Good ql pp qq tv := by
  unfold apertureRead
  repeat' (first
    | with_reducible assumption
    | with_reducible apply serRead_good
    | (intro _ _)
    | intro _
    | dsimp only
    | split
    | with_reducible rfl
    | (fail_if_no_progress (with_reducible refine good_upd ?_ rfl (fun _ => rfl) (fun _ => rfl))))

theorem apertureWrite_good (h : s.Good ql pp qq tv) (off : Nat) (bs : List Byte) :
     (apertureWrite off bs s).Good ql pp qq tv := by
  unfold apertureWrite
  repeat' (first
    | with_reducible assumption
    | with_reducible apply serWrite_good
    | (intro _ _)
    | intro _
    | dsimp only
    | split
    | with_reducible rfl
    | (fail_if_no_progress (with_reducible refine good_upd ?_ rfl (fun _ => rfl) (fun _ => rfl))))

theorem unsupported_good (h : s.Good ql pp qq tv) :
     (unsupported s).Good ql pp qq tv := by
  unfold unsupported
  repeat' (first
    | with_reducible assumption
    | with_reducible apply inc_good
    | (intro _ _)
    | intro _
    | dsimp only
    | split
    | with_reducible rfl
    | (fail_if_no_progress (with_reducible refine good_upd ?_ rfl (fun _ => rfl) (fun _ => rfl))))

theorem localWrite_good (h : s.Good ql pp False tv) (who : Writer) (off v : Nat) :
     (localWrite who off v s).Good ql pp False tv := by
  unfold localWrite
  repeat' (first
    | with_reducible assumption
    | with_reducible apply writeReg_good
    | with_reducible apply apertureWrite_good
    | with_reducible apply unsupported_good
    | (intro _ _)
    | intro _
    | dsimp only
    | split
    | with_reducible rfl
    | (fail_if_no_progress (with_reducible refine good_upd ?_ rfl (fun _ => rfl) (fun h => h.elim))))

theorem localRead_good (h : s.Good ql pp qq tv) (off : Nat) : (localRead off s).2.Good ql pp qq tv := by
  have hr := apertureRead_good h off 4
  unfold localRead
  generalize apertureRead off 4 s = r at *
  split
  · exact snd_good _ hr
  · split
    · exact h
    · exact readReg_good h _

theorem chipWrite_good (h : s.Good ql pp False tv) (c off v : Nat) :
     (chipWrite c off v s).Good ql pp False tv := by
  unfold chipWrite
  repeat' (first
    | with_reducible assumption
    | with_reducible apply flag_good
    | with_reducible apply inc_good
    | with_reducible apply sendTo_good
    | with_reducible apply localWrite_good
    | (intro _ _)
    | intro _
    | dsimp only
    | split
    | with_reducible rfl
    | (fail_if_no_progress (with_reducible refine good_upd ?_ rfl (fun _ => rfl) (fun h => h.elim))))

theorem hostWrite_good (h : s.Good ql pp False tv) (sp : Space) (addr v : Nat) :
     (hostWrite sp addr v s).Good ql pp False tv := by
  unfold hostWrite
  repeat' (first
    | with_reducible assumption
    | with_reducible apply flag_good
    | with_reducible apply msixWrite_good
    | with_reducible apply msixControl_good
    | with_reducible apply localWrite_good
    | with_reducible apply chipWrite_good
    | with_reducible refine pair_good (by assumption) ?_
    | with_reducible refine triple_good (by assumption) ?_
    | (intro _ _)
    | intro _
    | dsimp only
    | split
    | with_reducible rfl
    | (fail_if_no_progress (with_reducible refine good_upd ?_ rfl (fun _ => rfl) (fun h => h.elim))))

theorem anyWrite_good (h : s.Good ql pp False tv) (who : Writer) (sp : Space) (addr v : Nat) :
     (anyWrite who sp addr v s).Good ql pp False tv := by
  unfold anyWrite
  repeat' (first
    | with_reducible assumption
    | with_reducible apply localWrite_good
    | with_reducible apply hostWrite_good
    | with_reducible refine pair_good (by assumption) ?_
    | with_reducible refine triple_good (by assumption) ?_
    | (intro _ _)
    | intro _
    | dsimp only
    | split
    | with_reducible rfl
    | (fail_if_no_progress (with_reducible refine good_upd ?_ rfl (fun _ => rfl) (fun h => h.elim))))

theorem apertureAccess_good (h : s.Good ql pp qq tv) (sp : Space) (addr n : Nat) (data : Option (List Byte)) :
     (apertureAccess sp addr n data s).Good ql pp qq tv := by
  unfold apertureAccess
  repeat' (first
    | with_reducible assumption
    | with_reducible apply flag_good
    | with_reducible apply inc_good
    | with_reducible apply emit_good
    | with_reducible apply sendTo_good
    | with_reducible apply apertureRead_good
    | with_reducible apply apertureWrite_good
    | with_reducible refine pair_good (by assumption) ?_
    | with_reducible refine triple_good (by assumption) ?_
    | (intro _ _)
    | intro _
    | dsimp only
    | split
    | with_reducible rfl
    | (fail_if_no_progress (with_reducible refine good_upd ?_ rfl (fun _ => rfl) (fun _ => rfl))))

theorem reportRx_good (h : s.Good ql pp qq tv) (off v : Nat) :
     (reportRx off v s).Good ql pp qq tv := by
  unfold reportRx
  repeat' (first
    | with_reducible assumption
    | with_reducible apply put_good
    | with_reducible apply raiseVector_good
    | with_reducible apply carRecord_good
    | with_reducible apply resetReturned_good
    | (intro _ _)
    | intro _
    | dsimp only
    | split
    | with_reducible rfl
    | (fail_if_no_progress (with_reducible refine good_upd ?_ rfl (fun _ => rfl) (fun _ => rfl))))

theorem rwrRx_good (h : s.Good ql pp False tv) (off v : Nat) :
     (rwrRx off v s).Good ql pp False tv := by
  unfold rwrRx
  repeat' (first
    | with_reducible assumption
    | with_reducible apply localWrite_good
    | with_reducible apply reportRx_good
    | (intro _ _)
    | intro _
    | dsimp only
    | split
    | with_reducible rfl
    | (fail_if_no_progress (with_reducible refine good_upd ?_ rfl (fun _ => rfl) (fun h => h.elim))))

theorem rrdRx_good (h : s.Good ql pp qq tv) (origin off : Nat) :
     (rrdRx origin off s).Good ql pp qq tv := by
  unfold rrdRx
  repeat' (first
    | with_reducible assumption
    | with_reducible apply sendTo_good
    | with_reducible apply localRead_good
    | (intro _ _)
    | intro _
    | dsimp only
    | split
    | with_reducible rfl
    | (fail_if_no_progress (with_reducible refine good_upd ?_ rfl (fun _ => rfl) (fun _ => rfl))))

theorem sdataRx_good (h : s.Good ql pp qq tv) (origin off n : Nat) (data : Option (List Byte)) :
     (sdataRx origin off n data s).Good ql pp qq tv := by
  unfold sdataRx
  repeat' (first
    | with_reducible assumption
    | with_reducible apply sendTo_good
    | with_reducible apply apertureRead_good
    | with_reducible apply apertureWrite_good
    | with_reducible refine pair_good (by assumption) ?_
    | with_reducible refine triple_good (by assumption) ?_
    | (intro _ _)
    | intro _
    | dsimp only
    | split
    | with_reducible rfl
    | (fail_if_no_progress (with_reducible refine good_upd ?_ rfl (fun _ => rfl) (fun _ => rfl))))

theorem remoteTimeout_good (h : s.Good ql pp qq tv) :
     (remoteTimeout s).Good ql pp qq tv := by
  unfold remoteTimeout
  repeat' (first
    | with_reducible assumption
    | with_reducible apply flag_good
    | with_reducible apply inc_good
    | with_reducible apply emit_good
    | (intro _ _)
    | intro _
    | dsimp only
    | split
    | with_reducible rfl
    | (fail_if_no_progress (with_reducible refine good_upd ?_ rfl (fun _ => rfl) (fun _ => rfl))))

theorem readWords_good (x0 : Nat) (x1 : Nat) :
     ∀ {s : State}, s.Good ql pp qq tv → (readWords x0 x1 s).2.Good ql pp qq tv := by
  induction x0 generalizing x1 with
  | zero => intro s h; unfold readWords; exact h
  | succ k ih =>
    intro s h
    unfold readWords
    repeat' (first
      | with_reducible assumption
      | with_reducible apply ih
      | with_reducible apply localRead_good
      | (intro _ _)
      | intro _
      | dsimp only
      | split
      | with_reducible rfl
      | (fail_if_no_progress (with_reducible refine good_upd ?_ rfl (fun _ => rfl) (fun _ => rfl))))

theorem spiRefuse_good (h : s.Good ql pp qq tv) :
     (spiRefuse s).Good ql pp qq tv := by
  unfold spiRefuse
  repeat' (first
    | with_reducible assumption
    | with_reducible apply inc_good
    | with_reducible apply emit_good
    | (intro _ _)
    | intro _
    | dsimp only
    | split
    | with_reducible rfl
    | (fail_if_no_progress (with_reducible refine good_upd ?_ rfl (fun _ => rfl) (fun _ => rfl))))

theorem spiRead_good (h : s.Good ql pp qq tv) (f : List Byte) :
     (spiRead f s).Good ql pp qq tv := by
  unfold spiRead
  repeat' (first
    | with_reducible assumption
    | with_reducible apply forAll_good
    | with_reducible apply flag_good
    | with_reducible apply inc_good
    | with_reducible apply emit_good
    | with_reducible apply sendTo_good
    | with_reducible apply readWords_good
    | with_reducible apply spiRefuse_good
    | (intro _ _)
    | intro _
    | dsimp only
    | split
    | with_reducible rfl
    | (fail_if_no_progress (with_reducible refine good_upd ?_ rfl (fun _ => rfl) (fun _ => rfl))))

theorem spiHostWrite_good (h : s.Good ql pp False tv) (f : List Byte) :
     (spiHostWrite f s).Good ql pp False tv := by
  unfold spiHostWrite
  repeat' (first
    | with_reducible assumption
    | with_reducible apply forAll_good
    | with_reducible apply flag_good
    | with_reducible apply inc_good
    | with_reducible apply emit_good
    | with_reducible apply chipWrite_good
    | with_reducible apply spiRefuse_good
    | (intro _ _)
    | intro _
    | dsimp only
    | split
    | with_reducible rfl
    | (fail_if_no_progress (with_reducible refine good_upd ?_ rfl (fun _ => rfl) (fun h => h.elim))))

theorem spiStatus_good (h : s.Good ql pp qq tv) (f : List Byte) :
     (spiStatus f s).Good ql pp qq tv := by
  unfold spiStatus
  repeat' (first
    | with_reducible assumption
    | with_reducible apply inc_good
    | with_reducible apply emit_good
    | (intro _ _)
    | intro _
    | dsimp only
    | split
    | with_reducible rfl
    | (fail_if_no_progress (with_reducible refine good_upd ?_ rfl (fun _ => rfl) (fun _ => rfl))))

theorem usageCache_good (h : s.Good ql pp qq tv) (g : Nat) :
     (usageCache g s).Good ql pp qq tv := by
  unfold usageCache
  repeat' (first
    | with_reducible assumption
    | with_reducible apply cachePut_good
    | with_reducible refine pair_good (by assumption) ?_
    | with_reducible refine triple_good (by assumption) ?_
    | (intro _ _)
    | intro _
    | dsimp only
    | split
    | with_reducible rfl
    | (fail_if_no_progress (with_reducible refine good_upd ?_ rfl (fun _ => rfl) (fun _ => rfl))))

theorem applyGran_good (h : s.Good ql pp qq tv) (r : JRec) :
     (applyGran r s).Good ql pp qq tv := by
  unfold applyGran
  repeat' (first
    | with_reducible assumption
    | with_reducible apply when_good
    | with_reducible apply put_good
    | with_reducible apply poisonGranule_good
    | with_reducible apply writeG_good
    | with_reducible apply usageCache_good
    | (intro _ _)
    | intro _
    | dsimp only
    | split
    | with_reducible rfl
    | (fail_if_no_progress (with_reducible refine good_upd ?_ rfl (fun _ => rfl) (fun _ => rfl))))

theorem applyReg_good (h : s.Good ql pp False tv) (r : JRec) :
     (applyReg r s).Good ql pp False tv := by
  unfold applyReg
  repeat' (first
    | with_reducible assumption
    | with_reducible apply carFollow_good
    | with_reducible apply writeChecked_good
    | with_reducible apply reportRx_good
    | with_reducible refine pair_good (by assumption) ?_
    | with_reducible refine triple_good (by assumption) ?_
    | (intro _ _)
    | intro _
    | dsimp only
    | split
    | with_reducible rfl
    | (fail_if_no_progress (with_reducible refine good_upd ?_ rfl (fun _ => rfl) (fun h => h.elim))))

theorem applyLease_good (h : s.Good ql pp qq tv) (r : JRec) :
     (applyLease r s).Good ql pp qq tv := by
  unfold applyLease
  repeat' (first
    | with_reducible assumption
    | (intro _ _)
    | intro _
    | dsimp only
    | split
    | with_reducible rfl
    | (fail_if_no_progress (with_reducible refine good_upd ?_ rfl (fun _ => rfl) (fun _ => rfl))))

theorem applyKeyuse_good (h : s.Good ql pp qq tv) (r : JRec) :
     (applyKeyuse r s).Good ql pp qq tv := by
  unfold applyKeyuse
  repeat' (first
    | with_reducible assumption
    | with_reducible apply put_good
    | with_reducible apply cachePut_good
    | (intro _ _)
    | intro _
    | dsimp only
    | split
    | with_reducible rfl
    | (fail_if_no_progress (with_reducible refine good_upd ?_ rfl (fun _ => rfl) (fun _ => rfl))))

theorem applyTick_good (h : s.Good ql pp qq tv) (r : JRec) :
     (applyTick r s).Good ql pp qq tv := by
  unfold applyTick
  repeat' (first
    | with_reducible assumption
    | with_reducible apply updWatch_good
    | (intro _ _)
    | intro _
    | dsimp only
    | split
    | with_reducible rfl
    | (fail_if_no_progress (with_reducible refine good_upd ?_ rfl (fun _ => rfl) (fun _ => rfl))))

theorem applyRec_good (h : s.Good ql pp False tv) (low : Bool) (r : JRec) :
     (applyRec low r s).Good ql pp False tv := by
  unfold applyRec
  repeat' (first
    | with_reducible assumption
    | with_reducible apply sampleLine_good
    | with_reducible apply pathsLost_good
    | with_reducible apply applyGran_good
    | with_reducible apply applyReg_good
    | with_reducible apply applyLease_good
    | with_reducible apply applyKeyuse_good
    | with_reducible apply applyTick_good
    | (intro _ _)
    | intro _
    | dsimp only
    | split
    | with_reducible rfl
    | (fail_if_no_progress (with_reducible refine good_upd ?_ rfl (fun _ => rfl) (fun h => h.elim))))

theorem logWrite_good (h : s.Good ql pp qq tv) (bs : List Byte) :
     (logWrite bs s).Good ql pp qq tv := by
  unfold logWrite
  repeat' (first
    | with_reducible assumption
    | with_reducible apply journal_good
    | with_reducible apply serWrite_good
    | (intro _ _)
    | intro _
    | dsimp only
    | split
    | with_reducible rfl
    | (fail_if_no_progress (with_reducible refine good_upd ?_ rfl (fun _ => rfl) (fun _ => rfl))))

theorem journalEvent_good (h : s.Good ql pp qq tv) :
     (journalEvent s).Good ql pp qq tv := by
  unfold journalEvent
  repeat' (first
    | with_reducible assumption
    | with_reducible apply evin_good
    | with_reducible refine pair_good (by assumption) ?_
    | with_reducible refine triple_good (by assumption) ?_
    | (intro _ _)
    | intro _
    | dsimp only
    | split
    | with_reducible rfl
    | (fail_if_no_progress (with_reducible refine good_upd ?_ rfl (fun _ => rfl) (fun _ => rfl))))

theorem journalRx_good (h : s.Good ql pp False tv) (b : List Byte) (low : Bool) :
     (journalRx b low s).Good ql pp False tv := by
  unfold journalRx
  repeat' (first
    | with_reducible assumption
    | with_reducible apply inc_good
    | with_reducible apply emit_good
    | with_reducible apply syncLost_good
    | with_reducible apply showTail_good
    | with_reducible apply applyRec_good
    | with_reducible apply logWrite_good
    | with_reducible apply journalEvent_good
    | with_reducible refine pair_good (by assumption) ?_
    | with_reducible refine triple_good (by assumption) ?_
    | (intro _ _)
    | intro _
    | dsimp only
    | split
    | with_reducible rfl
    | (fail_if_no_progress (with_reducible refine good_upd ?_ rfl (fun _ => rfl) (fun h => h.elim))))

end Sys2Proof.Machine
end

