-- ==== Sys2Proof/Laws/GoodSlotTick.lean ====
section
/-!
SUPPORT. The operations of Machine/SlotTick.lean keep the queue and the canonical form (Laws/Good.lean).
-/

namespace Sys2Proof.Machine

set_option linter.unusedTactic false
set_option linter.unreachableTactic false
set_option linter.unusedVariables false

variable {ql : List Instr} {pp qq : Prop} {tv : Nat × Nat × Nat × Nat × Option (Nat × Nat × Nat)} {s : State}

theorem dueWrites_good (h : s.Good ql pp qq tv) :
     (dueWrites s).2.Good ql pp qq tv := by
  unfold dueWrites
  repeat' (first
    | with_reducible assumption
    | with_reducible apply takeStaged_good
    | (intro _ _)
    | intro _
    | dsimp only
    | split
    | with_reducible rfl
    | (fail_if_no_progress (with_reducible refine good_upd ?_ rfl (fun _ => rfl) (fun _ => rfl))))

theorem airItems_good (h : s.Good ql pp qq tv) (off : Nat) (due : List Staged) (missed : List Nat) :
     (airItems off due missed s).2.Good ql pp qq tv := by
  unfold airItems
  repeat' (first
    | with_reducible assumption
    | with_reducible apply add_good
    | with_reducible refine pair_good (by assumption) ?_
    | with_reducible refine triple_good (by assumption) ?_
    | with_reducible apply getD_map_good
    | with_reducible apply getD_good
    | (intro _ _)
    | intro _
    | dsimp only
    | split
    | with_reducible rfl
    | (fail_if_no_progress (with_reducible refine good_upd ?_ rfl (fun _ => rfl) (fun _ => rfl))))

theorem airStaged_good (h : s.Good ql pp qq tv) (missed : List Nat) :
     (airStaged missed s).Good ql pp qq tv := by
  unfold airStaged
  repeat' (first
    | with_reducible assumption
    | with_reducible apply forAll_good
    | with_reducible apply put_good
    | with_reducible apply tokenReset_good
    | with_reducible apply dueWrites_good
    | with_reducible apply airItems_good
    | with_reducible apply foldl_good
    | with_reducible apply foldl_pair_good
    | (intro _ _)
    | intro _
    | dsimp only
    | split
    | with_reducible rfl
    | (fail_if_no_progress (with_reducible refine good_upd ?_ rfl (fun _ => rfl) (fun _ => rfl))))

theorem scheduleTick_good (h : s.Good ql pp qq tv) :
     (scheduleTick s).Good ql pp qq tv := by
  unfold scheduleTick
  repeat' (first
    | with_reducible assumption
    | with_reducible apply sfArmTick_good
    | with_reducible apply sfApply_good
    | with_reducible apply airSide_good
    | with_reducible apply manTick_good
    | with_reducible apply rxRetune_good
    | with_reducible apply ntEpoch_good
    | (intro _ _)
    | intro _
    | dsimp only
    | split
    | with_reducible rfl
    | (fail_if_no_progress (with_reducible refine good_upd ?_ rfl (fun _ => rfl) (fun _ => rfl))))

theorem beaconTick_good (h : s.Good ql pp qq tv) :
     (beaconTick s).Good ql pp qq tv := by
  unfold beaconTick
  repeat' (first
    | with_reducible assumption
    | with_reducible apply bcnLatch_good
    | with_reducible apply bcnBoundary_good
    | (intro _ _)
    | intro _
    | dsimp only
    | split
    | with_reducible rfl
    | (fail_if_no_progress (with_reducible refine good_upd ?_ rfl (fun _ => rfl) (fun _ => rfl))))

theorem modesTick_good (h : s.Good ql pp qq tv) (low late : Bool) :
     (modesTick low late s).Good ql pp qq tv := by
  unfold modesTick
  repeat' (first
    | with_reducible assumption
    | with_reducible apply updWatch_good
    | with_reducible apply withholdTick_good
    | with_reducible apply tanTick_good
    | with_reducible apply modeTick_good
    | with_reducible apply drainEnd_good
    | with_reducible apply handoverTick_good
    | with_reducible apply fenceTick_good
    | (intro _ _)
    | intro _
    | dsimp only
    | split
    | with_reducible rfl
    | (fail_if_no_progress (with_reducible refine good_upd ?_ rfl (fun _ => rfl) (fun _ => rfl))))

theorem radioTick_good (h : s.Good ql pp qq tv) :
     (radioTick s).Good ql pp qq tv := by
  unfold radioTick
  repeat' (first
    | with_reducible assumption
    | with_reducible apply rxProgramme_good
    | with_reducible apply joinsTick_good
    | with_reducible apply ftxTick_good
    | with_reducible apply laneRelease_good
    | with_reducible apply laneTick_good
    | (intro _ _)
    | intro _
    | dsimp only
    | split
    | with_reducible rfl
    | (fail_if_no_progress (with_reducible refine good_upd ?_ rfl (fun _ => rfl) (fun _ => rfl))))

theorem blocksTick_good (h : s.Good ql pp qq tv) (waits : Fin 12 → Bool) :
     (blocksTick waits s).Good ql pp qq tv := by
  unfold blocksTick
  repeat' (first
    | with_reducible assumption
    | with_reducible apply produce_good
    | with_reducible apply forDrovers_good
    | with_reducible apply imageSwitchTick_good
    | with_reducible apply evinAll_good
    | with_reducible apply leaseRetryTick_good
    | with_reducible apply carTick_good
    | with_reducible apply snapTick_good
    | with_reducible apply tmrTick_good
    | (intro _ _)
    | intro _
    | dsimp only
    | split
    | with_reducible rfl
    | (fail_if_no_progress (with_reducible refine good_upd ?_ rfl (fun _ => rfl) (fun _ => rfl))))

theorem slotTick_good (h : s.Good ql pp False tv) (inp : TickIn) :
     (slotTick inp s).Good ql pp False tv := by
  unfold slotTick
  repeat' (first
    | with_reducible assumption
    | with_reducible apply elapse_good
    | with_reducible apply judgeSeals_good
    | with_reducible apply newSeals_good
    | with_reducible apply advanceTally_good
    | with_reducible apply frxMeasure_good
    | with_reducible apply ringLoad_good
    | with_reducible apply tokenCredit_good
    | with_reducible apply airStaged_good
    | with_reducible apply scheduleTick_good
    | with_reducible apply beaconTick_good
    | with_reducible apply modesTick_good
    | with_reducible apply radioTick_good
    | with_reducible apply blocksTick_good
    | with_reducible apply getD_map_good
    | with_reducible apply getD_good
    | (intro _ _)
    | intro _
    | dsimp only
    | split
    | with_reducible rfl
    | (fail_if_no_progress (with_reducible refine good_upd ?_ rfl (fun _ => rfl) (fun h => h.elim))))

end Sys2Proof.Machine
end

