-- ==== Sys2Proof/Laws/GoodOperands.lean ====
section
/-!
SUPPORT. The operations of Machine/Operands.lean and Machine/Flags.lean keep the queue and the canonical form
(Laws/Good.lean). What they change of a Drover's bytes goes through `Drover.setByte`.
-/

namespace Sys2Proof.Machine

variable {ql : List Instr} {pp qq : Prop} {tv : Nat × Nat × Nat × Nat × Option (Nat × Nat × Nat)} {s : State}

/-- The Drover's bytes are in canonical form. -/
def Drover.Ok (d : Drover) : Prop := swf (fun _ => (0 : Byte)) d.ram = true

theorem setByte_ok {d : Drover} (h : d.Ok) (a v : Nat) : (d.setByte a v).Ok := swf_sset _ _ _ _ h

theorem setPair_ok {d : Drover} (h : d.Ok) (a v : Nat) : (d.setPair a v).Ok := setByte_ok (setByte_ok h _ _) _ _

theorem setRx_ok {d : Drover} (h : d.Ok) (i : Nat) (b : Bool) : (d.setRx i b).Ok := setByte_ok h _ _

theorem applyRx_ok {d : Drover} (h : d.Ok) (e : RxEffect) : (d.applyRx e).Ok := by
  cases e
  · exact h
  · exact setRx_ok h _ _
  · exact setRx_ok h _ _
  · exact setByte_ok h _ _

theorem unstage_ok {d : Drover} (h : d.Ok) (reg : Nat) : (d.unstage reg).Ok := by
  unfold Drover.unstage
  split
  · split
    · exact h
    · exact h
  · exact h

theorem drv_ok (h : s.Good ql pp qq tv) (hp : pp) (n : Fin 12) : s.drovers[n].Ok := (h.inv hp).ram n

/-- A change of a Drover that keeps its bytes in canonical form. -/
theorem modOk (h : s.Good ql pp qq tv) (n : Fin 12) (f : Drover → Drover) (hf : ∀ d : Drover, d.Ok → (f d).Ok) :
    (s.modDrv n f).Good ql pp qq tv := modDrv_good' h n f hf

/-- A Drover replaced by one whose bytes are in canonical form. -/
theorem setDrv_good (h : s.Good ql pp qq tv) (n : Fin 12) (d : Drover) (hd : pp → d.Ok) : (s.modDrv n fun _ => d).Good ql pp qq tv :=
  ⟨h.pend, fun hp => (modDrv_good' h n _ fun _ _ => hd hp).inv hp, h.tal⟩

theorem writeRegByte_good (h : s.Good ql pp False tv) (n : Fin 12) (off : Nat) (b : Byte) : (writeRegByte n off b s).Good ql pp False tv := by
  unfold writeRegByte
  split
  · exact writeReg_good (modOk h _ _ fun _ hd => unstage_ok hd _) _ _ _
  · exact modOk h _ _ fun _ hd => hd

mutual
theorem writePlaces_good (n : Fin 12) : ∀ (ps : List (Place × Byte)) {s : State}, s.Good ql pp False tv →
    (writePlaces n ps s).Good ql pp False tv
  | [], _, h => by unfold writePlaces; exact h
  | (.serai off, b) :: rest, _, h => by unfold writePlaces; exact writeGo_good n off [b] rest h
  | (.loc a, b) :: rest, _, h => by unfold writePlaces; exact writePlaces_good n rest (setLocalByte_good h _ _ _)
  | (.reg off, b) :: rest, _, h => by unfold writePlaces; exact writePlaces_good n rest (writeRegByte_good h _ _ _)
  | (.nowhere, _) :: rest, _, h => by unfold writePlaces; exact writePlaces_good n rest h

theorem writeGo_good (n : Fin 12) (off : Nat) (acc : List Byte) : ∀ (ps : List (Place × Byte)) {s : State}, s.Good ql pp False tv →
    (writePlaces.go n off acc ps s).Good ql pp False tv
  | [], _, h => by unfold writePlaces.go; exact serWrite_good h _ _ _
  | (.serai o, b) :: rest, _, h => by
    unfold writePlaces.go
    split
    · exact writeGo_good n off (b :: acc) rest h
    · exact writeGo_good n o [b] rest (serWrite_good h _ _ _)
  | (.loc a, b) :: rest, _, h => by
    unfold writePlaces.go; exact writePlaces_good n rest (setLocalByte_good (serWrite_good h _ _ _) _ _ _)
  | (.reg o, b) :: rest, _, h => by
    unfold writePlaces.go; exact writePlaces_good n rest (writeRegByte_good (serWrite_good h _ _ _) _ _ _)
  | (.nowhere, _) :: rest, _, h => by unfold writePlaces.go; exact writePlaces_good n rest (serWrite_good h _ _ _)
end

theorem latchReg_good (h : s.Good ql pp qq tv) (n : Fin 12) (reg : Nat) (w : Word) : (latchReg n reg w s).Good ql pp qq tv :=
  modOk h _ _ fun _ hd => hd

theorem regWord_good (h : s.Good ql pp qq tv) (n : Fin 12) (reg : Nat) : ∀ u, regWord n reg s = some u → u.2.Good ql pp qq tv := by
  intro u
  have hr := readReg_good h reg
  unfold regWord
  generalize readReg reg s = r at *
  split
  · split
    · intro e; cases e; exact snd_good _ (modOk h _ _ fun _ hd => hd)
    · intro e; cases e
    · split
      · intro e; cases e
      · intro e; cases e; exact hr
  · intro e; cases e; exact hr

variable {r : Reading}

theorem regByte_good (h : r.st.Good ql pp qq tv) (n : Fin 12) (off : Nat) : (regByte n off r).2.st.Good ql pp qq tv := by
  unfold regByte
  dsimp only
  split
  · split
    · exact latchReg_good (regWord_good h _ _ _ ‹_›) _ _ _
    · exact h
  · split
    · split
      · exact h
      · exact h
    · exact h

theorem seraiByte_good (h : r.st.Good ql pp qq tv) (n : Fin 12) (off : Nat) : (seraiByte n off r).2.st.Good ql pp qq tv := by
  have hd := decodeG_good h n (off / 16)
  unfold seraiByte
  extract_lets g d
  split
  · exact h
  · exact hd

theorem readPlace_good (h : r.st.Good ql pp qq tv) (n : Fin 12) (p : Place) : (readPlace n p r).2.st.Good ql pp qq tv := by
  unfold readPlace
  split
  · exact h
  · exact seraiByte_good h _ _
  · exact regByte_good h _ _
  · exact h

theorem readPlaces_good (n : Fin 12) (ps : List Place) : ∀ {r : Reading}, r.st.Good ql pp qq tv →
    (readPlaces n ps r).2.st.Good ql pp qq tv := by
  induction ps with
  | nil => exact fun h => h
  | cons p ps ih => exact fun h => ih (readPlace_good h n p)

theorem effAddr_good (h : r.st.Good ql pp qq tv) (n : Fin 12) (d : Drover) (o : Operand) : (effAddr n d o r).2.st.Good ql pp qq tv := by
  unfold effAddr
  split <;> first
    | exact h
    | exact readPlaces_good _ _ h

end Sys2Proof.Machine
end

