-- ==== Sys2Proof/Laws/GoodDroverIsa.lean ====
section
/-!
SUPPORT. The issue of a Drover bundle keeps the queue and the canonical form (Laws/Good.lean).
-/

namespace Sys2Proof.Machine

variable {ql : List Instr} {pp qq : Prop} {tv : Nat × Nat × Nat × Nat × Option (Nat × Nat × Nat)} {s : State} {d : Drover}

theorem readOperand_good (n : Fin 12) (d : Drover) (r : Role) (o : BitVec 19) {g : Reading} (h : g.st.Good ql pp qq tv) :
    (readOperand n d r o g).2.st.Good ql pp qq tv := by
  unfold readOperand
  split
  · exact h
  · exact h
  · rename_i p _ _
    have he := effAddr_good h n d p
    generalize effAddr n d p g = e at *
    dsimp only
    split
    · exact readPlaces_good _ _ he
    · exact readPlaces_good _ _ he
    · exact readPlaces_good _ _ he
    · exact he
    · exact he
    · exact he
    · exact he

theorem readBundle_good (n : Fin 12) (d : Drover) (rec_ : Bool) (b : List Syl) : ∀ {g : Reading}, g.st.Good ql pp qq tv →
    (readBundle n d rec_ b g).2.st.Good ql pp qq tv := by
  induction b with
  | nil => exact fun h => h
  | cons a t ih =>
    intro g h
    unfold readBundle
    split
    · exact ih h
    · exact ih (readOperand_good _ _ _ _ (readOperand_good _ _ _ _ (readOperand_good _ _ _ _ h)))

theorem writeVal_good (h : s.Good ql pp False tv) (n : Fin 12) (ps : List Place) (v : Nat) : (writeVal n ps v s).Good ql pp False tv :=
  writePlaces_good _ _ h

theorem moveUnit_good (h : s.Good ql pp False tv) (n : Fin 12) (r : Ready) : (moveUnit n r s).Good ql pp False tv := by
  have hit (c : Bool) : (s.when c (·.modDrv n (·.applyRx .hit))).Good ql pp False tv :=
    when_good h _ _ fun _ h => modOk h _ _ fun _ hd => applyRx_ok hd _
  unfold moveUnit
  dsimp only
  split
  · exact writeVal_good h _ _ _
  · exact writeVal_good (writeVal_good h _ _ _) _ _ _
  · exact writeVal_good (writeVal_good h _ _ _) _ _ _
  · exact writeVal_good h _ _ _
  · exact writePlaces_good _ _ h
  · exact hit _
  · exact hit _
  · exact hit _
  · exact writeVal_good h _ _ _

theorem sylWrite_good (h : s.Good ql pp False tv) (n : Fin 12) (d : Drover) (rec_ : Bool) (r : Ready) :
    (sylWrite n d rec_ s r).Good ql pp False tv := by
  unfold sylWrite
  split
  · exact moveUnit_good h _ _
  · exact modOk (writeVal_good h _ _ _) _ _ fun _ hd => applyRx_ok hd _
  · exact writeVal_good h _ _ _
  · split
    · exact writeVal_good h _ _ _
    · split
      · exact swFire_good h _ _
      · exact h

theorem stepPointers_ok (l : List (Nat × Nat)) : ∀ {d : Drover}, d.Ok → (stepPointers l d).Ok := by
  unfold stepPointers
  induction l with
  | nil => exact fun h => h
  | cons p l ih => exact fun h => ih (setPair_ok h _ _)

theorem endRepeat_ok (h : d.Ok) : d.endRepeat.Ok := setRx_ok (setRx_ok h _ _) _ _

theorem leaveRepeat_ok (h : d.Ok) : d.leaveRepeat.Ok := by
  unfold Drover.leaveRepeat
  split
  · exact endRepeat_ok h
  · exact h

theorem loopBack_ok (h : d.Ok) (pc next : Nat) : (loopBack pc next d).1.Ok := by
  unfold loopBack
  split
  · dsimp only
    split
    · exact endRepeat_ok (setPair_ok h _ _)
    · exact setPair_ok h _ _
  · exact h

theorem startRep_ok (h : d.Ok) (c y z next : Nat) : (startRep c y z next d).Ok := by
  unfold startRep
  split
  · exact endRepeat_ok (setRx_ok (setPair_ok h _ _) _ _)
  · exact setPair_ok (setPair_ok (setPair_ok (setPair_ok h _ _) _ _) _ _) _ _

theorem startString_ok (h : d.Ok) (pc : Nat) (b : List Syl) : (startString pc b d).2.Ok := by
  unfold startString
  split
  · exact h
  · split
    · exact h
    · exact setByte_ok (setPair_ok (setPair_ok h _ _) _ _) _ _

theorem goTo_good (h : s.Good ql pp False tv) (n : Fin 12) (t : Nat) : (goTo n t s).Good ql pp False tv := by
  unfold goTo
  split
  · exact put_good h _ _
  · exact trap_good h _ _ _ _

theorem complete_good (h : s.Good ql pp False tv) (n : Fin 12) (pc next : Nat) : (complete n pc next s).Good ql pp False tv :=
  goTo_good (setDrv_good h _ _ fun hp => loopBack_ok (drv_ok h hp n) _ _) _ _

theorem finish_good (h : s.Good ql pp False tv) (n : Fin 12) (pc next : Nat) (e : Ending) : (finish n pc next e s).Good ql pp False tv := by
  cases e with
  | fall => exact complete_good h _ _ _
  | goto t =>
    refine goTo_good ?_ _ _
    exact modOk h _ _ fun _ hd => leaveRepeat_ok hd
  | call t =>
    refine goTo_good ?_ _ _
    exact modOk h _ _ fun _ hd => leaveRepeat_ok hd
  | ret =>
    refine goTo_good ?_ _ _
    exact modOk h _ _ fun _ hd => leaveRepeat_ok hd
  | iret =>
    have hi := interruptReturn_good h n
    unfold finish
    dsimp only
    split
    · exact hi
    · exact trap_good hi _ _ _ _
  | rep c y z =>
    have hr : (s.modDrv n (startRep c y z next)).Good ql pp False tv := modOk h _ _ fun _ hd => startRep_ok hd _ _ _ _
    unfold finish
    dsimp only
    split
    · exact goTo_good hr _ _
    · exact complete_good hr _ _ _
  | wait m =>
    unfold finish
    dsimp only
    split
    · exact complete_good h _ _ _
    · refine puts_good ?_ _
      exact modOk h _ _ fun _ hd => hd
  | soft =>
    have hl := setDrv_good h n (loopBack pc next s.drovers[n]).1 fun hp => loopBack_ok (drv_ok h hp n) _ _
    exact trap_good hl _ _ _ _
  | halt =>
    refine puts_good ?_ _
    exact setDrv_good h n (loopBack pc next s.drovers[n]).1 fun hp => loopBack_ok (drv_ok h hp n) _ _

theorem trapBundle_good (h : s.Good ql pp False tv) (n : Fin 12) (cause pc : Nat) (seen : List Nat) :
    (trapBundle n cause pc seen s).Good ql pp False tv :=
  trap_good (forAll_good _ _ (fun g _ h => decodeG_good h n g) h) _ _ _ _

theorem boundary_good (h : s.Good ql pp False tv) (n : Fin 12) : (boundary n s).Good ql pp False tv := by
  have h1 : (s.modDrv n fun d => { d with issuing := false, halt := false }).Good ql pp False tv := modOk h _ _ fun _ hd => hd
  unfold boundary
  dsimp only
  split
  · split
    · refine put_good ?_ _ _
      exact modOk h1 _ _ fun _ hd => hd
    · exact getD_good _ h1 (takeDue_good h1 n)
  · exact h1

theorem issueBundle_good (h : s.Good ql pp False tv) (n : Fin 12) (b : List Syl) : (issueBundle n b s).Good ql pp False tv := by
  unfold issueBundle
  extract_lets pc next rec_ t s0 st q e c s1 s2
  have h0 : s0.Good ql pp False tv := modOk h _ _ fun _ hd => hd
  have hq : q.2.st.Good ql pp False tv :=
    readBundle_good _ _ _ _ (setDrv_good h0 _ _ fun hp => startString_ok (drv_ok h0 hp n) _ _)
  have h1 : s1.Good ql pp False tv := foldl_good _ _ (fun _ _ h => sylWrite_good h _ _ _ _) hq
  have h2 : s2.Good ql pp False tv := modOk h1 _ _ fun _ hd => stepPointers_ok _ hd
  clear_value s2 s1 c e
  split
  · exact boundary_good (trapBundle_good h0 _ _ _ _) _
  · split
    · split
      · exact modOk (mwRead_good h (some n)) _ _ fun _ hd => hd
      · exact h
    · split
      · exact boundary_good (trapBundle_good h0 _ _ _ _) _
      · split
        · exact h1
        · exact boundary_good (finish_good h2 _ _ _ _) _

theorem waitReleaseOp_good (h : s.Good ql pp False tv) (n : Fin 12) : (waitReleaseOp n s).Good ql pp False tv := by
  unfold waitReleaseOp
  dsimp only
  split
  · refine complete_good (put_good ?_ _ _) _ _ _
    exact modOk h _ _ fun _ hd => hd
  · exact h

theorem interruptEntryOp_good (h : s.Good ql pp False tv) (n : Fin 12) : (interruptEntryOp n s).Good ql pp False tv := by
  unfold interruptEntryOp
  split
  · exact enterVector_good h _ _ _ _
  · exact h

theorem breakpointOp_good (h : s.Good ql pp False tv) (n : Fin 12) : (breakpointOp n s).Good ql pp False tv := by
  unfold breakpointOp
  split
  · exact put_good h _ _
  · exact h

theorem stepOnce_good (h : s.Good ql pp False tv) (n : Fin 12) : (stepOnce n s).Good ql pp False tv := by
  unfold stepOnce
  extract_lets s0 s1 st
  have h0 : s0.Good ql pp False tv := by
    refine put_good ?_ _ _
    exact modOk h _ _ fun _ hd => hd
  clear_value s0
  have h1 : s1.Good ql pp False tv := by
    show (match takeDue n s0 with
      | some t => t
      | none =>
        if interruptReady n s0 then interruptEntryOp n s0
        else issueBundle n ((fetchFrom (s0.bank n) (8193 - s0.get (F.DRV_n_PC_PC n)) (s0.get (F.DRV_n_PC_PC n))).map decodeSyl) s0).Good ql pp False tv
    split
    · exact takeDue_good h0 n _ ‹_›
    · split
      · exact interruptEntryOp_good h0 _
      · exact issueBundle_good h0 _ _
  clear_value s1
  split
  · exact put_good h1 _ _
  · exact h1

theorem runSteps_good (k : Nat) : ∀ {s : State}, s.Good ql pp False tv → (runSteps k s).Good ql pp False tv := by
  induction k with
  | zero => exact fun h => h
  | succ k ih =>
    intro s h
    unfold runSteps
    split
    · exact ih (stepOnce_good h _)
    · exact h

theorem issueRow_good (h : s.Good ql pp False tv) (n : Fin 12) (a : Syl) (rest : List (BitVec 64)) :
    (issueRow n a rest s).Good ql pp False tv := by
  unfold issueRow
  split
  · exact runSteps_good _ (issueBundle_good h _ _)
  · exact h

theorem writeAndStep_good (h : s.Good ql pp False tv) (who : Writer) (off v : Nat) : (writeAndStep who off v s).Good ql pp False tv := by
  unfold writeAndStep
  split
  · exact runSteps_good _ (writeReg_good h _ _ _)
  · exact writeReg_good h _ _ _

end Sys2Proof.Machine
end

