-- ==== Sys2Proof/Laws/GoodRows.lean ====
section
/-!
SUPPORT. The operations of Machine/Rows.lean keep the queue and the canonical form (Laws/Good.lean).
-/

namespace Sys2Proof.Machine

set_option linter.unusedTactic false
set_option linter.unreachableTactic false
set_option linter.unusedVariables false

variable {ql : List Instr} {pp qq : Prop} {tv : Nat × Nat × Nat × Nat × Option (Nat × Nat × Nat)} {s : State}

theorem setBitBy_good (h : s.Good ql pp False tv) (who : Writer) (off bit : Nat) :
     (setBitBy who off bit s).Good ql pp False tv := by
  unfold setBitBy
  repeat' (first
    | with_reducible assumption
    | with_reducible apply writeAndStep_good
    | (intro _ _)
    | intro _
    | dsimp only
    | split
    | with_reducible rfl
    | (fail_if_no_progress (with_reducible refine good_upd ?_ rfl (fun _ => rfl) (fun h => h.elim))))

theorem setBitOp_good (h : s.Good ql pp False tv) (off bit : Nat) :
     (setBitOp off bit s).Good ql pp False tv := by
  unfold setBitOp
  repeat' (first
    | with_reducible assumption
    | with_reducible apply setBitBy_good
    | (intro _ _)
    | intro _
    | dsimp only
    | split
    | with_reducible rfl
    | (fail_if_no_progress (with_reducible refine good_upd ?_ rfl (fun _ => rfl) (fun h => h.elim))))

theorem readOp_good (h : s.Good ql pp qq tv) (who : Writer) (off : Nat) :
     (readOp who off s).Good ql pp qq tv := by
  unfold readOp
  repeat' (first
    | with_reducible assumption
    | with_reducible apply emit_good
    | with_reducible apply readReg_good
    | with_reducible refine pair_good (by assumption) ?_
    | with_reducible refine triple_good (by assumption) ?_
    | (intro _ _)
    | intro _
    | dsimp only
    | split
    | with_reducible rfl
    | (fail_if_no_progress (with_reducible refine good_upd ?_ rfl (fun _ => rfl) (fun _ => rfl))))

theorem mwReadOp_good (h : s.Good ql pp qq tv) (who : Writer) :
     (mwReadOp who s).Good ql pp qq tv := by
  unfold mwReadOp
  repeat' (first
    | with_reducible assumption
    | with_reducible refine modDrv_good' ?_ _ _ (fun _ _ => ?_)
    | with_reducible apply mwRead_good
    | with_reducible apply readOp_good
    | with_reducible refine pair_good (by assumption) ?_
    | with_reducible refine triple_good (by assumption) ?_
    | (intro _ _)
    | intro _
    | dsimp only
    | split
    | with_reducible rfl
    | (fail_if_no_progress (with_reducible refine good_upd ?_ rfl (fun _ => rfl) (fun _ => rfl))))

end Sys2Proof.Machine
end

