-- ==== Sys2Proof/Laws/Writes.lean ====
section
/-!
SUPPORT. Register writes: what a write comes to once the mode, the range and the mirror let it through, and that no
bundle issues where no STEP waits.
-/

namespace Sys2Proof.Machine

variable {s : State}

/-- Nothing issues where no STEP waits. -/
theorem runSteps_idle (k : Nat) (h : ∀ n : Fin 12, s.drovers[n].step = false) : runSteps k s = s := by
  cases k with
  | zero => rfl
  | succ k =>
    unfold runSteps
    have : (List.finRange 12).find? (fun n => s.drovers[n].step) = none := by
      rw [List.find?_eq_none]; intro n _; rw [h n]; simp
    rw [this]

theorem journal_off (h : s.journals = false) (ty fl : Nat) (b : List Byte) : journal ty fl b s = s := by
  unfold journal; rw [h]; rfl

/-- A write that the mode, the range and the mirror let through, and that is no ring index. -/
theorem writeReg_served {off v : Nat} {who : Writer} {fs : List FieldSpec} (hw : s.writable off = true)
    (hs : s.barred who = false) (hf : fieldsAt off = some fs) (ht : off / 0x10000 ≠ 0xF ∨ s.tandem = true)
    (hp : off / 0x100 ≠ 0x1802 ∨ s.spiHost 1 = false) (hm : s.isMirror = false ∨ fs.any (journalled off) = false)
    (hr : (if ownedFirst off then none else rangeFlag off v s) = none) (hi : ringLen off = none)
    (hj : fs.any (changes off v s) = false ∨ (clearBy off v (writeBlock who off v fs s)).journals = false) :
    writeReg who off v s = clearBy off v (writeBlock who off v fs s) := by
  unfold writeReg
  rw [hw, hs, hf]
  have h1 : ¬(off / 0x10000 = 0xF ∧ !s.tandem) := by
    rintro ⟨a, b⟩; rcases ht with h | h
    · exact h a
    · rw [h] at b; exact absurd b (by simp)
  have h3 : ¬(off / 0x100 = 0x1802 ∧ s.spiHost 1) := by
    rintro ⟨a, b⟩; rcases hp with h | h
    · exact h a
    · rw [h] at b; exact absurd b (by simp)
  have h2 : (s.isMirror && fs.any (journalled off)) = false := by
    rcases hm with h | h
    · rw [h]; rfl
    · rw [h]; simp
  simp only [Bool.not_true, Bool.or_false, h1, h2, h3, if_false, Bool.false_eq_true]
  unfold writeChecked
  rw [hr, hi]
  simp only [Option.isSome_none, Bool.false_eq_true, if_false]
  rcases hj with h | h
  · rw [h]; simp
  · split
    · exact journal_off h _ _ _
    · rfl

/-- A write of a ring index that the mode and the mirror let through. -/
theorem writeReg_index {off v : Nat} {who : Writer} {fs : List FieldSpec} (hw : s.writable off = true)
    (hs : s.barred who = false) (hf : fieldsAt off = some fs) (ht : off / 0x10000 ≠ 0xF)
    (hp : off / 0x100 ≠ 0x1802) (hm : s.isMirror = false)
    (hr : (if ownedFirst off then none else rangeFlag off v s) = none) (hi : (ringLen off).isSome = true) :
    writeReg who off v s = indexWrite who off v s := by
  unfold writeReg
  rw [hw, hs, hf]
  have h1 : ¬(off / 0x10000 = 0xF ∧ !s.tandem) := fun h => ht h.1
  have h3 : ¬(off / 0x100 = 0x1802 ∧ s.spiHost 1) := fun h => hp h.1
  simp only [Bool.not_true, Bool.or_false, h1, h3, if_false, Bool.false_eq_true, hm, Bool.false_and]
  unfold writeChecked
  rw [hr]
  simp only [hi, if_true]

/-- The states that differ from `s` in how no register reads: a write of held values leaves one of these. -/
structure SameRegs (s t : State) : Prop where
  rest : t = { s with regs := t.regs }
  reg : ∀ o, t.reg o = s.reg o

theorem SameRegs.get {s t : State} (h : SameRegs s t) (f : Field) : t.get f = s.get f := by
  unfold State.get; rw [h.reg]

/-- A write of the values that the fields hold, with no staged field among them, changes no register. -/
theorem writeFields_held {off v : Nat} {owner : Option Nat} {fs : List FieldSpec}
    (ha : ∀ f ∈ fs, f.acc = .wc ∨ f.acc = .ro ∨ (f.acc = .rwl ∨ f.acc = .rwf) ∧ bits v f.lo f.w = s.get ⟨off, f.lo, f.w⟩) :
    SameRegs s (writeFields off v owner fs s) := by
  have hz : frozenWrite off v fs s = false := by
    unfold frozenWrite
    have : (fs.any fun f => f.acc == .rwf && bits v f.lo f.w != s.get ⟨off, f.lo, f.w⟩) = false := by
      rw [List.any_eq_false]
      intro f hf
      rcases ha f hf with h | h | ⟨h, he⟩
      · simp [h]
      · simp [h]
      · simp [he]
    rw [this, Bool.and_false]
  unfold writeFields
  rw [hz]
  show SameRegs s (fs.foldl (writeField off v owner (s.runs off)) s)
  have key : ∀ (l : List FieldSpec) (t : State), (∀ f ∈ l, f ∈ fs) → SameRegs s t →
      SameRegs s (l.foldl (writeField off v owner (s.runs off)) t) := by
    intro l
    induction l with
    | nil => exact fun t _ h => h
    | cons f l ih =>
      intro t hl h
      refine ih _ (fun g hg => hl g (by simp [hg])) ?_
      have hp : bits v f.lo f.w = s.get ⟨off, f.lo, f.w⟩ → SameRegs s (t.put ⟨off, f.lo, f.w⟩ (bits v f.lo f.w)) := by
        intro e
        rw [e, ← h.get]
        refine ⟨?_, fun o => by rw [reg_put_held]; exact h.reg o⟩
        show _ = _
        rw [h.rest]; rfl
      rcases ha f (hl f (by simp)) with e | e | ⟨e, he⟩
      · simpa only [writeField, e] using h
      · simpa only [writeField, e] using h
      · rcases e with e | e
        · simpa only [writeField, e] using hp he
        · simp only [writeField, e]
          split
          · exact h
          · exact hp he
  exact key fs s (fun _ h => h) ⟨rfl, fun _ => rfl⟩

/-- The CLRCNT bit of a block's CTL register, its other fields written as they stand. -/
theorem clear_served {off v bit : Nat} {fs : List FieldSpec} {f : State → State} (hw : s.writable off = true)
    (hf : fieldsAt off = some fs) (ht : off / 0x10000 ≠ 0xF ∨ s.tandem = true) (hm : s.isMirror = false)
    (hr : (if ownedFirst off then none else rangeFlag off v s) = none) (hi : ringLen off = none)
    (hc : clearOf off = some (bit, f)) (hb : bitOf v bit = true) (hl : off % 0x10000 = 0)
    (hk : ∃ o, writeBlock .host off v fs s = writeFields off v o fs s)
    (ha : ∀ f ∈ fs, f.acc = .wc ∨ f.acc = .ro ∨ (f.acc = .rwl ∨ f.acc = .rwf) ∧ bits v f.lo f.w = s.get ⟨off, f.lo, f.w⟩) :
    ∃ t, SameRegs s t ∧ writeReg .host off v s = f t := by
  have hj : fs.any (changes off v s) = false := by
    rw [List.any_eq_false]
    intro f hf
    unfold changes journalled
    rcases ha f hf with h | h | ⟨h | h, he⟩ <;> simp [*]
  obtain ⟨o, hk⟩ := hk
  refine ⟨writeFields off v o fs s, writeFields_held ha, ?_⟩
  have hs : s.barred .host = false := by unfold State.barred ownerOf; simp
  rw [writeReg_served hw hs hf ht (Or.inl (by omega)) (Or.inl hm) hr hi (Or.inl hj), hk]
  unfold clearBy
  rw [hc]
  simp only [onBit, hb, if_true]

end Sys2Proof.Machine
end

