-- ==== Sys2Proof/Laws/Claims.lean ====
section
/-!
SUPPORT. The shapes of the statements: from a command's meaning to `Runs`, and frames.
-/

namespace Sys2Proof.Claims

open Sys2Proof.Machine

variable {c : Nat → Instr} {pre : State → Prop} {post : State → State → Prop}

/-- A command whose meaning `e` is an operation on the state in which it comes. -/
theorem runs_cmd (e : Nat → State → Answer) {f : State → State} (h : ∀ dt s, exec (c dt) s = e dt s)
    (he : ∀ dt s, e dt s = cmd dt f s) (hp : ∀ u, pre u → post u (f u)) : Runs c pre post :=
  fun s dt hs => ⟨f (s.elapse dt), (h dt s).trans (he dt s), hp _ hs⟩

/-- A command that is a write of a register outside the DRV block. -/
theorem runs_write (e : Nat → State → Answer) {who : Writer} {off v : Nat} (h : ∀ dt s, exec (c dt) s = e dt s)
    (he : ∀ dt s, e dt s = wrCmd dt who off v s) (hb : off / 0x10000 ≠ 0xA)
    (hp : ∀ u, pre u → post u (writeReg who off v u)) : Runs c pre post := by
  refine runs_cmd (f := writeAndStep who off v) e h he fun u hu => ?_
  unfold writeAndStep
  rw [if_neg hb]
  exact hp u hu

/-- A command that is a command bit of a register outside the DRV block. -/
theorem runs_bit (e : Nat → State → Answer) {off bit : Nat} (h : ∀ dt s, exec (c dt) s = e dt s)
    (he : ∀ dt s, e dt s = cmd dt (setBitOp off bit) s) (hb : off / 0x10000 ≠ 0xA)
    (hp : ∀ u, pre u → post u (writeReg .host off (setBit (u.heldWord off) bit) u)) : Runs c pre post := by
  refine runs_cmd (f := setBitOp off bit) e h he fun u hu => ?_
  unfold setBitOp setBitBy writeAndStep
  rw [if_neg hb]
  exact hp u hu

theorem onlyRegs_refl (l : List Nat) (u : State) : OnlyRegs l u u := ⟨rfl, fun _ _ => rfl⟩

theorem onlyRegs_setReg {l : List Nat} {u t : State} (h : OnlyRegs l u t) {o : Nat} (v : Word) (ho : o ∈ l) :
    OnlyRegs l u (t.setReg o v) := by
  refine ⟨?_, fun p hp => ?_⟩
  · rw [h.1]; rfl
  · rw [reg_setReg_ne t v (by rintro rfl; exact hp ho)]; exact h.2 p hp

theorem onlyRegs_put {l : List Nat} {u t : State} (h : OnlyRegs l u t) (f : Field) (v : Nat) (ho : f.off ∈ l) :
    OnlyRegs l u (t.put f v) := onlyRegs_setReg h _ ho

end Sys2Proof.Claims
end

