-- ==== Sys2Proof/Laws/Mode.lean ====
section
/-!
SUPPORT. The operations below a mode change leave SYS_MODE as it was.
-/

namespace Sys2Proof.Machine

set_option linter.unusedTactic false
set_option linter.unreachableTactic false
set_option linter.unusedVariables false

/-- SYS_MODE holds `w`. -/
def State.ModeIs (s : State) (w : Word) : Prop := s.reg R.SYS_MODE = w

variable {w : Word} {s : State}

theorem off_ne0 (o : Nat) (h : (o == R.SYS_MODE) = false) : o ≠ R.SYS_MODE := by simpa using h

theorem off_ne1 (c k : Nat) (h : R.SYS_MODE < c) : c + k ≠ R.SYS_MODE := by omega

theorem off_ne2 (c k j : Nat) (h : R.SYS_MODE < c) : c + k + j ≠ R.SYS_MODE := by omega

theorem mode_upd (h : s.ModeIs w) {pe ta st tx rx p0 p1 mp fa rs sp ep dr se ma sf fr ft nt en tn ti rt si ca sc ci dm db dl la fl
    cl fu tr up jt tk ou fe} :
    (State.mk pe s.regs ta st tx rx p0 p1 mp fa rs sp ep dr se ma sf fr ft nt en tn ti rt si ca sc ci dm db dl la fl cl fu tr up jt
      tk ou fe).ModeIs w := h

theorem setReg_mode (h : s.ModeIs w) (o : Nat) (v : Word) (ho : o ≠ R.SYS_MODE) : (s.setReg o v).ModeIs w := by
  unfold State.ModeIs at *; rw [reg_setReg_ne s v ho.symm]; exact h

theorem put_mode (h : s.ModeIs w) (f : Field) (v : Nat) (ho : f.off ≠ R.SYS_MODE) : (s.put f v).ModeIs w :=
  setReg_mode h _ _ ho

theorem putS_mode (h : s.ModeIs w) (f : Field) (v : Int) (ho : f.off ≠ R.SYS_MODE) : (s.putS f v).ModeIs w :=
  setReg_mode h _ _ ho

theorem flag_mode (h : s.ModeIs w) (f : Field) (ho : f.off ≠ R.SYS_MODE) : (s.flag f).ModeIs w := put_mode h f _ ho

theorem add_mode (h : s.ModeIs w) (f : Field) (n : Nat) (ho : f.off ≠ R.SYS_MODE) : (s.add f n).ModeIs w :=
  put_mode h f _ ho

theorem inc_mode (h : s.ModeIs w) (f : Field) (ho : f.off ≠ R.SYS_MODE) : (s.inc f).ModeIs w := put_mode h f _ ho

theorem incWrap_mode (h : s.ModeIs w) (f : Field) (ho : f.off ≠ R.SYS_MODE) : (s.incWrap f).ModeIs w := put_mode h f _ ho

theorem bitOn_mode (h : s.ModeIs w) (f : Field) (i : Nat) (ho : f.off ≠ R.SYS_MODE) : (s.bitOn f i).ModeIs w :=
  put_mode h f _ ho

theorem bitOff_mode (h : s.ModeIs w) (f : Field) (i : Nat) (ho : f.off ≠ R.SYS_MODE) : (s.bitOff f i).ModeIs w :=
  put_mode h f _ ho

theorem puts_mode (h : s.ModeIs w) (l : List (Field × Nat)) (hl : ∀ p ∈ l, p.1.off ≠ R.SYS_MODE) : (s.puts l).ModeIs w := by
  unfold State.puts
  induction l generalizing s with
  | nil => exact h
  | cons p l ih => exact ih (put_mode h _ _ (hl p (by simp))) fun q hq => hl q (by simp [hq])

theorem emit_mode (h : s.ModeIs w) (o : Out) : (s.emit o).ModeIs w := mode_upd h

theorem modDrv_mode (h : s.ModeIs w) (n : Fin 12) (f : Drover → Drover) : (s.modDrv n f).ModeIs w := mode_upd h

theorem poke_mode (h : s.ModeIs w) (a : Nat) (bs : List Byte) : (s.poke a bs).ModeIs w := mode_upd h

theorem fresh_mode (h : s.ModeIs w) (n : Nat) : (s.fresh n).2.ModeIs w := mode_upd h

theorem forAll_mode {α : Type} (as : List α) (f : α → State → State) (hf : ∀ a s, s.ModeIs w → (f a s).ModeIs w) :
    ∀ {s : State}, s.ModeIs w → (forAll as f s).ModeIs w := by
  unfold forAll
  induction as with
  | nil => exact fun h => h
  | cons a as ih => exact fun h => ih (hf a _ h)

theorem forN_mode (n : Nat) (f : Nat → State → State) (hf : ∀ i s, s.ModeIs w → (f i s).ModeIs w)
    (h : s.ModeIs w) : (forN n f s).ModeIs w := forAll_mode (List.range n) f hf h

theorem foldl_mode {α : Type} (as : List α) (f : State → α → State) (hf : ∀ s a, s.ModeIs w → (f s a).ModeIs w) :
    ∀ {s : State}, s.ModeIs w → (as.foldl f s).ModeIs w := by
  induction as with
  | nil => exact fun h => h
  | cons a as ih => exact fun h => ih (hf _ a h)

theorem foldl_pair_mode {α β : Type} (as : List α) (f : β × State → α → β × State)
    (hf : ∀ b s a, s.ModeIs w → (f (b, s) a).2.ModeIs w) : ∀ (b : β) {s : State}, s.ModeIs w → (as.foldl f (b, s)).2.ModeIs w := by
  induction as with
  | nil => exact fun _ _ h => h
  | cons a as ih => exact fun b s h => ih _ (hf b s a h)

theorem when_mode (h : s.ModeIs w) (c : Bool) (f : State → State) (hf : ∀ s, s.ModeIs w → (f s).ModeIs w) :
    (s.when c f).ModeIs w := by
  unfold State.when; split
  · exact hf s h
  · exact h

theorem getD_mode (o : Option State) (h : s.ModeIs w) (ho : ∀ t, o = some t → t.ModeIs w) : (o.getD s).ModeIs w := by
  cases o with
  | none => exact h
  | some t => exact ho t rfl

theorem bind_mode {α : Type} (o : Option α) (f : α → Option State) (hf : ∀ a t, f a = some t → t.ModeIs w) :
    ∀ t, o.bind f = some t → t.ModeIs w := by
  intro t ht
  cases o with
  | none => cases ht
  | some a => exact hf a t ht

theorem pair_mode {α : Type} {f : α × State} {x : α} {t : State} (heq : f = (x, t)) (hf : f.2.ModeIs w) : t.ModeIs w := by
  rw [heq] at hf; exact hf

theorem triple_mode {α β : Type} {f : α × β × State} {x : α} {y : β} {t : State} (heq : f = (x, y, t))
    (hf : f.2.2.ModeIs w) : t.ModeIs w := by
  rw [heq] at hf; exact hf

theorem getD_map_mode {α : Type} (o : Option α) (f : α → State) (h : s.ModeIs w) (hf : ∀ a, (f a).ModeIs w) :
    ((o.map f).getD s).ModeIs w := by
  cases o with
  | none => exact h
  | some a => exact hf a

theorem opt_ite_mode {c : Prop} [Decidable c] {a b : Option State} (ha : ∀ u, a = some u → u.ModeIs w)
    (hb : ∀ u, b = some u → u.ModeIs w) : ∀ u, (if c then a else b) = some u → u.ModeIs w := by
  split <;> assumption

theorem ite_mode {c : Prop} [Decidable c] {a b : State} (ha : c → a.ModeIs w) (hb : ¬c → b.ModeIs w) :
    (if c then a else b).ModeIs w := by
  split
  · exact ha ‹_›
  · exact hb ‹_›

theorem snd_mode {α : Type} (a : α) (h : s.ModeIs w) : (a, s).2.ModeIs w := h


theorem captureTally_mode (h : s.ModeIs w) (b : Nat) :
     (captureTally b s).ModeIs w := by
  unfold captureTally
  repeat' (first
    | with_reducible assumption
    | exact off_ne0 _ rfl
    | exact off_ne1 _ _ (by decide)
    | exact off_ne2 _ _ _ (by decide)
    | exact fun _ => off_ne1 _ _ (by decide)
    | exact List.forall_mem_nil _
    | refine List.forall_mem_cons.2 ⟨?_, ?_⟩
    | with_reducible assumption
    | with_reducible apply puts_mode
    | (intro _ _)
    | intro _
    | dsimp only
    | split
    | with_reducible rfl
    | (fail_if_no_progress (with_reducible refine mode_upd ?_)))

theorem evin_mode (h : s.ModeIs w) (n k : Nat) :
     (evin n k s).ModeIs w := by
  unfold evin
  repeat' (first
    | with_reducible assumption
    | exact off_ne0 _ rfl
    | exact off_ne1 _ _ (by decide)
    | exact off_ne2 _ _ _ (by decide)
    | exact fun _ => off_ne1 _ _ (by decide)
    | exact List.forall_mem_nil _
    | refine List.forall_mem_cons.2 ⟨?_, ?_⟩
    | with_reducible assumption
    | with_reducible apply bitOn_mode
    | (intro _ _)
    | intro _
    | dsimp only
    | split
    | with_reducible rfl
    | (fail_if_no_progress (with_reducible refine mode_upd ?_)))

theorem tmrLatch_mode (h : s.ModeIs w) (n : Nat) :
     (tmrLatch n s).ModeIs w := by
  unfold tmrLatch
  repeat' (first
    | with_reducible assumption
    | exact off_ne0 _ rfl
    | exact off_ne1 _ _ (by decide)
    | exact off_ne2 _ _ _ (by decide)
    | exact fun _ => off_ne1 _ _ (by decide)
    | exact List.forall_mem_nil _
    | refine List.forall_mem_cons.2 ⟨?_, ?_⟩
    | with_reducible assumption
    | with_reducible apply when_mode
    | with_reducible apply put_mode
    | with_reducible apply flag_mode
    | (intro _ _)
    | intro _
    | dsimp only
    | split
    | with_reducible rfl
    | (fail_if_no_progress (with_reducible refine mode_upd ?_)))

theorem tmrCapture_mode (h : s.ModeIs w) (n : Nat) :
     (tmrCapture n s).ModeIs w := by
  unfold tmrCapture
  repeat' (first
    | with_reducible assumption
    | exact off_ne0 _ rfl
    | exact off_ne1 _ _ (by decide)
    | exact off_ne2 _ _ _ (by decide)
    | exact fun _ => off_ne1 _ _ (by decide)
    | exact List.forall_mem_nil _
    | refine List.forall_mem_cons.2 ⟨?_, ?_⟩
    | with_reducible assumption
    | with_reducible apply tmrLatch_mode
    | (intro _ _)
    | intro _
    | dsimp only
    | split
    | with_reducible rfl
    | (fail_if_no_progress (with_reducible refine mode_upd ?_)))

theorem msixRaise_mode (h : s.ModeIs w) (v : Fin 64) :
     (msixRaise v s).ModeIs w := by
  unfold msixRaise
  repeat' (first
    | with_reducible assumption
    | exact off_ne0 _ rfl
    | exact off_ne1 _ _ (by decide)
    | exact off_ne2 _ _ _ (by decide)
    | exact fun _ => off_ne1 _ _ (by decide)
    | exact List.forall_mem_nil _
    | refine List.forall_mem_cons.2 ⟨?_, ?_⟩
    | with_reducible assumption
    | with_reducible apply inc_mode
    | with_reducible apply emit_mode
    | (intro _ _)
    | intro _
    | dsimp only
    | split
    | with_reducible rfl
    | (fail_if_no_progress (with_reducible refine mode_upd ?_)))

theorem raiseVector_mode (h : s.ModeIs w) (v : Fin 64) :
     (raiseVector v s).ModeIs w := by
  unfold raiseVector
  repeat' (first
    | with_reducible assumption
    | exact off_ne0 _ rfl
    | exact off_ne1 _ _ (by decide)
    | exact off_ne2 _ _ _ (by decide)
    | exact fun _ => off_ne1 _ _ (by decide)
    | exact List.forall_mem_nil _
    | refine List.forall_mem_cons.2 ⟨?_, ?_⟩
    | with_reducible assumption
    | with_reducible apply bitOn_mode
    | with_reducible apply emit_mode
    | with_reducible apply msixRaise_mode
    | (intro _ _)
    | intro _
    | dsimp only
    | split
    | with_reducible rfl
    | (fail_if_no_progress (with_reducible refine mode_upd ?_)))

theorem consume_mode (h : s.ModeIs w) (k : Consumer) :
     (consume k s).ModeIs w := by
  unfold consume
  repeat' (first
    | with_reducible assumption
    | exact off_ne0 _ rfl
    | exact off_ne1 _ _ (by decide)
    | exact off_ne2 _ _ _ (by decide)
    | exact fun _ => off_ne1 _ _ (by decide)
    | exact List.forall_mem_nil _
    | refine List.forall_mem_cons.2 ⟨?_, ?_⟩
    | with_reducible assumption
    | with_reducible apply when_mode
    | with_reducible apply captureTally_mode
    | with_reducible apply evin_mode
    | with_reducible apply tmrCapture_mode
    | with_reducible apply raiseVector_mode
    | with_reducible refine pair_mode (by assumption) ?_
    | with_reducible refine triple_mode (by assumption) ?_
    | (intro _ _)
    | intro _
    | dsimp only
    | split
    | with_reducible rfl
    | (fail_if_no_progress (with_reducible refine mode_upd ?_)))

theorem loopDrop_mode (h : s.ModeIs w) (chan origin hops : Nat) :
     (loopDrop chan origin hops s).ModeIs w := by
  unfold loopDrop
  repeat' (first
    | with_reducible assumption
    | exact off_ne0 _ rfl
    | exact off_ne1 _ _ (by decide)
    | exact off_ne2 _ _ _ (by decide)
    | exact fun _ => off_ne1 _ _ (by decide)
    | exact List.forall_mem_nil _
    | refine List.forall_mem_cons.2 ⟨?_, ?_⟩
    | with_reducible assumption
    | with_reducible apply flag_mode
    | with_reducible apply inc_mode
    | with_reducible apply puts_mode
    | (intro _ _)
    | intro _
    | dsimp only
    | split
    | with_reducible rfl
    | (fail_if_no_progress (with_reducible refine mode_upd ?_)))

theorem deliver_mode (h : s.ModeIs w) (e : Ev) :
     (deliver e s).2.ModeIs w := by
  unfold deliver
  repeat' (first
    | with_reducible assumption
    | exact off_ne0 _ rfl
    | exact off_ne1 _ _ (by decide)
    | exact off_ne2 _ _ _ (by decide)
    | exact fun _ => off_ne1 _ _ (by decide)
    | exact List.forall_mem_nil _
    | refine List.forall_mem_cons.2 ⟨?_, ?_⟩
    | with_reducible assumption
    | with_reducible apply inc_mode
    | with_reducible apply consume_mode
    | with_reducible apply loopDrop_mode
    | with_reducible refine pair_mode (by assumption) ?_
    | with_reducible refine triple_mode (by assumption) ?_
    | (intro _ _)
    | intro _
    | dsimp only
    | split
    | with_reducible rfl
    | (fail_if_no_progress (with_reducible refine mode_upd ?_)))

theorem mergeEv_mode (h : s.ModeIs w) (x0 : List Ev) (x1 : List Ev) :
     (mergeEv x0 x1 s).2.ModeIs w := by
  fun_induction mergeEv x0 x1 s
  all_goals repeat' (first
    | with_reducible assumption
    | exact off_ne0 _ rfl
    | exact off_ne1 _ _ (by decide)
    | exact off_ne2 _ _ _ (by decide)
    | exact fun _ => off_ne1 _ _ (by decide)
    | exact List.forall_mem_nil _
    | refine List.forall_mem_cons.2 ⟨?_, ?_⟩
    | with_reducible assumption
    | with_reducible apply inc_mode
    | with_reducible refine pair_mode (by assumption) ?_
    | with_reducible refine triple_mode (by assumption) ?_
    | (intro _ _)
    | intro _
    | dsimp only
    | split
    | with_reducible rfl
    | (fail_if_no_progress (with_reducible refine mode_upd ?_))
    | with_reducible apply_assumption)

theorem fabric_mode (fuel : Nat) (es : List Ev) : ∀ {s : State}, s.ModeIs w → (fabric fuel es s).ModeIs w := by
  induction fuel generalizing es with
  | zero => exact fun h => h
  | succ n ih =>
    intro s h
    have key : ((mergeEv es [] s).1.foldl (fun (acc : List Ev × State) e =>
        let d := deliver e acc.2
        (acc.1 ++ d.1.toList, d.2)) ([], (mergeEv es [] s).2)).2.ModeIs w :=
      foldl_pair_mode _ _ (fun _ _ _ h => deliver_mode h _) _ (mergeEv_mode h _ _)
    unfold fabric
    dsimp only
    split
    · exact key
    · exact ih _ key

theorem produce_mode (h : s.ModeIs w) (p : Nat) :
     (produce p s).ModeIs w := by
  unfold produce
  repeat' (first
    | with_reducible assumption
    | exact off_ne0 _ rfl
    | exact off_ne1 _ _ (by decide)
    | exact off_ne2 _ _ _ (by decide)
    | exact fun _ => off_ne1 _ _ (by decide)
    | exact List.forall_mem_nil _
    | refine List.forall_mem_cons.2 ⟨?_, ?_⟩
    | with_reducible assumption
    | with_reducible apply fabric_mode
    | (intro _ _)
    | intro _
    | dsimp only
    | split
    | with_reducible rfl
    | (fail_if_no_progress (with_reducible refine mode_upd ?_)))

theorem logFault_mode (h : s.ModeIs w) (code src : Nat) :
     (logFault code src s).ModeIs w := by
  unfold logFault
  repeat' (first
    | with_reducible assumption
    | exact off_ne0 _ rfl
    | exact off_ne1 _ _ (by decide)
    | exact off_ne2 _ _ _ (by decide)
    | exact fun _ => off_ne1 _ _ (by decide)
    | exact List.forall_mem_nil _
    | refine List.forall_mem_cons.2 ⟨?_, ?_⟩
    | with_reducible assumption
    | with_reducible apply poke_mode
    | (intro _ _)
    | intro _
    | dsimp only
    | split
    | with_reducible rfl
    | (fail_if_no_progress (with_reducible refine mode_upd ?_)))

theorem abortHandler_mode (h : s.ModeIs w) :
     (abortHandler s).ModeIs w := by
  unfold abortHandler
  repeat' (first
    | with_reducible assumption
    | exact off_ne0 _ rfl
    | exact off_ne1 _ _ (by decide)
    | exact off_ne2 _ _ _ (by decide)
    | exact fun _ => off_ne1 _ _ (by decide)
    | exact List.forall_mem_nil _
    | refine List.forall_mem_cons.2 ⟨?_, ?_⟩
    | with_reducible assumption
    | with_reducible apply bitOff_mode
    | with_reducible refine pair_mode (by assumption) ?_
    | with_reducible refine triple_mode (by assumption) ?_
    | (intro _ _)
    | intro _
    | dsimp only
    | split
    | with_reducible rfl
    | (fail_if_no_progress (with_reducible refine mode_upd ?_)))

theorem placeSafe_mode (h : s.ModeIs w) (code src : Nat) :
     (placeSafe code src s).ModeIs w := by
  unfold placeSafe
  repeat' (first
    | with_reducible assumption
    | exact off_ne0 _ rfl
    | exact off_ne1 _ _ (by decide)
    | exact off_ne2 _ _ _ (by decide)
    | exact fun _ => off_ne1 _ _ (by decide)
    | exact List.forall_mem_nil _
    | refine List.forall_mem_cons.2 ⟨?_, ?_⟩
    | with_reducible assumption
    | with_reducible apply setReg_mode
    | with_reducible apply abortHandler_mode
    | (intro _ _)
    | intro _
    | dsimp only
    | split
    | with_reducible rfl
    | (fail_if_no_progress (with_reducible refine mode_upd ?_)))

theorem placeAfterSafe_mode (h : s.ModeIs w) (code src : Nat) :
     (placeAfterSafe code src s).ModeIs w := by
  unfold placeAfterSafe
  repeat' (first
    | with_reducible assumption
    | exact off_ne0 _ rfl
    | exact off_ne1 _ _ (by decide)
    | exact off_ne2 _ _ _ (by decide)
    | exact fun _ => off_ne1 _ _ (by decide)
    | exact List.forall_mem_nil _
    | refine List.forall_mem_cons.2 ⟨?_, ?_⟩
    | with_reducible assumption
    | with_reducible apply setReg_mode
    | with_reducible apply inc_mode
    | with_reducible refine pair_mode (by assumption) ?_
    | with_reducible refine triple_mode (by assumption) ?_
    | (intro _ _)
    | intro _
    | dsimp only
    | split
    | with_reducible rfl
    | (fail_if_no_progress (with_reducible refine mode_upd ?_)))

theorem raiseSafe_mode (h : s.ModeIs w) (code src : Nat) :
     (raiseSafe code src s).ModeIs w := by
  unfold raiseSafe
  repeat' (first
    | with_reducible assumption
    | exact off_ne0 _ rfl
    | exact off_ne1 _ _ (by decide)
    | exact off_ne2 _ _ _ (by decide)
    | exact fun _ => off_ne1 _ _ (by decide)
    | exact List.forall_mem_nil _
    | refine List.forall_mem_cons.2 ⟨?_, ?_⟩
    | with_reducible assumption
    | with_reducible apply logFault_mode
    | with_reducible apply placeSafe_mode
    | with_reducible apply placeAfterSafe_mode
    | (intro _ _)
    | intro _
    | dsimp only
    | split
    | with_reducible rfl
    | (fail_if_no_progress (with_reducible refine mode_upd ?_)))

theorem activate_mode (h : s.ModeIs w) :
     (activate s).ModeIs w := by
  unfold activate
  repeat' (first
    | with_reducible assumption
    | exact off_ne0 _ rfl
    | exact off_ne1 _ _ (by decide)
    | exact off_ne2 _ _ _ (by decide)
    | exact fun _ => off_ne1 _ _ (by decide)
    | exact List.forall_mem_nil _
    | refine List.forall_mem_cons.2 ⟨?_, ?_⟩
    | with_reducible assumption
    | with_reducible apply evin_mode
    | with_reducible apply raiseVector_mode
    | with_reducible apply raiseSafe_mode
    | with_reducible refine pair_mode (by assumption) ?_
    | with_reducible refine triple_mode (by assumption) ?_
    | (intro _ _)
    | intro _
    | dsimp only
    | split
    | with_reducible rfl
    | (fail_if_no_progress (with_reducible refine mode_upd ?_)))

theorem place_mode (h : s.ModeIs w) (code src : Nat) :
     (place code src s).ModeIs w := by
  unfold place
  repeat' (first
    | with_reducible assumption
    | exact off_ne0 _ rfl
    | exact off_ne1 _ _ (by decide)
    | exact off_ne2 _ _ _ (by decide)
    | exact fun _ => off_ne1 _ _ (by decide)
    | exact List.forall_mem_nil _
    | refine List.forall_mem_cons.2 ⟨?_, ?_⟩
    | with_reducible assumption
    | with_reducible apply setReg_mode
    | with_reducible apply inc_mode
    | with_reducible apply activate_mode
    | (intro _ _)
    | intro _
    | dsimp only
    | split
    | with_reducible rfl
    | (fail_if_no_progress (with_reducible refine mode_upd ?_)))

theorem raiseFault_mode (h : s.ModeIs w) (code src : Nat) :
     (raiseFault code src s).ModeIs w := by
  unfold raiseFault
  repeat' (first
    | with_reducible assumption
    | exact off_ne0 _ rfl
    | exact off_ne1 _ _ (by decide)
    | exact off_ne2 _ _ _ (by decide)
    | exact fun _ => off_ne1 _ _ (by decide)
    | exact List.forall_mem_nil _
    | refine List.forall_mem_cons.2 ⟨?_, ?_⟩
    | with_reducible assumption
    | with_reducible apply inc_mode
    | with_reducible apply logFault_mode
    | with_reducible apply placeAfterSafe_mode
    | with_reducible apply raiseSafe_mode
    | with_reducible apply place_mode
    | (intro _ _)
    | intro _
    | dsimp only
    | split
    | with_reducible rfl
    | (fail_if_no_progress (with_reducible refine mode_upd ?_)))

theorem sendRec_mode (h : s.ModeIs w) (ty flags : Nat) (body : List Byte) :
     (sendRec ty flags body s).ModeIs w := by
  unfold sendRec
  repeat' (first
    | with_reducible assumption
    | exact off_ne0 _ rfl
    | exact off_ne1 _ _ (by decide)
    | exact off_ne2 _ _ _ (by decide)
    | exact fun _ => off_ne1 _ _ (by decide)
    | exact List.forall_mem_nil _
    | refine List.forall_mem_cons.2 ⟨?_, ?_⟩
    | with_reducible assumption
    | with_reducible apply put_mode
    | with_reducible apply inc_mode
    | with_reducible apply emit_mode
    | (intro _ _)
    | intro _
    | dsimp only
    | split
    | with_reducible rfl
    | (fail_if_no_progress (with_reducible refine mode_upd ?_)))

theorem journal_mode (h : s.ModeIs w) (ty flags : Nat) (body : List Byte) :
     (journal ty flags body s).ModeIs w := by
  unfold journal
  repeat' (first
    | with_reducible assumption
    | exact off_ne0 _ rfl
    | exact off_ne1 _ _ (by decide)
    | exact off_ne2 _ _ _ (by decide)
    | exact fun _ => off_ne1 _ _ (by decide)
    | exact List.forall_mem_nil _
    | refine List.forall_mem_cons.2 ⟨?_, ?_⟩
    | with_reducible assumption
    | with_reducible apply sendRec_mode
    | (intro _ _)
    | intro _
    | dsimp only
    | split
    | with_reducible rfl
    | (fail_if_no_progress (with_reducible refine mode_upd ?_)))

theorem spareStart_mode (h : s.ModeIs w) (b r : Nat) :
     (spareStart b r s).ModeIs w := by
  unfold spareStart
  repeat' (first
    | with_reducible assumption
    | exact off_ne0 _ rfl
    | exact off_ne1 _ _ (by decide)
    | exact off_ne2 _ _ _ (by decide)
    | exact fun _ => off_ne1 _ _ (by decide)
    | exact List.forall_mem_nil _
    | refine List.forall_mem_cons.2 ⟨?_, ?_⟩
    | with_reducible assumption
    | with_reducible apply flag_mode
    | with_reducible apply produce_mode
    | with_reducible refine pair_mode (by assumption) ?_
    | with_reducible refine triple_mode (by assumption) ?_
    | (intro _ _)
    | intro _
    | dsimp only
    | split
    | with_reducible rfl
    | (fail_if_no_progress (with_reducible refine mode_upd ?_)))

theorem poisonGranule_mode (h : s.ModeIs w) (g : Nat) :
     (poisonGranule g s).ModeIs w := by
  unfold poisonGranule
  repeat' (first
    | with_reducible assumption
    | exact off_ne0 _ rfl
    | exact off_ne1 _ _ (by decide)
    | exact off_ne2 _ _ _ (by decide)
    | exact fun _ => off_ne1 _ _ (by decide)
    | exact List.forall_mem_nil _
    | refine List.forall_mem_cons.2 ⟨?_, ?_⟩
    | with_reducible assumption
    | with_reducible apply poke_mode
    | (intro _ _)
    | intro _
    | dsimp only
    | split
    | with_reducible rfl
    | (fail_if_no_progress (with_reducible refine mode_upd ?_)))

theorem rowCorrected_mode (h : s.ModeIs w) (b r : Nat) :
     (rowCorrected b r s).ModeIs w := by
  unfold rowCorrected
  repeat' (first
    | with_reducible assumption
    | exact off_ne0 _ rfl
    | exact off_ne1 _ _ (by decide)
    | exact off_ne2 _ _ _ (by decide)
    | exact fun _ => off_ne1 _ _ (by decide)
    | exact List.forall_mem_nil _
    | refine List.forall_mem_cons.2 ⟨?_, ?_⟩
    | with_reducible assumption
    | with_reducible apply spareStart_mode
    | with_reducible apply getD_map_mode
    | with_reducible apply getD_mode
    | (intro _ _)
    | intro _
    | dsimp only
    | split
    | with_reducible rfl
    | (fail_if_no_progress (with_reducible refine mode_upd ?_)))

theorem lastUe_mode (h : s.ModeIs w) (m g cause : Nat) :
     (lastUe m g cause s).ModeIs w := by
  unfold lastUe
  repeat' (first
    | with_reducible assumption
    | exact off_ne0 _ rfl
    | exact off_ne1 _ _ (by decide)
    | exact off_ne2 _ _ _ (by decide)
    | exact fun _ => off_ne1 _ _ (by decide)
    | exact List.forall_mem_nil _
    | refine List.forall_mem_cons.2 ⟨?_, ?_⟩
    | with_reducible assumption
    | with_reducible apply puts_mode
    | (intro _ _)
    | intro _
    | dsimp only
    | split
    | with_reducible rfl
    | (fail_if_no_progress (with_reducible refine mode_upd ?_)))

theorem decodeG_mode (h : s.ModeIs w) (m g : Nat) :
     (decodeG m g s).2.ModeIs w := by
  unfold decodeG
  repeat' (first
    | with_reducible assumption
    | exact off_ne0 _ rfl
    | exact off_ne1 _ _ (by decide)
    | exact off_ne2 _ _ _ (by decide)
    | exact fun _ => off_ne1 _ _ (by decide)
    | exact List.forall_mem_nil _
    | refine List.forall_mem_cons.2 ⟨?_, ?_⟩
    | with_reducible assumption
    | with_reducible apply inc_mode
    | with_reducible apply puts_mode
    | with_reducible apply raiseFault_mode
    | with_reducible apply spareStart_mode
    | with_reducible apply poisonGranule_mode
    | with_reducible apply rowCorrected_mode
    | with_reducible apply lastUe_mode
    | (intro _ _)
    | intro _
    | dsimp only
    | split
    | with_reducible rfl
    | (fail_if_no_progress (with_reducible refine mode_upd ?_)))

theorem decodeRange_mode (h : s.ModeIs w) (m off n : Nat) :
     (decodeRange m off n s).2.ModeIs w := by
  unfold decodeRange
  repeat' (first
    | with_reducible assumption
    | exact off_ne0 _ rfl
    | exact off_ne1 _ _ (by decide)
    | exact off_ne2 _ _ _ (by decide)
    | exact fun _ => off_ne1 _ _ (by decide)
    | exact List.forall_mem_nil _
    | refine List.forall_mem_cons.2 ⟨?_, ?_⟩
    | with_reducible assumption
    | with_reducible apply decodeG_mode
    | with_reducible apply foldl_mode
    | with_reducible apply foldl_pair_mode
    | (intro _ _)
    | intro _
    | dsimp only
    | split
    | with_reducible rfl
    | (fail_if_no_progress (with_reducible refine mode_upd ?_)))

theorem serRead_mode (h : s.ModeIs w) (m off n : Nat) :
     (serRead m off n s).2.2.ModeIs w := by
  unfold serRead
  repeat' (first
    | with_reducible assumption
    | exact off_ne0 _ rfl
    | exact off_ne1 _ _ (by decide)
    | exact off_ne2 _ _ _ (by decide)
    | exact fun _ => off_ne1 _ _ (by decide)
    | exact List.forall_mem_nil _
    | refine List.forall_mem_cons.2 ⟨?_, ?_⟩
    | with_reducible assumption
    | with_reducible apply decodeRange_mode
    | (intro _ _)
    | intro _
    | dsimp only
    | split
    | with_reducible rfl
    | (fail_if_no_progress (with_reducible refine mode_upd ?_)))

theorem writeBlocked_mode (h : s.ModeIs w) (m off : Nat) :
     ∀ u, writeBlocked m off s = some u → u.ModeIs w := by
  intro u
  unfold writeBlocked
  repeat' (first
    | with_reducible assumption
    | exact off_ne0 _ rfl
    | exact off_ne1 _ _ (by decide)
    | exact off_ne2 _ _ _ (by decide)
    | exact fun _ => off_ne1 _ _ (by decide)
    | exact List.forall_mem_nil _
    | refine List.forall_mem_cons.2 ⟨?_, ?_⟩
    | with_reducible assumption
    | (intro ht; cases ht)
    | with_reducible apply flag_mode
    | with_reducible apply inc_mode
    | dsimp only
    | split
    | with_reducible rfl
    | (fail_if_no_progress (with_reducible refine mode_upd ?_))
    | (intro _ _)
    | intro _)

theorem storeG_mode (h : s.ModeIs w) (m off : Nat) (bs : List Byte) :
     (storeG m off bs s).ModeIs w := by
  unfold storeG
  repeat' (first
    | with_reducible assumption
    | exact off_ne0 _ rfl
    | exact off_ne1 _ _ (by decide)
    | exact off_ne2 _ _ _ (by decide)
    | exact fun _ => off_ne1 _ _ (by decide)
    | exact List.forall_mem_nil _
    | refine List.forall_mem_cons.2 ⟨?_, ?_⟩
    | with_reducible assumption
    | with_reducible apply poke_mode
    | with_reducible apply flag_mode
    | with_reducible apply inc_mode
    | with_reducible apply journal_mode
    | with_reducible apply decodeG_mode
    | (intro _ _)
    | intro _
    | dsimp only
    | split
    | with_reducible rfl
    | (fail_if_no_progress (with_reducible refine mode_upd ?_)))

theorem writeG_mode (h : s.ModeIs w) (m off : Nat) (bs : List Byte) :
     (writeG m off bs s).ModeIs w := by
  unfold writeG
  repeat' (first
    | with_reducible assumption
    | exact off_ne0 _ rfl
    | exact off_ne1 _ _ (by decide)
    | exact off_ne2 _ _ _ (by decide)
    | exact fun _ => off_ne1 _ _ (by decide)
    | exact List.forall_mem_nil _
    | refine List.forall_mem_cons.2 ⟨?_, ?_⟩
    | with_reducible assumption
    | with_reducible apply when_mode
    | with_reducible apply flag_mode
    | with_reducible apply inc_mode
    | with_reducible refine writeBlocked_mode ?_ _ _ _ (by assumption)
    | with_reducible apply storeG_mode
    | with_reducible refine pair_mode (by assumption) ?_
    | with_reducible refine triple_mode (by assumption) ?_
    | (intro _ _)
    | intro _
    | dsimp only
    | split
    | with_reducible rfl
    | (fail_if_no_progress (with_reducible refine mode_upd ?_)))

theorem serWrite_mode (h : s.ModeIs w) (m off : Nat) (bs : List Byte) :
     (serWrite m off bs s).ModeIs w := by
  unfold serWrite
  repeat' (first
    | with_reducible assumption
    | exact off_ne0 _ rfl
    | exact off_ne1 _ _ (by decide)
    | exact off_ne2 _ _ _ (by decide)
    | exact fun _ => off_ne1 _ _ (by decide)
    | exact List.forall_mem_nil _
    | refine List.forall_mem_cons.2 ⟨?_, ?_⟩
    | with_reducible assumption
    | with_reducible apply forAll_mode
    | with_reducible apply writeG_mode
    | (intro _ _)
    | intro _
    | dsimp only
    | split
    | with_reducible rfl
    | (fail_if_no_progress (with_reducible refine mode_upd ?_)))

theorem setIndex_mode (h : s.ModeIs w) (i : HeldIndex) (v : Nat) :
     (setIndex i v s).ModeIs w := by
  unfold setIndex
  repeat' (first
    | with_reducible assumption
    | exact off_ne0 _ rfl
    | exact off_ne1 _ _ (by decide)
    | exact off_ne2 _ _ _ (by decide)
    | exact fun _ => off_ne1 _ _ (by decide)
    | exact List.forall_mem_nil _
    | refine List.forall_mem_cons.2 ⟨?_, ?_⟩
    | with_reducible assumption
    | with_reducible apply put_mode
    | with_reducible apply evin_mode
    | with_reducible apply raiseVector_mode
    | with_reducible refine pair_mode (by assumption) ?_
    | with_reducible refine triple_mode (by assumption) ?_
    | (intro _ _)
    | intro _
    | dsimp only
    | split
    | with_reducible rfl
    | (fail_if_no_progress (with_reducible refine mode_upd ?_)))

theorem afterWrites_mode (h : s.ModeIs w) (m : Nat) (i : HeldIndex) (v : Nat) :
     (afterWrites m i v s).ModeIs w := by
  unfold afterWrites
  repeat' (first
    | with_reducible assumption
    | exact off_ne0 _ rfl
    | exact off_ne1 _ _ (by decide)
    | exact off_ne2 _ _ _ (by decide)
    | exact fun _ => off_ne1 _ _ (by decide)
    | exact List.forall_mem_nil _
    | refine List.forall_mem_cons.2 ⟨?_, ?_⟩
    | with_reducible assumption
    | with_reducible apply setIndex_mode
    | (intro _ _)
    | intro _
    | dsimp only
    | split
    | with_reducible rfl
    | (fail_if_no_progress (with_reducible refine mode_upd ?_)))

theorem landHeld_mode (h : s.ModeIs w) (e : HeldWrite) :
     (landHeld e s).ModeIs w := by
  unfold landHeld
  repeat' (first
    | with_reducible assumption
    | exact off_ne0 _ rfl
    | exact off_ne1 _ _ (by decide)
    | exact off_ne2 _ _ _ (by decide)
    | exact fun _ => off_ne1 _ _ (by decide)
    | exact List.forall_mem_nil _
    | refine List.forall_mem_cons.2 ⟨?_, ?_⟩
    | with_reducible assumption
    | with_reducible apply storeG_mode
    | with_reducible apply setIndex_mode
    | with_reducible refine pair_mode (by assumption) ?_
    | with_reducible refine triple_mode (by assumption) ?_
    | (intro _ _)
    | intro _
    | dsimp only
    | split
    | with_reducible rfl
    | (fail_if_no_progress (with_reducible refine mode_upd ?_)))

theorem forDrovers_mode (h : s.ModeIs w) (f : Fin 12 → State → State) (hf : ∀ a s, s.ModeIs w → (f a s).ModeIs w) :
     (forDrovers f s).ModeIs w := by
  unfold forDrovers
  repeat' (first
    | with_reducible assumption
    | exact off_ne0 _ rfl
    | exact off_ne1 _ _ (by decide)
    | exact off_ne2 _ _ _ (by decide)
    | exact fun _ => off_ne1 _ _ (by decide)
    | exact List.forall_mem_nil _
    | refine List.forall_mem_cons.2 ⟨?_, ?_⟩
    | with_reducible assumption
    | apply hf
    | with_reducible apply foldl_mode
    | with_reducible apply foldl_pair_mode
    | (intro _ _)
    | intro _
    | dsimp only
    | split
    | with_reducible rfl
    | (fail_if_no_progress (with_reducible refine mode_upd ?_)))

theorem enterVector_mode (h : s.ModeIs w) (n : Fin 12) (entry addr back : Nat) :
     (enterVector n entry addr back s).ModeIs w := by
  unfold enterVector
  repeat' (first
    | with_reducible assumption
    | exact off_ne0 _ rfl
    | exact off_ne1 _ _ (by decide)
    | exact off_ne2 _ _ _ (by decide)
    | exact fun _ => off_ne1 _ _ (by decide)
    | exact List.forall_mem_nil _
    | refine List.forall_mem_cons.2 ⟨?_, ?_⟩
    | with_reducible assumption
    | with_reducible apply modDrv_mode
    | with_reducible apply when_mode
    | with_reducible apply flag_mode
    | with_reducible apply puts_mode
    | with_reducible apply repeatAtEntry_wf
    | (intro _ _)
    | intro _
    | dsimp only
    | split
    | with_reducible rfl
    | (fail_if_no_progress (with_reducible refine mode_upd ?_)))

theorem dueVector_mode (h : s.ModeIs w) (n : Fin 12) (entry addr : Nat) :
     (dueVector n entry addr s).ModeIs w := by
  unfold dueVector
  repeat' (first
    | with_reducible assumption
    | exact off_ne0 _ rfl
    | exact off_ne1 _ _ (by decide)
    | exact off_ne2 _ _ _ (by decide)
    | exact fun _ => off_ne1 _ _ (by decide)
    | exact List.forall_mem_nil _
    | refine List.forall_mem_cons.2 ⟨?_, ?_⟩
    | with_reducible assumption
    | with_reducible apply modDrv_mode
    | with_reducible apply enterVector_mode
    | (intro _ _)
    | intro _
    | dsimp only
    | split
    | with_reducible rfl
    | (fail_if_no_progress (with_reducible refine mode_upd ?_)))

theorem modeVectors_mode (h : s.ModeIs w) (m : Nat) :
     (modeVectors m s).ModeIs w := by
  unfold modeVectors
  repeat' (first
    | with_reducible assumption
    | exact off_ne0 _ rfl
    | exact off_ne1 _ _ (by decide)
    | exact off_ne2 _ _ _ (by decide)
    | exact fun _ => off_ne1 _ _ (by decide)
    | exact List.forall_mem_nil _
    | refine List.forall_mem_cons.2 ⟨?_, ?_⟩
    | with_reducible assumption
    | with_reducible apply put_mode
    | with_reducible apply forDrovers_mode
    | with_reducible apply dueVector_mode
    | (intro _ _)
    | intro _
    | dsimp only
    | split
    | with_reducible rfl
    | (fail_if_no_progress (with_reducible refine mode_upd ?_)))

theorem stage_mode (h : s.ModeIs w) (f : Field) (v : Nat) (b : Boundary) (owner : Option Nat) :
     (stage f v b owner s).ModeIs w := by
  unfold stage
  repeat' (first
    | with_reducible assumption
    | exact off_ne0 _ rfl
    | exact off_ne1 _ _ (by decide)
    | exact off_ne2 _ _ _ (by decide)
    | exact fun _ => off_ne1 _ _ (by decide)
    | exact List.forall_mem_nil _
    | refine List.forall_mem_cons.2 ⟨?_, ?_⟩
    | with_reducible assumption
    | (intro _ _)
    | intro _
    | dsimp only
    | split
    | with_reducible rfl
    | (fail_if_no_progress (with_reducible refine mode_upd ?_)))

theorem sfDrop_mode (h : s.ModeIs w) :
     (sfDrop s).ModeIs w := by
  unfold sfDrop
  repeat' (first
    | with_reducible assumption
    | exact off_ne0 _ rfl
    | exact off_ne1 _ _ (by decide)
    | exact off_ne2 _ _ _ (by decide)
    | exact fun _ => off_ne1 _ _ (by decide)
    | exact List.forall_mem_nil _
    | refine List.forall_mem_cons.2 ⟨?_, ?_⟩
    | with_reducible assumption
    | with_reducible apply put_mode
    | with_reducible apply flag_mode
    | (intro _ _)
    | intro _
    | dsimp only
    | split
    | with_reducible rfl
    | (fail_if_no_progress (with_reducible refine mode_upd ?_)))

theorem sfUntie_mode (h : s.ModeIs w) :
     (sfUntie s).ModeIs w := by
  unfold sfUntie
  repeat' (first
    | with_reducible assumption
    | exact off_ne0 _ rfl
    | exact off_ne1 _ _ (by decide)
    | exact off_ne2 _ _ _ (by decide)
    | exact fun _ => off_ne1 _ _ (by decide)
    | exact List.forall_mem_nil _
    | refine List.forall_mem_cons.2 ⟨?_, ?_⟩
    | with_reducible assumption
    | with_reducible apply put_mode
    | with_reducible refine pair_mode (by assumption) ?_
    | with_reducible refine triple_mode (by assumption) ?_
    | (intro _ _)
    | intro _
    | dsimp only
    | split
    | with_reducible rfl
    | (fail_if_no_progress (with_reducible refine mode_upd ?_)))

theorem manCancel_mode (h : s.ModeIs w) (cause missing : Nat) :
     (manCancel cause missing s).ModeIs w := by
  unfold manCancel
  repeat' (first
    | with_reducible assumption
    | exact off_ne0 _ rfl
    | exact off_ne1 _ _ (by decide)
    | exact off_ne2 _ _ _ (by decide)
    | exact fun _ => off_ne1 _ _ (by decide)
    | exact List.forall_mem_nil _
    | refine List.forall_mem_cons.2 ⟨?_, ?_⟩
    | with_reducible assumption
    | with_reducible apply when_mode
    | with_reducible apply flag_mode
    | with_reducible apply puts_mode
    | with_reducible apply raiseVector_mode
    | with_reducible apply sfUntie_mode
    | (intro _ _)
    | intro _
    | dsimp only
    | split
    | with_reducible rfl
    | (fail_if_no_progress (with_reducible refine mode_upd ?_)))

theorem manModeCancel_mode (h : s.ModeIs w) :
     (manModeCancel s).ModeIs w := by
  unfold manModeCancel
  repeat' (first
    | with_reducible assumption
    | exact off_ne0 _ rfl
    | exact off_ne1 _ _ (by decide)
    | exact off_ne2 _ _ _ (by decide)
    | exact fun _ => off_ne1 _ _ (by decide)
    | exact List.forall_mem_nil _
    | refine List.forall_mem_cons.2 ⟨?_, ?_⟩
    | with_reducible assumption
    | with_reducible apply manCancel_mode
    | (intro _ _)
    | intro _
    | dsimp only
    | split
    | with_reducible rfl
    | (fail_if_no_progress (with_reducible refine mode_upd ?_)))

theorem rxForget_mode (h : s.ModeIs w) (r : Rx) :
     (rxForget r s).ModeIs w := by
  unfold rxForget
  repeat' (first
    | with_reducible assumption
    | exact off_ne0 _ rfl
    | exact off_ne1 _ _ (by decide)
    | exact off_ne2 _ _ _ (by decide)
    | exact fun _ => off_ne1 _ _ (by decide)
    | exact List.forall_mem_nil _
    | refine List.forall_mem_cons.2 ⟨?_, ?_⟩
    | with_reducible assumption
    | (intro _ _)
    | intro _
    | dsimp only
    | split
    | with_reducible rfl
    | (fail_if_no_progress (with_reducible refine mode_upd ?_)))

theorem poolReturn_mode (h : s.ModeIs w) (r : Rx) :
     (poolReturn r s).ModeIs w := by
  unfold poolReturn
  repeat' (first
    | with_reducible assumption
    | exact off_ne0 _ rfl
    | exact off_ne1 _ _ (by decide)
    | exact off_ne2 _ _ _ (by decide)
    | exact fun _ => off_ne1 _ _ (by decide)
    | exact List.forall_mem_nil _
    | refine List.forall_mem_cons.2 ⟨?_, ?_⟩
    | with_reducible assumption
    | (intro _ _)
    | intro _
    | dsimp only
    | split
    | with_reducible rfl
    | (fail_if_no_progress (with_reducible refine mode_upd ?_)))

theorem ringPut_mode (h : s.ModeIs w) (n : Fin 12) (d : Desc) :
    ∀ u, ringPut n d s = some u → u.ModeIs w := by
  unfold ringPut
  extract_lets len wr q s1 z s2
  have h1 : s1.ModeIs w := serWrite_mode h _ _ _
  have h2 : s2.ModeIs w := by refine mode_upd ?_; exact h1
  clear_value wr s2
  exact opt_ite_mode (fun _ hu => nomatch hu) fun u hu => by cases hu; exact afterWrites_mode h2 _ _ _

theorem rxPut_mode (h : s.ModeIs w) (r : Rx) (len : Nat) (fin : Option (Nat × Int × Bool)) :
     ∀ u, rxPut r len fin s = some u → u.ModeIs w := by
  intro u
  unfold rxPut
  repeat' (first
    | with_reducible assumption
    | exact off_ne0 _ rfl
    | exact off_ne1 _ _ (by decide)
    | exact off_ne2 _ _ _ (by decide)
    | exact fun _ => off_ne1 _ _ (by decide)
    | exact List.forall_mem_nil _
    | refine List.forall_mem_cons.2 ⟨?_, ?_⟩
    | with_reducible assumption
    | (intro ht; cases ht)
    | with_reducible refine ringPut_mode ?_ _ _ _ (by assumption)
    | with_reducible apply bind_mode
    | dsimp only
    | split
    | with_reducible rfl
    | (fail_if_no_progress (with_reducible refine mode_upd ?_))
    | (intro _ _)
    | intro _)

theorem dropEnd_mode (h : s.ModeIs w) (fin : Option (Nat × Int)) :
     (dropEnd fin s).2.ModeIs w := by
  unfold dropEnd
  repeat' (first
    | with_reducible assumption
    | exact off_ne0 _ rfl
    | exact off_ne1 _ _ (by decide)
    | exact off_ne2 _ _ _ (by decide)
    | exact fun _ => off_ne1 _ _ (by decide)
    | exact List.forall_mem_nil _
    | refine List.forall_mem_cons.2 ⟨?_, ?_⟩
    | with_reducible assumption
    | with_reducible apply fresh_mode
    | with_reducible refine pair_mode (by assumption) ?_
    | with_reducible refine triple_mode (by assumption) ?_
    | (intro _ _)
    | intro _
    | dsimp only
    | split
    | with_reducible rfl
    | (fail_if_no_progress (with_reducible refine mode_upd ?_)))

theorem rxDrop_mode (h : s.ModeIs w) (k : Nat) (fin : Option (Nat × Int)) (r : Rx) :
     (rxDrop k fin r s).ModeIs w := by
  unfold rxDrop
  repeat' (first
    | with_reducible assumption
    | exact off_ne0 _ rfl
    | exact off_ne1 _ _ (by decide)
    | exact off_ne2 _ _ _ (by decide)
    | exact fun _ => off_ne1 _ _ (by decide)
    | exact List.forall_mem_nil _
    | refine List.forall_mem_cons.2 ⟨?_, ?_⟩
    | with_reducible assumption
    | with_reducible apply inc_mode
    | with_reducible apply rxForget_mode
    | with_reducible apply poolReturn_mode
    | with_reducible refine rxPut_mode ?_ _ _ _ _ (by assumption)
    | with_reducible apply dropEnd_mode
    | with_reducible apply getD_map_mode
    | with_reducible apply getD_mode
    | (intro _ _)
    | intro _
    | dsimp only
    | split
    | with_reducible rfl
    | (fail_if_no_progress (with_reducible refine mode_upd ?_)))

theorem rxPowerDown_mode (h : s.ModeIs w) :
     (rxPowerDown s).ModeIs w := by
  unfold rxPowerDown
  repeat' (first
    | with_reducible assumption
    | exact off_ne0 _ rfl
    | exact off_ne1 _ _ (by decide)
    | exact off_ne2 _ _ _ (by decide)
    | exact fun _ => off_ne1 _ _ (by decide)
    | exact List.forall_mem_nil _
    | refine List.forall_mem_cons.2 ⟨?_, ?_⟩
    | with_reducible assumption
    | with_reducible apply forAll_mode
    | with_reducible apply puts_mode
    | with_reducible apply rxDrop_mode
    | (intro _ _)
    | intro _
    | dsimp only
    | split
    | with_reducible rfl
    | (fail_if_no_progress (with_reducible refine mode_upd ?_)))

theorem rxPowerUp_mode (h : s.ModeIs w) :
     (rxPowerUp s).ModeIs w := by
  unfold rxPowerUp
  repeat' (first
    | with_reducible assumption
    | exact off_ne0 _ rfl
    | exact off_ne1 _ _ (by decide)
    | exact off_ne2 _ _ _ (by decide)
    | exact fun _ => off_ne1 _ _ (by decide)
    | exact List.forall_mem_nil _
    | refine List.forall_mem_cons.2 ⟨?_, ?_⟩
    | with_reducible assumption
    | with_reducible apply puts_mode
    | (intro _ _)
    | intro _
    | dsimp only
    | split
    | with_reducible rfl
    | (fail_if_no_progress (with_reducible refine mode_upd ?_)))

theorem setTxo_mode (h : s.ModeIs w) (o : Nat) (t : TxOut) :
     (State.setTxo s o t).ModeIs w := by
  unfold State.setTxo
  repeat' (first
    | with_reducible assumption
    | exact off_ne0 _ rfl
    | exact off_ne1 _ _ (by decide)
    | exact off_ne2 _ _ _ (by decide)
    | exact fun _ => off_ne1 _ _ (by decide)
    | exact List.forall_mem_nil _
    | refine List.forall_mem_cons.2 ⟨?_, ?_⟩
    | with_reducible assumption
    | (intro _ _)
    | intro _
    | dsimp only
    | split
    | with_reducible rfl
    | (fail_if_no_progress (with_reducible refine mode_upd ?_)))

theorem showBusy_mode (h : s.ModeIs w) :
     (showBusy s).ModeIs w := by
  unfold showBusy
  repeat' (first
    | with_reducible assumption
    | exact off_ne0 _ rfl
    | exact off_ne1 _ _ (by decide)
    | exact off_ne2 _ _ _ (by decide)
    | exact fun _ => off_ne1 _ _ (by decide)
    | exact List.forall_mem_nil _
    | refine List.forall_mem_cons.2 ⟨?_, ?_⟩
    | with_reducible assumption
    | with_reducible apply put_mode
    | (intro _ _)
    | intro _
    | dsimp only
    | split
    | with_reducible rfl
    | (fail_if_no_progress (with_reducible refine mode_upd ?_)))

theorem addCarrier_mode (h : s.ModeIs w) (c : Carrier) :
     (addCarrier c s).ModeIs w := by
  unfold addCarrier
  repeat' (first
    | with_reducible assumption
    | exact off_ne0 _ rfl
    | exact off_ne1 _ _ (by decide)
    | exact off_ne2 _ _ _ (by decide)
    | exact fun _ => off_ne1 _ _ (by decide)
    | exact List.forall_mem_nil _
    | refine List.forall_mem_cons.2 ⟨?_, ?_⟩
    | with_reducible assumption
    | (intro _ _)
    | intro _
    | dsimp only
    | split
    | with_reducible rfl
    | (fail_if_no_progress (with_reducible refine mode_upd ?_)))

theorem dropPlanned_mode (h : s.ModeIs w) :
     (dropPlanned s).ModeIs w := by
  unfold dropPlanned
  repeat' (first
    | with_reducible assumption
    | exact off_ne0 _ rfl
    | exact off_ne1 _ _ (by decide)
    | exact off_ne2 _ _ _ (by decide)
    | exact fun _ => off_ne1 _ _ (by decide)
    | exact List.forall_mem_nil _
    | refine List.forall_mem_cons.2 ⟨?_, ?_⟩
    | with_reducible assumption
    | (intro _ _)
    | intro _
    | dsimp only
    | split
    | with_reducible rfl
    | (fail_if_no_progress (with_reducible refine mode_upd ?_)))

theorem countGone_mode (h : s.ModeIs w) (c : Carrier) :
     (countGone c s).ModeIs w := by
  unfold countGone
  repeat' (first
    | with_reducible assumption
    | exact off_ne0 _ rfl
    | exact off_ne1 _ _ (by decide)
    | exact off_ne2 _ _ _ (by decide)
    | exact fun _ => off_ne1 _ _ (by decide)
    | exact List.forall_mem_nil _
    | refine List.forall_mem_cons.2 ⟨?_, ?_⟩
    | with_reducible assumption
    | with_reducible apply inc_mode
    | (intro _ _)
    | intro _
    | dsimp only
    | split
    | with_reducible rfl
    | (fail_if_no_progress (with_reducible refine mode_upd ?_)))

theorem takeAck_mode (h : s.ModeIs w) (off : Nat) :
     (takeAck off s).ModeIs w := by
  unfold takeAck
  repeat' (first
    | with_reducible assumption
    | exact off_ne0 _ rfl
    | exact off_ne1 _ _ (by decide)
    | exact off_ne2 _ _ _ (by decide)
    | exact fun _ => off_ne1 _ _ (by decide)
    | exact List.forall_mem_nil _
    | refine List.forall_mem_cons.2 ⟨?_, ?_⟩
    | with_reducible assumption
    | with_reducible apply flag_mode
    | with_reducible apply inc_mode
    | with_reducible apply serRead_mode
    | with_reducible apply addCarrier_mode
    | (intro _ _)
    | intro _
    | dsimp only
    | split
    | with_reducible rfl
    | (fail_if_no_progress (with_reducible refine mode_upd ?_)))

theorem ackDrain_mode (j : Nat) (x0 : Nat) :
     ∀ {s : State}, s.ModeIs w → (ackDrain j x0 s).ModeIs w := by
  induction x0 with
  | zero => intro s h; unfold ackDrain; exact h
  | succ k ih =>
    intro s h
    unfold ackDrain
    repeat' (first
      | with_reducible assumption
      | exact off_ne0 _ rfl
      | exact off_ne1 _ _ (by decide)
      | exact off_ne2 _ _ _ (by decide)
      | exact fun _ => off_ne1 _ _ (by decide)
      | exact List.forall_mem_nil _
      | refine List.forall_mem_cons.2 ⟨?_, ?_⟩
      | with_reducible assumption
      | with_reducible apply ih
      | with_reducible apply put_mode
      | with_reducible apply takeAck_mode
      | (intro _ _)
      | intro _
      | dsimp only
      | split
      | with_reducible rfl
      | (fail_if_no_progress (with_reducible refine mode_upd ?_)))

theorem ackEffect_mode (h : s.ModeIs w) (j v : Nat) :
     (ackEffect j v s).ModeIs w := by
  unfold ackEffect
  repeat' (first
    | with_reducible assumption
    | exact off_ne0 _ rfl
    | exact off_ne1 _ _ (by decide)
    | exact off_ne2 _ _ _ (by decide)
    | exact fun _ => off_ne1 _ _ (by decide)
    | exact List.forall_mem_nil _
    | refine List.forall_mem_cons.2 ⟨?_, ?_⟩
    | with_reducible assumption
    | with_reducible apply put_mode
    | with_reducible apply ackDrain_mode
    | (intro _ _)
    | intro _
    | dsimp only
    | split
    | with_reducible rfl
    | (fail_if_no_progress (with_reducible refine mode_upd ?_)))

theorem ackRelease_mode (h : s.ModeIs w) :
     (ackRelease s).ModeIs w := by
  unfold ackRelease
  repeat' (first
    | with_reducible assumption
    | exact off_ne0 _ rfl
    | exact off_ne1 _ _ (by decide)
    | exact off_ne2 _ _ _ (by decide)
    | exact fun _ => off_ne1 _ _ (by decide)
    | exact List.forall_mem_nil _
    | refine List.forall_mem_cons.2 ⟨?_, ?_⟩
    | with_reducible assumption
    | with_reducible apply forAll_mode
    | with_reducible apply ackEffect_mode
    | (intro _ _)
    | intro _
    | dsimp only
    | split
    | with_reducible rfl
    | (fail_if_no_progress (with_reducible refine mode_upd ?_)))

theorem ackDiscard_mode (h : s.ModeIs w) :
     (ackDiscard s).ModeIs w := by
  unfold ackDiscard
  repeat' (first
    | with_reducible assumption
    | exact off_ne0 _ rfl
    | exact off_ne1 _ _ (by decide)
    | exact off_ne2 _ _ _ (by decide)
    | exact fun _ => off_ne1 _ _ (by decide)
    | exact List.forall_mem_nil _
    | refine List.forall_mem_cons.2 ⟨?_, ?_⟩
    | with_reducible assumption
    | with_reducible apply forN_mode
    | with_reducible apply put_mode
    | (intro _ _)
    | intro _
    | dsimp only
    | split
    | with_reducible rfl
    | (fail_if_no_progress (with_reducible refine mode_upd ?_)))

theorem txEstop_mode (h : s.ModeIs w) :
     (txEstop s).ModeIs w := by
  unfold txEstop
  repeat' (first
    | with_reducible assumption
    | exact off_ne0 _ rfl
    | exact off_ne1 _ _ (by decide)
    | exact off_ne2 _ _ _ (by decide)
    | exact fun _ => off_ne1 _ _ (by decide)
    | exact List.forall_mem_nil _
    | refine List.forall_mem_cons.2 ⟨?_, ?_⟩
    | with_reducible assumption
    | with_reducible apply forAll_mode
    | with_reducible apply dropPlanned_mode
    | with_reducible apply countGone_mode
    | (intro _ _)
    | intro _
    | dsimp only
    | split
    | with_reducible rfl
    | (fail_if_no_progress (with_reducible refine mode_upd ?_)))

theorem txSafe_mode (h : s.ModeIs w) :
     (txSafe s).ModeIs w := by
  unfold txSafe
  repeat' (first
    | with_reducible assumption
    | exact off_ne0 _ rfl
    | exact off_ne1 _ _ (by decide)
    | exact off_ne2 _ _ _ (by decide)
    | exact fun _ => off_ne1 _ _ (by decide)
    | exact List.forall_mem_nil _
    | refine List.forall_mem_cons.2 ⟨?_, ?_⟩
    | with_reducible assumption
    | with_reducible apply forN_mode
    | with_reducible apply setTxo_mode
    | with_reducible apply showBusy_mode
    | with_reducible apply getD_map_mode
    | with_reducible apply getD_mode
    | (intro _ _)
    | intro _
    | dsimp only
    | split
    | with_reducible rfl
    | (fail_if_no_progress (with_reducible refine mode_upd ?_)))

theorem modLane_mode (h : s.ModeIs w) (l : Fin 2) (f : Lane → Lane) :
     (State.modLane s l f).ModeIs w := by
  unfold State.modLane
  repeat' (first
    | with_reducible assumption
    | exact off_ne0 _ rfl
    | exact off_ne1 _ _ (by decide)
    | exact off_ne2 _ _ _ (by decide)
    | exact fun _ => off_ne1 _ _ (by decide)
    | exact List.forall_mem_nil _
    | refine List.forall_mem_cons.2 ⟨?_, ?_⟩
    | with_reducible assumption
    | (intro _ _)
    | intro _
    | dsimp only
    | split
    | with_reducible rfl
    | (fail_if_no_progress (with_reducible refine mode_upd ?_)))

theorem setLaneState_mode (h : s.ModeIs w) (l : Fin 2) (v : Nat) :
     (setLaneState l v s).ModeIs w := by
  unfold setLaneState
  repeat' (first
    | with_reducible assumption
    | exact off_ne0 _ rfl
    | exact off_ne1 _ _ (by decide)
    | exact off_ne2 _ _ _ (by decide)
    | exact fun _ => off_ne1 _ _ (by decide)
    | exact List.forall_mem_nil _
    | refine List.forall_mem_cons.2 ⟨?_, ?_⟩
    | with_reducible assumption
    | with_reducible apply put_mode
    | (intro _ _)
    | intro _
    | dsimp only
    | split
    | with_reducible rfl
    | (fail_if_no_progress (with_reducible refine mode_upd ?_)))

theorem dwellOn_mode (h : s.ModeIs w) (l : Fin 2) (c : Option Nat) :
     (dwellOn l c s).ModeIs w := by
  unfold dwellOn
  repeat' (first
    | with_reducible assumption
    | exact off_ne0 _ rfl
    | exact off_ne1 _ _ (by decide)
    | exact off_ne2 _ _ _ (by decide)
    | exact fun _ => off_ne1 _ _ (by decide)
    | exact List.forall_mem_nil _
    | refine List.forall_mem_cons.2 ⟨?_, ?_⟩
    | with_reducible assumption
    | with_reducible apply put_mode
    | with_reducible apply modLane_mode
    | with_reducible refine pair_mode (by assumption) ?_
    | with_reducible refine triple_mode (by assumption) ?_
    | (intro _ _)
    | intro _
    | dsimp only
    | split
    | with_reducible rfl
    | (fail_if_no_progress (with_reducible refine mode_upd ?_)))

theorem enterSearch_mode (h : s.ModeIs w) (l : Fin 2) :
     (enterSearch l s).ModeIs w := by
  unfold enterSearch
  repeat' (first
    | with_reducible assumption
    | exact off_ne0 _ rfl
    | exact off_ne1 _ _ (by decide)
    | exact off_ne2 _ _ _ (by decide)
    | exact fun _ => off_ne1 _ _ (by decide)
    | exact List.forall_mem_nil _
    | refine List.forall_mem_cons.2 ⟨?_, ?_⟩
    | with_reducible assumption
    | with_reducible apply modLane_mode
    | with_reducible apply setLaneState_mode
    | with_reducible apply dwellOn_mode
    | (intro _ _)
    | intro _
    | dsimp only
    | split
    | with_reducible rfl
    | (fail_if_no_progress (with_reducible refine mode_upd ?_)))

theorem laneStatus_mode (h : s.ModeIs w) (base st : Nat) :
     (laneStatus base st s).ModeIs w := by
  unfold laneStatus
  repeat' (first
    | with_reducible assumption
    | exact off_ne0 _ rfl
    | exact off_ne1 _ _ (by decide)
    | exact off_ne2 _ _ _ (by decide)
    | exact fun _ => off_ne1 _ _ (by decide)
    | exact List.forall_mem_nil _
    | refine List.forall_mem_cons.2 ⟨?_, ?_⟩
    | with_reducible assumption
    | with_reducible apply serWrite_mode
    | (intro _ _)
    | intro _
    | dsimp only
    | split
    | with_reducible rfl
    | (fail_if_no_progress (with_reducible refine mode_upd ?_)))

theorem dropPins_mode (h : s.ModeIs w) (l : Fin 2) :
     (dropPins l s).ModeIs w := by
  unfold dropPins
  repeat' (first
    | with_reducible assumption
    | exact off_ne0 _ rfl
    | exact off_ne1 _ _ (by decide)
    | exact off_ne2 _ _ _ (by decide)
    | exact fun _ => off_ne1 _ _ (by decide)
    | exact List.forall_mem_nil _
    | refine List.forall_mem_cons.2 ⟨?_, ?_⟩
    | with_reducible assumption
    | with_reducible apply modLane_mode
    | (intro _ _)
    | intro _
    | dsimp only
    | split
    | with_reducible rfl
    | (fail_if_no_progress (with_reducible refine mode_upd ?_)))

theorem laneEnd_mode (h : s.ModeIs w) (l : Fin 2) (st : Nat) :
     (laneEnd l st s).ModeIs w := by
  unfold laneEnd
  repeat' (first
    | with_reducible assumption
    | exact off_ne0 _ rfl
    | exact off_ne1 _ _ (by decide)
    | exact off_ne2 _ _ _ (by decide)
    | exact fun _ => off_ne1 _ _ (by decide)
    | exact List.forall_mem_nil _
    | refine List.forall_mem_cons.2 ⟨?_, ?_⟩
    | with_reducible assumption
    | with_reducible apply modLane_mode
    | with_reducible apply laneStatus_mode
    | with_reducible apply dropPins_mode
    | (intro _ _)
    | intro _
    | dsimp only
    | split
    | with_reducible rfl
    | (fail_if_no_progress (with_reducible refine mode_upd ?_)))

theorem laneWrEffect_mode (h : s.ModeIs w) (l : Fin 2) (v : Nat) :
     (laneWrEffect l v s).ModeIs w := by
  unfold laneWrEffect
  repeat' (first
    | with_reducible assumption
    | exact off_ne0 _ rfl
    | exact off_ne1 _ _ (by decide)
    | exact off_ne2 _ _ _ (by decide)
    | exact fun _ => off_ne1 _ _ (by decide)
    | exact List.forall_mem_nil _
    | refine List.forall_mem_cons.2 ⟨?_, ?_⟩
    | with_reducible assumption
    | with_reducible apply put_mode
    | with_reducible apply modLane_mode
    | (intro _ _)
    | intro _
    | dsimp only
    | split
    | with_reducible rfl
    | (fail_if_no_progress (with_reducible refine mode_upd ?_)))

theorem laneRelease_mode (h : s.ModeIs w) :
     (laneRelease s).ModeIs w := by
  unfold laneRelease
  repeat' (first
    | with_reducible assumption
    | exact off_ne0 _ rfl
    | exact off_ne1 _ _ (by decide)
    | exact off_ne2 _ _ _ (by decide)
    | exact fun _ => off_ne1 _ _ (by decide)
    | exact List.forall_mem_nil _
    | refine List.forall_mem_cons.2 ⟨?_, ?_⟩
    | with_reducible assumption
    | with_reducible apply forAll_mode
    | with_reducible apply laneWrEffect_mode
    | (intro _ _)
    | intro _
    | dsimp only
    | split
    | with_reducible rfl
    | (fail_if_no_progress (with_reducible refine mode_upd ?_)))

theorem laneStart_mode (h : s.ModeIs w) (l : Fin 2) :
     (laneStart l s).ModeIs w := by
  unfold laneStart
  repeat' (first
    | with_reducible assumption
    | exact off_ne0 _ rfl
    | exact off_ne1 _ _ (by decide)
    | exact off_ne2 _ _ _ (by decide)
    | exact fun _ => off_ne1 _ _ (by decide)
    | exact List.forall_mem_nil _
    | refine List.forall_mem_cons.2 ⟨?_, ?_⟩
    | with_reducible assumption
    | with_reducible apply modLane_mode
    | with_reducible apply setLaneState_mode
    | with_reducible apply enterSearch_mode
    | (intro _ _)
    | intro _
    | dsimp only
    | split
    | with_reducible rfl
    | (fail_if_no_progress (with_reducible refine mode_upd ?_)))

theorem laneStop_mode (h : s.ModeIs w) (l : Fin 2) :
     (laneStop l s).ModeIs w := by
  unfold laneStop
  repeat' (first
    | with_reducible assumption
    | exact off_ne0 _ rfl
    | exact off_ne1 _ _ (by decide)
    | exact off_ne2 _ _ _ (by decide)
    | exact fun _ => off_ne1 _ _ (by decide)
    | exact List.forall_mem_nil _
    | refine List.forall_mem_cons.2 ⟨?_, ?_⟩
    | with_reducible assumption
    | with_reducible apply setReg_mode
    | with_reducible apply modLane_mode
    | (intro _ _)
    | intro _
    | dsimp only
    | split
    | with_reducible rfl
    | (fail_if_no_progress (with_reducible refine mode_upd ?_)))

theorem laneQuit_mode (h : s.ModeIs w) (l : Fin 2) :
     (laneQuit l s).ModeIs w := by
  unfold laneQuit
  repeat' (first
    | with_reducible assumption
    | exact off_ne0 _ rfl
    | exact off_ne1 _ _ (by decide)
    | exact off_ne2 _ _ _ (by decide)
    | exact fun _ => off_ne1 _ _ (by decide)
    | exact List.forall_mem_nil _
    | refine List.forall_mem_cons.2 ⟨?_, ?_⟩
    | with_reducible assumption
    | with_reducible apply setReg_mode
    | with_reducible apply puts_mode
    | with_reducible apply modLane_mode
    | with_reducible apply laneEnd_mode
    | with_reducible apply laneStop_mode
    | (intro _ _)
    | intro _
    | dsimp only
    | split
    | with_reducible rfl
    | (fail_if_no_progress (with_reducible refine mode_upd ?_)))

theorem flsBlankSector_mode (h : s.ModeIs w) (k : Nat) :
     (flsBlankSector k s).ModeIs w := by
  unfold flsBlankSector
  repeat' (first
    | with_reducible assumption
    | exact off_ne0 _ rfl
    | exact off_ne1 _ _ (by decide)
    | exact off_ne2 _ _ _ (by decide)
    | exact fun _ => off_ne1 _ _ (by decide)
    | exact List.forall_mem_nil _
    | refine List.forall_mem_cons.2 ⟨?_, ?_⟩
    | with_reducible assumption
    | (intro _ _)
    | intro _
    | dsimp only
    | split
    | with_reducible rfl
    | (fail_if_no_progress (with_reducible refine mode_upd ?_)))

theorem openAdd_mode (h : s.ModeIs w) (k : Nat) (failed : Bool) :
     (openAdd k failed s).ModeIs w := by
  unfold openAdd
  repeat' (first
    | with_reducible assumption
    | exact off_ne0 _ rfl
    | exact off_ne1 _ _ (by decide)
    | exact off_ne2 _ _ _ (by decide)
    | exact fun _ => off_ne1 _ _ (by decide)
    | exact List.forall_mem_nil _
    | refine List.forall_mem_cons.2 ⟨?_, ?_⟩
    | with_reducible assumption
    | with_reducible apply put_mode
    | with_reducible apply puts_mode
    | with_reducible refine pair_mode (by assumption) ?_
    | with_reducible refine triple_mode (by assumption) ?_
    | (intro _ _)
    | intro _
    | dsimp only
    | split
    | with_reducible rfl
    | (fail_if_no_progress (with_reducible refine mode_upd ?_)))

theorem flsScan_mode (h : s.ModeIs w) :
     (flsScan s).ModeIs w := by
  unfold flsScan
  repeat' (first
    | with_reducible assumption
    | exact off_ne0 _ rfl
    | exact off_ne1 _ _ (by decide)
    | exact off_ne2 _ _ _ (by decide)
    | exact fun _ => off_ne1 _ _ (by decide)
    | exact List.forall_mem_nil _
    | refine List.forall_mem_cons.2 ⟨?_, ?_⟩
    | with_reducible assumption
    | with_reducible apply forAll_mode
    | with_reducible apply flsBlankSector_mode
    | with_reducible apply openAdd_mode
    | with_reducible refine pair_mode (by assumption) ?_
    | with_reducible refine triple_mode (by assumption) ?_
    | with_reducible apply foldl_mode
    | with_reducible apply foldl_pair_mode
    | (intro _ _)
    | intro _
    | dsimp only
    | split
    | with_reducible rfl
    | (fail_if_no_progress (with_reducible refine mode_upd ?_)))

theorem calLoad_mode (h : s.ModeIs w) :
     (calLoad s).ModeIs w := by
  unfold calLoad
  repeat' (first
    | with_reducible assumption
    | exact off_ne0 _ rfl
    | exact off_ne1 _ _ (by decide)
    | exact off_ne2 _ _ _ (by decide)
    | exact fun _ => off_ne1 _ _ (by decide)
    | exact List.forall_mem_nil _
    | refine List.forall_mem_cons.2 ⟨?_, ?_⟩
    | with_reducible assumption
    | with_reducible apply puts_mode
    | with_reducible refine pair_mode (by assumption) ?_
    | with_reducible refine triple_mode (by assumption) ?_
    | (intro _ _)
    | intro _
    | dsimp only
    | split
    | with_reducible rfl
    | (fail_if_no_progress (with_reducible refine mode_upd ?_)))

theorem secPatch_mode (h : s.ModeIs w) (node j at_ : Nat) (f : List Byte → List Byte) :
     (secPatch node j at_ f s).ModeIs w := by
  unfold secPatch
  repeat' (first
    | with_reducible assumption
    | exact off_ne0 _ rfl
    | exact off_ne1 _ _ (by decide)
    | exact off_ne2 _ _ _ (by decide)
    | exact fun _ => off_ne1 _ _ (by decide)
    | exact List.forall_mem_nil _
    | refine List.forall_mem_cons.2 ⟨?_, ?_⟩
    | with_reducible assumption
    | with_reducible apply serRead_mode
    | with_reducible apply serWrite_mode
    | (intro _ _)
    | intro _
    | dsimp only
    | split
    | with_reducible rfl
    | (fail_if_no_progress (with_reducible refine mode_upd ?_)))

theorem leaseApply_mode (h : s.ModeIs w) (l : Lease) :
     (leaseApply l s).ModeIs w := by
  unfold leaseApply
  repeat' (first
    | with_reducible assumption
    | exact off_ne0 _ rfl
    | exact off_ne1 _ _ (by decide)
    | exact off_ne2 _ _ _ (by decide)
    | exact fun _ => off_ne1 _ _ (by decide)
    | exact List.forall_mem_nil _
    | refine List.forall_mem_cons.2 ⟨?_, ?_⟩
    | with_reducible assumption
    | with_reducible apply put_mode
    | with_reducible apply secPatch_mode
    | (intro _ _)
    | intro _
    | dsimp only
    | split
    | with_reducible rfl
    | (fail_if_no_progress (with_reducible refine mode_upd ?_)))

theorem leasesDue_mode (h : s.ModeIs w) :
     (leasesDue s).ModeIs w := by
  unfold leasesDue
  repeat' (first
    | with_reducible assumption
    | exact off_ne0 _ rfl
    | exact off_ne1 _ _ (by decide)
    | exact off_ne2 _ _ _ (by decide)
    | exact fun _ => off_ne1 _ _ (by decide)
    | exact List.forall_mem_nil _
    | refine List.forall_mem_cons.2 ⟨?_, ?_⟩
    | with_reducible assumption
    | with_reducible apply forAll_mode
    | with_reducible apply leaseApply_mode
    | (intro _ _)
    | intro _
    | dsimp only
    | split
    | with_reducible rfl
    | (fail_if_no_progress (with_reducible refine mode_upd ?_)))

theorem leasesAlone_mode (h : s.ModeIs w) :
     (leasesAlone s).ModeIs w := by
  unfold leasesAlone
  repeat' (first
    | with_reducible assumption
    | exact off_ne0 _ rfl
    | exact off_ne1 _ _ (by decide)
    | exact off_ne2 _ _ _ (by decide)
    | exact fun _ => off_ne1 _ _ (by decide)
    | exact List.forall_mem_nil _
    | refine List.forall_mem_cons.2 ⟨?_, ?_⟩
    | with_reducible assumption
    | with_reducible apply leasesDue_mode
    | (intro _ _)
    | intro _
    | dsimp only
    | split
    | with_reducible rfl
    | (fail_if_no_progress (with_reducible refine mode_upd ?_)))

theorem modCu_mode (h : s.ModeIs w) (u : CU) (f : CiphUnit → CiphUnit) :
     (State.modCu s u f).ModeIs w := by
  unfold State.modCu
  repeat' (first
    | with_reducible assumption
    | exact off_ne0 _ rfl
    | exact off_ne1 _ _ (by decide)
    | exact off_ne2 _ _ _ (by decide)
    | exact fun _ => off_ne1 _ _ (by decide)
    | exact List.forall_mem_nil _
    | refine List.forall_mem_cons.2 ⟨?_, ?_⟩
    | with_reducible assumption
    | (intro _ _)
    | intro _
    | dsimp only
    | split
    | with_reducible rfl
    | (fail_if_no_progress (with_reducible refine mode_upd ?_)))

theorem wipeUnit_mode (h : s.ModeIs w) (u : CU) :
     (wipeUnit u s).ModeIs w := by
  unfold wipeUnit
  repeat' (first
    | with_reducible assumption
    | exact off_ne0 _ rfl
    | exact off_ne1 _ _ (by decide)
    | exact off_ne2 _ _ _ (by decide)
    | exact fun _ => off_ne1 _ _ (by decide)
    | exact List.forall_mem_nil _
    | refine List.forall_mem_cons.2 ⟨?_, ?_⟩
    | with_reducible assumption
    | with_reducible apply puts_mode
    | with_reducible apply modCu_mode
    | (intro _ _)
    | intro _
    | dsimp only
    | split
    | with_reducible rfl
    | (fail_if_no_progress (with_reducible refine mode_upd ?_)))

theorem endClaim_mode (h : s.ModeIs w) (u : CU) :
     (endClaim u s).ModeIs w := by
  unfold endClaim
  repeat' (first
    | with_reducible assumption
    | exact off_ne0 _ rfl
    | exact off_ne1 _ _ (by decide)
    | exact off_ne2 _ _ _ (by decide)
    | exact fun _ => off_ne1 _ _ (by decide)
    | exact List.forall_mem_nil _
    | refine List.forall_mem_cons.2 ⟨?_, ?_⟩
    | with_reducible assumption
    | with_reducible apply put_mode
    | with_reducible apply wipeUnit_mode
    | (intro _ _)
    | intro _
    | dsimp only
    | split
    | with_reducible rfl
    | (fail_if_no_progress (with_reducible refine mode_upd ?_)))

theorem ciphWipe_mode (h : s.ModeIs w) :
     (ciphWipe s).ModeIs w := by
  unfold ciphWipe
  repeat' (first
    | with_reducible assumption
    | exact off_ne0 _ rfl
    | exact off_ne1 _ _ (by decide)
    | exact off_ne2 _ _ _ (by decide)
    | exact fun _ => off_ne1 _ _ (by decide)
    | exact List.forall_mem_nil _
    | refine List.forall_mem_cons.2 ⟨?_, ?_⟩
    | with_reducible assumption
    | with_reducible apply forAll_mode
    | with_reducible apply endClaim_mode
    | (intro _ _)
    | intro _
    | dsimp only
    | split
    | with_reducible rfl
    | (fail_if_no_progress (with_reducible refine mode_upd ?_)))

theorem showBytes_mode (h : s.ModeIs w) (f : Nat → Field) (n : Nat) (bs : List Byte) (hf : ∀ i, (f i).off ≠ R.SYS_MODE) :
    (showBytes f n bs s).ModeIs w := by
  unfold showBytes
  exact forN_mode _ _ (fun i _ h => put_mode h _ _ (hf i)) h

theorem trustBoot_mode (h : s.ModeIs w) :
     (trustBoot s).ModeIs w := by
  unfold trustBoot
  repeat' (first
    | with_reducible assumption
    | exact off_ne0 _ rfl
    | exact off_ne1 _ _ (by decide)
    | exact off_ne2 _ _ _ (by decide)
    | exact fun _ => off_ne1 _ _ (by decide)
    | exact List.forall_mem_nil _
    | refine List.forall_mem_cons.2 ⟨?_, ?_⟩
    | with_reducible assumption
    | with_reducible apply puts_mode
    | with_reducible apply showBytes_mode
    | (intro _ _)
    | intro _
    | dsimp only
    | split
    | with_reducible rfl
    | (fail_if_no_progress (with_reducible refine mode_upd ?_)))

theorem updErr_mode (h : s.ModeIs w) (c : Nat) :
     (updErr c s).ModeIs w := by
  unfold updErr
  repeat' (first
    | with_reducible assumption
    | exact off_ne0 _ rfl
    | exact off_ne1 _ _ (by decide)
    | exact off_ne2 _ _ _ (by decide)
    | exact fun _ => off_ne1 _ _ (by decide)
    | exact List.forall_mem_nil _
    | refine List.forall_mem_cons.2 ⟨?_, ?_⟩
    | with_reducible assumption
    | with_reducible apply put_mode
    | (intro _ _)
    | intro _
    | dsimp only
    | split
    | with_reducible rfl
    | (fail_if_no_progress (with_reducible refine mode_upd ?_)))

theorem updAbort_mode (h : s.ModeIs w) (c : Nat) :
     (updAbort c s).ModeIs w := by
  unfold updAbort
  repeat' (first
    | with_reducible assumption
    | exact off_ne0 _ rfl
    | exact off_ne1 _ _ (by decide)
    | exact off_ne2 _ _ _ (by decide)
    | exact fun _ => off_ne1 _ _ (by decide)
    | exact List.forall_mem_nil _
    | refine List.forall_mem_cons.2 ⟨?_, ?_⟩
    | with_reducible assumption
    | with_reducible apply forAll_mode
    | with_reducible apply put_mode
    | with_reducible apply inc_mode
    | with_reducible apply puts_mode
    | with_reducible apply updErr_mode
    | (intro _ _)
    | intro _
    | dsimp only
    | split
    | with_reducible rfl
    | (fail_if_no_progress (with_reducible refine mode_upd ?_)))

theorem updWatch_mode (h : s.ModeIs w) :
     (updWatch s).ModeIs w := by
  unfold updWatch
  repeat' (first
    | with_reducible assumption
    | exact off_ne0 _ rfl
    | exact off_ne1 _ _ (by decide)
    | exact off_ne2 _ _ _ (by decide)
    | exact fun _ => off_ne1 _ _ (by decide)
    | exact List.forall_mem_nil _
    | refine List.forall_mem_cons.2 ⟨?_, ?_⟩
    | with_reducible assumption
    | with_reducible apply updAbort_mode
    | (intro _ _)
    | intro _
    | dsimp only
    | split
    | with_reducible rfl
    | (fail_if_no_progress (with_reducible refine mode_upd ?_)))

theorem setCarSet_mode (h : s.ModeIs w) (k v : Nat) :
     (setCarSet k v s).ModeIs w := by
  unfold setCarSet
  repeat' (first
    | with_reducible assumption
    | exact off_ne0 _ rfl
    | exact off_ne1 _ _ (by decide)
    | exact off_ne2 _ _ _ (by decide)
    | exact fun _ => off_ne1 _ _ (by decide)
    | exact List.forall_mem_nil _
    | refine List.forall_mem_cons.2 ⟨?_, ?_⟩
    | with_reducible assumption
    | with_reducible apply puts_mode
    | (intro _ _)
    | intro _
    | dsimp only
    | split
    | with_reducible rfl
    | (fail_if_no_progress (with_reducible refine mode_upd ?_)))

theorem reportBit_mode (h : s.ModeIs w) (k : Nat) :
     (reportBit k s).ModeIs w := by
  unfold reportBit
  repeat' (first
    | with_reducible assumption
    | exact off_ne0 _ rfl
    | exact off_ne1 _ _ (by decide)
    | exact off_ne2 _ _ _ (by decide)
    | exact fun _ => off_ne1 _ _ (by decide)
    | exact List.forall_mem_nil _
    | refine List.forall_mem_cons.2 ⟨?_, ?_⟩
    | with_reducible assumption
    | with_reducible apply emit_mode
    | with_reducible apply setCarSet_mode
    | (intro _ _)
    | intro _
    | dsimp only
    | split
    | with_reducible rfl
    | (fail_if_no_progress (with_reducible refine mode_upd ?_)))

theorem returnReport_mode (h : s.ModeIs w) :
     (returnReport s).ModeIs w := by
  unfold returnReport
  repeat' (first
    | with_reducible assumption
    | exact off_ne0 _ rfl
    | exact off_ne1 _ _ (by decide)
    | exact off_ne2 _ _ _ (by decide)
    | exact fun _ => off_ne1 _ _ (by decide)
    | exact List.forall_mem_nil _
    | refine List.forall_mem_cons.2 ⟨?_, ?_⟩
    | with_reducible assumption
    | with_reducible apply reportBit_mode
    | (intro _ _)
    | intro _
    | dsimp only
    | split
    | with_reducible rfl
    | (fail_if_no_progress (with_reducible refine mode_upd ?_)))

theorem setRole_mode (h : s.ModeIs w) (r : Nat) :
     (setRole r s).ModeIs w := by
  unfold setRole
  repeat' (first
    | with_reducible assumption
    | exact off_ne0 _ rfl
    | exact off_ne1 _ _ (by decide)
    | exact off_ne2 _ _ _ (by decide)
    | exact fun _ => off_ne1 _ _ (by decide)
    | exact List.forall_mem_nil _
    | refine List.forall_mem_cons.2 ⟨?_, ?_⟩
    | with_reducible assumption
    | with_reducible apply put_mode
    | with_reducible apply raiseVector_mode
    | (intro _ _)
    | intro _
    | dsimp only
    | split
    | with_reducible rfl
    | (fail_if_no_progress (with_reducible refine mode_upd ?_)))

theorem leadRole_mode (h : s.ModeIs w) :
     (leadRole s).ModeIs w := by
  unfold leadRole
  repeat' (first
    | with_reducible assumption
    | exact off_ne0 _ rfl
    | exact off_ne1 _ _ (by decide)
    | exact off_ne2 _ _ _ (by decide)
    | exact fun _ => off_ne1 _ _ (by decide)
    | exact List.forall_mem_nil _
    | refine List.forall_mem_cons.2 ⟨?_, ?_⟩
    | with_reducible assumption
    | with_reducible apply setRole_mode
    | (intro _ _)
    | intro _
    | dsimp only
    | split
    | with_reducible rfl
    | (fail_if_no_progress (with_reducible refine mode_upd ?_)))

theorem enumStart_mode (h : s.ModeIs w) :
     (enumStart s).ModeIs w := by
  unfold enumStart
  repeat' (first
    | with_reducible assumption
    | exact off_ne0 _ rfl
    | exact off_ne1 _ _ (by decide)
    | exact off_ne2 _ _ _ (by decide)
    | exact fun _ => off_ne1 _ _ (by decide)
    | exact List.forall_mem_nil _
    | refine List.forall_mem_cons.2 ⟨?_, ?_⟩
    | with_reducible assumption
    | with_reducible apply puts_mode
    | with_reducible apply emit_mode
    | (intro _ _)
    | intro _
    | dsimp only
    | split
    | with_reducible rfl
    | (fail_if_no_progress (with_reducible refine mode_upd ?_)))

theorem setTokens_mode (h : s.ModeIs w) (n v : Nat) :
     (setTokens n v s).ModeIs w := by
  unfold setTokens
  repeat' (first
    | with_reducible assumption
    | exact off_ne0 _ rfl
    | exact off_ne1 _ _ (by decide)
    | exact off_ne2 _ _ _ (by decide)
    | exact fun _ => off_ne1 _ _ (by decide)
    | exact List.forall_mem_nil _
    | refine List.forall_mem_cons.2 ⟨?_, ?_⟩
    | with_reducible assumption
    | with_reducible apply put_mode
    | (intro _ _)
    | intro _
    | dsimp only
    | split
    | with_reducible rfl
    | (fail_if_no_progress (with_reducible refine mode_upd ?_)))

theorem tokenReset_mode (h : s.ModeIs w) (n : Nat) :
     (tokenReset n s).ModeIs w := by
  unfold tokenReset
  repeat' (first
    | with_reducible assumption
    | exact off_ne0 _ rfl
    | exact off_ne1 _ _ (by decide)
    | exact off_ne2 _ _ _ (by decide)
    | exact fun _ => off_ne1 _ _ (by decide)
    | exact List.forall_mem_nil _
    | refine List.forall_mem_cons.2 ⟨?_, ?_⟩
    | with_reducible assumption
    | with_reducible apply setTokens_mode
    | (intro _ _)
    | intro _
    | dsimp only
    | split
    | with_reducible rfl
    | (fail_if_no_progress (with_reducible refine mode_upd ?_)))

theorem tokenResetAll_mode (h : s.ModeIs w) :
     (tokenResetAll s).ModeIs w := by
  unfold tokenResetAll
  repeat' (first
    | with_reducible assumption
    | exact off_ne0 _ rfl
    | exact off_ne1 _ _ (by decide)
    | exact off_ne2 _ _ _ (by decide)
    | exact fun _ => off_ne1 _ _ (by decide)
    | exact List.forall_mem_nil _
    | refine List.forall_mem_cons.2 ⟨?_, ?_⟩
    | with_reducible assumption
    | with_reducible apply forN_mode
    | with_reducible apply tokenReset_mode
    | (intro _ _)
    | intro _
    | dsimp only
    | split
    | with_reducible rfl
    | (fail_if_no_progress (with_reducible refine mode_upd ?_)))

theorem tanRole_mode (h : s.ModeIs w) :
     (tanRole s).ModeIs w := by
  unfold tanRole
  repeat' (first
    | with_reducible assumption
    | exact off_ne0 _ rfl
    | exact off_ne1 _ _ (by decide)
    | exact off_ne2 _ _ _ (by decide)
    | exact fun _ => off_ne1 _ _ (by decide)
    | exact List.forall_mem_nil _
    | refine List.forall_mem_cons.2 ⟨?_, ?_⟩
    | with_reducible assumption
    | with_reducible apply put_mode
    | with_reducible apply leadRole_mode
    | (intro _ _)
    | intro _
    | dsimp only
    | split
    | with_reducible rfl
    | (fail_if_no_progress (with_reducible refine mode_upd ?_)))

theorem sampleLine_mode (h : s.ModeIs w) (low : Bool) :
     (sampleLine low s).ModeIs w := by
  unfold sampleLine
  repeat' (first
    | with_reducible assumption
    | exact off_ne0 _ rfl
    | exact off_ne1 _ _ (by decide)
    | exact off_ne2 _ _ _ (by decide)
    | exact fun _ => off_ne1 _ _ (by decide)
    | exact List.forall_mem_nil _
    | refine List.forall_mem_cons.2 ⟨?_, ?_⟩
    | with_reducible assumption
    | with_reducible apply put_mode
    | (intro _ _)
    | intro _
    | dsimp only
    | split
    | with_reducible rfl
    | (fail_if_no_progress (with_reducible refine mode_upd ?_)))

theorem dropHeld_mode (h : s.ModeIs w) :
     (dropHeld s).ModeIs w := by
  unfold dropHeld
  repeat' (first
    | with_reducible assumption
    | exact off_ne0 _ rfl
    | exact off_ne1 _ _ (by decide)
    | exact off_ne2 _ _ _ (by decide)
    | exact fun _ => off_ne1 _ _ (by decide)
    | exact List.forall_mem_nil _
    | refine List.forall_mem_cons.2 ⟨?_, ?_⟩
    | with_reducible assumption
    | with_reducible apply forAll_mode
    | with_reducible apply put_mode
    | with_reducible apply landHeld_mode
    | (intro _ _)
    | intro _
    | dsimp only
    | split
    | with_reducible rfl
    | (fail_if_no_progress (with_reducible refine mode_upd ?_)))

theorem syncLost_mode (h : s.ModeIs w) :
     (syncLost s).ModeIs w := by
  unfold syncLost
  repeat' (first
    | with_reducible assumption
    | exact off_ne0 _ rfl
    | exact off_ne1 _ _ (by decide)
    | exact off_ne2 _ _ _ (by decide)
    | exact fun _ => off_ne1 _ _ (by decide)
    | exact List.forall_mem_nil _
    | refine List.forall_mem_cons.2 ⟨?_, ?_⟩
    | with_reducible assumption
    | with_reducible apply put_mode
    | with_reducible apply ackRelease_mode
    | with_reducible apply laneRelease_mode
    | with_reducible apply leasesAlone_mode
    | with_reducible apply updWatch_mode
    | with_reducible apply dropHeld_mode
    | (intro _ _)
    | intro _
    | dsimp only
    | split
    | with_reducible rfl
    | (fail_if_no_progress (with_reducible refine mode_upd ?_)))

theorem syncBreaks_mode (h : s.ModeIs w) :
     (syncBreaks s).ModeIs w := by
  unfold syncBreaks
  repeat' (first
    | with_reducible assumption
    | exact off_ne0 _ rfl
    | exact off_ne1 _ _ (by decide)
    | exact off_ne2 _ _ _ (by decide)
    | exact fun _ => off_ne1 _ _ (by decide)
    | exact List.forall_mem_nil _
    | refine List.forall_mem_cons.2 ⟨?_, ?_⟩
    | with_reducible assumption
    | with_reducible apply syncLost_mode
    | (intro _ _)
    | intro _
    | dsimp only
    | split
    | with_reducible rfl
    | (fail_if_no_progress (with_reducible refine mode_upd ?_)))

theorem takeLine_mode (h : s.ModeIs w) :
     (takeLine s).ModeIs w := by
  unfold takeLine
  repeat' (first
    | with_reducible assumption
    | exact off_ne0 _ rfl
    | exact off_ne1 _ _ (by decide)
    | exact off_ne2 _ _ _ (by decide)
    | exact fun _ => off_ne1 _ _ (by decide)
    | exact List.forall_mem_nil _
    | refine List.forall_mem_cons.2 ⟨?_, ?_⟩
    | with_reducible assumption
    | with_reducible apply puts_mode
    | with_reducible apply tanRole_mode
    | (intro _ _)
    | intro _
    | dsimp only
    | split
    | with_reducible rfl
    | (fail_if_no_progress (with_reducible refine mode_upd ?_)))

theorem dropLine_mode (h : s.ModeIs w) :
     (dropLine s).ModeIs w := by
  unfold dropLine
  repeat' (first
    | with_reducible assumption
    | exact off_ne0 _ rfl
    | exact off_ne1 _ _ (by decide)
    | exact off_ne2 _ _ _ (by decide)
    | exact fun _ => off_ne1 _ _ (by decide)
    | exact List.forall_mem_nil _
    | refine List.forall_mem_cons.2 ⟨?_, ?_⟩
    | with_reducible assumption
    | with_reducible apply put_mode
    | with_reducible apply tanRole_mode
    | with_reducible apply syncBreaks_mode
    | (intro _ _)
    | intro _
    | dsimp only
    | split
    | with_reducible rfl
    | (fail_if_no_progress (with_reducible refine mode_upd ?_)))

theorem tanMode_mode (h : s.ModeIs w) (m : Nat) :
     (tanMode m s).ModeIs w := by
  unfold tanMode
  repeat' (first
    | with_reducible assumption
    | exact off_ne0 _ rfl
    | exact off_ne1 _ _ (by decide)
    | exact off_ne2 _ _ _ (by decide)
    | exact fun _ => off_ne1 _ _ (by decide)
    | exact List.forall_mem_nil _
    | refine List.forall_mem_cons.2 ⟨?_, ?_⟩
    | with_reducible assumption
    | with_reducible apply tanRole_mode
    | with_reducible apply syncBreaks_mode
    | with_reducible apply takeLine_mode
    | with_reducible apply dropLine_mode
    | (intro _ _)
    | intro _
    | dsimp only
    | split
    | with_reducible rfl
    | (fail_if_no_progress (with_reducible refine mode_upd ?_)))

theorem modeRecord_mode (h : s.ModeIs w) (m : Nat) (estop : Bool) :
     (modeRecord m estop s).ModeIs w := by
  unfold modeRecord
  repeat' (first
    | with_reducible assumption
    | exact off_ne0 _ rfl
    | exact off_ne1 _ _ (by decide)
    | exact off_ne2 _ _ _ (by decide)
    | exact fun _ => off_ne1 _ _ (by decide)
    | exact List.forall_mem_nil _
    | refine List.forall_mem_cons.2 ⟨?_, ?_⟩
    | with_reducible assumption
    | with_reducible apply journal_mode
    | (intro _ _)
    | intro _
    | dsimp only
    | split
    | with_reducible rfl
    | (fail_if_no_progress (with_reducible refine mode_upd ?_)))

theorem modDma_mode (h : s.ModeIs w) (n : Chan) (f : DmaChan → DmaChan) :
     (State.modDma s n f).ModeIs w := by
  unfold State.modDma
  repeat' (first
    | with_reducible assumption
    | exact off_ne0 _ rfl
    | exact off_ne1 _ _ (by decide)
    | exact off_ne2 _ _ _ (by decide)
    | exact fun _ => off_ne1 _ _ (by decide)
    | exact List.forall_mem_nil _
    | refine List.forall_mem_cons.2 ⟨?_, ?_⟩
    | with_reducible assumption
    | (intro _ _)
    | intro _
    | dsimp only
    | split
    | with_reducible rfl
    | (fail_if_no_progress (with_reducible refine mode_upd ?_)))

theorem dmaSignal_mode (h : s.ModeIs w) (n : Chan) :
     (dmaSignal n s).ModeIs w := by
  unfold dmaSignal
  repeat' (first
    | with_reducible assumption
    | exact off_ne0 _ rfl
    | exact off_ne1 _ _ (by decide)
    | exact off_ne2 _ _ _ (by decide)
    | exact fun _ => off_ne1 _ _ (by decide)
    | exact List.forall_mem_nil _
    | refine List.forall_mem_cons.2 ⟨?_, ?_⟩
    | with_reducible assumption
    | with_reducible apply evin_mode
    | with_reducible apply raiseVector_mode
    | with_reducible refine pair_mode (by assumption) ?_
    | with_reducible refine triple_mode (by assumption) ?_
    | (intro _ _)
    | intro _
    | dsimp only
    | split
    | with_reducible rfl
    | (fail_if_no_progress (with_reducible refine mode_upd ?_)))

theorem dmaSafeStop_mode (h : s.ModeIs w) :
     (dmaSafeStop s).ModeIs w := by
  unfold dmaSafeStop
  repeat' (first
    | with_reducible assumption
    | exact off_ne0 _ rfl
    | exact off_ne1 _ _ (by decide)
    | exact off_ne2 _ _ _ (by decide)
    | exact fun _ => off_ne1 _ _ (by decide)
    | exact List.forall_mem_nil _
    | refine List.forall_mem_cons.2 ⟨?_, ?_⟩
    | with_reducible assumption
    | with_reducible apply forAll_mode
    | with_reducible apply inc_mode
    | with_reducible apply puts_mode
    | with_reducible apply modDma_mode
    | with_reducible apply dmaSignal_mode
    | (intro _ _)
    | intro _
    | dsimp only
    | split
    | with_reducible rfl
    | (fail_if_no_progress (with_reducible refine mode_upd ?_)))

theorem tickStart_mode (h : s.ModeIs w) :
     (tickStart s).ModeIs w := by
  unfold tickStart
  repeat' (first
    | with_reducible assumption
    | exact off_ne0 _ rfl
    | exact off_ne1 _ _ (by decide)
    | exact off_ne2 _ _ _ (by decide)
    | exact fun _ => off_ne1 _ _ (by decide)
    | exact List.forall_mem_nil _
    | refine List.forall_mem_cons.2 ⟨?_, ?_⟩
    | with_reducible assumption
    | with_reducible apply puts_mode
    | with_reducible apply laneStart_mode
    | with_reducible apply tokenResetAll_mode
    | (intro _ _)
    | intro _
    | dsimp only
    | split
    | with_reducible rfl
    | (fail_if_no_progress (with_reducible refine mode_upd ?_)))

theorem tickStop_mode (h : s.ModeIs w) :
     (tickStop s).ModeIs w := by
  unfold tickStop
  repeat' (first
    | with_reducible assumption
    | exact off_ne0 _ rfl
    | exact off_ne1 _ _ (by decide)
    | exact off_ne2 _ _ _ (by decide)
    | exact fun _ => off_ne1 _ _ (by decide)
    | exact List.forall_mem_nil _
    | refine List.forall_mem_cons.2 ⟨?_, ?_⟩
    | with_reducible assumption
    | with_reducible apply sfDrop_mode
    | with_reducible apply laneQuit_mode
    | (intro _ _)
    | intro _
    | dsimp only
    | split
    | with_reducible rfl
    | (fail_if_no_progress (with_reducible refine mode_upd ?_)))

theorem rxModeChange_mode (h : s.ModeIs w) (was m : Nat) :
     (rxModeChange was m s).ModeIs w := by
  unfold rxModeChange
  repeat' (first
    | with_reducible assumption
    | exact off_ne0 _ rfl
    | exact off_ne1 _ _ (by decide)
    | exact off_ne2 _ _ _ (by decide)
    | exact fun _ => off_ne1 _ _ (by decide)
    | exact List.forall_mem_nil _
    | refine List.forall_mem_cons.2 ⟨?_, ?_⟩
    | with_reducible assumption
    | with_reducible apply rxPowerDown_mode
    | with_reducible apply rxPowerUp_mode
    | (intro _ _)
    | intro _
    | dsimp only
    | split
    | with_reducible rfl
    | (fail_if_no_progress (with_reducible refine mode_upd ?_)))

theorem cancelStaged_mode (h : s.ModeIs w) :
     (cancelStaged s).ModeIs w := by
  unfold cancelStaged
  repeat' (first
    | with_reducible assumption
    | exact off_ne0 _ rfl
    | exact off_ne1 _ _ (by decide)
    | exact off_ne2 _ _ _ (by decide)
    | exact fun _ => off_ne1 _ _ (by decide)
    | exact List.forall_mem_nil _
    | refine List.forall_mem_cons.2 ⟨?_, ?_⟩
    | with_reducible assumption
    | with_reducible apply add_mode
    | (intro _ _)
    | intro _
    | dsimp only
    | split
    | with_reducible rfl
    | (fail_if_no_progress (with_reducible refine mode_upd ?_)))

theorem txModeChange_mode (h : s.ModeIs w) (was m : Nat) (estop : Bool) :
     (txModeChange was m estop s).ModeIs w := by
  unfold txModeChange
  repeat' (first
    | with_reducible assumption
    | exact off_ne0 _ rfl
    | exact off_ne1 _ _ (by decide)
    | exact off_ne2 _ _ _ (by decide)
    | exact fun _ => off_ne1 _ _ (by decide)
    | exact List.forall_mem_nil _
    | refine List.forall_mem_cons.2 ⟨?_, ?_⟩
    | with_reducible assumption
    | with_reducible apply dropPlanned_mode
    | with_reducible apply ackDiscard_mode
    | with_reducible apply txEstop_mode
    | with_reducible apply cancelStaged_mode
    | (intro _ _)
    | intro _
    | dsimp only
    | split
    | with_reducible rfl
    | (fail_if_no_progress (with_reducible refine mode_upd ?_)))

/-- The SYS_MODE word that entering mode `m` leaves. -/
def enteredWord (m : Nat) (estop : Bool) (s : State) : Word :=
  ({ modeRecord m estop s with modePend := none }.puts [(F.SYS_MODE_MODE_PREV, s.mode), (F.SYS_MODE_MODE_CUR, m),
    (F.SYS_MODE_TRANS, 0), (F.SYS_MODE_PERS, b2n (recoveryMode m))]).reg R.SYS_MODE

theorem enterMode_mode (m : Nat) (estop : Bool) (s : State) : (enterMode m estop s).ModeIs (enteredWord m estop s) := by
  have h0 : State.ModeIs ({ modeRecord m estop s with modePend := none }.puts [(F.SYS_MODE_MODE_PREV, s.mode),
      (F.SYS_MODE_MODE_CUR, m), (F.SYS_MODE_TRANS, 0), (F.SYS_MODE_PERS, b2n (recoveryMode m))]) (enteredWord m estop s) := rfl
  unfold enterMode
  dsimp only
  generalize ({ modeRecord m estop s with modePend := none }.puts [(F.SYS_MODE_MODE_PREV, s.mode),
      (F.SYS_MODE_MODE_CUR, m), (F.SYS_MODE_TRANS, 0), (F.SYS_MODE_PERS, b2n (recoveryMode m))]) = s1 at *
  refine raiseVector_mode (updWatch_mode (tanMode_mode ?_ _)) _
  have h2 := txModeChange_mode (rxModeChange_mode h0 s.mode m) s.mode m estop
  have h3 : State.ModeIs (if tickMode m && !tickMode s.mode then tickStart (txModeChange s.mode m estop (rxModeChange s.mode m s1))
      else if !tickMode m && tickMode s.mode then tickStop (txModeChange s.mode m estop (rxModeChange s.mode m s1))
      else txModeChange s.mode m estop (rxModeChange s.mode m s1)) (enteredWord m estop s) :=
    ite_mode (fun _ => tickStart_mode h2) fun _ => ite_mode (fun _ => tickStop_mode h2) fun _ => h2
  exact ite_mode (fun _ => manModeCancel_mode h3) fun _ => h3

theorem changeMode_mode (m : Nat) (estop : Bool) (s : State) : (changeMode m estop s).ModeIs (enteredWord m estop s) := by
  have h1 := modeVectors_mode (enterMode_mode m estop s) m
  unfold changeMode
  dsimp only
  have h2 : State.ModeIs (if s.mode = Mode.calibrate ∧ m = Mode.configure then calLoad (modeVectors m (enterMode m estop s))
      else modeVectors m (enterMode m estop s)) (enteredWord m estop s) := ite_mode (fun _ => calLoad_mode h1) fun _ => h1
  exact returnReport_mode (ite_mode (fun _ => enumStart_mode h2) fun _ => h2)

/-- The fields of SYS_MODE after mode `m` is entered. -/
theorem ModeIs_entered {m : Nat} {estop : Bool} {t : State} (hm : m < 16) (h : t.ModeIs (enteredWord m estop s)) :
    t.mode = m ∧ t.get F.SYS_MODE_MODE_PREV = s.mode ∧ t.get F.SYS_MODE_TRANS = 0 ∧
      t.get F.SYS_MODE_PERS = b2n (recoveryMode m) := by
  have key : ∀ f : Field, f.off = R.SYS_MODE → t.get f = ({ modeRecord m estop s with modePend := none }.puts
      [(F.SYS_MODE_MODE_PREV, s.mode), (F.SYS_MODE_MODE_CUR, m), (F.SYS_MODE_TRANS, 0),
        (F.SYS_MODE_PERS, b2n (recoveryMode m))]).get f := by
    intro f hf
    unfold State.get; rw [hf, show t.reg R.SYS_MODE = _ from h]; rfl
  have hl : s.mode < 16 := get_lt F.SYS_MODE_MODE_CUR
  have hb : b2n (recoveryMode m) < 2 := by unfold b2n; split <;> decide
  refine ⟨?_, ?_, ?_, ?_⟩
  · show t.get F.SYS_MODE_MODE_CUR = m
    rw [key _ rfl]; unfold State.puts; simp only [List.foldl]
    simp (disch := decide) only [get_put_apart, get_put_same]; exact Nat.mod_eq_of_lt hm
  · rw [key _ rfl]; unfold State.puts; simp only [List.foldl]
    simp (disch := decide) only [get_put_apart, get_put_same]; exact Nat.mod_eq_of_lt hl
  · rw [key _ rfl]; unfold State.puts; simp only [List.foldl]
    simp (disch := decide) only [get_put_apart, get_put_same]; rfl
  · rw [key _ rfl]; unfold State.puts; simp only [List.foldl]
    simp (disch := decide) only [get_put_same]; exact Nat.mod_eq_of_lt hb

end Sys2Proof.Machine
end

