-- ==== Sys2Proof/Laws/Signals.lean ====
section
/-!
SUPPORT. What signalling leaves as it was: events, vectors, event inputs and faults change only the registers of
`signalReg`, the fault manager, the waiting events, the endpoint and what the block has sent.
-/

namespace Sys2Proof.Claims

open Sys2Proof.Machine

variable {l : List Nat} {u t : State}

theorem keepsButLog_refl (u : State) : KeepsButLog u u := ⟨rfl, fun _ _ => rfl, fun _ _ => ⟨rfl, rfl⟩⟩

theorem signals_refl (l : List Nat) (u : State) : Signals l u u := ⟨rfl, keepsButLog_refl u, fun _ _ _ => rfl⟩

theorem signals_setReg (h : Signals l u t) {o : Nat} (v : Word) (ho : o ∈ l ∨ signalReg o = true) :
    Signals l u (t.setReg o v) := by
  refine ⟨by rw [h.1]; rfl, h.2.1, fun p hp hs => ?_⟩
  rw [reg_setReg_ne t v]
  · exact h.2.2 p hp hs
  · rintro rfl
    rcases ho with ho | ho
    · exact hp ho
    · rw [ho] at hs; cases hs

theorem signals_put (h : Signals l u t) (f : Field) (v : Nat) (ho : f.off ∈ l ∨ signalReg f.off = true) :
    Signals l u (t.put f v) := signals_setReg h _ ho

theorem signals_faults (h : Signals l u t) (x : Faults) : Signals l u { t with faults := x } :=
  ⟨by rw [h.1], h.2.1, h.2.2⟩

theorem signals_evPend (h : Signals l u t) (x : List Ev) : Signals l u { t with evPend := x } := ⟨by rw [h.1], h.2.1, h.2.2⟩

theorem signals_ep (h : Signals l u t) (x : Endpoint) : Signals l u { t with ep := x } := ⟨by rw [h.1], h.2.1, h.2.2⟩

theorem signals_out (h : Signals l u t) (x : List Out) : Signals l u { t with out := x } := ⟨by rw [h.1], h.2.1, h.2.2⟩

theorem signals_emit (h : Signals l u t) (x : Out) : Signals l u (t.emit x) := signals_out h _

theorem signals_when (h : Signals l u t) (c : Bool) (f : State → State) (hf : ∀ t, Signals l u t → Signals l u (f t)) :
    Signals l u (t.when c f) := by
  unfold State.when; split
  · exact hf t h
  · exact h

theorem signals_forAll {α : Type} (as : List α) (f : α → State → State) (hf : ∀ a t, Signals l u t → Signals l u (f a t)) :
    ∀ t, Signals l u t → Signals l u (forAll as f t) := by
  unfold forAll
  induction as with
  | nil => exact fun t h => h
  | cons a as ih => exact fun t h => ih _ (hf a t h)

theorem signals_loss (h : Signals l u t) (n : Nat) : Signals l u (t.add F.SYS_FAULT_LOST_COUNT n) :=
  signals_put h _ _ (Or.inr (by decide))

theorem signalReg_evpend (n : Nat) (hn : n < 12) : signalReg (F.DRV_n_EVPEND_PEND n).off = true := by
  interval_cases n <;> decide

theorem signals_evin (h : Signals l u t) {n : Nat} (hn : n < 12) (k : Nat) : Signals l u (evin n k t) :=
  signals_put h _ _ (Or.inr (signalReg_evpend n hn))

theorem signals_msixRaise (h : Signals l u t) (v : Fin 64) : Signals l u (msixRaise v t) := by
  unfold msixRaise
  split
  · split
    · exact signals_ep h _
    · exact signals_put (signals_emit h _) _ _ (Or.inr (by decide))
  · exact h

theorem signalReg_vpend (v : Fin 64) : signalReg (vpend v).off = true := by
  have : v.val / 32 < 2 := by omega
  unfold vpend
  generalize v.val / 32 = h at *
  interval_cases h <;> decide

theorem signals_vector (h : Signals l u t) (v : Fin 64) : Signals l u (raiseVector v t) := by
  unfold raiseVector
  split
  · exact h
  · have : Signals l u (msixRaise v (t.bitOn (vpend v) (v % 32))) :=
      signals_msixRaise (signals_put h _ _ (Or.inr (signalReg_vpend v))) v
    dsimp only
    split
    · exact signals_emit this _
    · exact this

theorem signalReg_block {o : Nat} (h : o / 0x10000 = 0x15 ∨ o / 0x10000 = 0x17) : signalReg o = true := by
  unfold signalReg
  rcases h with h | h <;> simp [h]

theorem signals_capture13 (h : Signals l u t) : Signals l u (captureTally 13 t) := by
  unfold captureTally State.puts
  simp only [List.foldl]
  repeat' (first | exact h | refine signals_put ?_ _ _ (Or.inr (by decide)))

theorem signals_tmrLatch (h : Signals l u t) {n : Nat} (hn : n < 17) : Signals l u (tmrLatch n t) := by
  have hb : ∀ f : Field, 0x150100 ≤ f.off → f.off < 0x150330 → f.off ∈ l ∨ signalReg f.off = true :=
    fun f h1 h2 => Or.inr (signalReg_block (Or.inl (by omega)))
  unfold tmrLatch
  refine signals_put (signals_put (signals_when h _ _ fun t h => signals_put h _ _ (hb _ ?_ ?_)) _ _ (hb _ ?_ ?_)) _ _
    (hb _ ?_ ?_) <;>
  simp only [F.TMR_n_STAT_CAPOVR, F.TMR_n_STAT_CAPF, F.TMR_n_CAP_VALUE] <;> omega

theorem signals_tmrCapture (h : Signals l u t) {n : Nat} (hn : n < 16) : Signals l u (tmrCapture n t) := by
  unfold tmrCapture
  dsimp only
  split
  · exact signals_tmrLatch (signals_tmrLatch h (by omega)) (by omega)
  · exact signals_tmrLatch h (by omega)

theorem consumerOf_timer {c n : Nat} (h : consumerOf c = some (.timer n)) : n < 16 := by
  unfold consumerOf at h
  repeat' (split at h)
  all_goals simp only [Option.some.injEq, reduceCtorEq, Consumer.timer.injEq] at h
  omega

theorem consumerOf_relay {c n : Nat} (h : consumerOf c = some (.relay n)) : n < 64 := by
  unfold consumerOf at h
  repeat' (split at h)
  all_goals simp only [Option.some.injEq, reduceCtorEq, Consumer.relay.injEq] at h
  omega

theorem consumer_of {s : State} {c : Nat} {k : Consumer} (h : s.consumer c = k) (hk : k ≠ .none) :
    consumerOf (s.get (F.EVT_CH_c_CONS c)) = some k := by
  unfold State.consumer at h
  cases e : consumerOf (s.get (F.EVT_CH_c_CONS c)) with
  | none => rw [e] at h; exact absurd h.symm hk
  | some x => rw [e] at h; rw [← h]; rfl

theorem signals_consume (h : Signals l u t) {k : Consumer} (hk : ∀ n, k = .timer n → n < 16) : Signals l u (consume k t) := by
  cases k with
  | none => exact h
  | drover n i => exact signals_evin h n.isLt i
  | vector v => exact signals_vector h v
  | tally => exact signals_capture13 h
  | timer n => exact signals_when h _ _ fun t h => signals_tmrCapture h (hk n rfl)
  | relay c => exact h

theorem evt_cnt (c : Nat) (hc : c < 64) : signalReg (F.EVT_CNT_c_DELIV c).off = true ∧ signalReg (F.EVT_CNT_c_LOST c).off = true := by
  constructor <;> refine signalReg_block (Or.inr ?_)
  · simp only [F.EVT_CNT_c_DELIV]; omega
  · simp only [F.EVT_CNT_c_LOST]; omega

theorem signals_loopDrop (h : Signals l u t) (a b c : Nat) : Signals l u (loopDrop a b c t) := by
  unfold loopDrop State.puts
  simp only [List.foldl]
  repeat' (first | exact h | refine signals_put ?_ _ _ (Or.inr (by decide)))

/-- Delivery signals only, and an event that goes on enters a channel that exists. -/
theorem signals_deliver (h : Signals l u t) {e : Ev} (he : e.chan < 64) :
    Signals l u (deliver e t).2 ∧ ∀ e', (deliver e t).1 = some e' → e'.chan < 64 := by
  unfold deliver
  split
  · split
    · exact ⟨h, by simp⟩
    · rename_i c hc
      have hn := consumerOf_relay (consumer_of hc (by simp))
      dsimp only
      split
      · exact ⟨signals_loopDrop h _ _ _, by simp⟩
      · split
        · exact ⟨signals_loopDrop h _ _ _, by simp⟩
        · refine ⟨signals_put h _ _ (Or.inr (evt_cnt _ he).1), ?_⟩
          intro e' h'; cases h'; exact hn
    · rename_i k hn hr
      split
      · split
        · exact ⟨signals_put h _ _ (Or.inr (evt_cnt _ he).2), by simp⟩
        · exact ⟨signals_evPend h _, by simp⟩
      · refine ⟨signals_put (signals_consume h ?_) _ _ (Or.inr (evt_cnt _ he).1), by simp⟩
        intro n hk
        exact consumerOf_timer (consumer_of hk (by simp))
  · exact ⟨h, by simp⟩

theorem signals_merge : ∀ (es acc : List Ev) (t : State), Signals l u t → (∀ e ∈ es, e.chan < 64) → (∀ e ∈ acc, e.chan < 64) →
    Signals l u (mergeEv es acc t).2 ∧ ∀ e ∈ (mergeEv es acc t).1, e.chan < 64 := by
  intro es
  induction es with
  | nil => exact fun acc t h _ ha => ⟨h, ha⟩
  | cons e es ih =>
    intro acc t h he ha
    have he0 := he e (by simp)
    have hes : ∀ x ∈ es, x.chan < 64 := fun x hx => he x (by simp [hx])
    unfold mergeEv
    split
    · refine ih _ _ h hes ?_
      intro x hx
      rcases List.mem_append.1 hx with hx | hx
      · exact ha x hx
      · rw [List.mem_singleton] at hx; rw [hx]; exact he0
    · rename_i o ho
      refine ih _ _ (signals_put h _ _ (Or.inr (evt_cnt _ he0).2)) hes ?_
      intro x hx
      rw [List.mem_map] at hx
      obtain ⟨y, hy, rfl⟩ := hx
      split
      · split
        · exact he0
        · exact ha o (List.mem_of_find?_eq_some ho)
      · exact ha y hy

theorem signals_fabric : ∀ (k : Nat) (es : List Ev) (t : State), Signals l u t → (∀ e ∈ es, e.chan < 64) →
    Signals l u (fabric k es t) := by
  intro k
  induction k with
  | zero => exact fun _ _ h _ => h
  | succ k ih =>
    intro es t h he
    have key : ∀ (es : List Ev) (p : List Ev × State), Signals l u p.2 → (∀ e ∈ es, e.chan < 64) → (∀ e ∈ p.1, e.chan < 64) →
        Signals l u (es.foldl (fun (acc : List Ev × State) e => (acc.1 ++ (deliver e acc.2).1.toList, (deliver e acc.2).2)) p).2 ∧
        ∀ e ∈ (es.foldl (fun (acc : List Ev × State) e => (acc.1 ++ (deliver e acc.2).1.toList, (deliver e acc.2).2)) p).1,
          e.chan < 64 := by
      intro es
      induction es with
      | nil => exact fun p h _ ha => ⟨h, ha⟩
      | cons e es ih2 =>
        intro p h he ha
        have hd := signals_deliver h (he e (by simp))
        refine ih2 _ hd.1 (fun x hx => he x (by simp [hx])) ?_
        intro x hx
        rcases List.mem_append.1 hx with hx | hx
        · exact ha x hx
        · exact hd.2 x (by simpa using hx)
    have hm := signals_merge es [] t h he (by simp)
    have hk := key (mergeEv es [] t).1 ([], (mergeEv es [] t).2) hm.1 hm.2 (by simp)
    unfold fabric
    dsimp only
    split
    · exact hk.1
    · exact ih _ _ hk.1 hk.2

theorem signals_produce (h : Signals l u t) (p : Nat) : Signals l u (produce p t) := by
  unfold produce
  split
  · exact h
  · refine signals_fabric _ _ _ h ?_
    intro e he
    rw [List.mem_map] at he
    obtain ⟨c, hc, rfl⟩ := he
    exact List.mem_range.1 (List.mem_filter.1 hc).1

/-- A record lies in the LOG bay whole. -/
theorem inLog_record (k i : Nat) (hi : i < 16) : inLog (recordPlace k + i) = true := by
  unfold inLog recordPlace
  rw [Bool.and_eq_true, decide_eq_true_iff, decide_eq_true_iff]
  omega

theorem keepsButLog_record {bs : List Byte} (h : KeepsButLog u t) (k : Nat) (hb : bs.length = 16) :
    KeepsButLog u { t with ser := { (t.poke (recordPlace k) bs).ser with
      poison := ndel (recordPlace k / 16) t.ser.poison, errs := sdel (recordPlace k / 16) t.ser.errs } } := by
  have hk : recordPlace k / 16 * 16 = recordPlace k := by unfold recordPlace; omega
  have hr : t.ser.rowCE = u.ser.rowCE := by rw [h.1]
  have hs : t.ser.spare = u.ser.spare := by rw [h.1]
  refine ⟨?_, fun a ha => ?_, fun g hg => ?_⟩
  · simp only [State.poke, hr, hs]
  · refine Eq.trans ((byte_poke t (recordPlace k) bs a).trans (if_neg ?_)) (h.2.1 a ha)
    rw [hb]
    intro hc
    have hi := inLog_record k (a - recordPlace k) (by omega)
    rw [show recordPlace k + (a - recordPlace k) = a by omega, ha] at hi
    cases hi
  · have hne : g ≠ recordPlace k / 16 := by
      rintro rfl
      have hi := inLog_record k 0 (by omega)
      rw [show recordPlace k + 0 = 16 * (recordPlace k / 16) by omega, hg] at hi
      cases hi
    refine ⟨Eq.trans ?_ (h.2.2 g hg).1, Eq.trans (sget_sdel_ne _ hne _) (h.2.2 g hg).2⟩
    simp only [ndel, List.contains_eq_mem, List.mem_filter, bne_iff_ne, ne_eq, hne, not_false_eq_true, and_true]

theorem signals_logFault (h : Signals l u t) (c n : Nat) : Signals l u (logFault c n t) := by
  refine ⟨by unfold logFault State.poke; rw [h.1], ?_, h.2.2⟩
  exact keepsButLog_record h.2.1 _ (by simp)

theorem faultDrover_lt {s : State} {n : Fin 12} (_ : s.faultDrover = some n) : n.val < 12 := n.isLt

theorem signals_abortHandler (h : Signals l u t) : Signals l u (abortHandler t) := by
  unfold abortHandler
  dsimp only
  split
  · rename_i n _
    exact signals_put (signals_faults h _) _ _ (Or.inr (signalReg_evpend n n.isLt))
  · exact signals_faults h _

theorem signals_placeAfterSafe (h : Signals l u t) (c n : Nat) : Signals l u (placeAfterSafe c n t) := by
  unfold placeAfterSafe
  split
  · split
    · exact signals_faults (signals_setReg h _ (Or.inr (by decide))) _
    · split
      · exact signals_faults (signals_loss h _) _
      · exact signals_loss h _
  · exact signals_loss h _

theorem signals_raiseSafe (h : Signals l u t) (c n : Nat) : Signals l u (raiseSafe c n t) := by
  have h1 := signals_logFault h c n
  unfold raiseSafe
  dsimp only
  split
  · exact signals_placeAfterSafe h1 c n
  · unfold placeSafe
    exact signals_faults (signals_setReg (signals_setReg (signals_abortHandler h1) _ (Or.inr (by decide))) _
      (Or.inr (by decide))) _

theorem signals_activate (h : Signals l u t) : Signals l u (activate t) := by
  have key : ∀ s, Signals l u s → Signals l u (match s.faultDrover with
      | some n => if s.faults.safe then s else evin n 10 s
      | none => raiseSafe FaultCode.handlerTmo 0 s) := by
    intro s hs
    split
    · rename_i n _
      split
      · exact hs
      · exact signals_evin hs n.isLt _
    · exact signals_raiseSafe hs _ _
  unfold activate
  dsimp only
  apply key
  split
  · split
    · exact signals_raiseSafe (signals_vector (signals_faults (signals_faults h _) _) _) _ _
    · exact signals_vector (signals_faults (signals_faults h _) _) _
  · exact signals_faults h _

theorem signals_raiseFault (h : Signals l u t) (c n : Nat) : Signals l u (raiseFault c n t) := by
  have h1 := signals_logFault h c n
  unfold raiseFault
  split
  · exact signals_put h1 _ _ (Or.inr (by decide))
  · split
    · exact signals_raiseSafe h _ _
    · dsimp only
      split
      · exact signals_placeAfterSafe h1 c n
      · unfold place
        split
        · exact signals_activate (signals_setReg h1 _ (Or.inr (by decide)))
        · split
          · exact signals_setReg h1 _ (Or.inr (by decide))
          · split
            · exact signals_loss (signals_setReg h1 _ (Or.inr (by decide))) _
            · exact signals_loss h1 _

theorem signals_ackFault (h : Signals l u t) : Signals l u (ackFault t) := by
  unfold ackFault
  split
  · exact h
  · split
    · exact signals_activate (signals_setReg (signals_setReg h _ (Or.inr (by decide))) _ (Or.inr (by decide)))
    · exact signals_setReg h _ (Or.inr (by decide))

end Sys2Proof.Claims
end

