-- ==== Sys2Proof/Machine/Pins.lean ====
section
/-!
DEFINITION. What the output pins carry, as functions of the state: FEM_CTL (R86, R120, R303), COEX_REQ and COEX_PRI (R127,
R189) and TDM_OWN (R303). IRQ_OUTN is State.irqLow (Machine/Vectors.lean).
-/

namespace Sys2Proof.Machine

/-- The chip drives TDM_OWN low (R303, R304). -/
def State.drivesOwn (s : State) : Bool := s.on F.TAN_STAT_OWN

/-- The function code of FEM_CTL pin `n`. -/
def State.femFunc (s : State) (n : Fin 32) : Nat := bits (s.get (F.FRX_FEM_MAP_m_FUNC (n / 8))) (4 * (n.val % 8)) 4

/-- Output `o` is in state ON (R120): busy, or within FEMLEAD before a carrier's ramp-up or FEMLAG after the last. -/
def State.femOn (s : State) (o : Nat) : Bool :=
  s.txBusy o ||
    (s.ftx.cars.any fun c => c.out == o && decide (s.carStart c ≤ s.tally.clock + 4 * s.get (F.FTX_OUT_o_FEMLEAD o))) ||
    (((s.txo o).ended.map fun e => decide (s.tally.clock < e + 4 * s.get (F.FTX_EXT_o_FEMLAG o))).getD false)

/-- A lane's FEM pins are ON. DEDUCED, log entry 65. -/
def State.laneOn (s : State) (l : Fin 2) : Bool :=
  (s.lanes[l].pins.map fun p => decide (p.on ≤ s.tally.clock) && decide (s.tally.clock < p.off)).getD false

/-- The level of FEM_CTL pin `n`. DEDUCED, log entry 65. -/
def State.femPin (s : State) (n : Fin 32) : Bool :=
  let f := s.femFunc n
  if f = 9 then s.drivesOwn && !s.faults.safeEntered
  else if s.faults.safeEntered then bitOf s.femOff n
  else if f = 1 then bitOf (s.get (F.FRX_FEM_PAT_s_LEVEL (s.get F.FRX_STAT_LNA24))) n
  else if f = 2 then bitOf (s.get (F.FRX_FEM_PAT_s_LEVEL (s.get F.FRX_STAT_LNASG))) n
  else if 3 ≤ f ∧ f ≤ 6 then bitOf (s.get (F.FTX_FEM_PAT_o_s_LEVEL (f - 3) (b2n (s.femOn (f - 3))))) n
  else if f = 7 then s.laneOn 0
  else if f = 8 then s.laneOn 1
  else bitOf (s.get F.FRX_FEM_STATIC_LEVEL) n

/-- The carriers that the field request covers: those on the air and those whose FEM pins turn ON within LEAD. -/
def State.coexCars (s : State) : List Carrier :=
  s.ftx.cars.filter fun c => c.on ||
    decide (s.carStart c ≤ s.tally.clock + 4 * (s.get (F.FTX_OUT_o_FEMLEAD c.out) + s.get F.FTX_COEX_LEAD))

/-- COEX_REQ_FLD (R127). -/
def State.coexReqFld (s : State) : Bool :=
  s.on F.FTX_COEX_EN && !s.faults.safeEntered && (!s.coexCars.isEmpty || (List.range 4).any s.femOn)

/-- The class bit of a carrier. -/
def State.carPri (s : State) (c : Carrier) : Bool :=
  match c.kind with
  | .beacon => s.on F.FTX_COEX_PRI_BCN
  | .data => s.on F.FTX_COEX_PRI_DATA
  | .ack _ _ => s.on F.FTX_COEX_PRI_ACK

/-- COEX_PRI_FLD (R127). -/
def State.coexPriFld (s : State) : Bool := s.coexReqFld && s.coexCars.any s.carPri

/-- The lane's request covers a frame: LEAD before its FEM pins turn ON until they are OFF. -/
def State.laneFrame (s : State) (l : Fin 2) : Option LanePins :=
  s.lanes[l].pins.filter fun p =>
    decide (p.on ≤ s.tally.clock + 4 * s.get (F.BBL_l_COEX_LEAD l)) && decide (s.tally.clock < p.off)

/-- COEX_REQ_BBLl (R189). -/
def State.coexReqLane (s : State) (l : Fin 2) : Bool :=
  s.on (F.BBL_l_COEX_EN l) && !s.faults.safeEntered && ((s.laneFrame l).isSome || (s.on (F.BBL_l_COEX_REQRX l) &&
    ((s.lanes[l].win.map fun w => decide (w.open_ ≤ s.tally.clock + 4 * s.get (F.BBL_l_COEX_LEAD l))).getD false)))

/-- COEX_PRI_BBLl (R189). -/
def State.coexPriLane (s : State) (l : Fin 2) : Bool :=
  s.coexReqLane l && (((s.laneFrame l).map fun p => p.pri ||
    (if p.cls = 0 then s.on (F.BBL_l_COEX_PRI_ACK l) else if p.cls = 1 then s.on (F.BBL_l_COEX_PRI_BCN l)
      else s.on (F.BBL_l_COEX_PRI_DATA l))).getD false)

end Sys2Proof.Machine
end

