-- ==== Sys2Proof/WellFormed.lean ====
section
/-!
DEFINITION. Well-formed commands: those whose operands have the sizes and ranges that the spec gives the thing they name.
-/

namespace Sys2Proof

/-- The operands have the sizes that their packet, frame, line or register has. A bundle given by a row has at most five
syllables: a longer one traps as five do. -/
def Instr.wf (i : Instr) : Bool :=
  match i with
  | .registerWrite _ _ _ addr _ => decide (addr < 2 ^ 30)
  | .ringIndexWrite _ _ addr _ => decide (addr < 2 ^ 23) && addr % 4 == 0
  | .unsupportedRequest _ addr len => decide (1 ≤ len) && !(len == 4 && addr % 4 == 0)
  | .slotTick inp => inp.ports.length == 16 && inp.chpwr.length == 80
  | .shrDetect _ _ _ _ chest => decide (chest.length ≤ 256)
  | .frameEnd _ _ _ _ _ psdu _ => decide (psdu.length ≤ 2047)
  | .earlyDescriptor _ _ _ _ psdu => decide (psdu.length ≤ 2047)
  | .laneFrameReceived _ _ _ _ phr psdu _ _ _ => decide (psdu.length ≤ 2047) && decide (phr < 2 ^ 16)
  | .scrubRead _ upset => (upset.map fun p => decide (p.1 < 1572864) && decide (1 ≤ p.2) && decide (p.2 ≤ 4)).getD true
  | .hostApertureAccess _ _ _ len data => decide (1 ≤ len) && (data.isNone || data.map List.length == some len)
  | .tickPacket _ _ _ _ asn _ _ slotlen _ _ => decide (slotlen < 2 ^ 18) && decide (asn < 2 ^ 40)
  | .rwr _ addr _ => decide (addr < 2 ^ 24)
  | .rrd _ _ addr => decide (addr < 2 ^ 24)
  | .sdata _ _ _ len data => decide (1 ≤ len) && decide (len ≤ 256) && (data.isNone || data.map List.length == some len)
  | .image _ _ bytes _ _ => decide (bytes.length ≤ 256)
  | .heartbeatReceive _ _ asn mode _ _ _ => decide (asn < 2 ^ 40) && decide (mode < 12)
  | .journalRecord _ bytes _ => decide (12 ≤ bytes.length)
  | .journalConfirmation _ j _ => decide (j < 2 ^ 32)
  | .fetchAnswer _ _ bytes _ => bytes.length == 16
  | .spiRead _ frame => frame.length == 7
  | .spiWrite _ frame => decide (1 ≤ frame.length)
  | .spiStatus _ frame => decide (1 ≤ frame.length)
  | .tmrStart _ _ mask _ => decide (mask < 2 ^ 16)
  | .tmrStop _ _ mask => decide (mask < 2 ^ 16)
  | .rtcAlarmWrite _ _ addr _ => addr == 0x160020 || addr == 0x160024 || addr == 0x160028
  | .spiGo _ _ miso => miso.all fun w => decide (w < 2 ^ 32)
  | .mwFetchDone _ bytes => bytes.length == 256
  | .fetchRequest _ addr => decide (addr < 2 ^ 21)
  | .mov _ _ _ _ rest | .mov2 _ _ _ _ rest | .mov4 _ _ _ _ rest | .movg _ _ _ _ rest | .lea _ _ _ _ rest
  | .xch _ _ _ _ rest | .xch2 _ _ _ _ rest | .movz _ _ _ _ rest | .movs _ _ _ _ rest | .smov _ _ _ _ rest
  | .smovg _ _ _ _ rest | .sfillg _ _ _ _ rest | .scmp _ _ _ _ rest | .scan _ _ _ _ rest | .scann _ _ _ _ rest
  | .add _ _ _ _ rest | .sub _ _ _ _ rest | .and _ _ _ _ rest | .or _ _ _ _ rest | .xor _ _ _ _ rest
  | .addss _ _ _ _ rest | .shl _ _ _ _ rest | .shr _ _ _ _ rest | .sar _ _ _ _ rest | .rol _ _ _ _ rest
  | .ror _ _ _ _ rest | .min _ _ _ _ rest | .max _ _ _ _ rest | .mins _ _ _ _ rest | .maxs _ _ _ _ rest
  | .addsu _ _ _ _ rest | .crc16 _ _ _ _ rest | .crc32 _ _ _ _ rest | .crcp _ _ _ _ rest | .par _ _ _ _ rest
  | .brev _ _ _ _ rest | .brevn _ _ _ _ rest | .popc _ _ _ _ rest | .clz _ _ _ _ rest | .bset _ _ _ _ rest
  | .bclr _ _ _ _ rest | .btst _ _ _ _ rest | .btog _ _ _ _ rest | .bext _ _ _ _ rest | .bins _ _ _ _ rest
  | .ctz _ _ _ _ rest | .cbeq _ _ _ _ rest | .cbne _ _ _ _ rest | .cblt _ _ _ _ rest | .cbge _ _ _ _ rest
  | .cbltu _ _ _ _ rest | .cbgeu _ _ _ _ rest | .seq _ _ _ _ rest | .sne _ _ _ _ rest | .slt _ _ _ _ rest
  | .sge _ _ _ _ rest | .sltu _ _ _ _ rest | .sgeu _ _ _ _ rest | .bz _ _ _ _ rest | .bnz _ _ _ _ rest
  | .jmp _ _ _ _ rest | .call _ _ _ _ rest | .ret _ _ _ _ rest | .interruptReturn _ rest | .rep _ _ _ _ rest
  | .wait _ _ _ _ rest | .fire _ _ _ _ rest | .trap _ _ _ _ rest | .halt _ _ _ _ rest => decide (rest.length ≤ 4)
  | .tickSeal _ _ _ | .referenceLoss _ | .ppsEdge _ | .ppsMissing _ | .tickTrimWrite _ _ _ | .tickSlewRequest _ _ _
  | .tickCapture _ _ | .tickLoad _ | .tickClrcnt _ | .modeRequest _ _ _ | .modeChange _ _ | .emergencyStop _ _
  | .surveyEnd _ | .powerOnReset _ | .pinReset _ | .softReset _ _ _ | .caravanReset _ | .perstn _ _ _
  | .functionLevelReset _ _ _ | .resetRelease _ _ | .resetSequenceComplete _ | .handlerTmo _ | .faultAck _
  | .safeEntry _ | .sysClrlost _ | .manCheck _ | .manCheckDone _ | .manActivate _ | .manDiscard _ | .manSwitchArm _
  | .manSwitchCancel _ | .subghzRetuneEnd _ | .sfChangeArm _ _ _ | .phrReceived _ _ _ _ _ _ _ | .agcFastStep _ _
  | .frxClrcnt _ | .listFrameStart _ _ _ | .carrierEnd _ _ _ | .grantWithdrawn _ | .ackRingWrWrite _ _ _ _
  | .ackWrEffect _ _ | .ackSend _ _ _ _ | .dpdUpdateDone _ _ _ | .dpdReseed _ | .ftxClrcnt _ | .ntInit _
  | .ntUpdate _ | .ntPredict _ | .ntMiss _ | .ntClear _ | .ntClrcnt _ | .secCheck _ | .secCommit _ | .take _
  | .takecell _ | .leaseRaise _ _ | .secInit _ | .rotate _ | .free _ | .secClrcnt _ | .laneSlotStart _ _
  | .laneCalibrationEnd _ _ | .laneTxStart _ _ _ | .laneSendEntry _ _ _ | .laneWindowClose _ _ | .reacqEnd _ _
  | .searchDwellEnd _ _ | .research _ _ _ | .backgroundCalibrationStep _ _ _ _ | .calibrationOverdue _ _ _
  | .bblClrcnt _ | .rowSpareDone _ | .serSparecmd _ _ _ | .serClrcnt _ | .waitRelease _ _ | .interruptEntry _ _
  | .breakpointHalt _ _ | .drvHalt _ _ _ | .drvResume _ _ _ | .drvStep _ _ _ | .drvSwitchArm _ _ _
  | .drvSwitchCancel _ _ _ | .drvLdataAccess _ _ _ _ | .evoutWrite _ _ _ | .ciphClaim _ _ _ | .ciphDrop _ _ _
  | .sel _ _ | .nonce _ _ | .b0 _ _ | .mac _ _ | .ciphStarved _ _ | .ctr _ _ | .finalTag _ _ | .keyin _ _
  | .openCopy _ _ | .raw _ _ | .release _ _ | .ciphClrcnt _ | .enq _ | .shpAdmit _ | .shpDone _ | .police _
  | .shpClrcnt _ | .dmaGo _ _ _ | .dmaResume _ _ _ | .dmaStop _ _ _ | .copy _ _ _ _ | .fill _ _ | .compare _ _ _ _
  | .waybillComplete _ _ | .busError _ _ _ | .buserrClear _ _ | .dmaClrcnt _ | .carEnum _ _ | .enum _ _ _ _
  | .enumTimeout _ _ _ | .ping _ | .pingReceive _ _ _ | .tickPacketSend _ | .rcpl _ _ | .remoteTimeout _ | .bcast _ _
  | .barq _ _ | .bara _ _ _ | .barrierTimeout _ | .carSnap _ _ | .snap _ _ | .carReset _ _ | .carAbort _ _
  | .resetWave2 _ | .carImage _ _ | .imageSectorConfirm _ _ _ | .portDown _ _ | .link _ _ _ _ | .isolation _
  | .linkUp _ _ _ _ | .carClrcnt _ | .heartbeatSend _ | .heartbeatMiss _ _ | .takeoverEntry _ _ | .replaydone _
  | .replayTimeout _ | .tanJoin _ _ _ | .joinCopyStep _ | .tanHandover _ | .handoverDeadline _ | .tanFetch _
  | .tandemLinkDown _ | .tanClrcnt _ | .doorbell _ _ _ _ | .devWrite _ _ _ _ | .hstClrcnt _ | .noiseHealthFail _
  | .drbgReseed _ | .secureBoot _ _ _ | .truClaim _ | .setpub _ | .rbump _ | .rbumpComplete _ | .importKeys _
  | .lock _ | .retire _ | .unlock _ | .lockdef _ | .ownerCommandDone _ | .truLockset _ _ _ | .truRandRead _ _
  | .jtagInstruction _ _ | .header _ | .chunk _ | .chunkDone _ | .finish _ | .updAbort _ | .updClrcnt _ | .flsRead _
  | .marginRead _ | .readDone _ _ _ | .flsProgram _ | .programDone _ | .flsErase _ | .erasePulseDone _ _
  | .flsSuspend _ | .flsResume _ | .optwrite _ | .optwriteDone _ _ | .flsClrcnt _ | .pfailnFall _ | .flashCloseDone _
  | .calRun _ | .calRunDone _ _ _ _ | .calAbort _ | .calCommit _ | .calCommitDone _ _ | .tmrCapture _ _ _
  | .tmrCmpWrite _ _ _ _ | .tmrPeriodWrite _ _ _ _ | .compareMatch _ _ | .timerWrap _ _ | .rtcCapture _
  | .rtcCaptureDone _ _ | .rtcCommit _ _ _ | .rtcCommitDone _ | .rtcSecond _ | .rtcWake _ | .rtcWakeWrite _ _ _
  | .backupLoss _ | .batteryLow _ | .pendingDelivery _ _ | .evtFire _ _ _ | .evtLock _ _ _ | .evtClrcnt _
  | .masterFrameEnd _ _ | .spiFlush _ _ _ | .spiTxdWrite _ _ _ _ | .spiRxdRead _ _ _ | .csnFall _ _ | .csnRise _ _ _
  | .mwDataRead _ _ | .mwInval _ | .spiClrcnt _ | .supplyOutOfRange _ | .temperatureUpdate _ _ | .tandemLinkUp _
  | .leasePersisted _ _ _ | .drbgRestart _ | .ciphPoolRefill _ _ | .holdupSample _ _ | .backupSupplyReturn _
  | .spiSlaveWord _ _ _ | .msixUnmask _ _ | .laneTxEnd _ _ | .dmaDrainDone _ _ => true

end Sys2Proof
end

