-- ==== Sys2Proof/Tests/Slice0.lean ====
section
/-!
SUPPORT. Tests of this model's own: ill-formed commands that WellFormed refuses, the effect of single commands on small
states, with the results that the spec's text gives, and for every statement with hypotheses a concrete state and operands
that meet them together (`witness_…`, named after the statement, or after its part where a statement has named parts).
-/

set_option Elab.async false

namespace Sys2Proof.Tests

open Sys2Proof Sys2Proof.Machine Sys2Proof.Claims

/-- The state in which a command comes, no time after the command before it. -/
def come (s : State) : State := s.elapse 0

/-- After reset, in mode `m`, with some fields given. -/
def inMode (m : Nat) (l : List (Field × Nat)) : State := (State.reset.put F.SYS_MODE_MODE_CUR m).puts l

/-- Such a state as a command comes. -/
def at_ (m : Nat) (l : List (Field × Nat)) : State := come (inMode m l)

/-- The next state of an answer, where there is one. -/
def after (a : Answer) : State :=
  match a with
  | .next t => t
  | _ => State.reset

/-- `Open`, byte by byte from its first offset, which `decide` can answer. -/
abbrev OpenNear (off n : Nat) (u : State) : Prop :=
  Storage off n u ∧ ∀ k < n, u.inBay Bay.ledger (off + k) = true →
    (off + k - u.bayBase Bay.ledger) / 16 % 16 = 0 ∨ 7 ≤ (off + k - u.bayBase Bay.ledger) / 16 % 16

theorem open_of {off n : Nat} {u : State} (h : OpenNear off n u) : Open off n u := by
  refine ⟨h.1, fun a ha hb => ?_⟩
  have := h.2 (a - off) (by omega)
  rwa [Nat.add_sub_cancel' ha] at this

/-- With no LEDGER bay, storage is open. -/
theorem open_unledgered {off n : Nat} {u : State} (h : Storage off n u) (h0 : u.baySize Bay.ledger = 0) : Open off n u := by
  refine ⟨h, fun a _ _ hb => ?_⟩
  simp only [State.inBay, h0, Bool.and_eq_true, decide_eq_true_eq] at hb
  omega

/-! ## Hypotheses that are met: registers and the slot tick -/

theorem witness_EveryStepKeepsCanonicalForm : State.reset.Inv ∧ step State.reset = .next State.reset :=
  ⟨⟨by decide +kernel, by decide +kernel, by decide +kernel⟩, rfl⟩

theorem witness_RegisterWriteByClass :
    let u := at_ 7 []
    fieldsAt R.CAL_SER = some ((fieldsAt R.CAL_SER).getD []) ∧ ownRule R.CAL_SER = false ∧ ringLen R.CAL_SER = none ∧
      (Writer.host ≠ .remote) ∧ R.CAL_SER % 4 = 0 ∧ Served R.CAL_SER u ∧ NoStep u ∧ u.get F.SYS_STRAP_HOST ≠ 1 ∧
      R.CAL_SER / 0x10000 ≠ 0xF := by decide +kernel

theorem witness_ResetAndSafeDiscardWrites :
    let u := at_ 0 []
    let v := at_ Mode.safe []
    (R.CAL_SER < 0x800000 ∧ R.CAL_SER % 4 = 0) ∧ (u.get F.SYS_STRAP_HOST ≠ 1 ∧ NoStep u ∧ u.mode = Mode.reset) ∧
      (v.get F.SYS_STRAP_HOST ≠ 1 ∧ NoStep v ∧ v.mode = Mode.safe ∧
        R.CAL_SER ∉ [R.SYS_RESET, R.SYS_FAULT_ACK, R.SYS_ERR, R.SYS_RSTCAUSE]) := by decide +kernel

theorem witness_RingIndexBelowLen :
    (let u := at_ 7 [(F.FRX_POOL_k_LEN 1, 8), (F.FTX_ACKRING_j_LEN 0, 8)];
      PlainIndex (F.FRX_POOL_k_WR 1) (F.FRX_POOL_k_LEN 1) ∧ Served (F.FRX_POOL_k_WR 1).off u ∧
        (∀ c < 4, F.FRX_POOL_k_WR 1 ≠ F.CIPH_RING_u_WR c) ∧ 7 < u.get (F.FRX_POOL_k_LEN 1) ∧ ¬8 < u.get (F.FRX_POOL_k_LEN 1) ∧
        WorkIndex (F.FTX_ACKRING_j_WR 0) (F.FTX_ACKRING_j_LEN 0) ∧ Served (F.FTX_ACKRING_j_WR 0).off u ∧
        u.get (F.FTX_ACKRING_j_LEN 0) ≤ 8) ∧
    (∀ p ∈ [11, 15], let u := at_ 7 [(F.CIPH_u_CLAIM_OWNER 3, p), (F.CIPH_RING_u_LEN 3, 8)];
      PlainIndex (F.CIPH_RING_u_WR 3) (F.CIPH_RING_u_LEN 3) ∧ Served (F.CIPH_RING_u_WR 3).off u ∧ 7 < u.get (F.CIPH_RING_u_LEN 3) ∧
        (∀ c < 4, F.CIPH_RING_u_WR 3 = F.CIPH_RING_u_WR c → c = 3) ∧
        (u.get (F.CIPH_u_CLAIM_OWNER 3) = 0xF ∨ u.get (F.CIPH_u_CLAIM_OWNER 3) = (11 : Fin 12))) ∧
    (let u := at_ 7 [(F.HST_RING_r_DROVER 15, 11), (F.HST_RING_r_LEN 15, 8)];
      Served (R.HST_RING_r_2 15) u ∧ u.get (F.HST_RING_r_DROVER 15) = (11 : Fin 12) ∧ u.get (F.HST_RING_r_LEN 15) ≤ 8) :=
  ⟨by decide +kernel, by decide +kernel, by decide +kernel⟩

/-- R240: the host does not write a cipher ring's WR. -/
theorem test_host_leaves_cipher_rings :
    (after (exec (.ringIndexWrite 0 .host (F.CIPH_RING_u_WR 3).off 5) (inMode 7 [(F.CIPH_u_CLAIM_OWNER 3, 15), (F.CIPH_RING_u_LEN 3, 8)]))).get
      (F.CIPH_RING_u_WR 3) = 0 := by decide +kernel

theorem witness_UnsupportedRequestCounts : ((2 : Nat) ≠ 4) ∧ (4 = 4 ∧ 6 % 4 ≠ 0) ∧ (at_ 7 []).mode ≠ Mode.reset := by
  decide +kernel

theorem witness_SlotTickAdvancesTally :
    let u := inMode 7 []
    let v := inMode 1 []
    let w := { u with tally := { u.tally with load := some (3, 2 ^ 40 - 1, 5) } }
    (u.get F.TICK_CTL_SRC ≠ 2 ∧ u.tickRuns = true ∧ u.tally.load = none) ∧ (v.get F.TICK_CTL_SRC ≠ 2 ∧ v.tickRuns = false) ∧
      (w.get F.TICK_CTL_SRC ≠ 2 ∧ w.tickRuns = true ∧ w.tally.load = some (3, 2 ^ 40 - 1, 5)) := by decide +kernel

theorem witness_SealsCountInTime :
    let u := at_ 7 []
    let v := come { u with tally := { u.tally with pos := 4 * (u.slotLen - 2) } }
    (Writable u ∧ u.tickRuns = true ∧ ¬u.slotLen < u.tally.pos / 4 + 3 ∧ 1 = (u.tally.asn + 1) % 256) ∧
      (Writable v ∧ v.tickRuns = true ∧ v.slotLen < v.tally.pos / 4 + 3 ∧ 2 = (v.tally.asn + 1 + 1) % 256) := by decide +kernel

theorem witness_TrimOnlyWithoutSource :
    Writable (at_ 7 []) ∧ (at_ 7 []).get F.TICK_CTL_SRC = 0 ∧ (at_ 7 [(F.TICK_CTL_SRC, 3)]).get F.TICK_CTL_SRC = 3 ∧
      (at_ 7 [(F.TICK_CTL_SRC, 1)]).get F.TICK_CTL_SRC = 1 := by decide +kernel

theorem witness_SlewAddsToRemainder :
    let u := at_ 7 []
    let top : Word := 0x7FFFFF
    let low : Word := 0x800000
    Writable u ∧ u.getS F.TICK_SLEWREM_REM = 0 ∧ (top.toNat : Int).bmod (2 ^ 24) < 2 ^ 23 ∧
      -(2 ^ 23) ≤ (low.toNat : Int).bmod (2 ^ 24) := by decide +kernel

theorem witness_CaptureLatchesWholeTally :
    let u := at_ 7 []
    let v := come { u with tally := { u.tally with slot := 2 ^ 12 - 1, asn := 2 ^ 40 - 1, sfn := 2 ^ 32 - 1 } }
    (Writable u ∧ TallyInRange u) ∧ Writable v ∧ TallyInRange v ∧ Writer.drover 11 ≠ .remote := by decide +kernel

theorem witness_LoadWaitsForTick :
    Writable (at_ 7 []) ∧ (at_ 7 []).tickRuns = true ∧ Writable (at_ 1 []) ∧ (at_ 1 []).tickRuns = false ∧
      (at_ 1 []).get F.TICK_CTL_SRC ≠ 2 := by decide +kernel

theorem witness_PpsEdgesLock :
    let u := at_ 7 [(F.TICK_CTL_SRC, 1), (F.TICK_STAT_LOCK, 1)]
    let v := at_ 7 [(F.TICK_CTL_SRC, 1), (F.TICK_STAT_LOCK, 2)]
    let w := at_ 1 [(F.TICK_CTL_SRC, 1), (F.TICK_STAT_LOCK, 3)]
    (u.mode ≠ Mode.reset ∧ TallyInRange u ∧ u.get F.TICK_CTL_SRC = 1 ∧ u.get F.TICK_STAT_LOCK = 1 ∧ u.tickRuns = true) ∧
      (v.mode ≠ Mode.reset ∧ TallyInRange v ∧ v.get F.TICK_CTL_SRC = 1 ∧ v.get F.TICK_STAT_LOCK = 2) ∧
      (w.mode ≠ Mode.reset ∧ TallyInRange w ∧ w.get F.TICK_CTL_SRC = 1 ∧ w.get F.TICK_STAT_LOCK = 3) := by decide +kernel

theorem witness_CountersClear :
    let u := at_ 7 [(F.SYS_STRAP_TANDEM, 1)]
    (∀ o ∈ [R.FRX_CTL, R.FTX_CTL, R.NT_CTL, R.SEC_CTL, R.BBL_CTL, R.SHP_CTL], Served o u) ∧ Writable u ∧ u.tandem = true := by
  decide +kernel

/-! ## Hypotheses that are met: faults, modes, resets, the Manifest and the air schedule -/

theorem witness_SafeFaultsTakeCur :
    let u := at_ 7 [(F.SYS_FAULT_CUR_VALID, 1), (F.SYS_FAULT_CUR_SEV, 2), (F.SYS_FAULT_CFG_TMO, 0)]
    let v := come { u with tally := { u.tally with clock := 3200 } }
    let w := come { u with faults := { u.faults with safe := true, wait := .fence 5 } }
    let x := come { u with cal := { u.cal with warned := true } }
    (u.mode ≠ Mode.reset ∧ u.faults.safe = false) ∧ (w.mode ≠ Mode.reset ∧ w.faults.safe = true) ∧
      (v.get F.SYS_FAULT_CUR_VALID = 1 ∧ v.faults.safe = false ∧
        v.faults.since + 3200 * max 1 (v.get F.SYS_FAULT_CFG_TMO) ≤ v.tally.clock) ∧
      (460 : Int) ≤ 2047 ∧ x.getS F.CAL_TEMP_TEMP < 460 ∧ x.cal.warned = true := by decide +kernel

theorem witness_ThermalWarningFindsItsPlace :
    let u := at_ 7 [(F.DRV_n_STAT_STATE 11, 1), (F.MAN_DRV_n_ROLE 11, 7), (F.MAN_STAT_ACTIVE_VALID, 1),
      (F.SYS_FAULT_CFG_ESCAL, 0)]
    let v := at_ 7 [(F.SYS_FAULT_CUR_VALID, 1)]
    let w := at_ 7 [(F.SYS_FAULT_CUR_VALID, 1), (F.SYS_FAULT_PEND_VALID, 1), (F.SYS_FAULT_PEND_SEV, 1)]
    let x := at_ 7 [(F.SYS_FAULT_CUR_VALID, 1), (F.SYS_FAULT_PEND_VALID, 1), (F.SYS_FAULT_PEND_SEV, 2)]
    let y := come { u with cal := { u.cal with warned := true } }
    (∀ s ∈ [u, v, w, x], s.cal.warned = false ∧ s.faults.safe = false) ∧ y.cal.warned = true ∧
      (u.get F.SYS_FAULT_CUR_VALID = 0 ∧ u.get F.SYS_FAULT_CFG_ESCAL = 0 ∧ u.faultDrover.isSome = true) ∧
      (v.get F.SYS_FAULT_CUR_VALID = 1 ∧ v.get F.SYS_FAULT_PEND_VALID = 0) ∧
      (w.get F.SYS_FAULT_CUR_VALID = 1 ∧ w.get F.SYS_FAULT_PEND_VALID = 1 ∧ w.get F.SYS_FAULT_PEND_SEV < 2) ∧
      (x.get F.SYS_FAULT_CUR_VALID = 1 ∧ x.get F.SYS_FAULT_PEND_VALID = 1 ∧ 2 ≤ x.get F.SYS_FAULT_PEND_SEV) ∧
      (-2048 : Int) < 412 ∧ (412 : Int) < 420 ∧ (420 : Int) < 460 := by decide +kernel

theorem witness_FaultAckPromotesPending :
    let u := at_ 7 [(F.SYS_FAULT_CUR_VALID, 1)]
    let v := at_ 7 [(F.SYS_FAULT_CUR_VALID, 1), (F.SYS_FAULT_PEND_VALID, 1), (F.SYS_FAULT_PEND_SEV, 1), (F.DRV_n_STAT_STATE 0, 1),
      (F.MAN_DRV_n_ROLE 0, 7), (F.MAN_STAT_ACTIVE_VALID, 1)]
    (u.mode ≠ Mode.reset ∧ u.faults.safe = false ∧ u.get F.SYS_FAULT_CUR_VALID = 1 ∧ u.get F.SYS_FAULT_PEND_VALID = 0) ∧
      (v.mode ≠ Mode.reset ∧ v.faults.safe = false ∧ v.get F.SYS_FAULT_CUR_VALID = 1 ∧ v.get F.SYS_FAULT_PEND_VALID = 1 ∧
        v.get F.SYS_FAULT_PEND_SEV ≠ 2 ∧ v.faultDrover.isSome = true) ∧ (at_ 7 []).get F.SYS_FAULT_CUR_VALID = 0 := by
  decide +kernel

theorem witness_SafeEntryTakesTheMode :
    let u := at_ 7 []
    let v := come { u with faults := { u.faults with wait := .due, safe := true } }
    v.faults.wait = .due ∧ v.mode ≠ Mode.reset := by decide +kernel

theorem witness_WholeChipResets :
    (0x6A3C : Word).toNat % 2 ^ 16 = 0x6A3C ∧ (0x6A3D : Word).toNat % 2 ^ 16 ≠ 0x6A3C ∧ (at_ Mode.safe []).mode = Mode.safe ∧
      (at_ 7 []).mode ≠ Mode.safe ∧ (at_ 7 []).mode ≠ Mode.reset := by decide +kernel

theorem witness_EndpointResetKeepsTheChip :
    (3 : Nat) < 4 ∧ (7 : Nat) < 8 ∧ (at_ 7 []).get F.SYS_STRAP_HOST ≠ 1 ∧ (at_ 7 [(F.SYS_STRAP_HOST, 1)]).get F.SYS_STRAP_HOST = 1 := by
  decide +kernel

theorem witness_ResetSequenceEndsInBoot :
    let u := come State.reset
    let v := after (execResetRelease 0 ⟨3, true, true⟩ u)
    u.rst = .held ∧ (v.get F.SYS_STRAP_OVR).testBit 0 = false ∧ (v.get F.SYS_STRAP_OVR).testBit 1 = false ∧
      (v.get F.SYS_STRAP_OVR).testBit 2 = false ∧ (come v).rst = .running := by decide +kernel

theorem witness_ModeRequestsFollowTheTable :
    let u := at_ Mode.standby []
    let b := at_ Mode.standby [(F.SYS_MODE_TRANS, 1)]
    let e := at_ Mode.drain []
    let go : Word := 0x27
    let off : Word := 0x07
    let stop : Word := 0x35
    (∀ s ∈ [u, b, e], Writable s) ∧ off.getLsbD 5 = false ∧ go.getLsbD 5 = true ∧ b.get F.SYS_MODE_TRANS = 1 ∧
      u.get F.SYS_MODE_TRANS = 0 ∧ (u.mode, 8, false) ∉ transitions ∧ (u.mode = Mode.standby ∧ go.toNat % 16 = Mode.serve) ∧
      (stop.getLsbD 5 = true ∧ stop.getLsbD 4 = true ∧ stop.toNat % 16 = Mode.standby ∧ e.mode = Mode.drain) := by decide +kernel

theorem witness_ModeChangesTakeEffect :
    let u := at_ Mode.standby []
    let v := come { u with modePend := some ⟨Mode.configure, false, 0⟩ }
    let w := at_ Mode.serve []
    let x := come { w with modePend := some ⟨Mode.standby, true, 1⟩, tally := { w.tally with pos := 4 * w.slotLen - 1 } }
    let y := at_ Mode.listen []
    (v.modePend = some ⟨Mode.configure, false, 0⟩ ∧ v.mode ≠ Mode.calibrate) ∧
      (x.modePend = some ⟨Mode.standby, true, 1⟩ ∧ x.tickRuns = true ∧ 4 * x.slotLen ≤ x.tally.pos + 1) ∧
      (y.mode = Mode.listen ∧ y.get F.SYS_MODE_TRANS = 0) := by decide +kernel

theorem witness_ShadowChecks :
    let u := at_ 3 []
    let v := at_ 3 [(F.MAN_STAT_SHADOW, 1)]
    let w := at_ 7 [(F.MAN_STAT_ARMED, 1)]
    Writable u ∧ ¬(u.get F.MAN_STAT_SHADOW = 1 ∨ u.on F.MAN_STAT_ARMED = true) ∧ Writable w ∧ w.on F.MAN_STAT_ARMED = true ∧
      v.get F.MAN_STAT_SHADOW = 1 ∧ v.ser.errs = [] := by decide +kernel

theorem witness_ActivationExchangesSlots :
    let u := at_ Mode.configure [(F.MAN_STAT_SHADOW, 2)]
    Writable u ∧ ¬(u.mode ≠ Mode.configure ∨ u.get F.MAN_STAT_SHADOW ≠ 2) ∧ u.on F.MAN_STAT_ACTIVE_VALID = false ∧
      Writable (at_ 7 []) ∧ (at_ 7 []).mode ≠ Mode.configure := by decide +kernel

theorem witness_SwitchesArmAndCancel :
    let u := at_ 7 [(F.MAN_SWITCH_SFN_SFN, 4), (F.CAR_STAT_ROLE, 2), (F.UPD_HOLDUP_MV, 65535)]
    let v := at_ 7 [(F.MAN_SWITCH_SFN_SFN, 3), (F.CAR_STAT_ROLE, 2), (F.UPD_HOLDUP_MV, 65535)]
    let w := at_ Mode.configure [(F.CAR_STAT_ROLE, 2), (F.UPD_HOLDUP_MV, 65535)]
    let a := at_ 7 [(F.MAN_STAT_ARMED, 1), (F.CAR_STAT_ROLE, 2), (F.UPD_HOLDUP_MV, 65535)]
    let x := come { a with man := { a.man with armT := 3 } }
    let y := come { a with man := { a.man with armT := 2 } }
    (∀ s ∈ [u, v, w, x, y], Writable s ∧ s.isLead = true) ∧
      (MayArm u ∧ 4 ≤ superframesTo 4 u ∧ superframesTo 4 u < 2 ^ 31) ∧ (MayArm v ∧ superframesTo 3 v < 4) ∧ ¬MayArm w ∧
      (u.on F.MAN_STAT_ARMED = false) ∧
      (x.on F.MAN_STAT_ARMED = true ∧ x.on F.MAN_STAT_GO = false ∧ 2 < superframesTo x.man.armT x) ∧
      (y.on F.MAN_STAT_ARMED = true ∧ superframesTo y.man.armT y ≤ 2) := by decide +kernel

theorem witness_ScheduleChangeWaitsForTick :
    let u := at_ 7 []
    let v := at_ 7 [(F.SF_STAT_ARMED, 1)]
    Served R.SF_CHANGE u ∧ ¬(u.on F.SF_STAT_ARMED = true ∨ u.tickRuns = false) ∧ Served R.SF_CHANGE v ∧
      v.on F.SF_STAT_ARMED = true := by decide +kernel

/-! ## Hypotheses that are met: receivers, transmitters, node timing -/

/-- A frame in reception at stream `stream` of 2.4 GHz channel 15, its PHR in where `phr` is some. -/
def rx (stream : Nat) (phr : Option (Nat × Nat)) : Rx :=
  ⟨0, 15, stream, 4, 9, 0, 320000, 0, 0x12, true, false, false, 0, [], phr, 0, 0x1000, 0, 0, false⟩

theorem witness_ReceptionBegins :
    let u := at_ 7 [(F.FRX_CTL_EN24, 1), (F.FRX_CTL_ENSG, 1), (F.FRX_PORTEN_ENSG, 255), (F.FRX_PORTEN_EN24, 255), (F.FRX_AGCSG_AUTO, 1)]
    let v := come { u with frx := { u.frx with rxs := [rx 0 none, rx 1 none] } }
    (u.chanRuns false 15 = true ∧ PreambleLeft 0 15 0 u ∧ u.held 0 15 0 = none) ∧
      (v.chanRuns false 15 = true ∧ PreambleLeft 1 15 0 v ∧
        ¬PreambleLeft 1 15 0 { v with sf := { v.sf with blank := 2 ^ 20 } }) ∧
      (v.chanRuns false 15 = true ∧ (v.held 0 15 0).isSome = true ∧ (v.held 0 15 1).isSome = true) ∧
      (u.rxOn true = true ∧ u.on F.FRX_AGCSG_AUTO = true ∧ u.portOn 15 = true) ∧ (at_ 3 []).rxOn true = false := by decide +kernel

/-- A 2.4 GHz frame in reception, and its pool: three buffers in 8 entries at 0x2000. -/
def inRx (x : Rx) : State :=
  let u := at_ 7 [(F.FRX_POOL_k_LEN 0, 8), (F.FRX_POOL_k_WR 0, 3), (F.FRX_POOL_k_BASE 0, 0x2000)]
  come { u with frx := { u.frx with rxs := [x] } }

theorem witness_PhrTakesABuffer :
    let u := inRx (rx 1 none)
    let v := come { u with frx := { u.frx with ret0 := [0x3000] } }
    let w := come (u.put (F.FRX_POOL_k_WR 0) 0)
    let x := { rx 1 none with phy := 1 }
    (∀ s ∈ [u, v, w], s.held 0 15 1 = some (rx 1 none)) ∧ ((rx 1 none).src = 0 ∧ (rx 1 none).chan = 15 ∧ (rx 1 none).phr = none) ∧
      ((127 : BitVec 16).toNat % 128 ≤ 144 ∧ 5 ≤ (127 : BitVec 16).toNat % 128 ∧ ¬5 ≤ (4 : BitVec 16).toNat % 128) ∧
      ((inRx x).held 0 15 1 = some x ∧ (0x8005 : BitVec 16).getLsbD 15 = true ∧ ¬(0x1091 : BitVec 16).toNat % 2048 ≤ 144) ∧
      v.frx.ret0 = [0x3000] ∧ (w.frx.ret0 = [] ∧ w.get (F.FRX_POOL_k_RD 0) = w.get (F.FRX_POOL_k_WR 0)) ∧
      (come { u with regs := (u.put (F.FRX_POOL_k_LEN 0) 0).regs }).get (F.FRX_POOL_k_LEN 0) = 0 ∧
      (u.frx.ret0 = [] ∧ u.get (F.FRX_POOL_k_LEN 0) ≠ 0 ∧ u.get (F.FRX_POOL_k_RD 0) ≠ u.get (F.FRX_POOL_k_WR 0)) ∧
      Open (u.get (F.FRX_POOL_k_BASE 0) + 4 * u.get (F.FRX_POOL_k_RD 0)) 4 u :=
  ⟨by decide +kernel, by decide +kernel, by decide +kernel, by decide +kernel, by decide +kernel, by decide +kernel,
    by decide +kernel, by decide +kernel, open_of (by decide +kernel)⟩

/-- A frame at a stream that Drover 11 serves, whose ring has 4 entries at 0x4000 and holds 3 back. -/
def served (phr : Nat × Nat) : State :=
  let u := come ((inRx (rx 1 (some phr))).puts
    [(F.FRX_RING_n_LEN 11, 4), (F.FRX_RING_n_WR 11, 3), (F.FRX_RING_n_RD 11, 1), (F.FRX_RING_n_BASE 11, 0x4000), (F.FRX_CTL_EARLY, 1)])
  come { u with man := { u.man with lanes := [⟨0, 15, 1, 11⟩] } }

theorem witness_FramesAreDelivered :
    let u := served (5, 5)
    let v := served (33, 33)
    let p := List.replicate 5 (0 : Byte)
    (InReception 0 15 1 (rx 1 (some (5, 5))) p.length 5 u ∧ u.laneDrover 0 15 1 = some (11 : Fin 12) ∧ RingRoom 11 u ∧
      Apart 0x1000 (padded p).length (descAt 11 u) 64 ∧ fcsOk (fcsLen 0 5 == 4) (plain (rx 1 none) 5 p) = true) ∧
    Open 0x1000 (padded p).length u ∧ Open (descAt 11 u) 64 u ∧
    (u.faults.safeEntered = false ∧ u.on F.FRX_CTL_KEEPBAD = false ∧ (rx 1 none).early = false ∧
      fcsOk (fcsLen 0 5 == 4) (plain (rx 1 none) 5 [1, 0, 0, 0, 0]) = false) ∧
    (InReception 0 15 1 (rx 1 (some (33, 33))) 33 33 v ∧ v.on F.FRX_CTL_EARLY = true ∧ v.laneDrover 0 15 1 = some (11 : Fin 12) ∧
      RingRoom 11 v ∧ Apart 0x1000 32 (descAt 11 v) 64) ∧
    Open 0x1000 32 v ∧ Open (descAt 11 v) 64 v :=
  ⟨by decide +kernel, open_of (by decide +kernel), open_of (by decide +kernel), by decide +kernel, by decide +kernel,
    open_of (by decide +kernel), open_of (by decide +kernel)⟩

/-- A carrier of output 3. -/
def carrier (k : CarKind) (on : Bool) : Carrier := ⟨3, 5, k, 100, 200, 0x1000, 20, true, false, false, 0, on⟩

/-- The chip serves the air, with some carriers. -/
def onAir (l : List Carrier) (f : List (Field × Nat)) : State :=
  let u := at_ 7 f
  come { u with sf := { u.sf with air := true }, ftx := { u.ftx with cars := l } }

theorem witness_PlannedFramesLeave :
    let u := onAir [carrier .data false] [(F.FTX_COEX_EN, 1)]
    let c := carrier (.ack 4 9) false
    let v := onAir [c] []
    let w := onAir [carrier .data true] []
    (planned 3 u = [carrier .data false] ∧ carrier .data false ∈ u.ftx.cars ∧ u.mayTransmit = true ∧ Storage 0x1000 20 u ∧
        u.on F.FTX_COEX_EN = true) ∧
      (c.out = 3 ∧ c.chan = 5 ∧ c.on = false ∧ c.kind = .ack 4 9 ∧
        (v.ftx.cars.filter fun x => x.out == 3 && x.chan == 5 && !x.on) = [c] ∧ v.txBusy 3 = false ∧ v.mayTransmit = true ∧
        Storage 0x1000 20 v ∧ v.on F.FTX_COEX_EN = false) ∧
      (w.ftx.cars.filter fun x => x.on && x.out == 3 && x.chan == 5) = [carrier .data true] ∧
      (u.ftx.cars.all (!·.on)) = true := by
  decide +kernel

/-- Acknowledgement ring 1 at 0x5000 with an entry for output 0: PSDU of 5 bytes at 0x1000, channel 15, a frame that ended
`ts` quarter grains into the slot. -/
def acking (pos : Nat) : State :=
  let u := onAir [] [(F.FTX_ACKRING_j_LEN 1, 4), (F.FTX_ACKRING_j_BASE 1, 0x5000), (F.FTX_OUT_o_EN 0, 1), (F.SF_TMPL1_ACKDLY, 500)]
  let w := u.poke 0x5000 [0, 0x10, 0, 0, 5, 0, 15, 0, 0, 9, 0, 0, 0, 0, 0, 0]
  come { w with tally := { w.tally with clock := pos, pos := pos } }

theorem witness_AcknowledgementRings :
    let u := acking 20
    let v := acking 4000
    let w := acking 2
    let q := { u with ftx := { u.ftx with held := [(1, 1, 9)] } }
    let e := txEntry true (u.bytesAt (ackAt 1 u) 16)
    let te := u.tsEnd (num (ackAt 1 u + 9) 3 u % 2 ^ 20)
    let c := u.mkCarrier e 0 15 (.ack te.2 9) (te.1 + 4 * u.get F.SF_TMPL1_ACKDLY - u.get (F.FTX_EXT_o_DLY 0))
    (Writer.host ≠ .remote ∧ Served (R.FTX_ACKRING_j_2 1) u ∧ (1 : Word).toNat % 2 ^ 16 < u.get (F.FTX_ACKRING_j_LEN 1) ∧
      u.get (F.FTX_ACKRING_j_RD 1) < u.get (F.FTX_ACKRING_j_LEN 1)) ∧
    (u.mayTransmit = true ∧ 1 = (u.get (F.FTX_ACKRING_j_RD 1) + 1) % u.get (F.FTX_ACKRING_j_LEN 1) ∧
      2 ≤ u.get (F.FTX_ACKRING_j_LEN 1) ∧ Storage (ackAt 1 u) 16 u) ∧
    (u.entryOk e = true ∧ u.ackDeadline 0 te.1 < v.tally.clock ∧ u.ackDeadline 0 (v.tsEnd 9).1 < v.tally.clock ∧ v.entryOk e = true) ∧
    ((u.tally.clock : Int) ≤ u.ackDeadline 0 te.1 ∧ u.carFree c = true ∧ u.blanked c = false ∧ u.clash c = false ∧
      u.mayAck ⟨e.band == 1, e.chan, te.2, 9⟩ = true ∧ u.ftx.held.any (·.1 == 1) = false ∧ q.ftx.held.any (·.1 == 1) = true) ∧
    ((at_ 3 []).mayTransmit = false ∧ w.entryOk (txEntry true (List.replicate 16 0)) = false) ∧
    (q.ftx.held = [(1, 1, 9)] ∧ q.waitsPartner = false) := by decide +kernel

theorem witness_DpdUpdates :
    let u := at_ 7 [(F.FTX_DPD_ERRMAX, 10)]
    let v := come { u with ftx := { u.ftx with cap := [some 1, some 3] } }
    (v.ftx.cap.getD (3 / 2) none = some 3 ∧ v.ftx.cap.getD (1 / 2) none = some 1 ∧ 3 < v.ftx.outs.length) ∧
      (Served R.FTX_DPD u ∧ 10 ≤ u.get F.FTX_DPD_ERRMAX ∧ u.get F.FTX_DPD_ERRMAX ≤ 60) := by decide +kernel

/-- NT ring 1 at 0x7000 with the entry `e` of node 3, whose Ledger entry is the fourth of a bay of 64 KiB at 0x100000 and
holds `m`; the present slot is the 5,000th. -/
def nt (op : Nat) (m : Drift) (ts : Nat) : State :=
  let u := at_ 7 [(F.NT_RING_j_LEN 1, 4), (F.NT_RING_j_WR 1, 1), (F.NT_RING_j_BASE 1, 0x7000), (F.MAN_BAY_n_BASE Bay.ledger, 16),
    (F.MAN_BAY_n_SIZE Bay.ledger, 1)]
  let v := (((u.poke 0x7000 (leBytes 1 op ++ [0] ++ leBytes 2 3 ++ leBytes 4 ts)).poke (0x100300 + 112) m.bytes).poke
    (0x100300 + 10) [3])
  come { v with tally := { v.tally with asn := 5000 } }

/-- A drift model anchored in slot 4,990, in state `st`. -/
def modelIn (st miss nupd : Nat) : Drift :=
  { anchor := 4990, anchq := 100, state := st, off := 0, rate := 0, acc := 0, jit := 0, pend := 0, miss := miss, jumps := 0, nupd := nupd }

/-- `NtEntry` with its regions of memory read byte by byte. -/
theorem ntEntry_of {op fl node j off : Nat} {u : State}
    (h : u.tickRuns = true ∧ NextEntry ntRing j off u ∧ u.get (ntRing j).rd < u.get (ntRing j).len ∧
      num off 1 u = op ∧ num (off + 1) 1 u = fl ∧ num (off + 2) 2 u = node ∧ ntBad (u.bytesAt off 16) = false ∧
      node ≤ 16383 ∧ u.baySize Bay.ledger ≠ 0)
    (h1 : OpenNear off 32 u) (h2 : OpenNear (u.ledger node + 112) 32 u)
    (h3 : Storage (u.ledger node) 16 u ∧ Apart off 32 (u.ledger node + 112) 32 ∧ Apart off 32 (u.ledger node) 16) :
    NtEntry op fl node j off u := by
  obtain ⟨a, b, c, d, e, f, g, i, k⟩ := h
  exact ⟨a, b, c, d, e, f, g, i, k, open_of h1, open_of h2, h3⟩

theorem witness_NtCommandsKeepTheModel :
    NtEntry 5 0 3 1 0x7000 (nt 5 (modelIn 0 0 0) 0) ∧
    (NtEntry 1 0 3 1 0x7000 (nt 1 (modelIn 0 0 0) (4998 % 4096 * 2 ^ 20 + 17)) ∧
      4096 ≤ (nt 1 (modelIn 0 0 0) 0).tally.asn ∧ (nt 1 (modelIn 0 0 0) 0).tally.asn < 2 ^ 40) ∧
    (NtEntry 4 0 3 1 0x7000 (nt 4 (modelIn 2 0 9) 0) ∧ (nt 4 (modelIn 2 0 9) 0).ledgerState 3 ≠ 0 ∧
      (drift 3 (nt 4 (modelIn 2 0 9) 0)).state ≠ 0 ∧ (drift 3 (nt 4 (modelIn 2 0 9) 0)).state ≠ 3 ∧
      min 15 (0 + 1) < max 1 ((nt 4 (modelIn 2 0 9) 0).get F.NT_CFG_LOSTN) ∧
      max 1 ((nt 4 (modelIn 2 15 9) 0).get F.NT_CFG_LOSTN) ≤ min 15 ((drift 3 (nt 4 (modelIn 2 15 9) 0)).miss + 1) ∧
      (drift 3 (nt 4 (modelIn 3 0 9) 0)).state = 3) ∧
    (∀ st ∈ [2, 3], let u := nt 3 (modelIn st 0 9) 5040
      NtEntry 3 0 3 1 0x7000 u ∧ u.ledgerState 3 ≠ 0 ∧ (drift 3 u).state = st ∧ u.nt.before = none ∧
        (num (0x7000 + 4) 4 u + 2 ^ 32 - u.tally.asn % 2 ^ 32) % 2 ^ 32 < 65536 ∧ u.sf.change = none ∧
        schedField (u.schedAhead ((num (0x7000 + 4) 4 u + 2 ^ 32 - u.tally.asn % 2 ^ 32) % 2 ^ 32)) 2 16 16 ≤
          schedField (u.schedAhead ((num (0x7000 + 4) 4 u + 2 ^ 32 - u.tally.asn % 2 ^ 32) % 2 ^ 32)) 2 0 16) ∧
    (∀ m ∈ [modelIn 1 0 0, modelIn 3 0 9], let u := nt 2 m (4998 % 4096 * 2 ^ 20 + 99)
      NtEntry 2 0 3 1 0x7000 u ∧ u.ledgerState 3 ≠ 0 ∧ (drift 3 u).state ≠ 0 ∧ u.nt.before = none ∧ 4096 ≤ u.tally.asn ∧
        u.tally.asn < 2 ^ 39 ∧ (drift 3 u).anchor < (u.resolveTs (num (0x7000 + 4) 4 u)).1) := by
  refine ⟨ntEntry_of (by decide +kernel) (by decide +kernel) (by decide +kernel) (by decide +kernel),
    ⟨ntEntry_of (by decide +kernel) (by decide +kernel) (by decide +kernel) (by decide +kernel), by decide +kernel⟩,
    ⟨ntEntry_of (by decide +kernel) (by decide +kernel) (by decide +kernel) (by decide +kernel), by decide +kernel⟩, ?_, ?_⟩
  · intro st h
    obtain rfl | rfl : st = 2 ∨ st = 3 := by simpa using h
    all_goals exact ⟨ntEntry_of (by decide +kernel) (by decide +kernel) (by decide +kernel) (by decide +kernel), by decide +kernel⟩
  · intro m h
    obtain rfl | rfl : m = modelIn 1 0 0 ∨ m = modelIn 3 0 9 := by simpa using h
    all_goals exact ⟨ntEntry_of (by decide +kernel) (by decide +kernel) (by decide +kernel) (by decide +kernel), by decide +kernel⟩

/-! ## Hypotheses that are met: frame security and backbone lanes -/

/-- SEC ring 1 at 0x7000 with the entry `e`, of node 3, whose Ledger entry is the fourth of a bay of 64 KiB at 0x100000:
in use, INCTR 100 with bitmap 1 and INSEEN, key slot 1 valid with index 5 from level 5; OUTCTR and LEASE given. -/
def sec (e : List Byte) (out lease : Nat) : State :=
  let u := at_ 7 [(F.SEC_RING_j_LEN 1, 4), (F.SEC_RING_j_WR 1, 1), (F.SEC_RING_j_BASE 1, 0x7000), (F.MAN_BAY_n_BASE Bay.ledger, 16),
    (F.MAN_BAY_n_SIZE Bay.ledger, 1), (F.TRU_STAT_DRBGOK, 1)]
  come (((((u.poke 0x7000 e).poke (0x100300 + 10) [3]).poke (0x100300 + 16)
    (leBytes 4 100 ++ leBytes 4 1 ++ leBytes 8 0 ++ leBytes 4 out ++ leBytes 4 lease ++ [1])).poke (0x100300 + 80 + 24) [5, 11]))

/-- The bytes of an entry: OP, FLAGS, node 3 and the words at 4 and 8. -/
def secE (op fl w4 w8 : Nat) : List Byte := leBytes 1 op ++ leBytes 1 fl ++ leBytes 2 3 ++ leBytes 4 w4 ++ leBytes 4 w8

/-- `SecEntry` with its regions of memory read byte by byte. -/
theorem secEntry_of {op fl node j off : Nat} {u : State}
    (h : u.tickRuns = true ∧ NextEntry secRing j off u ∧ u.get (secRing j).rd < u.get (secRing j).len ∧
      num off 1 u = op ∧ num (off + 1) 1 u = fl ∧ num (off + 2) 2 u = node ∧ secBad (u.bytesAt off 32) = false ∧
      node ≤ 16383 ∧ u.baySize Bay.ledger ≠ 0 ∧ u.ledgerState node ≠ 0)
    (h1 : OpenNear off 32 u) (h2 : Storage (u.ledger node) 112 u ∧ Apart off 32 (u.ledger node) 112) :
    SecEntry op fl node j off u := by
  obtain ⟨a, b, c, d, e, f, g, i, k, l⟩ := h
  exact ⟨a, b, c, d, e, f, g, i, k, l, open_of h1, h2⟩

theorem witness_ReplayIsDecided :
    (let u := sec (secE 1 0 100 0x0505) 0 4096;
      (1 : Nat) < 2 ∧ SecEntry 1 0 3 1 0x7000 u ∧
        (KeySlot (u.ledger 3) 1 (num (0x7000 + 9) 1 u) 5 u ∧ 5 ≤ num (0x7000 + 8) 1 u) ∧ num (0x7000 + 8) 1 u ≠ 4 ∧
        num (u.ledger 3 + 48 + 24) 1 u ≠ num (0x7000 + 9) 1 u) ∧
    (∀ c ∈ [(101, 0), (100, 2), (99, 1), (69, 1), (68, 6), (0xFFFFFFFF, 6)],
      classOf 0x100300 c.1 (sec (secE 2 1 c.1 0) 0 4096) = c.2) ∧
    (SecEntry 2 1 3 1 0x7000 (sec (secE 2 1 101 0) 0 4096) ∧ (sec (secE 2 1 101 0) 0 4096).sec.checked = []) ∧
    (let u := sec (secE 2 1 100 1) 0 4096;
      SecEntry 2 1 3 1 0x7000 u ∧ num (0x7000 + 8) 8 u ≠ num (u.ledger 3 + 24) 8 u ∧
        num (0x7000 + 8) 8 (sec (secE 2 1 100 0) 0 4096) = num (u.ledger 3 + 24) 8 (sec (secE 2 1 100 0) 0 4096)) ∧
    (let u := sec (secE 2 1 101 0) 0 4096
      let v := come { u with sec := { u.sec with checked := [(checkKey 3 101, (1, 5))] } };
      SecEntry 2 1 3 1 0x7000 v ∧ classOf (v.ledger 3) 101 v = 0 ∧ num (v.ledger 3 + 40) 1 v / 2 % 2 = 0 ∧
        KeySlot (v.ledger 3) 1 5 5 v ∧ v.sec.checked = [(checkKey 3 (num (0x7000 + 4) 4 v), (1, 5))]) ∧
    SecEntry 2 0 3 1 0x7000 (sec (secE 2 0 100 0) 0 4096) ∧ NotChecked 3 100 (sec (secE 2 0 100 0) 0 4096) := by
  refine ⟨⟨by decide, secEntry_of (by decide +kernel) (by decide +kernel) (by decide +kernel), by decide +kernel⟩, by decide +kernel,
    ⟨secEntry_of (by decide +kernel) (by decide +kernel) (by decide +kernel), by decide +kernel⟩,
    ⟨secEntry_of (by decide +kernel) (by decide +kernel) (by decide +kernel), by decide +kernel⟩,
    ⟨secEntry_of (by decide +kernel) (by decide +kernel) (by decide +kernel), by decide +kernel⟩,
    secEntry_of (by decide +kernel) (by decide +kernel) (by decide +kernel), by decide +kernel⟩

theorem witness_CountersAndKeys :
    (∀ c ∈ [(0xFFFFFFFF, 4096), (4096, 4096), (4095, 4096)], let u := sec (secE 3 0 0 0) c.1 c.2;
      SecEntry 3 0 3 1 0x7000 u ∧ num (u.ledger 3 + 32) 4 u = c.1 ∧ num (u.ledger 3 + 36) 4 u = c.2) ∧
    (let u := sec (leBytes 4 4) 0 0;
      (u.tickRuns = true ∧ NextEntry secRing 1 0x7000 u ∧ u.get (secRing 1).rd < u.get (secRing 1).len ∧ num 0x7000 1 u = 4 ∧
        secBad (u.bytesAt 0x7000 32) = false) ∧ Open 0x7000 32 u) ∧
    (∀ op ∈ [5, 6, 7], let u := sec (secE op 0 0 0) 0 0;
      SecEntry op 0 3 1 0x7000 u ∧ u.on F.TRU_STAT_DRBGOK = true) ∧
    (let u := sec [] 0 0
      let v := come { u with sec := { u.sec with leases := [⟨0, 3, 1, [], 8192, false, true, 7, false⟩] } };
      v.sec.leases = [⟨0, 3, 1, [], 8192, false, true, 7, false⟩] ∧ v.on F.FLS_STAT_PFAIL = false ∧ Storage (v.ledger 3 + 36) 4 v) ∧
    (let u := sec [] 0 0
      let l : Lease := ⟨0, 3, 1, [], 8192, true, false, 7, false⟩
      let v := come { u with sec := { u.sec with leases := [l], persist := [l] } };
      v.sec.leases = [l] ∧ Storage (v.ledger 3 + 36) 4 v ∧ v.sec.persist = [l] ∧ l.jseq = 7 ∧ l.retry = false ∧
        v.on F.FLS_STAT_PFAIL = false) := by
  refine ⟨?_, ⟨by decide +kernel, open_of (by decide +kernel)⟩, ?_, by decide +kernel, by decide +kernel⟩
  · intro c h
    obtain rfl | rfl | rfl : c = (0xFFFFFFFF, 4096) ∨ c = (4096, 4096) ∨ c = (4095, 4096) := by simpa using h
    all_goals exact ⟨secEntry_of (by decide +kernel) (by decide +kernel) (by decide +kernel), by decide +kernel⟩
  · intro op h
    obtain rfl | rfl | rfl : op = 5 ∨ op = 6 ∨ op = 7 := by simpa using h
    all_goals exact ⟨secEntry_of (by decide +kernel) (by decide +kernel) (by decide +kernel), by decide +kernel⟩

/-- Lane 1 with role and state given. -/
def lane (role st : Nat) (f : List (Field × Nat)) : State :=
  at_ 7 ([(F.BBL_l_CFG_ROLE 1, role), (F.BBL_l_STATE_STATE 1, st)] ++ f)

theorem witness_LaneSlotsBegin :
    let u := lane 2 5 [(F.BBL_l_LINK_BCNPER 1, 2), (F.BBL_l_STATE_CAL 1, 1)]
    let v := come { u with tally := { u.tally with asn := 1 }, prog1 := some ⟨0x8000, 1, none⟩ }
    let w := come ((v.poke 0x8000 [2]).modLane 1 fun a => { a with mask := 2 ^ 31 });
    (SlotBegins 1 u ∧ u.laneFree 1 = false ∧ ¬SlotBegins 1 (u.modLane 1 fun a => { a with begun := true, start := u.laneGrid 1 })) ∧
      (SlotBegins 1 u ∧ ParentIdle 1 u ∧ u.prog 1 = none) ∧
      (SlotBegins 1 w ∧ ParentIdle 1 w ∧ w.tally.asn % max 1 (w.get (F.BBL_l_LINK_BCNPER 1)) ≠ 0 ∧
        w.prog 1 = some ⟨0x8000, 1, none⟩ ∧ Storage 0x8000 16 w ∧ num 0x8000 1 w = 2 ∧
        laneChan (newMask 1 w) w.tally.asn (num 0x8001 1 w) = some 31 ∧
        laneEntryOk false (w.get (F.BBL_l_CHAN_c_PHY 1 31)) (w.bytesAt 0x8000 16) = true) ∧
      u.get (F.BBL_l_STATE_CAL 1) = 1 := by decide +kernel

/-- Lane 1 with the transmit entry at 0x8000 in work, 100 bytes at 0x9000, its calibration over at clock `c`. -/
def laneTx (c flags : Nat) : State :=
  let u := lane 2 5 [(F.BBL_l_TMPL_TXOFF 1, 4000), (F.BBL_l_GUARD_TXLATE 1, 10)];
  come (u.modLane 1 fun a => { a with op := 1, base := 0x8000, buf := 0x9000, len := 100, calEnd := some c, flags := flags })

theorem witness_LaneFramesAndWindows :
    (let u := laneTx 100 2;
      TxReady 1 100 false u ∧ Storage u.lanes[(1 : Fin 2)].buf u.lanes[(1 : Fin 2)].len u ∧
        100 + 4 * (u.laneD 1 + u.lanePrep 1) ≤ u.laneTxoff 1 ∧ LaneGranted 1 false u) ∧
    (let u := laneTx 16000 0;
      (TxReady 1 16000 false u ∧ u.laneTxoff 1 < 16000 + 4 * (u.laneD 1 + u.lanePrep 1) ∧
        u.laneTxoff 1 + 4 * u.get (F.BBL_l_GUARD_TXLATE 1) < 16000 + 4 * u.lanePrep 1 + u.get (F.BBL_l_EXT_DLY 1)) ∧
        Open (u.lanes[(1 : Fin 2)].base + 3) 1 u) ∧
    (∀ k ∈ [false, true], let u := laneTx 100 1
      let v := come (u.modLane 1 fun a => { a with tx := some ⟨some 0x8000, k, 5⟩ });
      (v.lanes[(1 : Fin 2)].tx = some ⟨some 0x8000, k, 5⟩ ∧ v.lanes[(1 : Fin 2)].op ≠ 0 ∧ v.lanes[(1 : Fin 2)].base = 0x8000 ∧
        v.laneRuns 1 = true ∧ (come (v.put F.SYS_MODE_MODE_CUR 3)).laneRuns 1 = false) ∧ Open (0x8000 + 3) 1 v) ∧
    (let u := lane 2 5 [(F.BBL_l_SEND_BASE 1, 0xA000), (F.BBL_l_SEND_LEN 1, 4), (F.BBL_l_SEND_RD 1, 3), (F.BBL_l_TMPL_ACKDLY 1, 1000)]
      let v := come ((u.poke 0xA030 [0, 0x90, 0, 0, 5, 0, 0, 0, 0, 20, 0, 0]).modLane 1 fun a =>
        { a with sends := [(40, 0, 0)], mask := 1, lasn := 1 })
      let raw := v.bytesAt 0xA030 16
      let e := txEntry true (raw.set 7 0)
      let m := v.sendMoment 1 e none 40 0 0
      let phy := v.get (F.BBL_l_CHAN_c_PHY 1 0);
      v.get (F.BBL_l_SEND_BASE 1) + 16 * v.get (F.BBL_l_SEND_RD 1) = 0xA030 ∧ num 0xA037 1 v = 0 ∧
        v.lanes[(1 : Fin 2)].sends = [(40, 0, 0)] ∧ Storage 0xA030 16 v ∧ v.laneSends 1 = true ∧ v.beaconOnly 1 = false ∧
        laneChan v.lanes[(1 : Fin 2)].mask v.lanes[(1 : Fin 2)].lasn v.lanes[(1 : Fin 2)].choff = some 0 ∧ e.buf % 16 = 0 ∧
        phy = 0 ∧ 5 ≤ e.len ∧ e.len ≤ 127 ∧ 40 + 4 * (v.laneD 1 + v.lanePrep 1) ≤ m ∧ 0 = v.lanes[(1 : Fin 2)].start ∧
        m + 4 * airtime phy e.len ≤ 4 * (v.slotLen - 800) ∧ v.lanes[(1 : Fin 2)].win = none ∧
        v.lanes[(1 : Fin 2)].tx = none ∧ v.get (F.BBL_l_STATE_CAL 1) ≠ 1 ∧ LaneGranted 1 false v ∧ Storage e.buf e.len v) ∧
    (∀ k ∈ [LaneWinKind.rx, .ack], let u := laneTx 100 1
      let v := come (u.modLane 1 fun a => { a with win := some ⟨k, 5, 6, 5⟩ });
      v.lanes[(1 : Fin 2)].win = some ⟨k, 5, 6, 5⟩ ∧ v.lanes[(1 : Fin 2)].op ≠ 0 ∧ Open (v.lanes[(1 : Fin 2)].base + 3) 1 v) ∧
    (∀ n ∈ [1, 15], let u := lane 1 3 [(F.BBL_l_LINK_LOSTN 1, n)]
      let v := come (u.modLane 1 fun a => { a with win := some ⟨.beacon, 5, 6, 5⟩ });
      v.lanes[(1 : Fin 2)].win = some ⟨.beacon, 5, 6, 5⟩ ∧ v.laneState 1 = 3 ∧ v.laneFree 1 = true ∧
        (v.get (F.BBL_l_LINK_LOSTN 1) ≤ min (v.get (F.BBL_l_STATE_MISS 1) + 1) 15 ↔ n = 1)) := by
  refine ⟨by decide +kernel, ⟨by decide +kernel, open_of (by decide +kernel)⟩, ?_, by decide +kernel, ?_, by decide +kernel⟩
  · intro k h
    obtain rfl | rfl : k = false ∨ k = true := by simpa using h
    all_goals exact ⟨by decide +kernel, open_of (by decide +kernel)⟩
  · intro k h
    obtain rfl | rfl : k = .rx ∨ k = .ack := by simpa using h
    all_goals exact ⟨by decide +kernel, by decide +kernel, open_of (by decide +kernel)⟩

/-- A link beacon of the parent with EUI 7: LASN 9, hop mask 3; its first 36 bytes and its FCS. -/
def beacon : List Byte :=
  withFcs true false ([0x00, 0xE2, 1, 0, 0] ++ leBytes 8 7 ++ [0x15, 0, 0, 0, 0, 5, 1, 0] ++ leBytes 5 9 ++ leBytes 6 0 ++
    leBytes 4 3 ++ [0, 0])

theorem witness_LanesFollowTheirParent :
    (let u := lane 2 5 [(F.FRX_RING_n_LEN 11, 4), (F.FRX_RING_n_BASE 11, 0x4000), (F.FRX_RING_n_RD 11, 3), (F.FRX_POOL_k_LEN 0, 8)]
      let v := come ((come { u with frx := { u.frx with ret0 := [0x3000] }, man := { u.man with lanes := [⟨2, 1, 0, 11⟩] } }).modLane
        1 fun a => { a with op := 2, base := 0x8000, win := some ⟨.rx, 0, 6, 5⟩ })
      let p := List.replicate 5 (0 : Byte);
      (p.length ≤ 144 ∧ v.laneRuns 1 = true ∧ v.laneState 1 ≠ 1 ∧ v.laneMember 1 = false ∧
        v.lanes[(1 : Fin 2)].win = some ⟨.rx, 0, 6, 5⟩ ∧ v.tally.clock - (0 + v.get (F.BBL_l_EXT_DLY 1)) ≤ 6 ∧
        LaneSound 1 5 p v ∧ v.get (F.FRX_POOL_k_LEN 0) ≠ 0 ∧
        v.frx.ret0 = [0x3000] ∧ v.on F.FRX_CTL_EARLY = false ∧ v.laneDrover 2 1 0 = some (11 : Fin 12) ∧
        v.lanes[(1 : Fin 2)].op = 2 ∧ Apart 0x3000 (padded p).length (descAt 11 v) 64 ∧ Apart 0x3000 (padded p).length 0x8003 1 ∧
        Apart (descAt 11 v) 64 0x8003 1) ∧
      (v.get (F.FRX_RING_n_WR 11) + 1) % v.get (F.FRX_RING_n_LEN 11) ≠ v.get (F.FRX_RING_n_RD 11) ∧
      Open 0x3000 (padded p).length v ∧ Open (descAt 11 v) 64 v ∧ Open 0x8003 1 v) ∧
    (∀ st ∈ [2, 4], let u := lane 1 st [(F.BBL_l_PARENT_LO_EUI 1, 7), (F.SF_VIE_OUI, 0)]
      let v := come (u.modLane 1 fun a => { a with win := some ⟨.beacon, 0, 6, 5⟩ });
      v.laneRuns 1 = true ∧ v.laneState 1 ≠ 1 ∧ v.laneMember 1 = true ∧ v.lanes[(1 : Fin 2)].win = some ⟨.beacon, 0, 6, 5⟩ ∧
        v.tally.clock - (0 + v.get (F.BBL_l_EXT_DLY 1)) ≤ 6 ∧ LaneSound 1 beacon.length beacon v ∧
        linkBeacon (v.get F.SF_VIE_OUI) (lanePlain 1 beacon.length beacon v) = some (7, 9, 3) ∧ 7 = v.laneParentEui 1) ∧
    (let u := lane 1 4 [(F.BBL_l_SRCH_MASK 1, 6)]
      let v := come (u.modLane 1 fun a => { a with periods := 255 });
      v.laneState 1 = 4 ∧ v.get (F.BBL_l_LINK_REACQ 1) ≤ v.lanes[(1 : Fin 2)].periods) ∧
    (let u := lane 1 1 [(F.BBL_l_SRCH_MASK 1, 6)];
      u.laneState 1 = 1 ∧ u.lanes[(1 : Fin 2)].dwell = 0 ∧ Served (R.BBL_l_CMD 1) u ∧ u.lanes[(1 : Fin 2)].op = 0 ∧
        u.laneFree 1 = true ∧ u.laneRuns 1 = true ∧ Writer.host ≠ .remote) ∧
    (let u := lane 2 5 [(F.BBL_l_BGCAL_EN 1, 8), (F.CAL_TEMP_TEMP, 20)]
      let v := come { u with tally := { u.tally with clock := 1280 } };
      v.laneIdle 1 = true ∧ (v.get (F.BBL_l_BGCAL_EN 1)).testBit 3 = true ∧ u.laneOnAir 1 = true ∧
        (u.lanes[(1 : Fin 2)].bg.getD 3 ⟨0, 0, false⟩).overdue = false ∧
        20 ≤ (u.getS F.CAL_TEMP_TEMP - (u.lanes[(1 : Fin 2)].bg.getD 3 ⟨0, 0, false⟩).temp).natAbs) := by
  refine ⟨⟨by decide +kernel, by decide +kernel, open_of (by decide +kernel), open_of (by decide +kernel), open_of (by decide +kernel)⟩,
    by decide +kernel, by decide +kernel, by decide +kernel, by decide +kernel⟩

/-! ## Hypotheses that are met: the Serai and the Drover operations -/

/-- A scrubbed bay of 64 KiB at 0x100000, and the walk at granule `pos`. -/
def scrub (pos : Nat) : State :=
  at_ 7 [(F.SER_CTL_SCRUBEN, 1), (F.MAN_BAY_n_SCRUB 3, 1), (F.MAN_BAY_n_BASE 3, 16), (F.MAN_BAY_n_SIZE 3, 1), (F.SER_SCRUBPOS_ADDR, pos), (F.SER_SPARECFG_AUTO, 0)]

/-- The next granule where the one at the walk's place is not scrubbed. -/
theorem scrubNext_of {u : State} {p : Nat} (h : u.on F.SER_CTL_SCRUBEN = true ∧ u.mode ≠ Mode.reset)
    (hp : u.get F.SER_SCRUBPOS_ADDR = p) (hs : Scrubbed (p + 1) u) (hn : ¬Scrubbed p u) : ScrubNext (p + 1) u :=
  ⟨h.1, h.2, hs, by omega, fun h a b => by rw [show h = p by omega]; exact hn⟩

theorem witness_ScrubWalksTheBays :
    (let u := scrub 0xFFFF;
      ScrubNext 0x10000 u ∧ u.ser.errs = [] ∧ 0x10000 ∉ u.ser.poison ∧ u.ser.poison = [] ∧ NoAutoSpare u ∧ ScrubMore 0x10000 u) ∧
    (let u := scrub 0x10FFF; ScrubNext 0x10FFF u ∧ ¬ScrubMore 0x10FFF u) ∧
    (let u := scrub 0xFFFF
      let v := come { u with ser := { u.ser with poison := [0x10000] } }
      let w := come { u with ser := { u.ser with errs := [(0x10000, 2)] } };
      (ScrubNext 0x10000 v ∧ 0x10000 ∈ v.ser.poison) ∧ ScrubNext 0x10000 w ∧ w.ser.errs = [(0x10000, 2)] ∧ w.ser.poison = [] ∧
        NoAutoSpare w) ∧
    (let u := scrub 1572864; u.on F.SER_CTL_SCRUBEN = true ∧ u.mode ≠ Mode.reset ∧ ∀ g, u.get F.SER_SCRUBPOS_ADDR ≤ g → ¬Scrubbed g u) := by
  refine ⟨⟨scrubNext_of (by decide +kernel) (by decide +kernel) (by decide +kernel) (by decide +kernel), by decide +kernel,
      by decide +kernel, by decide +kernel, by decide +kernel, 0x10001, by decide, by decide +kernel⟩,
    ⟨⟨by decide +kernel, by decide +kernel, by decide +kernel, by decide +kernel, fun h a b => ?_⟩, fun ⟨h, a, b⟩ => ?_⟩,
    ⟨⟨scrubNext_of (by decide +kernel) (by decide +kernel) (by decide +kernel) (by decide +kernel), by decide +kernel⟩,
      scrubNext_of (by decide +kernel) (by decide +kernel) (by decide +kernel) (by decide +kernel), by decide +kernel⟩,
    by decide +kernel, by decide +kernel, fun g h hs => ?_⟩
  · have : (scrub 0x10FFF).get F.SER_SCRUBPOS_ADDR = 0x10FFF := by decide +kernel
    omega
  · obtain ⟨-, c, h8, on, -, hi⟩ := b
    have : ∀ c, c < 8 → (scrub 0x10FFF).on (F.MAN_BAY_n_SCRUB c) = true →
        (scrub 0x10FFF).bayBase c + (scrub 0x10FFF).baySize c = 0x110000 := by decide +kernel
    have := this c h8 on
    omega
  have : (scrub 1572864).get F.SER_SCRUBPOS_ADDR = 1572864 := by decide +kernel
  have := hs.1
  omega

theorem witness_RowsAreSpared :
    (let u := at_ 7 [(F.SER_REMAP_b_k_VALID 15 0, 1), (F.SER_REMAP_b_k_ROW 15 0, 9)]
      let full := at_ 7 ((List.range 8).map fun k => (F.SER_REMAP_b_k_VALID 15 k, 1));
      (Served R.SER_SPARECMD u ∧ u.ser.spare = [] ∧ NotSpared 15 1535 u ∧ u.on (F.SER_REMAP_b_k_VALID 15 1) = false ∧
        (∀ i, i < 1 → u.on (F.SER_REMAP_b_k_VALID 15 i) = true) ∧ ¬NotSpared 15 9 u) ∧
      Served R.SER_SPARECMD full ∧ full.ser.spare = [] ∧ ∀ k, k < 8 → full.on (F.SER_REMAP_b_k_VALID 15 k) = true) ∧
    (let u := at_ 7 []
      let v := come { u with ser := { u.ser with spare := [(15, 1535, 7)] } };
      v.ser.spare = [(15, 1535, 7)] ∧ v.ser.errs = [] ∧ u.ser.spare = []) := by decide +kernel

theorem witness_ApertureReachesTheSerai :
    (let u := at_ 7 [(F.SER_APER_BASE, 240)]
      let v := at_ 7 [(F.SER_APER_BASE, 1)]
      let w := come { v with ser := { v.ser with poison := [0x80FFF] } };
      (u.mode ≠ Mode.reset ∧ u.get F.SYS_STRAP_HOST ≠ 1 ∧ u.get F.SER_APER_BASE ≤ 240 ∧
        Storage (u.get F.SER_APER_BASE * 65536 + (0x800000 - 0x800000)) 16 u) ∧
      (w.mode ≠ Mode.reset ∧ w.get F.SYS_STRAP_HOST ≠ 1 ∧ w.get F.SER_APER_BASE ≤ 240 ∧
        16 * 0x80FFF = w.get F.SER_APER_BASE * 65536 + (0xFFFFF0 - 0x800000) ∧ 0x80FFF ∈ w.ser.poison) ∧
      Open (v.get F.SER_APER_BASE * 65536 + (0xFFFFFF - 0x800000)) ([7] : List Byte).length v) :=
  ⟨by decide +kernel, by decide +kernel, open_of (by decide +kernel)⟩

/-- Drover 11 runs at PC `pc`. -/
def run (pc : Nat) (f : List (Field × Nat)) : State :=
  inMode 7 ([(F.DRV_n_STAT_STATE 11, 1), (F.DRV_n_PC_PC 11, pc)] ++ f)

/-- The same with a block repeat in progress, whose loop end lies elsewhere, CY and SPILL set. -/
def runAct (pc : Nat) : State := (run pc []).modDrv 11 fun d => (d.setByte 0x1E 5).setByte 0x1F 0xFF

theorem reads_imm {n : Fin 12} {o : BitVec 19} {w v : Nat} {u : State}
    (h : o.toNat / 65536 = 1 ∧ w ≠ 16 ∧ v = if w = 1 then o.toNat % 256 else o.toNat % 65536) : Reads n o w v u := .inl h

theorem reads_ram {n : Fin 12} {o : BitVec 19} {w : Nat} {u : State} (ho : o.toNat / 65536 = 0)
    (h : o.toNat % 65536 + w ≤ 0x8000) (hw : w = 16 → o.toNat % 65536 / 16 * 16 = o.toNat % 65536) :
    Reads n o w (cells n (o.toNat % 65536) w u) u := by
  refine .inr ⟨o.toNat % 65536, by simp [At, ho], ?_⟩
  split
  · next e => rw [hw e]; exact ⟨.inl h, rfl⟩
  · exact ⟨.inl h, rfl⟩

theorem names_ram {n : Fin 12} {o : BitVec 19} {w a : Nat} {u : State} (ho : o.toNat / 65536 = 0) (ha : o.toNat % 65536 = a)
    (h : a + w ≤ 0x8000 ∧ 0x100 ≤ a) (hw : w = 16 → a / 16 * 16 = a) : Names n o w a u := by
  refine ⟨a, by simp [At, ho, ha], ?_, .inl h.1, .inr h.2⟩
  split
  · next e => exact (hw e).symm
  · rfl

/-- Each form that names an address names one: 5 and 6 through G and the two bytes at 0x104. -/
theorem witness_forms :
    let u := ((run 0 []).modDrv 11 fun d => d.setPair (8 + 2 * 3) 0x200).modDrv 11 fun d => (d.setByte 7 3).setPair 0x104 0x300
    At 11 0x27FFF 0x1FF u ∧ At 11 0x26FFF 0x11FF u ∧ At 11 0x36001 0x200 u ∧ At 11 0x46001 0x1FF u ∧ At 11 0x5601F 0x218 u ∧
      At 11 0x60104 0x300 u ∧ At 11 0x00104 0x104 u := by
  refine ⟨?_, ?_, ?_, ?_, ?_, ?_, rfl⟩
  · change _ = _; decide +kernel
  · change _ = _; decide +kernel
  · change _ = _; decide +kernel
  · change _ = _; decide +kernel
  · change _ ∧ _; decide +kernel
  · exact ⟨.inl (by decide), by decide +kernel⟩

theorem witness_ArithmeticWritesResults :
    (let u := run 8190 []; Ready1 11 u ∧ acting 11 u = false ∧ NoLoop 11 u ∧ Reads 11 0x100FF 1 255 u ∧ Names 11 0x7FFF 1 0x7FFF u) ∧
    (let u := runAct 8190; Ready1 11 u ∧ acting 11 u = true ∧ NoLoop 11 u ∧ Reads 11 0x10000 1 0 u ∧ Names 11 0x0100 1 0x0100 u) ∧
    (∀ p ∈ aUnit, p.1 11 0 0 0 [] ∉ [.add 11 0 0 0 [], .sub 11 0 0 0 [], .shl 11 0 0 0 [], .shr 11 0 0 0 []] ↔
      p.1 11 0 0 0 [] ≠ .add 11 0 0 0 [] ∧ p.1 11 0 0 0 [] ≠ .sub 11 0 0 0 [] ∧ p.1 11 0 0 0 [] ≠ .shl 11 0 0 0 [] ∧
        p.1 11 0 0 0 [] ≠ .shr 11 0 0 0 []) := by
  refine ⟨⟨by decide +kernel, by decide +kernel, by decide +kernel, reads_imm (by decide), names_ram (by decide) (by decide)
    (by decide) (by decide)⟩, ⟨by decide +kernel, by decide +kernel, by decide +kernel, reads_imm (by decide),
    names_ram (by decide) (by decide) (by decide) (by decide)⟩, by simp⟩

theorem witness_BitOperationsWriteResults :
    let u := run 8190 []
    Ready1 11 u ∧ NoLoop 11 u ∧ Reads 11 0x100FF 1 255 u ∧ Reads 11 0x1FFFF 2 65535 u ∧
      Reads 11 0x7FFC 4 (cells 11 0x7FFC 4 u) u ∧ Names 11 0x7FFF 1 0x7FFF u ∧ Names 11 0x0100 2 0x0100 u ∧ Names 11 0x7FFC 4 0x7FFC u :=
  ⟨by decide +kernel, by decide +kernel, reads_imm (by decide), reads_imm (by decide), reads_ram (by decide) (by decide) (by decide),
    names_ram (by decide) (by decide) (by decide) (by decide), names_ram (by decide) (by decide) (by decide) (by decide),
    names_ram (by decide) (by decide) (by decide) (by decide)⟩

/-! ## Hypotheses that are met: moves, registers, control transfers, traps -/

theorem witness_MovesWriteZ :
    (let u := run 8190 []; Ready1 11 u ∧ NoLoop 11 u ∧ Reads 11 0x00200 16 (cells 11 0x200 16 u) u ∧ Names 11 0x07FF0 16 0x7FF0 u ∧
      Reads 11 0x180FF 1 255 u ∧ Names 11 0x00100 2 0x100 u ∧ At 11 0x0F000 0xF000 u ∧ Names 11 0x00300 2 0x300 u ∧
      Sound 11 0x100 2 u ∧ Sound 11 0x300 2 u) ∧
    (∀ rc ∈ [0, 1, 65535], let u := (run 8190 []).modDrv 11 fun d => d.setPair 0x18 rc;
      StringStart 11 rc u ∧ Reads 11 0x10007 1 7 (startedAt 11 (pcOf 11 u) u) ∧ Names 11 0x07FF0 16 0x7FF0 u ∧ Clear 0x7FF0 16 ∧
        Reads 11 0x07FF0 16 (cells 11 0x7FF0 16 (startedAt 11 (pcOf 11 u) u)) (startedAt 11 (pcOf 11 u) u)) := by
  refine ⟨⟨by decide +kernel, by decide +kernel, reads_ram (by decide) (by decide) (by decide), names_ram (by decide) (by decide)
    (by decide) (by decide), reads_imm (by decide), names_ram (by decide) (by decide) (by decide) (by decide), rfl,
    names_ram (by decide) (by decide) (by decide) (by decide), .inl (by decide), .inl (by decide)⟩, fun rc h => ?_⟩
  obtain rfl | rfl | rfl : rc = 0 ∨ rc = 1 ∨ rc = 65535 := by simpa using h
  all_goals exact ⟨by decide +kernel, reads_imm (by decide), names_ram (by decide) (by decide) (by decide) (by decide), by decide,
    reads_ram (by decide) (by decide) (by decide)⟩

theorem witness_BundlesReadBeforeTheyWrite :
    (let u := run 8189 []; Ready1 11 u ∧ pcOf 11 u < 8190 ∧ acting 11 u = false ∧ aUnit[15]?.isSome = true ∧
      Reads 11 0x10007 1 7 u ∧ Names 11 0x00100 1 0x100 u ∧ (0x10007 : BitVec 19).toNat / 65536 ≠ 6 ∧
      (0x00100 : BitVec 19).toNat / 65536 ≠ 6) ∧
    (∀ rc ∈ [1, 2], let u := (runAct 8190).modDrv 11 fun d => ((d.setPair 0x18 rc).setPair 0x1C 8190).setPair 0x1A 8000;
      (Ready1 11 u ∧ acting 11 u = true ∧ (u.drovers[(11 : Fin 12)].byte 0x1E).testBit 1 = false ∧
        u.drovers[(11 : Fin 12)].pair 0x1C % 8192 = pcOf 11 u ∧ u.drovers[(11 : Fin 12)].pair 0x18 = rc ∧ 1 ≤ rc) ∧
      Reads 11 0x10007 1 7 u ∧ Names 11 0x00100 1 0x100 u ∧ Clear 0x100 1) := by
  refine ⟨⟨by decide +kernel, by decide +kernel, by decide +kernel, by decide, reads_imm (by decide), names_ram (by decide) (by decide)
    (by decide) (by decide), by decide, by decide⟩, fun rc h => ?_⟩
  obtain rfl | rfl : rc = 1 ∨ rc = 2 := by simpa using h
  all_goals exact ⟨by decide +kernel, reads_imm (by decide), names_ram (by decide) (by decide) (by decide) (by decide), by decide⟩

/-- Drover 11 runs with its register page at FRX, where operand 0xF000 names the first byte of FRX_CTL. -/
def page (f : Drover → Drover) : State := (run 8190 []).modDrv 11 fun d => f (d.setPair 0x28 (R.FRX_CTL / 4096))

theorem witness_DroversReachRegisters :
    (let u := page id;
      NamesReg 11 0x0F000 R.FRX_CTL u ∧ NamesReg 11 0x0F003 (R.FRX_CTL + 3) u ∧ Names 11 0x00100 1 0x100 u ∧ Reads 11 0x10007 1 7 u ∧
        (R.FRX_CTL % 4 = 0 ∧ R.FRX_CTL ≠ R.SPI_MW_DATA ∧ (R.FRX_CTL + 3) % 4 ≠ 0 ∧ Ready1 11 u ∧ acting 11 u = false ∧
          (readReg R.FRX_CTL u).2 = u ∧ u.drovers[(11 : Fin 12)].stage = none)) ∧
    (let l : RegLatch := ⟨R.FRX_CTL, [(0, 1), (1, 2), (2, 3), (3, 4)]⟩;
      (page fun d => { d with latch := some l }).drovers[(11 : Fin 12)].latch = some l) ∧
    (let u := page fun d => { d with stage := some ⟨R.FRX_CTL, [(1, 2), (2, 3), (3, 4)]⟩ }
      let w := writeReg (.drover 11) R.FRX_CTL (leNat [7, 2, 3, 4]) (u.modDrv 11 fun d => { d with stage := none, issuing := true });
      NamesReg 11 0x0F000 R.FRX_CTL u ∧ Ready1 11 u ∧ acting 11 u = false ∧
        u.drovers[(11 : Fin 12)].stage = some ⟨R.FRX_CTL, [(1, 2), (2, 3), (3, 4)]⟩ ∧
        Ready1 11 (w.modDrv 11 fun d => { d with issuing := false }) ∧ acting 11 w = false) ∧
    (let u := run 8190 [(F.DRV_n_STAT_INH 11, 1)]; Ready1 11 u ∧ acting 11 u = false ∧ u.on (F.DRV_n_STAT_INH 11) = true) ∧
    (let u := run 8190 [(F.DRV_n_EVPEND_PEND 11, 0x18000)];
      Reads 11 0x17FFF 4 0x7FFF u ∧ Reads 11 0x17FFF 2 0x7FFF u ∧ Ready1 11 u ∧ acting 11 u = false ∧
        u.drovers[(11 : Fin 12)].even < 2 ^ 32 ∧ u.drovers[(11 : Fin 12)].spc < 2 ^ 16 ∧
        u.get (F.DRV_n_EVPEND_PEND 11) &&& 0xFFFF ≠ 0) := by
  refine ⟨⟨⟨0xF000, rfl, by decide +kernel⟩, ⟨0xF003, rfl, by decide +kernel⟩, names_ram (by decide) (by decide) (by decide) (by decide),
    reads_imm (by decide), by decide +kernel⟩, by decide +kernel, ⟨⟨0xF000, rfl, by decide +kernel⟩, by decide +kernel⟩,
    by decide +kernel, reads_imm (by decide), reads_imm (by decide), by decide +kernel⟩

theorem witness_ControlTransfersGoWhereTheySay :
    (let u := run 8190 [(F.DRV_n_STAT_PERS 11, 0)]
      let v := run 8190 [(F.DRV_n_STAT_PERS 11, 1)];
      Ready1 11 u ∧ NoLoop 11 u ∧ u.get (F.DRV_n_STAT_PERS 11) = 0 ∧ Reads 11 0x10080 1 128 u ∧ Reads 11 0x1007F 1 127 u ∧
        Reads 11 0x11FFF 2 8191 u ∧ Ready1 11 v ∧ NoLoop 11 v ∧ v.get (F.DRV_n_STAT_PERS 11) = 1 ∧ Names 11 0x00100 1 0x100 v ∧
        Reads 11 0x1FFFF 4 0xFFFF u) ∧
    (let u := (run 8190 [(F.DRV_n_EVPEND_PEND 11, 0x8000)]).modDrv 11 fun d => { d with rstk := [1, 2, 3, 4, 5, 6, 8191] };
      Ready1 11 u ∧ NoLoop 11 u ∧ u.drovers[(11 : Fin 12)].rstk.length < 8 ∧
        u.drovers[(11 : Fin 12)].rstk = [1, 2, 3, 4, 5, 6] ++ [8191] ∧ u.get (F.DRV_n_EVPEND_PEND 11) &&& 0xFFFF ≠ 0 ∧
        u.get (F.DRV_n_EVPEND_PEND 11) &&& 0x7FFF = 0) ∧
    (let u := (run 8189 []).modDrv 11 fun d => { d with bank0 := [(8190, 2 ^ 63)] };
      Reads 11 0x1FFFF 2 65535 u ∧ Reads 11 0x10000 2 0 u ∧ Reads 11 0x11FFF 2 8191 u ∧ Reads 11 0x11FFE 2 8190 u ∧
        Reads 11 0x10003 1 3 u ∧ (Ready1 11 u ∧ pcOf 11 u < 8190 ∧
          (sget (fun _ => 0) (if u.get (F.DRV_n_STAT_BANK 11) = 0 then u.drovers[(11 : Fin 12)].bank0 else u.drovers[(11 : Fin 12)].bank1)
            8190).getLsbD 63 = true)) ∧
    (let u := run 8190 []
      let v := { u with fuses := { u.fuses with life := 1 } };
      Ready1 11 v ∧ NoLoop 11 v ∧ v.fuses.life < 2) := by
  refine ⟨⟨by decide +kernel, by decide +kernel, by decide +kernel, reads_imm (by decide), reads_imm (by decide), reads_imm (by decide),
    by decide +kernel, by decide +kernel, by decide +kernel, names_ram (by decide) (by decide) (by decide) (by decide),
    reads_imm (by decide)⟩, by decide +kernel, ⟨reads_imm (by decide), reads_imm (by decide), reads_imm (by decide),
    reads_imm (by decide), reads_imm (by decide), by decide +kernel⟩, by decide +kernel⟩

theorem witness_TrapsAreEntered :
    (let u := (run 8190 []).modDrv 11 fun d => { d with tvec := true }
      let v := run 8190 []
      let w := { u with fuses := { u.fuses with life := 2 } };
      Ready1 11 u ∧ acting 11 u = false ∧ OwnTraps 11 u ∧ Ready1 11 v ∧ NoTrapVector 11 v ∧ Ready1 11 w ∧ acting 11 w = false ∧
        OwnTraps 11 w ∧ 2 ≤ w.fuses.life ∧ u.drovers[(11 : Fin 12)].rstk = [] ∧ u.on (F.DRV_n_STAT_INH 11) = false) ∧
    (let u := (run 8190 []).modDrv 11 fun d => { d with tvec := true, rstk := List.replicate 8 5 };
      Ready1 11 u ∧ OwnTraps 11 u ∧ u.drovers[(11 : Fin 12)].rstk.length = 8) ∧
    (let u := (run 8190 []).modDrv 11 fun d => { d with tvec := true }
      let v := { u with ser := { u.ser with poison := [0x3FF] } };
      At 11 0x0BFF0 0xBFF0 v ∧ Ready1 11 v ∧ OwnTraps 11 v ∧ windowOff 11 0xBFF0 v < 0x1800000 ∧
        windowOff 11 0xBFF0 v / 16 = 0x3FF ∧ 0x3FF ∈ v.ser.poison) ∧
    (let u := (run 8190 [(F.DRV_n_STAT_INH 11, 1)]).modDrv 11 fun d => { d with spc := 8191 };
      Ready1 11 u ∧ u.on (F.DRV_n_STAT_INH 11) = true ∧ u.drovers[(11 : Fin 12)].spc ≤ 8191) :=
  ⟨by decide +kernel, by decide +kernel, ⟨rfl, by decide +kernel⟩, by decide +kernel⟩

/-! ## Hypotheses that are met: Drover control and the cipher units -/

theorem witness_DebugCommandsObeyTheState :
    (let u := come (run 8190 [])
      let v := come (run 8190 [(F.DRV_n_STAT_STATE 11, 4)])
      let w := come { u with fuses := { u.fuses with life := 2 } };
      (Served (R.DRV_n_CTL 11) u ∧ Still 11 u ∧ u.fuses.life < 2 ∧ u.get (F.DRV_n_STAT_STATE 11) = 1) ∧
        (Served (R.DRV_n_CTL 11) v ∧ Still 11 v ∧ v.fuses.life < 2 ∧ v.get (F.DRV_n_STAT_STATE 11) = 4) ∧
        (Served (R.DRV_n_CTL 11) w ∧ Still 11 w ∧ 2 ≤ w.fuses.life)) ∧
    (let u := come ((run 8190 [(F.DRV_n_STAT_STATE 11, 3)]).modDrv 11 fun d =>
        { d with bank0 := [(8190, sylWord true 0 0 0x10007 hash0 0x00100)] });
      Served (R.DRV_n_CTL 11) u ∧ Still 11 u ∧ u.fuses.life < 2 ∧ u.get (F.DRV_n_STAT_STATE 11) = 3 ∧
        u.drovers[(11 : Fin 12)].ie = false ∧
        sget (fun _ => 0) (if u.get (F.DRV_n_STAT_BANK 11) = 0 then u.drovers[(11 : Fin 12)].bank0 else u.drovers[(11 : Fin 12)].bank1)
          (pcOf 11 u) = sylWord true 0 0 0x10007 hash0 0x00100 ∧
        pcOf 11 u < 8191 ∧ acting 11 u = false ∧ Reads 11 0x10007 1 7 u ∧ Names 11 0x00100 1 0x100 u) ∧
    (let u := come (run 8190 [(F.DRV_n_CTL_BRKEN 11, 1), (F.DRV_n_BRK_ADDR 11, 8190)]);
      u.get (F.DRV_n_STAT_STATE 11) = 1 ∧ u.on (F.DRV_n_CTL_BRKEN 11) = true ∧ u.get (F.DRV_n_BRK_ADDR 11) = pcOf 11 u) :=
  ⟨by decide +kernel, ⟨by decide +kernel, by decide +kernel, by decide +kernel, by decide +kernel, by decide +kernel, by decide +kernel,
    by decide +kernel, by decide +kernel, reads_imm (by decide), names_ram (by decide) (by decide) (by decide) (by decide)⟩,
    by decide +kernel⟩

theorem witness_InputsInterruptAndRelease :
    (let u := come ((run 8190 [(F.DRV_n_EVPEND_PEND 11, 0x8000), (F.DRV_n_STAT_STATE 11, 2)]).modDrv 11 fun d =>
        { d with ie := true, even := 0x8000, waitMask := 0x8001 });
      (u.get (F.DRV_n_STAT_STATE 11) = 2 ∧ u.drovers[(11 : Fin 12)].mw = none ∧ u.drovers[(11 : Fin 12)].ie = true ∧
        u.on (F.DRV_n_STAT_INH 11) = false ∧ u.get (F.DRV_n_EVPEND_PEND 11) &&& u.drovers[(11 : Fin 12)].even ≠ 0) ∧
      (u.get (F.DRV_n_EVPEND_PEND 11) &&& u.drovers[(11 : Fin 12)].waitMask ≠ 0 ∧ acting 11 u = false ∧ pcOf 11 u < 8191)) := by
  decide +kernel

theorem witness_DroverPortsAnswer :
    (let u := come (run 8190 [(F.DRV_n_IMG_b_VALID 11 1, 1), (F.DRV_n_LADDR_ADDR 11, 0x7FFC), (F.DRV_n_LADDR_INC 11, 1)]);
      Served (R.DRV_n_SWITCH 11) u ∧ (∀ k : Fin 12, u.drovers[k].step = false) ∧
        u.on (F.DRV_n_IMG_b_VALID 11 (1 - u.get (F.DRV_n_STAT_BANK 11))) = true ∧ u.drovers[(11 : Fin 12)].arm = none ∧
        u.tickRuns = true ∧ Served (R.DRV_n_LDATA 11) u ∧ u.fuses.life < 2 ∧ u.get (F.DRV_n_STAT_STATE 11) = 1 ∧
        0x100 ≤ u.get (F.DRV_n_LADDR_ADDR 11) ∧ u.mode ≠ Mode.reset) ∧
    (let u := come (run 8190 [(F.DRV_n_STAT_STATE 11, 4), (F.DRV_n_LADDR_ADDR 11, 0x100)]);
      Served (R.DRV_n_LDATA 11) u ∧ u.fuses.life < 2 ∧ u.get (F.DRV_n_STAT_STATE 11) = 4 ∧ 0x100 ≤ u.get (F.DRV_n_LADDR_ADDR 11) ∧
        ¬u.on (F.DRV_n_IMG_b_VALID 11 (1 - u.get (F.DRV_n_STAT_BANK 11))) = true) ∧
    (let u := (run 8190 []).modDrv 11 fun d => { d with arm := some (1, 0) };
      (come u).drovers[(11 : Fin 12)].arm = some (1, 0)) := by decide +kernel

/-- The storage key 00 01 to 0F, a session key of sixteen 07, and its storage form (R243). -/
def kek : List Byte := [0, 1, 2, 3, 4, 5, 6, 7, 8, 9, 10, 11, 12, 13, 14, 15]
def aKey : List Byte := List.replicate 16 7
def form : List Byte :=
  [35, 129, 136, 1, 254, 175, 177, 178, 150, 207, 237, 139, 230, 10, 243, 239, 211, 120, 143, 113, 218, 38, 200, 58]

set_option maxRecDepth 100000 in
theorem keyUnwrap_form : keyUnwrap kek form = some aKey := by decide +kernel

theorem unwrap_form {u : State} (h : u.tru.storageKey = some kek) : u.unwrap form = some aKey := by
  rw [State.unwrap, h, Option.bind_some]
  exact keyUnwrap_form

/-- Unit 3's ring at 0x7000 with the entry `e`; its owner is Drover 11, of role 1. Node 3's Ledger entry is the fourth of a
bay of 64 KiB at 0x100000, with key slot 1 valid under index 5, used `n` times. -/
def ciph (e : List Byte) (n : Nat) (f : CiphUnit → CiphUnit) (g : List (Field × Nat)) : State :=
  let u := at_ 7 ([(F.CIPH_u_CLAIM_OWNER 3, 11), (F.CIPH_RING_u_LEN 3, 4), (F.CIPH_RING_u_WR 3, 1), (F.CIPH_RING_u_BASE 3, 0x7000),
    (F.TRU_STAT_DRBGOK, 1), (F.MAN_BAY_n_BASE Bay.ledger, 16), (F.MAN_BAY_n_SIZE Bay.ledger, 1), (F.MAN_DRV_n_ROLE 11, 1)] ++ g)
  let v := ((u.poke 0x7000 e).poke (0x100300 + 10) [3]).poke (0x100300 + 80) (form ++ [5, 1, 0, 0] ++ leBytes 4 n);
  come { v with tru := { v.tru with storageKey := some kek }, ciph := { v.ciph with units := v.ciph.units.set 3 (f v.ciph.units[3]) } }

/-- The bytes of an entry (R241). -/
def ciE (op fl len src dst arg : Nat) : List Byte :=
  leBytes 1 op ++ leBytes 1 fl ++ leBytes 2 len ++ leBytes 4 src ++ leBytes 4 dst ++ leBytes 4 arg

/-- A selected key with budget 129, all but `n` used. -/
def chosen (n : Nat) (c : CiphUnit) : CiphUnit := { c with key := some aKey, budget := 129, used := 129 - n, failed := false }

theorem ciEntry_of {op off : Nat} {c : Fin 4} {u : State}
    (h : (u.mode ≠ Mode.reset ∧ u.mode ≠ Mode.safe ∧ u.get (F.CIPH_u_CLAIM_OWNER c) < 12 ∧ u.on (F.CIPH_u_STAT_STALL c) = false) ∧
      (ciRing c).next u = some off ∧ u.get (ciRing c).rd < u.get (ciRing c).len ∧ num off 1 u = op ∧
      ciBad (u.bytesAt off 32) = false ∧ u.on F.TRU_STAT_DRBGOK = true)
    (h1 : OpenNear off 32 u) : CiEntry op c off u := by
  obtain ⟨⟨a, b, c, d⟩, e, f, g, i, k⟩ := h
  exact ⟨a, b, c, d, e, f, g, i, open_of h1, k⟩

theorem witness_UnitsAreClaimedAndKeyed :
    (let u := at_ 7 []
      let v := come { u with man := { u.man with ciph := [0, 0, 0, 2048] } };
      (Served (R.CIPH_u_CLAIM 3) v ∧ v.get (F.CIPH_u_CLAIM_OWNER 3) = 0xF ∧ (v.man.ciph.getD 3 0).testBit 11 = true) ∧
        (u.man.ciph.getD 3 0).testBit 11 = false) ∧
    (let u := ciph (ciE 10 0 0 0 0 0) 0 id [];
      CiEntry 10 3 0x7000 u ∧ u.ciph.units[(3 : Fin 4)].failed = false ∧ ciLen 0x7000 u = 0 ∧ Served (R.CIPH_u_CLAIM 3) u ∧
        u.get (F.CIPH_u_CLAIM_OWNER 3) = 11 ∧ Served (F.CIPH_RING_u_WR 3).off u) ∧
    (let u := ciph (ciE 1 0 0 (12 + 65536) 0 65535) 1 id [(F.CIPH_LIMIT_SESS_LIMIT, 70000)];
      CiEntry 1 3 0x7000 u ∧ u.unwrap form = some aKey ∧ SlotRef 3 1 form 5 1 0x7000 u ∧ ciArg 0x7000 u = 65535 ∧ u.ciph.cache = [] ∧
        u.leaseOf (form.take 8) 5 = 0 ∧ 65536 ≤ u.get F.CIPH_LIMIT_SESS_LIMIT ∧
        u.get F.SEC_CFG_ROTWARN * u.get F.CIPH_LIMIT_SESS_LIMIT < 256 * (u.get F.CIPH_LIMIT_SESS_LIMIT - 65536)) ∧
    (let u := ciph (ciE 1 0 0 (12 + 65536) 0 1) 70000 id [(F.CIPH_LIMIT_SESS_LIMIT, 70000)];
      CiEntry 1 3 0x7000 u ∧ SlotRef 3 1 form 5 70000 0x7000 u ∧ ciArg 0x7000 u = 1 ∧ u.ciph.cache = [] ∧
        u.leaseOf (form.take 8) 5 = 0 ∧ u.get F.CIPH_LIMIT_SESS_LIMIT < 70000 + 1) ∧
    (let u := ciph (ciE 1 0 0 (1 + 4 * 63) 0 1) 0 id
        [(F.CIPH_KR_k_VALID 63, 1), (F.CIPH_KR_k_ROLES 63, 1), (F.CIPH_KR_k_LIMIT 63, 8), (F.CIPH_KR_k_USED 63, 7), (F.CIPH_KR_k_KEYIDX 63, 9)]
      let v := come { u with
        tru := { u.tru with keyring := [(63, form)] }
        ciph := { u.ciph with cache := [⟨form.take 8, 9, 7, 131072, true⟩] } };
      CiEntry 1 3 0x7000 v ∧ v.unwrap form = some aKey ∧ ciSrc 0x7000 v = 1 + 4 * 63 ∧ ciArg 0x7000 v = 1 ∧ v.get (F.CIPH_KR_k_VALID 63) = 1 ∧
        v.get (F.MAN_DRV_n_ROLE (v.get (F.CIPH_u_CLAIM_OWNER 3))) = 1 ∧ (v.get (F.CIPH_KR_k_ROLES 63)).testBit 0 = true ∧ v.on (F.CIPH_KR_k_AES256 63) = false ∧ form = form.take 24 ∧
        v.tru.keyring = [(63, form)] ∧ v.ciph.cache = [⟨form.take 8, v.get (F.CIPH_KR_k_KEYIDX 63), 7, 131072, true⟩] ∧
        max (v.get (F.CIPH_KR_k_USED 63)) 7 + 1 ≤ v.get (F.CIPH_KR_k_LIMIT 63) ∧ (8 / 65536 + 2) * 65536 ≤ 131072) ∧
    (let u := ciph (ciE 7 0 0 (12 + 65536) 0 2047) 0 (chosen 0) [];
      CiEntry 7 3 0x7000 u ∧ u.unwrap form = some aKey ∧ Selected 3 aKey 0 u ∧ SlotRef 3 1 form 5 0 0x7000 u ∧ ciLen 0x7000 u = 0) := by
  refine ⟨by decide +kernel, ⟨ciEntry_of (by decide +kernel) (by decide +kernel), by decide +kernel⟩,
    ⟨ciEntry_of (by decide +kernel) (by decide +kernel), unwrap_form (by decide +kernel), by decide +kernel⟩,
    ⟨ciEntry_of (by decide +kernel) (by decide +kernel), by decide +kernel⟩,
    ⟨ciEntry_of (by decide +kernel) (by decide +kernel), unwrap_form (by decide +kernel), by decide +kernel⟩,
    ciEntry_of (by decide +kernel) (by decide +kernel), unwrap_form (by decide +kernel), by decide +kernel⟩

theorem witness_CipherCommandsCompute :
    (let u := ciph (ciE 2 0 0 (2 ^ 31 + 2032) 0 0) 0 (chosen 0) [];
      CiEntry 2 3 0x7000 u ∧ Selected 3 aKey 0 u ∧ ciLen 0x7000 u = 0 ∧ 2 ^ 31 ≤ ciSrc 0x7000 u ∧ ciSrc 0x7000 u % 2048 + 16 ≤ 2048 ∧
        ciSrc 0x7000 u / 16 * 16 = ciSrc 0x7000 u) ∧
    (let u := ciph (ciE 3 0 2048 0 0 0x49) 0 (chosen 1) []; CiEntry 3 3 0x7000 u ∧ Selected 3 aKey 1 u ∧ ciLen 0x7000 u ≤ 2048) ∧
    (let u := ciph (ciE 4 0 17 0x1000 0 0) 0 (chosen 2) [];
      CiEntry 4 3 0x7000 u ∧ u.ciph.units[(3 : Fin 4)].keyins = [] ∧ ciFlags 0x7000 u = 0 ∧ ciLen 0x7000 u = 17 ∧
        ciSrc 0x7000 u < 2 ^ 31 ∧ Storage (ciSrc 0x7000 u % 2 ^ 25) 17 u ∧ Selected 3 aKey ((17 + 17) / 16) u) ∧
    (let u := ciph (ciE 5 4 2048 (2 ^ 31) 0x20000 65535) 0 (chosen 128) []
      let v := ciph (ciE 5 0 2048 0x20000 (2 ^ 31) 65535) 0 (chosen 128) [];
      CiEntry 5 3 0x7000 u ∧ CiEntry 5 3 0x7000 v ∧ Open (ciDst 0x7000 u) 2048 u ∧ u.ciph.units[(3 : Fin 4)].keyins = [] ∧
        ciFlags 0x7000 u = 4 ∧ ciLen 0x7000 u = 2048 ∧ 2 ^ 31 ≤ ciSrc 0x7000 u ∧ ciSrc 0x7000 u % 2048 + 2048 ≤ 2048 ∧
        ciDst 0x7000 u < 2 ^ 25 ∧ Apart 0x7000 32 (ciDst 0x7000 u) 2048 ∧ Selected 3 aKey ((2048 + 15) / 16) u ∧
        ciFlags 0x7000 v = 0 ∧ 2 ^ 31 ≤ ciDst 0x7000 v ∧ ciDst 0x7000 v % 2048 + 2048 ≤ 2048 ∧ ciLen 0x7000 v = 2048 ∧
        ciSrc 0x7000 v < 2 ^ 31 ∧ Storage (ciSrc 0x7000 v % 2 ^ 25) 2048 v) ∧
    (let u := ciph (ciE 6 (8 + 16 * 15) 2048 0 0x20000 0) 0 (chosen 1) []
      let v := ciph (ciE 6 (16 * 1) 20 (2 ^ 31 + 2046) 0x20000 0) 0 (chosen 1) [];
      CiEntry 6 3 0x7000 u ∧ CiEntry 6 3 0x7000 v ∧ Open (ciDst 0x7000 u) 16 u ∧ Open (ciDst 0x7000 v) 20 v ∧
        ciFlags 0x7000 u = 8 + 16 * (16 - 1) ∧ ciLen 0x7000 u ≤ 2048 ∧ ciDst 0x7000 u < 2 ^ 25 ∧ Apart 0x7000 32 (ciDst 0x7000 u) 16 ∧
        Selected 3 aKey 1 u ∧ ciFlags 0x7000 v = 16 * (2 - 1) ∧ ciLen 0x7000 v = 20 ∧ 2 ^ 31 ≤ ciSrc 0x7000 v ∧
        ciSrc 0x7000 v % 2048 + 2 ≤ 2048 ∧ ciDst 0x7000 v < 2 ^ 25 ∧ Apart 0x7000 32 (ciDst 0x7000 v) 20 ∧ Selected 3 aKey 1 v ∧
        v.ciph.units[(3 : Fin 4)].keyins = []) ∧
    (let u := ciph (ciE 8 0 2048 0 0x20000 0) 0 (chosen 0) [];
      CiEntry 8 3 0x7000 u ∧ Open (ciDst 0x7000 u) (ciLen 0x7000 u) u ∧ u.ciph.units[(3 : Fin 4)].keyins = [] ∧
        u.ciph.units[(3 : Fin 4)].macked = false ∧ ciLen 0x7000 u ≤ 2048 ∧ ciDst 0x7000 u < 2 ^ 25 ∧
        Apart 0x7000 32 (ciDst 0x7000 u) (ciLen 0x7000 u) ∧ Selected 3 aKey 0 u) ∧
    (let u := ciph (ciE 9 4 (16 * 128) (2 ^ 31) 0x20000 0) 0 (chosen 128) []
      let v := ciph (ciE 9 0 (16 * 128) 0x20000 (2 ^ 31) 0) 0 (chosen 128) [];
      CiEntry 9 3 0x7000 u ∧ CiEntry 9 3 0x7000 v ∧ Open (ciDst 0x7000 u) (16 * 128) u ∧ u.ciph.units[(3 : Fin 4)].keyins = [] ∧
        ciFlags 0x7000 u = 4 ∧ ciLen 0x7000 u = 16 * 128 ∧ 2 ^ 31 ≤ ciSrc 0x7000 u ∧ ciSrc 0x7000 u % 2048 + 16 * 128 ≤ 2048 ∧
        ciDst 0x7000 u < 2 ^ 25 ∧ Apart 0x7000 32 (ciDst 0x7000 u) (16 * 128) ∧ Selected 3 aKey 128 u ∧
        ciFlags 0x7000 v = 0 ∧ ciLen 0x7000 v = 16 * 128 ∧ 2 ^ 31 ≤ ciDst 0x7000 v ∧ ciDst 0x7000 v % 2048 + 16 * 128 ≤ 2048 ∧
        ciSrc 0x7000 v < 2 ^ 31 ∧ Storage (ciSrc 0x7000 v % 2 ^ 25) (16 * 128) v ∧ Selected 3 aKey 128 v) ∧
    (let u := ciph [] 0 (fun c => { c with stall := some (0, [], 1) }) [(F.CIPH_u_STAT_STALL 3, 1)]
      let v := come { u with tally := { u.tally with clock := 32 * u.get F.CIPH_CFG_STALLMAX } };
      Open 0x7000 32 v ∧ v.ciph.units[(3 : Fin 4)].stall = some (0, [], 1) ∧ 0 + 32 * v.get F.CIPH_CFG_STALLMAX ≤ v.tally.clock ∧
        (u.get F.CIPH_CFG_STALLMAX ≠ 0 → u.tally.clock < 0 + 32 * u.get F.CIPH_CFG_STALLMAX) ∧
        (ciRing (3 : Fin 4)).next v = some 0x7000 ∧ v.get (ciRing (3 : Fin 4)).rd < v.get (ciRing (3 : Fin 4)).len ∧
        v.get (F.CIPH_u_CLAIM_OWNER 3) < 12 ∧ v.on F.TRU_STAT_DRBGOK = true ∧ v.tandem = false ∧ Unheld v ∧
        (at_ 7 []).ciph.units[(3 : Fin 4)].stall = none) := by
  refine ⟨⟨ciEntry_of (by decide +kernel) (by decide +kernel), by decide +kernel⟩,
    ⟨ciEntry_of (by decide +kernel) (by decide +kernel), by decide +kernel⟩,
    ⟨ciEntry_of (by decide +kernel) (by decide +kernel), by decide +kernel⟩,
    ⟨ciEntry_of (by decide +kernel) (by decide +kernel), ciEntry_of (by decide +kernel) (by decide +kernel),
      open_of (by decide +kernel), by decide +kernel⟩,
    ⟨ciEntry_of (by decide +kernel) (by decide +kernel), ciEntry_of (by decide +kernel) (by decide +kernel),
      open_of (by decide +kernel), open_of (by decide +kernel), by decide +kernel⟩,
    ⟨ciEntry_of (by decide +kernel) (by decide +kernel), open_of (by decide +kernel), by decide +kernel⟩,
    ⟨ciEntry_of (by decide +kernel) (by decide +kernel), ciEntry_of (by decide +kernel) (by decide +kernel),
      open_of (by decide +kernel), by decide +kernel⟩,
    open_of (by decide +kernel), by decide +kernel⟩

/-! ## Hypotheses that are met: shaping and DMA -/

/-- SHP ring 1 at 0x7000 with an entry; node 3's Ledger entry is the fourth of a bay of 64 KiB at 0x100000, in state `st`
with drift state 2, and its class 7 holds `n` frames, the last of them queue entry 5 with NEXT 6, in a QUEUE bay of 16 MiB
from 0x200000. -/
def shp (op fl arg n st : Nat) (g : List (Field × Nat)) : State :=
  let u := at_ 7 ([(F.SHP_RING_j_LEN 1, 4), (F.SHP_RING_j_WR 1, 1), (F.SHP_RING_j_BASE 1, 0x7000), (F.MAN_BAY_n_BASE Bay.ledger, 16),
    (F.MAN_BAY_n_SIZE Bay.ledger, 1), (F.MAN_BAY_n_BASE Bay.queue, 32), (F.MAN_BAY_n_SIZE Bay.queue, 256)] ++ g)
  let v := (((u.poke 0x7000 (leBytes 1 op ++ leBytes 1 fl ++ leBytes 2 3 ++ leBytes 4 arg)).poke (0x100300 + 10)
    (leBytes 1 st)).poke (0x100300 + 112) (modelIn 2 0 9).bytes).poke (0x100300 + 176 + 28) (leBytes 4 (5 + 2 ^ 20 * n))
  let w := ((v.poke (0x200000 + 80) (leBytes 4 6 ++ [0, 0, 0, 0, 100, 0, 3])).poke (0x200000 + 96)
    (leBytes 4 5 ++ [0, 0, 0, 0, 100, 0, 3])).poke (0x200000 + 16 * 0xFFFFF + 10) [3];
  come { w with tally := { w.tally with asn := 5000 } }

theorem shpEntry_of {op fl node arg j off : Nat} {u : State}
    (h : u.tickRuns = true ∧ NextEntry shpRing j off u ∧ u.get (shpRing j).rd < u.get (shpRing j).len ∧ num off 1 u = op ∧
      num (off + 1) 1 u = fl ∧ num (off + 2) 2 u = node ∧ num (off + 4) 4 u = arg ∧ shpBad (u.bytesAt off 32) = false ∧
      node ≤ 16383 ∧ u.baySize Bay.ledger ≠ 0 ∧ u.ledgerState node ≠ 0)
    (h1 : OpenNear off 32 u)
    (h2 : Storage (u.ledger node) 256 u ∧ Apart off 32 (u.ledger node) 256 ∧ u.tok.length = 16) :
    ShpEntry op fl node arg j off u := by
  obtain ⟨a, b, c, d, e, f, g, i, k, l, m⟩ := h
  exact ⟨a, b, c, d, e, f, g, i, k, l, m, open_of h1, h2⟩

theorem entryFree_of {e node off : Nat} {u : State} (h : OpenNear (entryAt e u) 16 u)
    (h1 : 16 * e + 16 ≤ u.baySize Bay.queue ∧ Apart (entryAt e u) 16 off 32 ∧ Apart (entryAt e u) 16 (u.ledger node) 256) :
    EntryFree e node off u := ⟨h1.1, open_of h, h1.2⟩

theorem witness_QueueCommands :
    (∀ n ∈ [0, 1, 4095], let u := shp 1 7 0xFFFFF n 3 [(F.SHP_QMAX 7, 1)];
      ShpEntry 1 7 3 0xFFFFF 1 0x7000 u ∧ Queue 3 7 5 n u ∧ EntryFree 0xFFFFF 3 0x7000 u ∧ num (entryAt 0xFFFFF u + 10) 2 u = 3 ∧
        EntryFree 5 3 0x7000 u ∧ (n < u.get (F.SHP_QMAX 7) ↔ n = 0)) ∧
    (∀ n ∈ [0, 1, 2], let u := shp 3 7 0 n 3 [];
      ShpEntry 3 7 3 0 1 0x7000 u ∧ Queue 3 7 5 n u ∧ EntryFree 5 3 0x7000 u ∧ EntryFree (nextOfEntry 5 u) 3 0x7000 u ∧
        nextOfEntry 5 u ≠ 5) := by
  refine ⟨fun n h => ?_, fun n h => ?_⟩
  · obtain rfl | rfl | rfl : n = 0 ∨ n = 1 ∨ n = 4095 := by simpa using h
    all_goals exact ⟨shpEntry_of (by decide +kernel) (by decide +kernel) (by decide +kernel), by decide +kernel,
      entryFree_of (by decide +kernel) (by decide +kernel), by decide +kernel, entryFree_of (by decide +kernel) (by decide +kernel),
      by decide +kernel⟩
  · obtain rfl | rfl | rfl : n = 0 ∨ n = 1 ∨ n = 2 := by simpa using h
    all_goals exact ⟨shpEntry_of (by decide +kernel) (by decide +kernel) (by decide +kernel), by decide +kernel,
      entryFree_of (by decide +kernel) (by decide +kernel), entryFree_of (by decide +kernel) (by decide +kernel), by decide +kernel⟩

theorem witness_Admission :
    (∀ g ∈ [[], [(F.SHP_CLASS_n_EN 7, 1)], [(F.SHP_GOPEN 7, 65535)]], let u := shp 2 (7 + 8 + 16) (1000 + 2 ^ 18 * 31) 1 3 g;
      ShpEntry 2 (7 + 8 + 16 * 1) 3 (1000 + 2 ^ 18 * (32 - 1)) 1 0x7000 u ∧ EntryFree 5 3 0x7000 u ∧
        EntryFree (nextOfEntry 5 u) 3 0x7000 u ∧ Queue 3 7 5 1 u ∧ ¬HeldDown 3 u ∧ num (entryAt (nextOfEntry 5 u) u + 8) 2 u = 100 ∧
        frameEnd 1000 1 100 true u + 800 ≤ 32 * u.slotLen ∧
        (FitsGate 7 1000 (frameEnd 1000 1 100 true u) u ↔ u.get (F.SHP_GOPEN 7) = 0) ∧
        (256 * 100 ≤ u.tok.getD 7 0 ∨ u.get (F.SHP_CLASS_n_EN 7) = 0 ∨ u.get (F.SHP_CLASS_n_EN 7) = 1)) ∧
    (let u := shp 2 (7 + 16) 1000 1 3 [];
      ¬frameEnd 1000 1 100 false u + 800 ≤ 1 * u.slotLen) ∧
    (let u := shp 2 7 0 0 3 []; ShpEntry 2 7 3 0 1 0x7000 u ∧ Queue 3 7 5 0 u) ∧
    (let u := shp 2 7 0 1 (3 + 32) [];
      ShpEntry 2 7 3 0 1 0x7000 u ∧ Queue 3 7 5 1 u ∧ EntryFree 5 3 0x7000 u ∧ HeldDown 3 u) := by
  refine ⟨fun g h => ?_, by decide +kernel,
    ⟨shpEntry_of (by decide +kernel) (by decide +kernel) (by decide +kernel), by decide +kernel⟩,
    shpEntry_of (by decide +kernel) (by decide +kernel) (by decide +kernel), by decide +kernel,
    entryFree_of (by decide +kernel) (by decide +kernel), by decide +kernel⟩
  obtain rfl | rfl | rfl : g = [] ∨ g = [(F.SHP_CLASS_n_EN 7, 1)] ∨ g = [(F.SHP_GOPEN 7, 65535)] := by simpa using h
  all_goals exact ⟨shpEntry_of (by decide +kernel) (by decide +kernel) (by decide +kernel),
    entryFree_of (by decide +kernel) (by decide +kernel), entryFree_of (by decide +kernel) (by decide +kernel), by decide +kernel⟩

theorem witness_Policing :
    (∀ g ∈ [[], [(F.SHP_NODEPOL_NRATE, 1), (F.SHP_NPOL 15, 1)], [(F.SHP_CLASS_n_EN 15, 1)]], let u := shp 4 7 65535 0 3 g;
      ShpEntry 4 7 3 65535 1 0x7000 u ∧ u.tally.asn < 2 ^ 40 ∧ u.bytesAt (u.ledger 3 + 240) 8 = List.replicate 8 0 ∧
        256 * u.get F.SHP_NODEPOL_NBURST < 256 * 65535 ∧ u.tok.getD 15 0 < 256 * 65535) := by
  intro g h
  obtain rfl | rfl | rfl : g = [] ∨ g = [(F.SHP_NODEPOL_NRATE, 1), (F.SHP_NPOL 15, 1)] ∨ g = [(F.SHP_CLASS_n_EN 15, 1)] := by
    simpa using h
  all_goals exact ⟨shpEntry_of (by decide +kernel) (by decide +kernel) (by decide +kernel), by decide +kernel⟩

theorem witness_ChannelsTakeTheirOwnersCommands :
    (∀ st ∈ [0, 1, 3], let u := at_ 7 [(F.DMA_n_STAT_STATE 15, st), (F.DMA_n_CFG_OWNER 15, 11)]
      let v := at_ 7 [(F.DMA_n_STAT_STATE 15, st), (F.DMA_n_CFG_OWNER 15, 12), (F.DMA_STAT_BUSERR, 1)];
      (Served (R.DMA_n_CMD 15) u ∧ u.mode ≠ Mode.safe ∧ u.get (F.DMA_n_CFG_OWNER 15) = 11 ∧ u.get F.DMA_STAT_BUSERR = 0 ∧
        u.get (F.DMA_n_STAT_STATE 15) = st ∧ Writer.drover 10 ≠ .drover 11) ∧
      (Served R.DMA_STAT v ∧ 12 ≤ v.get (F.DMA_n_CFG_OWNER 15) ∧ v.get F.DMA_STAT_BUSERR = 1)) ∧
    (∀ d : Fin 12, Writer.host ≠ .drover d) ∧ (∀ n : Fin 16, (at_ 7 []).get (F.DMA_n_STAT_STATE n) ≠ 1) := by
  refine ⟨by decide +kernel, fun d => nofun, by decide +kernel⟩

/-- A Waybill: OP, FLAGS, spaces, length, source, destination, NEXT. -/
def waybill (op fl sp len src dst next : Nat) : List Byte :=
  leBytes 1 op ++ leBytes 1 fl ++ leBytes 2 sp ++ leBytes 4 len ++ leBytes 8 src ++ leBytes 8 dst ++ leBytes 4 next ++ leBytes 4 0

/-- Channel 15 runs at the Waybill `w` at 0x8000, its owner as given. -/
def dma (w : List Byte) (owner : Nat) : State :=
  come ((at_ 7 [(F.DMA_n_STAT_STATE 15, 1), (F.DMA_n_CUR_OFFSET 15, 0x8000), (F.DMA_n_CFG_OWNER 15, owner), (F.DMA_n_CFG_LINES 15, 1)]).poke 0x8000 w)

theorem witness_WaybillsMoveData :
    (∀ c ∈ [(0, 32, []), (1, 32, List.replicate 32 7), (4, 1536, []), (5, 16, List.replicate 16 7)],
      let w := waybill 1 0 c.1 c.2.1 0x1000 0x2000 0;
      Begins 15 w (dma w 11) ∧ Alone 15 (dma w 11) ∧ (dma w 11).dmaBuf = [] ∧ 0 < (dma w 11).get (F.DMA_n_CFG_LINES 15) ∧
        Wb.op w = 1 ∧ 0 < Wb.len w ∧ SourceSound w c.2.2 (dma w 11)) ∧
    (let w := waybill 2 0 4 32 0x01020304 0x2000 0;
      Begins 15 w (dma w 12) ∧ Wb.op w = 2 ∧ Wb.dstSpace w = 1 ∧ 0 < Wb.len w ∧ TargetOpen w (dma w 12)) ∧
    (let w := waybill 2 0 0 32 0x01020304 0x2000 0;
      Begins 15 w (dma w 12) ∧ Wb.op w = 2 ∧ Wb.dstSpace w = 0 ∧ 0 < Wb.len w ∧ Open (Wb.dst w) (Wb.len w) (dma w 12)) ∧
    (∀ c ∈ [(0, []), (4, List.replicate 32 0)], let w := waybill 3 4 c.1 32 0x1000 0x2000 0;
      Begins 15 w (dma w 12) ∧ Wb.op w = 3 ∧ 0 < Wb.len w ∧ SourceSound w [] (dma w 12) ∧ TargetSound w c.2 (dma w 12) ∧
        sourceOf w [] (dma w 12) = targetOf w c.2 (dma w 12)) ∧
    (let w := waybill 3 4 4 32 0x1000 0x2000 0
      let hd : List Byte := List.replicate 16 0 ++ List.replicate 16 7;
      Begins 15 w (dma w 12) ∧ SourceSound w [] (dma w 12) ∧ TargetSound w hd (dma w 12) ∧ 16 * 1 < Wb.len w ∧
        (sourceOf w [] (dma w 12)).take (16 * 1) = (targetOf w hd (dma w 12)).take (16 * 1) ∧
        ((sourceOf w [] (dma w 12)).drop (16 * 1)).take 16 ≠ ((targetOf w hd (dma w 12)).drop (16 * 1)).take 16) ∧
    (∀ op ∈ [1, 2, 3], let w := waybill op 0 0 0 0x1000 0x2000 0
      let u := dma w 11;
      Begins 15 w u ∧ Wb.op w = op ∧ Wb.len w = 0 ∧ Alone 15 u ∧ u.dmaBuf = [] ∧ Open (u.get (F.DMA_n_CUR_OFFSET 15)) 32 u) ∧
    (let w := waybill 1 0 0 33 0x1000 0x2000 0
      let u := dma w 11;
      u.mode ≠ Mode.reset ∧ u.mode ≠ Mode.safe ∧ u.get (F.DMA_n_STAT_STATE 15) = 1 ∧ u.dma[(15 : Fin 16)].stopping = false ∧
        u.dma[(15 : Fin 16)].moved = none ∧ Open (u.get (F.DMA_n_CUR_OFFSET 15)) 32 u ∧ OffLog 15 u ∧
        u.bytesAt (u.get (F.DMA_n_CUR_OFFSET 15)) 32 = w ∧ (Wb.len w % 16 ≠ 0 ∨ Wb.dst w % 16 ≠ 0)) := by
  refine ⟨by decide +kernel, by decide +kernel, ⟨by decide +kernel, by decide +kernel, by decide +kernel, by decide +kernel,
      open_of (by decide +kernel)⟩, by decide +kernel, by decide +kernel, fun op h => ?_,
    by decide +kernel, by decide +kernel, by decide +kernel, by decide +kernel, by decide +kernel, open_of (by decide +kernel),
    by decide +kernel, by decide +kernel, by decide +kernel⟩
  obtain rfl | rfl | rfl : op = 1 ∨ op = 2 ∨ op = 3 := by simpa using h
  all_goals exact ⟨by decide +kernel, by decide +kernel, by decide +kernel, by decide +kernel, by decide +kernel,
    open_of (by decide +kernel)⟩

/-- Channel 15 with the Waybill `w` in work: what it moved, the bytes fetched, and the lines that the buffer holds. -/
def moving (w : List Byte) (moved : Option (Nat × Nat)) (stopping : Bool) (got : Nat) (lines : List DmaLine) : State :=
  let u := dma w 11
  come { u with dma := u.dma.set 15 ⟨w, moved, stopping, got, []⟩, dmaBuf := lines }

/-- Lines for the Serai, open there, as `OwnLines` asks. -/
theorem ownLines_one {l : DmaLine} {u : State} (h : u.dmaBuf = [l] ∧ l.chan = 15 ∧ l.bytes ≠ []) (h1 : Open l.dst l.bytes.length u) :
    OwnLines 15 u := by
  intro x hx
  rw [h.1, List.mem_singleton] at hx
  subst hx
  exact ⟨h.2.1, h.2.2, fun _ => h1⟩

theorem ownLines_nil {u : State} (h : u.dmaBuf = []) : OwnLines 15 u := by
  intro x hx
  rw [h] at hx
  exact nomatch hx

/-- The hypotheses of completion. -/
theorem witness_WaybillsMoveData_completion :
    (∀ next ∈ [0, 2 ^ 31 + 0x9000], let w := waybill 3 4 0 32 0x1000 0x2000 next
      let u := moving w (some (2, 0xFFFFF0)) false 0 [];
      u.dma[(15 : Fin 16)] = ⟨w, some (2, 0xFFFFF0), false, 0, []⟩ ∧ u.get (F.DMA_n_STAT_STATE 15) = 1 ∧ Wb.op w ≠ 1 ∧
        Alone 15 u ∧ OwnLines 15 u ∧ Open (u.get (F.DMA_n_CUR_OFFSET 15)) 32 u ∧ (Wb.hasNext w = false ↔ next = 0) ∧
        Wb.stopmis w = true ∧ Wb.stopmis (waybill 3 0 0 32 0x1000 0x2000 next) = false) ∧
    (let w := waybill 1 1 0 32 0x1000 0x2000 0
      let u := moving w (some (1, 0xFFFFFF)) false 32 [⟨15, 0, 0x2000, List.replicate 32 7⟩];
      u.dma[(15 : Fin 16)] = ⟨w, some (1, 0xFFFFFF), false, 32, []⟩ ∧ u.get (F.DMA_n_STAT_STATE 15) = 1 ∧ Wb.len w ≤ 32 ∧
        Alone 15 u ∧ OwnLines 15 u ∧ Open (u.get (F.DMA_n_CUR_OFFSET 15)) 32 u) := by
  refine ⟨fun next h => ?_, by decide +kernel, by decide +kernel, by decide +kernel, by decide +kernel,
    ownLines_one (l := ⟨15, 0, 0x2000, List.replicate 32 7⟩) (by decide +kernel) (open_of (by decide +kernel)),
    open_of (by decide +kernel)⟩
  obtain rfl | rfl : next = 0 ∨ next = 2 ^ 31 + 0x9000 := by simpa using h
  all_goals exact ⟨by decide +kernel, by decide +kernel, by decide +kernel, by decide +kernel, ownLines_nil (by decide +kernel),
    open_of (by decide +kernel), by decide +kernel⟩

/-- The hypotheses of the completion of a COPY with lines to fetch yet. -/
theorem witness_WaybillsMoveData_fetching :
    let w := waybill 1 0 4 1536 0x1000 0x2000 0
    let u := moving w (some (1, 0xFFFFFF)) false 512 (linesOf 15 w (sourceOf w [] (dma w 11)) 1)
    (u.dma[(15 : Fin 16)] = ⟨w, some (1, 0xFFFFFF), false, min (Wb.len w) (512 * 1), []⟩ ∧ Wb.op w = 1 ∧ 512 * 1 < Wb.len w ∧
      u.get (F.DMA_n_STAT_STATE 15) = 1 ∧ 0 < u.get (F.DMA_n_CFG_LINES 15) ∧ Alone 15 u ∧
      u.dmaBuf = linesOf 15 w (sourceOf w [] u) 1 ∧ SourceSound w [] u ∧ Wb.dstSpace w = 1) ∧
      Open (u.get (F.DMA_n_CUR_OFFSET 15)) 32 u :=
  ⟨by decide +kernel, open_of (by decide +kernel)⟩

/-- The hypotheses of a bus error and of a drain. -/
theorem witness_WaybillsMoveData_ends :
    (let u := dma (waybill 1 0 0 32 0x1000 0x2000 0) 11;
      (u.get (F.DMA_n_STAT_STATE 15) = 1 ∧ (∀ k : Fin 16, k ≠ 15 → u.get (F.DMA_n_STAT_STATE k) ≠ 1) ∧ OffLog 15 u) ∧
        Open (u.get (F.DMA_n_CUR_OFFSET 15)) 32 u) ∧
    (let u := moving (waybill 1 0 0 32 0x1000 0x2000 0) (some (1, 0xFFFFFF)) true 32 [⟨15, 0, 0x2000, List.replicate 32 7⟩];
      (u.dma[(15 : Fin 16)].stopping = true ∧ u.get (F.DMA_n_STAT_STATE 15) = 1 ∧ Alone 15 u) ∧ OwnLines 15 u ∧
        Open (u.get (F.DMA_n_CUR_OFFSET 15)) 32 u) :=
  ⟨⟨by decide +kernel, open_of (by decide +kernel)⟩, by decide +kernel,
    ownLines_one (l := ⟨15, 0, 0x2000, List.replicate 32 7⟩) (by decide +kernel) (open_of (by decide +kernel)),
    open_of (by decide +kernel)⟩

/-! ## Hypotheses that are met: the Caravan and the Tandem -/

/-- The header of a packet of chip 3 that comes in at port `p` for chip `d`, after two copies whose CRC failed. -/
def head (p : Fin 2) (d : Nat) : PktHead := ⟨p, 3, d, 1, 5, 2⟩

theorem witness_RingsAreEnumeratedAndWatched :
    (let u := at_ 1 [(F.CAR_STAT_ROLE, 3)]
      let v := at_ 7 [(F.CAR_STAT_ROLE, 2)];
      (Served R.CAR_CMD u ∧ Lead u ∧ u.tickRuns = false) ∧ (Served R.CAR_CMD v ∧ Lead v ∧ v.tickRuns = true) ∧
        ¬Lead (at_ 7 [(F.CAR_STAT_ROLE, 1)])) ∧
    (let u := at_ 1 [(F.CAR_STAT_ROLE, 1), (F.SYS_STRAP_HOST, 2)]; u.mode ≠ Mode.reset ∧ Member u ∧ (63 : Nat) < 64 ∧ ¬(64 : Nat) < 64 ∧ (64 : Nat) < 65) ∧
    (∀ r ∈ [0, 1, 2], let u := at_ 1 [(F.CAR_STAT_ROLE, r), (F.SYS_STRAP_HOST, 1)];
      u.mode ≠ Mode.reset ∧ u.get F.SYS_STRAP_HOST < 2 ∧ u.get F.CAR_STAT_ROLE = r ∧ u.man.atScope = false ∧
        ¬(Lead u ∧ u.car.enumAt.isSome = true)) ∧
    (∀ c0 ∈ [0, 1], let u := at_ 1 [(F.CAR_STAT_ROLE, 2)]
      let v := come { u with car := { u.car with enumAt := some c0 }, tally := { u.tally with clock := 32000 } };
      v.mode ≠ Mode.reset ∧ Lead v ∧ v.car.enumAt = some c0 ∧ v.man.atScope = false ∧
        (v.tally.clock < c0 + 32000 ↔ c0 = 1)) ∧
    (let u := at_ 7 [(F.CAR_LINK_p_UP 0, 1), (F.CAR_LINK_p_UP 1, 1)];
      u.get F.CAR_STAT_TWOLEADS = 0 ∧ (u.put F.CAR_STAT_TWOLEADS 1).get F.CAR_STAT_TWOLEADS = 1 ∧ u.get (F.CAR_LINK_p_UP 0) = 1 ∧ u.get (F.CAR_LINK_p_UP 1) = 1 ∧ u.car.pingOpen = [false, false] ∧ u.car.pingMiss.length = 2 ∧
        (at_ 7 []).get (F.CAR_LINK_p_UP 1) = 0) ∧
    (let u := at_ 7 [(F.CAR_STAT_ROLE, 2), (F.CAR_STAT_SIZE, 4)];
      u.mode ≠ Mode.reset ∧ u.isFor (head 0 0) = true ∧ u.isFor (head 0 1) = false ∧ Lead u) ∧
    (let u := at_ 7 [(F.CAR_STAT_ROLE, 2), (F.CAR_STAT_SIZE, 4), (F.CAR_LINK_p_UP 1, 1)];
      hopOf2 (u.get F.CAR_STAT_INDEX) 1 u = hopOf2 (head 0 0).origin 0 u ∧ u.get F.CAR_STAT_INDEX ≠ (head 0 0).origin ∧
        u.get (F.CAR_LINK_p_UP 1) = 1) ∧
    (let u := at_ 7 [(F.CAR_STAT_ROLE, 1)]
      let v := come { u with car := { u.car with missed := 3 } };
      v.get F.CAR_STAT_ROLE = 1 ∧ 3 ≤ v.car.missed ∧ v.get F.CAR_STAT_ISOLATED = 0) ∧
    (let u := at_ 7 [(F.CAR_STAT_ROLE, 1), (F.CAR_STAT_ISOLATED, 1), (F.TICK_CTL_SRC, 1)];
      u.get (F.CAR_LINK_p_UP 1) = 0 ∧ u.get F.CAR_STAT_ROLE = 1 ∧ u.get F.CAR_STAT_ISOLATED = 1 ∧ u.tandem = false ∧
        u.get F.TICK_CTL_SRC = 1 ∧ 4 * (-1 : Int).natAbs ≤ 125 * u.slotLen ∧ ¬4 * (2 ^ 23 : Int).natAbs ≤ 125 * u.slotLen) :=
  ⟨by decide +kernel, by decide +kernel, by decide +kernel, by decide +kernel, by decide +kernel, by decide +kernel,
    by decide +kernel, by decide +kernel, by decide +kernel⟩

/-- The lead of a Caravan of 4 chips, its own index 0, whose programmes 0 and 1 name the chips `p` and `q`. -/
def leads (p q : Nat) : State :=
  at_ 7 [(F.CAR_STAT_ROLE, 2), (F.CAR_STAT_SIZE, 4), (F.CAR_PROG_s_h_CHIPS 0 0, p), (F.CAR_PROG_s_h_CHIPS 1 0, q), (F.UPD_HOLDUP_MV, 65535)]

theorem witness_RemoteAccessReaches :
    (let u := at_ 7 [(F.CAR_STAT_ROLE, 1), (F.CAR_STAT_SIZE, 4)];
      u.mode ≠ Mode.reset ∧ ¬(Lead u ∧ isReport R.CAL_SER = true) ∧ NoStep u ∧ u.isFor (head 1 0) = true ∧
        NoStep (writeReg .remote R.CAL_SER 5 u) ∧ R.CAL_SER < 0x800000 ∧ R.CAL_SER % 4 = 0 ∧ u.route 3 = some 1 ∧
        (readReg R.CAL_SER u).2 = u ∧ ¬Hidden R.CAL_SER u) ∧
    (∀ a ∈ [R.EVT_CH_c_0 63, R.EVT_CH_c_1 63, R.EVT_CNT_c 63], let u := at_ 7 [(F.EVT_CTL_CN404, 1), (F.EVT_CH_c_SECURE 63, 1)];
      Hidden a u ∧ u.mode ≠ Mode.reset) ∧
    (isReport R.CAR_REJOIN = true ∧ (let u := (leads 0 0).put F.SYS_MODE_MODE_CUR Mode.safe; Lead u ∧ u.mode = Mode.safe ∧ NoStep u)) ∧
    (let u := leads 0 0
      let v := come { u with car := { u.car with wave := 2 } };
      (∀ w ∈ [u, v], w.mode ≠ Mode.reset ∧ w.mode ≠ Mode.safe ∧ Lead w ∧ w.journals = false ∧ NoStep w) ∧ (5 : Nat) < 6 ∧
        (1 : Nat) < 2 ∧ (v.car.wave - (v.car.wave &&& 2) = 0 ∧ v.car.wave - (v.car.wave &&& 1) ≠ 0) ∧
        (v.put F.CAR_STAT_RWAVE 2).get F.CAR_STAT_RWAVE = 2) ∧
    ((let u := at_ 7 [(F.SER_APER_BASE, 360), (F.CAR_STAT_SIZE, 4)];
      u.mode ≠ Mode.reset ∧ u.get F.SER_APER_BASE ≤ 384 ∧ u.route 3 = some 1 ∧
        Storage (u.get F.SER_APER_BASE * 65536 + (0x800000 - 0x800000)) 256 u ∧
        Open (u.get F.SER_APER_BASE * 65536 + (0x800000 - 0x800000)) ([7] : List Byte).length u)) ∧
    State.reset.mode = Mode.reset :=
  ⟨by decide +kernel, by decide +kernel, by decide +kernel, by decide +kernel,
    ⟨by decide +kernel, by decide +kernel, by decide +kernel, by decide +kernel, open_of (by decide +kernel)⟩, by decide +kernel⟩

theorem witness_RingsTickAndAgree :
    (let u := leads 0 0
      let v := come { u with tally := { u.tally with pos := 4 * (u.slotLen - 64) } };
      Lead v ∧ v.tickRuns = true ∧ v.tally.pos / 4 + 64 = v.slotLen ∧ u.tally.pos / 4 + 64 ≠ u.slotLen) ∧
    (let u := at_ 7 [(F.CAR_STAT_ROLE, 1), (F.TICK_CTL_SRC, 1)];
      (head 1 0).hops < 64 ∧ (255 : Nat) < 256 ∧ u.mode ≠ Mode.reset ∧ u.get F.CAR_STAT_ROLE = 1 ∧ u.tandem = false ∧
        u.get F.TICK_CTL_SRC = 1 ∧ u.car.tick = none ∧ u.get F.CAR_STAT_ISOLATED = 0 ∧ u.car.alignRun < 7 ∧
        u.tally.pos ≤ 4 * u.slotLen ∧ u.tickRuns = true ∧ u.slotLen + 1 ≠ u.slotLen) ∧
    (let u := at_ 7 [(F.MAN_STAT_ARMED, 1), (F.CAR_STAT_SIZE, 4)];
      u.mode ≠ Mode.reset ∧ u.isFor (head 0 0xFF) = true ∧ u.on F.MAN_STAT_ARMED = true ∧ (at_ 7 []).on F.MAN_STAT_ARMED = false ∧
        u.ser.errs = [] ∧ u.ser.poison = [] ∧ u.route 3 = some 1) ∧
    ((at_ 7 [(F.CAR_STAT_ISOLATED, 1)]).get F.CAR_STAT_ISOLATED = 1 ∧ (at_ 7 []).get F.CAR_STAT_ISOLATED = 0 ∧
      (at_ 7 []).get F.MAN_STAT_SHADOW ≠ 2) ∧
    (let u := leads 0 0
      let v := come { u with car := { u.car with barrier := some (7, 7, 0) }, tally := { u.tally with clock := 2 ^ 40 } };
      (v.mode ≠ Mode.reset ∧ v.isFor (head 0 0) = true ∧ (head 0 0).origin < 64 ∧ v.car.barrier = some (7, 7, 0) ∧
        (7 ||| 2 ^ 3) &&& (2 ^ v.get F.CAR_STAT_SIZE - 1) = 2 ^ v.get F.CAR_STAT_SIZE - 1 ∧
        (7 ||| 2 ^ 2) &&& (2 ^ v.get F.CAR_STAT_SIZE - 1) ≠ 2 ^ v.get F.CAR_STAT_SIZE - 1) ∧
        0 + 32 * v.get F.CAR_CFG_BARTMO ≤ v.tally.clock ∧ 7 ≠ 2 ^ v.get F.CAR_STAT_SIZE - 1 ∧
        v.tally.clock < 2 ^ 40 + 32 * max 1 (v.get F.CAR_CFG_BARTMO)) ∧
    (∀ d ∈ [1, 2, 3], let u := leads 0 0
      let v := u.put F.CAR_SNAP_ASNL_ASN d;
      Served R.CAR_CMD v ∧ Lead v ∧ v.tally.asn < 2 ^ 39 ∧ v.get F.CAR_SNAP_ASNL_ASN + 2 ^ 32 * (v.get F.CAR_SNAP_ASNH_ASN % 256) = d ∧
        v.tally.asn + (if v.tally.pos / 4 + 3 ≤ v.slotLen then 1 else 2) = 1) :=
  ⟨by decide +kernel, by decide +kernel, by decide +kernel, by decide +kernel, by decide +kernel, by decide +kernel⟩

theorem witness_RingsResetAndUpdate :
    (let u := leads 4 0;
      Served R.CAR_CMD u ∧ Lead u ∧ u.get F.CAR_STAT_RWAVE = 0 ∧ u.get F.CAR_STAT_INDEX ∉ chipsOf 0 (chipProg 0 u)) ∧
    (let u := (leads 10 0).put F.CAR_STAT_RWAVE 1;
      Served R.CAR_CMD u ∧ Lead u ∧ u.journals = false ∧ u.get F.CAR_STAT_RWAVE = 1 ∧ u.car.wave = 0 ∧
        u.get F.CAR_STAT_INDEX ∉ chipsOf 1 (chipProg 0 u) ∧ chipsOf 1 (chipProg 0 u) ≠ []) ∧
    (let u := leads 0 8;
      Served R.CAR_CMD u ∧ Lead u ∧ u.get F.CAR_STAT_IMGBUSY = 0 ∧ u.get F.TRU_LOCK_UPDATE = 0 ∧ u.tandem = false ∧
        u.tan.hoAt = none ∧ u.takeoverNow = false ∧ u.get F.UPD_HOLDUP_MIN_MV ≤ u.get F.UPD_HOLDUP_MV ∧ chipProg 1 u = 2 ^ 3 ∧
        3 ≠ u.get F.CAR_STAT_INDEX ∧ u.route 3 = some 1) ∧
    (let u := leads 0 0;
      (List.replicate 256 (7 : Byte)).length = 256 ∧ 3840 % 256 = 0 ∧ 3840 % 4096 = 3840 ∧ u.mode ≠ Mode.reset ∧ u.updCond = 0 ∧
        u.isFor (head 0 0) = true ∧ u.flsBlank (0x600000 + 3840) 256 = true ∧ (u.put F.TRU_LOCK_UPDATE 1).updCond ≠ 0) ∧
    (let u := leads 0 0
      let v := come { u with car := { u.car with imgLeft := [(63, (u.stagedLen + 4095) / 4096 - 1)] } };
      v.car.imgLeft = [(63, (u.stagedLen + 4095) / 4096 - 1)] ∧ Lead v ∧
        (u.stagedLen + 4095) / 4096 - 1 + 1 = (v.stagedLen + 4095) / 4096) :=
  ⟨by decide +kernel, by decide +kernel, by decide +kernel, by decide +kernel, by decide +kernel⟩

/-- A chip of a Tandem in mode `m` and role `r`, its sync state and some fields as given. -/
def tan (m r sync : Nat) (g : List (Field × Nat)) (f : Tan → Tan) : State :=
  let u := at_ m ([(F.SYS_STRAP_TANDEM, 1), (F.TAN_STAT_ROLE, r), (F.TAN_STAT_SYNC, sync)] ++ g);
  come { u with tan := f u.tan }

/-- A state `p` quarter grains into its slot. -/
def hbAt (p : Nat) (u : State) : State := { u with tally := { u.tally with pos := p } }

theorem witness_TandemsWatchEachOther :
    (TanRuns (tan 7 1 2 [] id) ∧ (hbAt 32 (tan 7 1 2 [] id)).tally.pos / 4 = 8 ∧ (tan 7 1 2 [] id).tally.pos / 4 ≠ 8 ∧
      (tan 7 1 2 [] id).tally.pos / 4 < (tan 7 1 2 [] id).get F.TAN_CFG_HBWIN ∧ (tan 7 1 2 [] id).tan.late = false ∧ (tan 7 1 2 [] fun a => { a with late := true }).tan.late = true) ∧
    (let u := tan 7 1 3 [(F.TAN_STAT_OWN, 1), (F.MAN_STAT_ACTIVE_VALID, 1), (F.MAN_DRV_n_ROLE 11, 6), (F.TICK_NEEDSEAL_RETIRE, 2048)]
        fun a => { a with withheld := 1 }
      let v := { u with tally := { u.tally with whole := true } };
      v.tandem = true ∧ v.tickRuns = true ∧ JournalLate v ∧ ¬JournalLate (v.put F.TICK_SEALED_RETIRE 2048) ∧ v.tan.withheld = 1 ∧
        v.get F.TAN_STAT_ROLE = 1 ∧ v.get F.TAN_STAT_OWN = 1 ∧ v.mode = Mode.serve ∧ v.modePend = none ∧ v.tan.hoAt = none ∧
        v.faults.safe = false ∧ v.faults.safeEntered = false) ∧
    (let u := tan 7 1 0 [(F.TAN_HB_p_LOST 0, 1), (F.TAN_HB_p_LOST 1, 1)] id;
      u.mode ≠ Mode.reset ∧ u.tandem = true ∧ u.get F.UPD_STAT_STATE ≠ 1 ∧ Apart2 u ∧ u.isFor (head 1 0) = true ∧ u.get (F.TAN_HB_p_LOST 0) = 1 ∧ u.get (F.TAN_HB_p_LOST 1) = 1 ∧
        (tan 7 1 0 [] id).get (F.TAN_HB_p_LOST 1) = 0) ∧
    (let u := hbAt 3200 (tan 7 1 2 [] fun a => { a with seen0 := true, seen1 := true });
      HbDue u ∧ u.tan.seen0 = true ∧ u.tan.seen1 = true) ∧
    (∀ n ∈ [0, 2, 15], let u := hbAt 3200 (tan 7 1 2 [(F.TAN_HB_p_MISS 0, n)] fun a => { a with seen0 := false, seen1 := true });
      HbDue u ∧ u.tan.seen0 = false ∧ u.tan.seen1 = true ∧ u.get (F.TAN_HB_p_LOST 1) = 0 ∧ u.get (F.TAN_HB_p_LOST 0) = 0 ∧
        (min (u.get (F.TAN_HB_p_MISS 0) + 1) 15 = 3 ↔ n = 2)) ∧
    (∀ l ∈ [some (7, 5), some (8, 5), some (5, 5), none],
      let u := hbAt 3200 (tan 9 2 2 [(F.TAN_HB_p_MISS 0, 2), (F.TAN_HB_p_MISS 1, 2)] fun a => { a with seen0 := false, seen1 := false, lastMode := l });
      HbDue u ∧ u.tan.seen0 = false ∧ u.tan.seen1 = false ∧ u.get (F.TAN_HB_p_MISS 0) = 2 ∧ u.get (F.TAN_HB_p_MISS 1) = 2 ∧
        u.get (F.TAN_HB_p_LOST 0) = 0 ∧ u.get (F.TAN_HB_p_LOST 1) = 0 ∧ u.get F.TAN_STAT_ROLE = 2 ∧ u.get F.TAN_STAT_OWN = 0 ∧
        u.tan.lastMode = l) ∧
    (∀ b ∈ [false, true], let u := tan Mode.shadow 2 2 [] fun a => { a with tookLine := b }
      let v := come { u with modePend := some ⟨Mode.takeover, false, 0⟩ };
      v.modePend = some ⟨Mode.takeover, false, 0⟩ ∧ v.mode = Mode.shadow ∧ v.tandem = true ∧ v.tan.tookLine = b ∧
        v.faults.safeEntered = false) ∧
    (∀ m ∈ [7, 8], let u := tan Mode.takeover 1 3 [] fun a => { a with lastMode := some (m, 5) };
      Served R.TAN_CMD u ∧ u.tandem = true ∧ u.tan.lastMode = some (m, 5) ∧ u.mode = Mode.takeover ∧ u.modePend = none) ∧
    (let u := tan Mode.takeover 1 3 [(F.TAN_CFG_REPLAYMAX, 5)] fun a => { a with takeoverSlots := 5 };
      u.mode = Mode.takeover ∧ u.modePend = none ∧ u.get F.TAN_CFG_REPLAYMAX ≤ u.tan.takeoverSlots ∧
        (tan Mode.takeover 1 3 [(F.TAN_CFG_REPLAYMAX, 5)] fun a => { a with takeoverSlots := 4 }).tan.takeoverSlots < 5) ∧
    ((tan 7 1 0 [] id).tandem = true ∧ Apart2 (tan 7 1 0 [] id) ∧ (tan 7 1 2 [] id).get F.TAN_STAT_SYNC = 2) :=
  ⟨by decide +kernel, by decide +kernel, by decide +kernel, by decide +kernel, by decide +kernel, by decide +kernel, by decide +kernel, by decide +kernel, by decide +kernel, by decide +kernel⟩

theorem witness_JournalsAreKeptAndJoined :
    (∀ l ∈ [[], [(⟨6, 0, 2 ^ 32 - 1, []⟩ : JRec)]], let u := tan Mode.shadow 2 2 [] fun a => { a with log := l };
      u.isMirror = true ∧ u.get F.TAN_STAT_SYNC = 2 ∧ u.baySize Bay.journal = 0 ∧ u.ser.poison = [] ∧ u.ser.errs = [] ∧
        u.tan.held = [] ∧ u.faults.safeEntered = false ∧ (u.tan.log.getLast?.all fun r => 0 == (r.jseq + 1) % 2 ^ 32) = true ∧ 16 * 1507327 + 16 ≤ 0x1700000) ∧
    (let u := tan Mode.shadow 2 1 [] id
      let v := tan Mode.shadow 2 0 [] id;
      u.isMirror = true ∧ u.get F.TAN_STAT_SYNC = 1 ∧ (List.replicate 11 (0 : Byte)).length < 12 ∧ v.isMirror = true ∧ Apart2 v) ∧
    (let u := tan 7 1 1 [(F.TAN_JSEQ_SENT_JSEQ, 1), (F.TAN_JSEQ_CONF_JSEQ, 2 ^ 32 - 2)] fun a =>
        { a with tickSeq := 0, lastCopy := some 0, segs := [1, 2, 3] };
      u.journals = true ∧ u.ftx.held = [] ∧ u.tan.held = [] ∧ u.confirmed 1 = false ∧ u.confirmed u.tan.tickSeq = false ∧
        (u.get F.TAN_JSEQ_SENT_JSEQ + 2 ^ 32 - 1) % 2 ^ 32 < 2 ^ 31 ∧ (1 + 2 ^ 32 - u.tan.tickSeq) % 2 ^ 32 < 2 ^ 31 ∧
        u.tan.lastCopy = some 0 ∧ (1 + 2 ^ 32 - 0) % 2 ^ 32 < 2 ^ 31) ∧
    (let u := tan 7 1 2 [] id
      let l : Lease := ⟨0, 3, 1, [], 8192, false, false, 7, false⟩
      let v := come { u with sec := { u.sec with leases := [l] } };
      v.journals = true ∧ v.sec.leases = [l] ∧ l.jseq = 7 ∧ l.flashOk = false) ∧
    (let u := tan 7 1 3 [(F.TAN_STAT_TLUP, 1)] id
      let v := tan Mode.standby 1 3 [(F.TAN_STAT_TLUP, 1)] fun a => { a with hb := some ⟨0, 7, true, false, true⟩ };
      u.tandem = true ∧ u.get F.TAN_STAT_TLUP = 1 ∧ Apart2 u ∧ u.get F.TAN_STAT_ROLE = 1 ∧ u.get F.TAN_STAT_SYNC ≤ 3 ∧
        v.tandem = true ∧ v.writable R.TAN_CMD = true ∧ v.mode = Mode.standby ∧ v.tan.hb = some ⟨0, 7, true, false, true⟩ ∧
        v.get (F.TAN_HB_p_LOST 0) = 0 ∧ v.get F.TAN_STAT_TLUP = 1 ∧ Apart2 v ∧ u.writable R.TAN_CMD = true ∧ u.mode ≠ Mode.standby) ∧
    (∀ g ∈ [0x10FFE, 0x10FFF], let u := tan 7 1 1 [(F.TAN_COPY_ADDR, g), (F.MAN_BAY_n_BASE Bay.ledger, 16),
        (F.MAN_BAY_n_SIZE Bay.ledger, 1), (F.MAN_BAY_n_SIZE Bay.journal, 1)] fun a => { a with walking := true };
      u.journals = true ∧ u.tan.walking = true ∧ u.logRoom 32 = true ∧ u.get F.TAN_COPY_ADDR = g ∧ u.ser.poison = [] ∧
        u.ser.errs = [] ∧ u.faults.safeEntered = false ∧ u.tan.held = [] ∧ 16 * g + 16 ≤ 0x1700000 ∧
        u.nextMirror (g + 1) = if g = 0x10FFF then none else some 0x10FFF) ∧
    (∀ m ∈ [7, 8], let u := tan m 1 2 [] id;
      u.writable R.TAN_CMD = true ∧ Active u ∧ u.get F.TAN_STAT_SYNC = 2 ∧ u.mode = m ∧ u.tan.hoArm = none ∧ u.tan.hoAt = none ∧
        u.get F.TAN_FETCH_BUSY = 0) ∧
    (let u := tan 7 1 2 [(F.TAN_JSEQ_CONF_JSEQ, 8)] fun a => { a with hoAt := some (1, 9) }
      let v := come { u with tally := { u.tally with pos := 4 * (u.slotLen - 3) } };
      v.tan.hoAt = some (1, 9) ∧ v.get F.TAN_STAT_ROLE = 1 ∧ (v.tally.asn + 1) % 2 ^ 40 = 1 ∧ v.slotLen ≤ v.tally.pos / 4 + 3 ∧
        v.confirmed 9 = false ∧ v.confirmed 8 = true) ∧
    (∀ y ∈ [2, 3], let u := tan 7 1 y [(F.TAN_FETCH_BUSY, 1), (F.MAN_BAY_n_BASE Bay.ledger, 16), (F.MAN_BAY_n_SIZE Bay.ledger, 1),
        (F.MAN_BAY_n_SIZE Bay.journal, 1)] id;
      u.get F.TAN_FETCH_BUSY = 1 ∧ Active u ∧ u.mode ≠ Mode.shadow ∧ u.tan.joining = false ∧ u.ser.poison = [] ∧ u.ser.errs = [] ∧
        u.faults.safeEntered = false ∧ 16 * 0x10FFF + 16 ≤ 0x1700000 ∧ u.logRoom 32 = true ∧ u.tan.held = [] ∧
        u.inMirror (16 * 0x10FFF) = true ∧ u.inMirror (16 * 0x11000) = false ∧ u.bytesAt (16 * 0x10FFF) 16 ≠ List.replicate 16 7) :=
  ⟨by decide +kernel, by decide +kernel, by decide +kernel, by decide +kernel, by decide +kernel, by decide +kernel, by decide +kernel, by decide +kernel, by decide +kernel⟩

/-! ## Hypotheses that are met: hosts, trust, updates -/

theorem witness_HostsReachTheChip :
    (let u := at_ 7 [(F.HST_RING_r_LEN 15, 8), (F.HST_RING_r_DROVER 15, 11)];
      (3 : Word).toNat < 65536 ∧ Served (R.HST_DB_r 15) u ∧ 7 < u.get (F.HST_RING_r_LEN 15) ∧
        u.get (F.HST_RING_r_DROVER 15) = (11 : Fin 12) ∧ u.tan.held = [] ∧
        Served (R.HST_RING_r_2 15) u ∧ ¬8 < u.get (F.HST_RING_r_LEN 15)) ∧
    (∀ d ∈ [(0, 3), (1, 2)], let u := at_ 7 [(F.HST_RING_r_LEN 15, 8), (F.HST_RING_r_DIR 15, d.1), (F.HST_RING_r_DEV 15, d.2),
        (F.HST_RING_r_HOST 15, 2)]
      let room := ringFree (u.get (F.HST_RING_r_DIR 15)) 8 (u.get (F.HST_RING_r_DEV 15)) (u.get (F.HST_RING_r_HOST 15));
      Served (R.HST_DB_r 15) u ∧ u.get (F.HST_RING_r_LEN 15) = 8 ∧ (3 + 8 - u.get (F.HST_RING_r_HOST 15)) % 8 ≤ room ∧
        (d.1 = 0 → room < (4 + 8 - u.get (F.HST_RING_r_HOST 15)) % 8)) ∧
    (let u := at_ 7 [(F.SYS_STRAP_HOST, 1), (F.CAR_STAT_SIZE, 4)];
      SpiHost u ∧ NoStep u ∧ (0x7FFFFC < 0x800000 ∧ 0x7FFFFC % 4 = 0) ∧ 0 = u.get F.CAR_STAT_INDEX ∧ 4 ≠ u.get F.CAR_STAT_INDEX ∧
        u.get F.CAR_STAT_SIZE ≤ 4 ∧ 3 < u.get F.CAR_STAT_SIZE ∧ u.route 3 = some 1 ∧
        ({ u with car := { u.car with breaks := [0, 3] } }).route 2 = none) ∧
    (let f : List Byte := [63]; (f.length ≠ 7 ∨ crc16 0 f ≠ 0) ∧ (f.getD 0 0).toNat < 64) ∧
    (let f : List Byte := [64]; (f.length ≠ 7 + 4 * ((f.getD 0 0).toNat % 64 + 1) ∨ crc16 0 f ≠ 0) ∧ (f.getD 0 0).toNat / 64 = 1 ∧
      (([128] : List Byte).getD 0 0).toNat / 64 = 2) ∧
    (let u := at_ 7 [(F.HST_LINK_MSIXEN, 1)]
      let v := come { u with ep := { u.ep with pba := [63] } };
      v.get F.HST_LINK_MSIXEN = 1 ∧ v.get F.HST_LINK_FMASK = 0 ∧ v.ep.pba = [(63 : Fin 64).val]) := by
  refine ⟨by decide +kernel, by decide +kernel, by decide +kernel, by decide +kernel, by decide +kernel, by decide +kernel⟩

/-- A chip in mode `m` of lifecycle `life` with an owner key in force. -/
def owned (m life : Nat) (g : List (Field × Nat)) (f : Trust → Trust) : State :=
  let u := at_ m ([(F.TRU_STAT_OWNPUBOK, 1)] ++ g);
  come { u with fuses := { u.fuses with life := life, idset := true }, tru := f u.tru }

theorem witness_TrustKeepsItsRules :
    ((at_ 7 []).mode ≠ Mode.reset ∧ (at_ 7 []).get F.TRU_STAT_DRBGOK = 0 ∧ (at_ 7 [(F.TRU_STAT_DRBGOK, 1)]).get F.TRU_STAT_DRBGOK = 1) ∧
    (∀ life ∈ [0, 1], let u := owned Mode.boot life [(F.SYS_STRAP_BOOT, 1)] id;
      u.mode = Mode.boot ∧ u.tru.booted = false ∧ u.fuses.life = life ∧ u.get F.TRU_STAT_OWNPUBOK = 1 ∧ u.get F.SYS_STRAP_BOOT = 1 ∧
        u.fuses.idset = true ∧ Hdr.cls [] ≠ clsD ∧ Served R.TRU_CMD u ∧ u.get F.TRU_CMDSTAT_STATUS ≠ 1 ∧ u.get F.TRU_STAT_IDFAIL = 0) ∧
    ((at_ 7 [(F.TRU_CMDSTAT_STATUS, 1)]).get F.TRU_CMDSTAT_STATUS = 1 ∧ Served R.TRU_CMD (at_ 7 [(F.TRU_CMDSTAT_STATUS, 1)])) ∧
    (let u := owned Mode.boot 1 [(F.TRU_RB_TARGET, 128)] fun a => { a with bootEpoch := 128 }
      let v := { u with fuses := { u.fuses with rollback := 128 } };
      u.get F.TRU_RB_TARGET = 128 ∧ u.fuses.rollback ≤ 128 ∧ 128 ≤ u.tru.bootEpoch ∧ v.fuses.rollback ≤ 128 ∧
        (at_ 1 [(F.TRU_RB_TARGET, 129)]).tru.bootEpoch < (at_ 1 [(F.TRU_RB_TARGET, 129)]).get F.TRU_RB_TARGET) ∧
    (let u := owned 7 1 [(F.TRU_RB_TARGET, 5)] fun a => { a with rbump := true, unlocked := 4 };
      u.tru.rbump = true ∧ u.fuses.rollback ≤ u.get F.TRU_RB_TARGET ∧ Served R.TRU_LOCKSET u ∧ u.tru.unlocked.testBit 2 = true) ∧
    ((owned 7 2 [] id).fuses.life = 2 ∧ ¬(Early (at_ 7 []) ∨ (at_ 7 []).mode = Mode.test) ∧ Early (at_ 1 [])) :=
  ⟨by decide +kernel, by decide +kernel, by decide +kernel, by decide +kernel, by decide +kernel, by decide +kernel⟩

/-- SETPUB: the hash burned is that of the key in TRU_OWNPUB, 64 zero bytes. -/
theorem witness_SetpubKey :
    let u := owned Mode.boot 1 [] id
    let v := come { u with fuses := { u.fuses with owner := some (sha256 (List.replicate 64 0)) } };
    v.mode = Mode.boot ∧ v.fuses.owner = some (sha256 (ownKey v)) ∧ u.fuses.owner ≠ some (sha256 (ownKey u)) :=
  ⟨by decide +kernel, by decide +kernel, by decide +kernel⟩

/-- An owner command for chip serial 0 under nonce 0. -/
def order (ty len : Nat) (rest : List Byte) : List Byte :=
  leBytes 1 ty ++ [1] ++ leBytes 2 len ++ List.replicate 16 0 ++ rest

theorem witness_OwnerCommandsAreChecked :
    (let u := (at_ 7 [(F.TRU_CMDBUF_BASE, 0x9000)]).poke 0x9000 [5];
      u.writable R.TRU_CMD = true ∧ num (u.get F.TRU_CMDBUF_BASE) 1 u = 5 ∧ u.ser.poison = [] ∧ u.ser.errs = [] ∧ u.tan.held = [] ∧
        u.get F.TRU_CMDSTAT_STATUS ≠ 1) ∧
    (∀ ty ∈ [2, 3], let b := order ty 84 []
      let u := owned Mode.configure 1 [] fun a => { a with cmd := some b };
      Ordered ty 84 b u ∧ u.fuses.life = 1 ∧ Early u) ∧
    (∀ ty ∈ [4, 5], let b := order ty 88 [7, 0, 0, 0]
      let u := owned 7 2 [(F.TRU_CMDBUF_BASE, 0x1800000 - 88)] fun a => { a with cmd := some b };
      Ordered ty 88 b u ∧ numAt b 20 1 = 7 ∧ numAt b 21 3 = 0) ∧
    (let b := order 1 216 ([1, 0, 0, 0] ++ List.replicate 64 0 ++ [0, 0, 0, 1])
      let e := (b.drop 88).take 64
      let u := owned Mode.boot 1 [] fun a => { a with cmd := some b };
      Ordered 1 216 b u ∧ numAt b 20 4 = 1 ∧ numAt e 0 3 = 0 ∧ numAt e 3 1 = 1 ∧ numAt e 4 8 = 0 ∧ numAt e 12 4 = 0 ∧ numAt e 56 8 = 0 ∧
        u.get F.TRU_STAT_STORE = 0 ∧ Early u ∧ u.get F.TRU_STAT_IDFAIL = 0) ∧
    (let b := order 3 84 []
      let u := owned 7 1 [] fun a => { a with cmd := some b };
      u.tru.cmd = some b ∧ numAt b 1 1 = 1 ∧ u.mode ≠ Mode.safe ∧ numAt b 0 1 = 3 ∧ ¬Early u ∧ (at_ 7 []).tru.cmd = none) ∧
    (let b := order 6 84 []
      let u := owned 7 2 [] fun a => { a with cmd := some b };
      u.tru.cmd = some b ∧ numAt b 1 1 = 1 ∧ u.mode ≠ Mode.safe ∧ u.fuses.life = 2 ∧ u.get F.TRU_STAT_OWNPUBOK = 1 ∧ 5 < numAt b 0 1) ∧
    (∀ x ∈ [(1, 0), (0, 1)], let b := leBytes 1 4 ++ [1] ++ leBytes 2 88 ++ leBytes 8 x.1 ++ leBytes 8 x.2 ++ [7, 0, 0, 0]
      let u := owned 7 1 [] fun a => { a with cmd := some b };
      u.tru.cmd = some b ∧ numAt b 1 1 = 1 ∧ u.mode ≠ Mode.safe ∧ u.fuses.life = 1 ∧ u.get F.TRU_STAT_OWNPUBOK = 1 ∧ numAt b 0 1 = 4 ∧ numAt b 2 2 = 88 ∧
        numAt b 20 1 < 8 ∧ numAt b 21 3 = 0 ∧ u.get F.TRU_CMDBUF_BASE + 88 ≤ 0x1800000 ∧
        ((b.drop 4).take 8 = leBytes 8 u.fuses.serial ↔ x.1 = 0) ∧
        ((b.drop 12).take 8 = leBytes 4 (u.get (F.TRU_NONCE_w_VALUE 0)) ++ leBytes 4 (u.get (F.TRU_NONCE_w_VALUE 1)) ↔ x.2 = 0)) :=
  ⟨by decide +kernel, by decide +kernel, by decide +kernel, by decide +kernel, by decide +kernel, by decide +kernel, by decide +kernel⟩

/-- A class D header of image 9 with a body of `n` bytes. -/
def header (n : Nat) (hash : List Byte) : List Byte :=
  leBytes 4 0x4D494E43 ++ [0x44, 1, 9, 0, 0, 0, 0, 128, 0, 0, 0, 0] ++ leBytes 4 n ++ [0x12, 0x08, 0, 0, 0, 0, 0, 0, 0, 0, 0, 0] ++
    hash ++ List.replicate (480 - hash.length) 0

/-- An update of Drover 11, of role 1 and image 9, from 0x9000; `st` is UPD_STAT.STATE. -/
def upd (st : Nat) (g : List (Field × Nat)) (b : List Byte) (f : Upd → Upd) : State :=
  let u := (at_ 7 ([(F.UPD_SRC_BASE, 0x9000), (F.UPD_TARGET_MASK, 2048), (F.MAN_STAT_ACTIVE_VALID, 1), (F.MAN_DRV_n_ROLE 11, 1),
    (F.MAN_DRV_n_IMAGE 11, 9), (F.UPD_STAT_STATE, st), (F.UPD_HOLDUP_MV, 65535)] ++ g)).poke 0x9000 b;
  come { u with upd := f u.upd }

theorem witness_UpdatesReachStandbyBanks :
    (let u := upd 0 [] (header 65536 []) id;
      Served R.UPD_CMD u ∧ Storage (u.get F.UPD_SRC_BASE) 512 u ∧ u.get F.UPD_STAT_BUSY = 0 ∧ updStop u = 0 ∧ u.get F.UPD_STAT_STATE ≠ 1 ∧
        GoodHeader (u.bytesAt (u.get F.UPD_SRC_BASE) 512) u) ∧
    (let u := upd 1 [(F.UPD_HOLDUP_MV, 0)] [] id;
      Served R.UPD_CMD u ∧ updStop u ≠ 0 ∧ (upd 1 [(F.UPD_STAT_BUSY, 1)] [] id).get F.UPD_STAT_BUSY = 1 ∧
        (upd 1 [] [] id).get F.UPD_STAT_STATE = 1 ∧ updStop (upd 1 [] [] id) = 0) ∧
    (let u := upd 1 [(F.UPD_LEN_LEN, 16), (F.UPD_TAKEN_BYTES, 16)] [] fun a => { a with mask := 2048, hdr := header 32 [] };
      Served R.UPD_CMD u ∧ Storage (u.get F.UPD_SRC_BASE) (u.get F.UPD_LEN_LEN) u ∧ u.get F.UPD_LEN_LEN % 16 = 0 ∧
        u.get F.UPD_TAKEN_BYTES % 16 = 0 ∧ u.get F.UPD_STAT_BUSY = 0 ∧ u.get F.UPD_STAT_STATE = 1 ∧
        u.get F.UPD_TAKEN_BYTES + u.get F.UPD_LEN_LEN ≤ numAt u.upd.hdr 16 4 ∧ numAt (header 16 []) 16 4 < 16 + 16 ∧
        u.upd.mask.testBit (11 : Fin 12) = true) ∧
    (let u := upd 1 [(F.UPD_LEN_LEN, 16)] [] fun a => { a with mask := 2048, hdr := header 32 [] }
      let v := come { u with ser := { u.ser with poison := [0x900] } };
      Served R.UPD_CMD v ∧ v.ser.errs = [] ∧ v.get F.UPD_SRC_BASE / 16 ∈ v.ser.poison ∧ v.get F.UPD_SRC_BASE < 0x1800000 ∧
        0 < v.get F.UPD_LEN_LEN ∧ v.get F.UPD_STAT_BUSY = 0 ∧ v.get F.UPD_STAT_STATE = 1 ∧
        v.get F.UPD_TAKEN_BYTES + v.get F.UPD_LEN_LEN ≤ numAt v.upd.hdr 16 4 ∧ ∀ n : Fin 12, v.get (F.DRV_n_STAT_BANK n) < 2) ∧
    (let s : List Byte := [227, 176, 196, 66, 152, 252, 28, 20, 154, 251, 244, 200, 153, 111, 185, 36, 39, 174, 65, 228, 100, 155, 147,
        76, 164, 149, 153, 27, 120, 82, 184, 85]
      let u := upd 1 [] [] fun a => { a with mask := 2048, hdr := header 0 s }
      let v := upd 1 [] [] fun a => { a with mask := 2048, hdr := header 0 [] };
      Served R.UPD_CMD u ∧ u.get F.UPD_STAT_BUSY = 0 ∧ u.get F.UPD_STAT_STATE = 1 ∧ u.get F.UPD_TAKEN_BYTES = numAt u.upd.hdr 16 4 ∧
        sha256 u.upd.body = (u.upd.hdr.drop 32).take 32 ∧ sha256 v.upd.body ≠ (v.upd.hdr.drop 32).take 32) ∧
    (∀ mv ∈ [0, 1800], let u := upd 1 [(F.UPD_HOLDUP_MIN_MV, 1800)] [] id;
      Served R.UPD_CTL u ∧ mv ≤ 1800 ∧ updStop { u with regs := (u.put F.UPD_HOLDUP_MV mv).regs } = if mv = 0 then 5 else 0) :=
  ⟨by decide +kernel, by decide +kernel, by decide +kernel, by decide +kernel, by decide +kernel, by decide +kernel⟩

/-! ## Hypotheses that are met: flash, calibration, timers, the clock, events, serial ports -/

/-- The flash with a command `op` in progress and an erase `susp` suspended. -/
def fls (m : Nat) (op : Option FlsOp) (susp : Option (Nat × Nat)) (g : List (Field × Nat)) : State :=
  let u := at_ m g;
  come { u with fls := { u.fls with op := op, susp := susp } }

theorem witness_FlashReadsAndPrograms :
    (let u := fls 7 none none [(F.FLS_ADDR_ADDR, 0x7FFFF0), (F.FLS_LEN_LEN, 16)];
      (Served R.FLS_CMD u ∧ FlashFree u ∧ u.get F.FLS_ADDR_ADDR + u.get F.FLS_LEN_LEN ≤ 0x800000 ∧ u.fls.susp = none) ∧
        ∀ k, Closed k u) ∧
    (let u := fls 7 none none [(F.FLS_ADDR_ADDR, 0x7FFFF0), (F.FLS_LEN_LEN, 16), (F.FLS_OPEN_k_VALID 7, 1), (F.FLS_OPEN_k_SECTOR 7, 2047)];
      FlashFree u ∧ ¬Closed (u.get F.FLS_ADDR_ADDR / 4096) u ∧
        ¬FlashFree (fls 7 (some (.erase 200 0)) none [])) ∧
    (let u := fls 7 (some (.read true 0x7FFFF0 0x20000 16)) none [];
      (u.fls.op = some (.read true 0x7FFFF0 0x20000 16) ∧ (∀ p ∈ u.fls.words, p.2.err = 0) ∧ u.get F.FLS_RES_WEAK = 0) ∧
        Open 0x20000 16 u) ∧
    (let u := fls 7 none none [(F.FLS_ADDR_ADDR, 147 * 4096 + 248), (F.FLS_LEN_LEN, 8)]
      let v := fls 7 none none [(F.FLS_ADDR_ADDR, 146 * 4096), (F.FLS_LEN_LEN, 256)]
      let w := fls 7 none none [(F.FLS_ADDR_ADDR, 511 * 4096), (F.FLS_LEN_LEN, 8), (F.FLS_OPEN_k_VALID 0, 1), (F.FLS_OPEN_k_SECTOR 0, 511)];
      Served R.FLS_CMD u ∧ Storage (u.get F.FLS_SER_BASE) (u.get F.FLS_LEN_LEN) u ∧ FlashFree u ∧
        u.get F.FLS_ADDR_ADDR % 256 + u.get F.FLS_LEN_LEN ≤ 256 ∧ u.fls.susp = none ∧ Loose (u.get F.FLS_ADDR_ADDR / 4096) u ∧
        Closed (u.get F.FLS_ADDR_ADDR / 4096) u ∧ guarded (v.get F.FLS_ADDR_ADDR / 4096) = true ∧
        v.get F.FLS_ADDR_ADDR % 256 + v.get F.FLS_LEN_LEN ≤ 256 ∧ Loose (w.get F.FLS_ADDR_ADDR / 4096) w ∧
        ¬Closed (w.get F.FLS_ADDR_ADDR / 4096) w) ∧
    (let u := fls 7 (some (.program 0x1FFFF8 (List.replicate 8 7))) none [];
      u.fls.op = some (.program 0x1FFFF8 (List.replicate 8 7)) ∧ u.flsBlank 0x1FFFF8 8 = true ∧ u.get F.FLS_STAT_PFAIL = 0 ∧
        u.get F.CAL_STAT_RUNNING = 0 ∧ u.fls.susp = none) ∧
    (let u := fls 7 (some (.erase 2047 3)) none [];
      u.get F.FLS_STAT_PFAIL = 0 ∧ u.get F.CAL_STAT_RUNNING = 0 ∧ u.fls.op = some (.erase 2047 3) ∧ OpenRoom u) ∧
    (let u := fls 7 none none [(F.FLS_STAT_PFAIL, 1)]
      let v := fls 7 (some (.program 0x1FFFF8 [])) none [(F.FLS_STAT_PFAIL, 1)];
      u.get F.FLS_STAT_PFAIL = 1 ∧ u.cal.run = none ∧ u.cal.commit = none ∧ u.fls.closed = false ∧ u.fls.op = none ∧ Journalled u ∧
        v.get F.FLS_STAT_PFAIL = 1 ∧ v.fls.closed = false ∧ v.fls.op = some (.program 0x1FFFF8 []) ∧
        { u.fls with closed := true }.closed = true) := by
  refine ⟨⟨by decide +kernel, fun k i h => .inl ?_⟩, by decide +kernel, ⟨by decide +kernel, open_of (by decide +kernel)⟩,
    by decide +kernel, by decide +kernel, by decide +kernel, by decide +kernel⟩
  have : ∀ i, i < 8 → (fls 7 none none [(F.FLS_ADDR_ADDR, 0x7FFFF0), (F.FLS_LEN_LEN, 16)]).get (F.FLS_OPEN_k_VALID i) = 0 := by
    decide +kernel
  exact this i h

theorem witness_FlashErasesAreJournalled :
    (let u := fls 7 none none [(F.FLS_ADDR_ADDR, 511 * 4096)]
      let v := fls 7 none none [(F.FLS_ADDR_ADDR, 0)];
      Served R.FLS_CMD u ∧ FlashFree u ∧ u.fls.susp = none ∧ Loose (u.get F.FLS_ADDR_ADDR / 4096) u ∧ OpenRoom u ∧ Journalled u ∧
        FlashFree v ∧ guarded (v.get F.FLS_ADDR_ADDR / 4096) = true) ∧
    (∀ p ∈ [0, 12, 31], let u := fls 7 (some (.erase 2047 p)) none [];
      u.fls.op = some (.erase 2047 p) ∧ Journalled u ∧ p < 32 ∧ OpenRoom u ∧ u.fls.susp = none ∧ u.get F.FLS_STAT_PFAIL = 0 ∧
        Served R.FLS_CMD u) ∧
    (let u := fls 7 none (some (2047, 31)) [];
      u.fls.susp = some (2047, 31) ∧ FlashFree u ∧ Served R.FLS_CMD u ∧ u.fls.op = none) ∧
    (∀ m ∈ [Mode.boot, Mode.configure], let u := fls m none none [];
      Served R.FLS_CMD u ∧ Storage (u.get F.FLS_SER_BASE) 3584 u ∧ FlashFree u ∧ u.fls.susp = none ∧
        (u.mode = Mode.boot ∨ u.mode = Mode.configure) ∧ OpenRoom u ∧ Journalled u) ∧
    ((List.replicate 3584 (7 : Byte)).length = 3584 ∧ (3 : Byte) ≠ (List.replicate 512 (0xFF : Byte) ++ List.replicate 3584 7).getD 4095 0) := by
  refine ⟨by decide +kernel, by decide +kernel, by decide +kernel, by decide +kernel, List.length_replicate, by decide +kernel⟩

/-- The calibration unit in CALIBRATE, with a RUN and a COMMIT in progress. -/
def cal (run : Option Nat) (commit : Option (List Byte)) (b : List Byte) : State :=
  let u := (at_ Mode.calibrate [(F.CAL_SER_BASE, 0x20000)]).poke 0x20000 b;
  come { u with cal := { u.cal with run := run, commit := commit } }

set_option maxRecDepth 100000 in
/-- CRC-32 of 7,488 zero bytes, the body of an all-zero set. -/
theorem crc_of_zeros : crc32 (List.replicate 7488 0) = 0xE279049F := by decide +kernel

set_option maxRecDepth 100000 in
theorem witness_CalibrationRunsAndCommits :
    (let u := cal none none [];
      Served R.CAL_CMD u ∧ u.mode = Mode.calibrate ∧ u.get F.CAL_STAT_RUNNING = 0 ∧ u.cal.run = none ∧ (at_ 7 []).mode ≠ Mode.calibrate) ∧
    (let u := cal (some 127) none []
      let v := come (u.put F.SYS_MODE_MODE_CUR 7);
      (v.cal.run = some 127 ∧ v.mode ≠ Mode.calibrate ∧ Served R.CAL_CMD v ∧ v.tandem = false ∧ (cal none none []).cal.run = none ∧
        u.mode = Mode.calibrate ∧ u.tandem = false ∧ Served R.CAL_CMD u ∧ u.cal.run = some 127 ∧ (127 : Nat) < 128 ∧ (127 : Nat).testBit 6 = true) ∧ Open (u.get F.CAL_SER_BASE) 7552 u) ∧
    (let u := cal none (some (List.replicate 7552 0)) [];
      (Journalled u ∧ ∀ i, i < 8 → u.get (F.FLS_OPEN_k_VALID i) = 0) ∧ u.cal.commit = some (List.replicate 7552 0)) :=
  ⟨by decide +kernel, ⟨by decide +kernel, open_unledgered (by decide +kernel) (by decide +kernel)⟩, by decide +kernel, by decide +kernel⟩

set_option maxRecDepth 100000 in
/-- A set that COMMIT takes: a header and 7,488 zero bytes. -/
theorem witness_SoundSet :
    let u := cal none none (leBytes 4 0x4C434E43 ++ [0x55, 1, 0, 0] ++ leBytes 8 0 ++ leBytes 4 7552 ++ leBytes 4 0xE279049F)
    let b := u.bytesAt (u.get F.CAL_SER_BASE) 7552;
    (Served R.CAL_CMD u ∧ Storage (u.get F.CAL_SER_BASE) 7552 u ∧ u.mode = Mode.calibrate ∧ u.get F.CAL_STAT_RUNNING = 0 ∧
      u.get F.FLS_STAT_PFAIL = 0) ∧
    (numAt b 0 4 = 0x4C434E43 ∧ numAt b 5 1 = 1 ∧ numAt b 0x10 4 = 7552 ∧ numAt b 8 8 = u.fuses.serial) ∧
      numAt b 0x14 4 = crc32 (b.drop 0x40) := by
  refine ⟨by decide +kernel, by decide +kernel, ?_⟩
  rw [show (State.bytesAt _ _ _).drop 0x40 = List.replicate 7488 (0 : Byte) from by decide +kernel, crc_of_zeros]
  decide +kernel

theorem witness_TimersCountAndCompare :
    (let u := at_ 7 [(F.TMR_n_PERIOD_VALUE 15, 10), (F.TMR_n_PHASE_VALUE 15, 13), (F.TMR_n_CMP_VALUE 15, 3)];
      (65535 : Nat) < 65536 ∧ Served R.TMR_START u ∧ NoChannels u ∧ u.get (F.TMR_n_CMP_VALUE 15) = tmrFrom 15 u ∧ u.tickRuns = true ∧
        Served R.TMR_STOP u ∧ (at_ 1 []).tickRuns = false ∧ Served R.TMR_START (at_ 1 [])) ∧
    (let u := at_ 7 [(F.TMR_n_STAT_CAPF 14, 1), (F.TMR_n_STAT_RUN 14, 1), (F.TMR_n_COUNT_VALUE 14, 5)];
      Served (R.TMR_n_CMD 14) u ∧ u.get (F.TMR_n_CFG_PAIR 14) = 0 ∧ u.get (F.TMR_n_STAT_CAPF 14) = 1 ∧ Served (R.TMR_n_CMP 14) u ∧
        u.get (F.TMR_n_STAT_RUN 14) = 1 ∧ (5 : Word).toNat ≤ u.get (F.TMR_n_COUNT_VALUE 14) ∧ (5 : Word).toNat < tmrLen 14 u ∧
        Served (R.TMR_n_PERIOD 14) u ∧ u.get (F.TMR_n_CFG_SRC (14 + 1)) ≠ 3) ∧
    (let u := at_ 7 [(F.TMR_n_STAT_RUN 15, 1), (F.TMR_n_COUNT_VALUE 15, 9), (F.TMR_n_PERIOD_VALUE 15, 10), (F.TMR_n_CMP_VALUE 15, 0)]
      let v := at_ 7 [(F.TMR_n_STAT_RUN 15, 1), (F.TMR_n_COUNT_VALUE 15, 2 ^ 32 - 2), (F.TMR_n_CMP_VALUE 15, 2 ^ 32 - 1)];
      (NoChannels u ∧ u.get (F.TMR_n_STAT_RUN 15) = 1 ∧ u.get (F.TMR_n_CFG_SRC 15) ≤ 1 ∧
        u.get (F.TMR_n_COUNT_VALUE 15) + 1 = tmrLen 15 u ∧ u.get (F.TMR_n_CMP_VALUE 15) = 0) ∧
      (NoChannels v ∧ v.get (F.TMR_n_COUNT_VALUE 15) + 1 = v.get (F.TMR_n_CMP_VALUE 15) ∧
        v.get (F.TMR_n_CMP_VALUE 15) < tmrLen 15 v ∧ v.get (F.TMR_n_STAT_RUN 15) = 1 ∧ v.get (F.TMR_n_CFG_SRC 15) ≤ 1)) := by
  decide +kernel

/-- The clock shows `c`, staged as the commit in progress too. -/
def rtc (c : Cal) (g : List (Field × Nat)) : State :=
  let u := at_ 7 g;
  come { u with rtc := { u.rtc with now := c, watermark := c, commit := some c } }

theorem witness_TheClockKeepsTheCalendar :
    (∀ c ∈ [(⟨0, 2, 29, 23, 59, 59⟩ : Cal), ⟨100, 2, 28, 23, 59, 59⟩, ⟨398, 12, 31, 23, 59, 59⟩, ⟨1, 4, 30, 22, 59, 59⟩,
        ⟨1, 4, 29, 23, 58, 59⟩, ⟨399, 12, 31, 23, 59, 58⟩, ⟨399, 12, 31, 23, 59, 59⟩, ⟨4, 2, 28, 23, 59, 59⟩],
      OnCalendar (rtc c []).rtc.now ∧ (rtc c []).get F.RTC_ALARM_CTL_EN = 0 ∧ (rtc c []).rtc.commit = some c ∧
        (rtc c []).get F.RTC_STAT_CAPBUSY = 0) ∧
    (let c : Cal := ⟨398, 12, 31, 23, 59, 59⟩
      let u := rtc c [(F.RTC_ALARM_CTL_EN, 1), (F.RTC_ALARM_CTL_MASK, 62)];
      OnCalendar u.rtc.now ∧ u.rtc.now.year < 399 ∧ u.rtc.watermark = u.rtc.now ∧ NoChannels u ∧ u.get F.RTC_ALARM_CTL_EN = 1 ∧
        u.get F.RTC_ALARM_CTL_MASK = 62 ∧ u.get F.RTC_ALARM_TIME_SEC = bcdOf 0 ∧
        (u.put F.RTC_ALARM_TIME_SEC 0x59).get F.RTC_ALARM_TIME_SEC < 0x60) ∧
    (let c : Cal := ⟨399, 12, 31, 23, 59, 58⟩
      let u := rtc c [(F.RTC_STG_HM_MIN, 0x59), (F.RTC_STG_HM_HOUR, 0x23), (F.RTC_STG_DATE_DAY, 0x31), (F.RTC_STG_DATE_MONTH, 0x12),
        (F.RTC_STG_DATE_YEAR, 0x2399), (F.RTC_STAT_CAPBUSY, 1)];
      OnCalendar c ∧ Served R.RTC_STG_SEC u ∧ Staged2 c u ∧ Served R.RTC_CAPTURE u ∧ u.get F.RTC_STAT_CAPBUSY = 1 ∧
        u.get F.RTC_STAT_SETBUSY = 0 ∧ 0x59 < (0x5A : Word).toNat % 128) ∧
    (let u := at_ 7 [(F.RTC_WAKE_PERIOD, 1)];
      NoChannels u ∧ u.get F.RTC_WAKE_PERIOD ≠ 0 ∧ Served R.RTC_ALARM_TIME u ∧ Served R.RTC_WAKE u ∧ (at_ 7 []).get F.RTC_WAKE_PERIOD = 0 ∧
        (22118400 : Word).toNat % 2 ^ 25 ≤ 22118400 ∧ ¬(22118401 : Word).toNat % 2 ^ 25 ≤ 22118400) :=
  ⟨by decide +kernel, by decide +kernel, by decide +kernel, by decide +kernel⟩

/-- Channel 63 is enabled, may be fired, and names consumer `cons`. -/
def evt (cons : Nat) (g : List (Field × Nat)) : State :=
  at_ 7 ([(F.EVT_CH_c_EN 63, 1), (F.EVT_CH_c_SWEN 63, 1), (F.EVT_CH_c_CONS 63, cons), (F.EVT_CTL_CN404, 0)] ++ g)

theorem witness_EventsReachTheirConsumers :
    (∀ p ∈ [0, 2 ^ 31], let u := evt (0x1000 + 16 * 11 + 15) [(F.DRV_n_EVPEND_PEND 11, p)]
      let v := come { u with evPend := [⟨63, 63, 0⟩] };
      Served R.EVT_FIRE u ∧ AtDrover 63 11 15 u ∧ MayFire .host 63 u ∧ (u.get (F.DRV_n_EVPEND_PEND 11)).testBit (16 + 15) = decide (p ≠ 0) ∧
        (∀ e ∈ u.evPend, e.chan ≠ 63) ∧ AtDrover 63 11 15 v ∧ v.evPend = [⟨63, 63, 0⟩] ∧ (∃ e ∈ v.evPend, e.chan = 63)) ∧
    (let u := at_ 7 [(F.EVT_CH_c_EN 63, 1), (F.EVT_CH_c_SWEN 63, 1), (F.EVT_CTL_CN404, 1), (F.EVT_CH_c_OWNER 63, 11)];
      Served R.EVT_FIRE u ∧ u.get F.EVT_CTL_CN404 = 1 ∧ u.get (F.EVT_CH_c_OWNER 63) ≠ 15 ∧ u.get (F.EVT_CH_c_OWNER 63) ≠ (10 : Fin 12) ∧
        (at_ 7 []).get (F.EVT_CH_c_EN 63) = 0 ∧ u.get (F.EVT_CH_c_OWNER 63) = (11 : Fin 12)) ∧
    (let u := evt (0x1400 + 63) [];
      Served R.EVT_FIRE u ∧ u.get (F.EVT_CH_c_EN 63) = 1 ∧ u.get (F.EVT_CH_c_CONS 63) = 0x1400 + 63 ∧ MayFire .host 63 u) ∧
    (∀ k ∈ [0, 1], let u := evt 0 [(F.EVT_CH_c_OWNER 63, 11), (F.EVT_CH_c_LOCKED 63, k)];
      Served (R.EVT_CH_c_1 63) u ∧ u.get F.EVT_CTL_CN404 = 0 ∧ u.get (F.EVT_CH_c_OWNER 63) < 12 ∧ u.get (F.EVT_CH_c_LOCKED 63) = k) := by
  refine ⟨?_, by decide +kernel, ?_, by decide +kernel⟩
  · intro p h
    obtain rfl | rfl : p = 0 ∨ p = 2 ^ 31 := by simpa using h
    all_goals exact ⟨by decide +kernel, by decide +kernel, ⟨by decide +kernel, .inl (by decide +kernel)⟩, by decide +kernel,
      by decide +kernel, by decide +kernel, by decide +kernel, by decide +kernel⟩
  · exact ⟨by decide +kernel, by decide +kernel, by decide +kernel, by decide +kernel, .inl (by decide +kernel)⟩

/-- Port 1 in use as master or slave, with its hidden part as given. -/
def port (master : Nat) (g : List (Field × Nat)) (f : SpiPort → SpiPort) : State :=
  let u := at_ 7 ([(F.SPI_i_CFG_EN 1, 1), (F.SPI_i_CFG_MASTER 1, master), (F.SPI_i_CFG_WLEN 1, 7)] ++ g);
  come (withPort 1 (f u.spi.ports[1]) u)

theorem witness_SerialPortsMoveWords :
    (∀ n ∈ [1, 8], let u := port 1 [(F.SPI_i_FRAME_FLEN 1, n)] fun p => { p with tx := [0xA5] }
      let p := u.spi.ports[(1 : Fin 2)];
      u.writable (R.SPI_i_CMD 1) = true ∧ OwnPort 1 u ∧ u.get (F.SPI_i_CFG_EN 1) = 1 ∧ u.get (F.SPI_i_CFG_MASTER 1) = 1 ∧
        p.frame = false ∧ p.tx = [0xA5] ∧ p.rx = [] ∧ u.spi.fetch = [] ∧ u.spi.goWaits = none ∧ 1 ≤ u.get (F.SPI_i_FRAME_FLEN 1) ∧
        u.get (F.SPI_i_FRAME_FLEN 1) ≤ wordBits 1 u ∧ Served (R.SPI_i_CMD 1) u ∧ Served (R.SPI_i_TXD 1) u ∧ p.tx.length < 32 ∧
        (port 0 [] id).get (F.SPI_i_CFG_MASTER 1) = 0) ∧
    (let u := port 1 [(F.SPI_i_FRAME_FLEN 1, 9)] fun p => { p with frame := true, words := 2 };
      u.get (F.SPI_i_CFG_MASTER 1) = 1 ∧ u.spi.ports[(1 : Fin 2)].frame = true ∧ frameWords2 1 u ≤ u.spi.ports[(1 : Fin 2)].words ∧
        u.spi.ports[(1 : Fin 2)].overran = false ∧ u.spi.ports[(1 : Fin 2)].under = false) ∧
    (let u := port 0 [] fun p => { p with tx := List.replicate 32 5, rx := [7] }
      let v := port 0 [] id;
      32 ≤ u.spi.ports[(1 : Fin 2)].tx.length ∧ u.spi.ports[(1 : Fin 2)].rx = [7] ∧ u.mode ≠ Mode.reset ∧ OwnPort 1 u ∧
        u.get (F.SPI_i_CFG_MASTER 1) = 0 ∧ Slave 1 u ∧ u.spi.ports[(1 : Fin 2)].frame = false ∧ v.spi.ports[(1 : Fin 2)].rx = [] ∧
        v.spi.ports[(1 : Fin 2)].tx = [] ∧ Slave 1 v) ∧
    (let u := port 0 [(F.SPI_i_FRAME_FLEN 1, 9)] fun p => { p with frame := true, words := 1, cur := some 5 };
      Slave 1 u ∧ u.spi.ports[(1 : Fin 2)].frame = true ∧ u.spi.ports[(1 : Fin 2)].words + 1 = frameWords2 1 u ∧
        u.spi.ports[(1 : Fin 2)].rx.length < 32 ∧ ¬frameWords2 1 u ≤ u.spi.ports[(1 : Fin 2)].words ∧
        frameWords2 1 u ≤ (port 0 [(F.SPI_i_FRAME_FLEN 1, 9)] fun p => { p with words := 2 }).spi.ports[(1 : Fin 2)].words) ∧
    (let u := at_ 7 [(F.SPI_MW_CFG_EN, 1), (F.SPI_i_CFG_EN 0, 1), (F.SPI_i_CFG_MASTER 0, 1), (F.SPI_MW_ADDR_ADDR, 0xFFFFFC)]
      let l : MwLine := ⟨0xFFFF00, List.replicate 256 7⟩
      let v := come { u with spi := { u.spi with lines := [l] } };
      u.mode ≠ Mode.reset ∧ u.get F.SPI_MW_CFG_EN = 1 ∧ u.get (F.SPI_i_CFG_EN 0) = 1 ∧ u.get (F.SPI_i_CFG_MASTER 0) = 1 ∧
        (∀ l ∈ u.spi.lines, l.addr ≠ u.get F.SPI_MW_ADDR_ADDR / 256 * 256) ∧ v.spi.lines = [l] ∧
        l.addr = v.get F.SPI_MW_ADDR_ADDR / 256 * 256 ∧ Served R.SPI_MW_CFG u) ∧
    (let u := at_ 7 []
      let v := come { u with spi := { u.spi with fetch := [(0xFFFFFC, none)] } };
      v.spi.fetch = [(0xFFFFFC, none)] ∧ v.spi.ports[(0 : Fin 2)].frame = false ∧ v.spi.discard = false ∧ v.spi.goWaits = none ∧
        v.spi.lines.length < 16) :=
  ⟨by decide +kernel, by decide +kernel, by decide +kernel, by decide +kernel, by decide +kernel, by decide +kernel⟩

/-! ## Ill-formed commands that WellFormed refuses -/

theorem test_refused_operands :
    Instr.wf (.registerWrite 0 .host .bar0 (2 ^ 30) 0) = false ∧ Instr.wf (.ringIndexWrite 0 .host 2 0) = false ∧
      Instr.wf (.ringIndexWrite 0 .host (2 ^ 23) 0) = false ∧ Instr.wf (.unsupportedRequest 0 0 0) = false ∧
      Instr.wf (.unsupportedRequest 0 4 4) = false ∧ Instr.wf (.spiGo 0 0 [2 ^ 32]) = false ∧
      Instr.wf (.rtcAlarmWrite 0 .host 0x16002C 0) = false ∧ Instr.wf (.tmrStart 0 .host (2 ^ 16) false) = false ∧
      Instr.wf (.tmrStop 0 .host (2 ^ 16)) = false ∧ Instr.wf (.fetchRequest 0 (2 ^ 21)) = false ∧
      Instr.wf (.rwr ⟨0, head 0 0⟩ (2 ^ 24) 0) = false ∧ Instr.wf (.rrd 0 (head 0 0) (2 ^ 24)) = false := by decide +kernel

theorem test_refused_packets :
    Instr.wf (.hostApertureAccess 0 .bar0 0x800000 0 none) = false ∧
      Instr.wf (.hostApertureAccess 0 .bar0 0x800000 2 (some [1])) = false ∧ Instr.wf (.sdata 0 (head 0 0) 0x800000 257 none) = false ∧
      Instr.wf (.sdata 0 (head 0 0) 0x800000 0 none) = false ∧ Instr.wf (.sdata 0 (head 0 0) 0x800000 2 (some [1])) = false ∧
      Instr.wf (.tickPacket 0 0 (head 0 0) 0 (2 ^ 40) 0 0 0 0 0) = false ∧
      Instr.wf (.tickPacket 0 0 (head 0 0) 0 0 0 0 (2 ^ 18) 0 0) = false ∧
      Instr.wf (.heartbeatReceive 0 none (2 ^ 40) 0 false false false) = false ∧
      Instr.wf (.heartbeatReceive 0 (some (head 1 0)) 0 12 false false false) = false ∧ Instr.wf (.journalRecord 0 (List.replicate 11 0) false) = false ∧
      Instr.wf (.journalConfirmation 0 (2 ^ 32) false) = false ∧ Instr.wf (.fetchAnswer 0 0 [] false) = false ∧
      Instr.wf (.spiRead 0 [1]) = false ∧ Instr.wf (.spiWrite 0 []) = false ∧ Instr.wf (.spiStatus 0 []) = false ∧
      Instr.wf (.mwFetchDone 0 []) = false ∧ Instr.wf (.image ⟨0, head 0 0⟩ 0 (List.replicate 257 0) false []) = false := by decide +kernel

theorem test_refused_frames :
    Instr.wf (.shrDetect 0 0 0 0 (List.replicate 257 0)) = false ∧ Instr.wf (.frameEnd 0 0 0 0 0 (List.replicate 2048 0) 0) = false ∧
      Instr.wf (.earlyDescriptor 0 0 0 0 (List.replicate 2048 0)) = false ∧
      Instr.wf (.laneFrameReceived 0 0 0 0 0 (List.replicate 2048 0) 0 0 0) = false ∧
      Instr.wf (.laneFrameReceived 0 0 0 0 (2 ^ 16) [] 0 0 0) = false ∧ Instr.wf (.scrubRead 0 (some (1572864, 1))) = false ∧
      Instr.wf (.scrubRead 0 (some (0, 0))) = false ∧ Instr.wf (.scrubRead 0 (some (0, 5))) = false := by decide +kernel

theorem test_refused_bundle : Instr.wf (.halt 0 hash0 hash0 hash0 (List.replicate 5 0)) = false := by decide

/-! ## Published check values of the algorithms that the spec names -/

/-- The check values of CRC-32 and of the CRC-16 of IEEE 802.15.4 for the digits 1 to 9. -/
theorem test_crc_check_values :
    crc32 [0x31, 0x32, 0x33, 0x34, 0x35, 0x36, 0x37, 0x38, 0x39] = 0xCBF43926 ∧
      crc16 0 [0x31, 0x32, 0x33, 0x34, 0x35, 0x36, 0x37, 0x38, 0x39] = 0x2189 := by decide +kernel

/-- SHA-256 of the three letters abc (FIPS 180-4). -/
theorem test_sha256_abc :
    sha256 [0x61, 0x62, 0x63] = [0xba, 0x78, 0x16, 0xbf, 0x8f, 0x01, 0xcf, 0xea, 0x41, 0x41, 0x40, 0xde, 0x5d, 0xae, 0x22, 0x23,
      0xb0, 0x03, 0x61, 0xa3, 0x96, 0x17, 0x7a, 0x9c, 0xb4, 0x10, 0xff, 0x61, 0xf2, 0x00, 0x15, 0xad] := by decide +kernel

/-- The S-box of AES at 0x00, 0x53 and 0xFF (FIPS 197), and its inverse. -/
theorem test_sbox : sbox 0x00 = 0x63 ∧ sbox 0x53 = 0xED ∧ sbox 0xFF = 0x16 ∧ invSbox 0xED = 0x53 := by decide +kernel

/-! ## Single commands -/

/-- R29: the bits of a read-only register stay. -/
theorem test_read_only_register :
    (after (exec (.registerWrite 0 .host .bar0 R.SYS_ID 0xFFFFFFFF) (inMode 7 []))).reg R.SYS_ID = State.reset.reg R.SYS_ID := by
  decide +kernel

/-- R29: ones written to a write-one-to-clear register clear it. -/
theorem test_write_one_to_clear :
    (after (exec (.registerWrite 0 .host .bar0 R.SYS_ERR 0xFFFFFFFF) (inMode 7 [(F.SYS_ERR_BUSY, 1)]))).get F.SYS_ERR_BUSY = 0 := by
  decide +kernel

/-- R32: from STANDBY to SERVE is a transition of the table; from STANDBY to DRAIN is none. -/
theorem test_mode_request :
    (after (exec (.modeRequest 0 .host 0x27) (inMode Mode.standby []))).get F.SYS_MODE_TRANS = 1 ∧
      (after (exec (.modeRequest 0 .host 0x28) (inMode Mode.standby []))).get F.SYS_ERR_BADMODE = 1 := by decide +kernel

/-- R24: the last slot of a superframe is followed by slot 0 of the next. -/
theorem test_tally_wraps :
    let u := inMode 7 []
    let v := { u with tally := { u.tally with slot := u.sfLen - 1, sfn := 2 ^ 32 - 1, asn := 2 ^ 40 - 1, pos := 4 * u.slotLen - 1 } }
    let t := after (exec (.slotTick ⟨List.replicate 16 ⟨0, 0, 0, 0, 0⟩, List.replicate 80 (0, 0), false⟩) v);
    t.tally.slot = 0 ∧ t.tally.sfn = 0 ∧ t.tally.asn = 0 := by decide +kernel

/-- R230: ADD wraps outside a repeat; inside one it leaves its carry in CY. -/
theorem test_add_wraps :
    localByte 11 0x100 (after (exec (.add 11 0x100FF 0x10002 0x00100 []) (run 0 []))) = 1 ∧
      (after (exec (.add 11 0x100FF 0x10002 0x00100 []) (runAct 0))).drovers[(11 : Fin 12)].byte 0x1E % 2 = 1 ∧
      localByte 11 0x100 (after (exec (.add 11 0x100FF 0x10002 0x00100 []) (runAct 0))) = 2 := by decide +kernel

/-- R230: ADDSS saturates at 127, SUB wraps below 0. -/
theorem test_saturates :
    localByte 11 0x100 (after (exec (.addss 11 0x1007F 0x10001 0x00100 []) (run 0 []))) = 0x7F ∧
      localByte 11 0x100 (after (exec (.sub 11 0x10000 0x10001 0x00100 []) (run 0 []))) = 0xFF := by decide +kernel

/-- R231: CLZ of 0 is 8. -/
theorem test_clz_of_zero : localByte 11 0x100 (after (exec (.clz 11 0x10000 hash0 0x00100 []) (run 0 []))) = 8 := by decide +kernel

/-- R213: an event at a mask's input ends the wait; without one the Drover waits. -/
theorem test_wait :
    (after (exec (.wait 11 0x10001 hash0 hash0 []) (run 0 []))).get (F.DRV_n_STAT_STATE 11) = 2 ∧
      (after (exec (.wait 11 0x10001 hash0 hash0 []) (run 0 [(F.DRV_n_EVPEND_PEND 11, 1)]))).get (F.DRV_n_PC_PC 11) = 1 := by
  decide +kernel

/-- R410: 2100 is no leap year, 2000 is. -/
theorem test_leap_years :
    (after (exec (.rtcSecond 0) (rtc ⟨100, 2, 28, 23, 59, 59⟩ []))).rtc.now = ⟨100, 3, 1, 0, 0, 0⟩ ∧
      (after (exec (.rtcSecond 0) (rtc ⟨0, 2, 28, 23, 59, 59⟩ []))).rtc.now = ⟨0, 2, 29, 0, 0, 0⟩ := by decide +kernel

/-- R240: a unit that another Drover holds stays with him. -/
theorem test_claim_of_a_held_unit :
    (after (exec (.ciphClaim 0 5 3) (ciph [] 0 id []))).get (F.CIPH_u_CLAIM_OWNER 3) = 11 := by decide +kernel

/-- R271: FILL repeats its four bytes. -/
theorem test_fill :
    (after (exec (.fill 0 15) (dma (waybill 2 0 0 32 0x04030201 0x2000 0) 12))).bytesAt 0x201C 5 = [1, 2, 3, 4, 0] := by decide +kernel

/-- R200: the host reads ones from a poisoned granule. -/
theorem test_poison_at_the_aperture :
    let u := at_ 7 [];
    (after (exec (.hostApertureAccess 0 .bar0 0x800010 4 none) { u with ser := { u.ser with poison := [1] } })).out =
      [.hostPoison (List.replicate 4 0xFF)] := by decide +kernel

/-- R38: a SAFE fault is not acknowledged. -/
theorem test_safe_fault_stays :
    (after (exec (.faultAck 0) (after (exec (.referenceLoss 0) (inMode 7 []))))).get F.SYS_FAULT_CUR_CODE = 1 := by decide +kernel

end Sys2Proof.Tests
end

namespace Sys2Proof.Proofs

open Sys2Proof.Machine Sys2Proof.Claims

/-! ## Ring indices (R454) -/

theorem bits_low (n w : Nat) : bits n 0 w = n % 2 ^ w := by simp [bits]

/-- `i` is the index word of a ring whose length is `len`: the low half of a register in a block other than SYS, TAN and SPI,
whose writes have rules of their own, and none of its block's range rules (R12) speaks of it. -/
structure IsRingIndex (i len : Field) : Prop where
  lowHalf : i = ⟨i.off, 0, 16⟩
  lenAt : ringLen i.off = some len
  known : (fieldsAt i.off).isSome = true
  block : 4 ≤ i.off / 0x10000 ∧ i.off / 0x10000 ≠ 0xF ∧ i.off / 0x10000 ≠ 0x18
  inRange : ∀ v s, rangeFlag i.off v s = none

/-- Read off the register map, ring by ring. -/
theorem isRingIndex_of_plainIndex {i len : Field} (h : PlainIndex i len) : IsRingIndex i len := by
  obtain ⟨n, hn, rfl, rfl⟩ | ⟨n, hn, rfl, rfl⟩ | ⟨n, hn, rfl, rfl⟩ | ⟨n, hn, rfl, rfl⟩ | ⟨n, hn, rfl, rfl⟩ |
    ⟨n, hn, rfl, rfl⟩ := h
  all_goals interval_cases n <;> exact ⟨rfl, rfl, by decide +kernel, by decide, fun _ _ => rfl⟩

theorem isRingIndex_of_workIndex {i len : Field} (h : WorkIndex i len) : IsRingIndex i len := by
  obtain ⟨n, hn, rfl, rfl⟩ | ⟨n, hn, rfl, rfl⟩ := h
  all_goals interval_cases n <;> exact ⟨rfl, rfl, by decide +kernel, by decide, fun _ _ => rfl⟩

theorem isRingIndex_dev (r : Fin 16) : IsRingIndex (F.HST_RING_r_DEV r) (F.HST_RING_r_LEN r) := by
  fin_cases r <;> exact ⟨rfl, rfl, by decide +kernel, by decide, fun _ _ => rfl⟩

/-- Past the SYS block a write that the mode lets through meets a mode other than SAFE, which bars nobody. -/
theorem not_barred_of_writable {off : Nat} {u : State} (who : Writer) (hoff : 0x10000 ≤ off)
    (hw : u.writable off = true) : u.barred who = false := by
  have hsys : off ≠ R.SYS_RESET ∧ off ≠ R.SYS_FAULT_ACK ∧ off ≠ R.SYS_ERR ∧ off ≠ R.SYS_RSTCAUSE := by
    simp only [R.SYS_RESET, R.SYS_FAULT_ACK, R.SYS_ERR, R.SYS_RSTCAUSE]
    omega
  obtain ⟨h1, h2, h3, h4⟩ := hsys
  have hmode : u.mode ≠ Mode.safe := by
    simp only [State.writable, Bool.and_eq_true, Bool.or_eq_true, bne_iff_ne, beq_iff_eq, h1, h2, h3, h4, or_false] at hw
    exact hw.2
  simp [State.barred, hmode]

/-- A served write of a ring index comes to `indexWrite`. -/
theorem writeReg_ringIndex {i len : Field} {u : State} (who : Writer) (v : Nat) (h : IsRingIndex i len)
    (hu : Served i.off u) : writeReg who i.off v u = indexWrite who i.off v u := by
  obtain ⟨hw, hm, -⟩ := hu
  obtain ⟨hb4, hbF, hb18⟩ := h.block
  obtain ⟨fs, hfs⟩ := Option.isSome_iff_exists.mp h.known
  exact writeReg_index hw (not_barred_of_writable who (by omega) hw) hfs hbF (by omega) hm (by simp [h.inRange])
    (by simp [h.lenAt])

/-- RING_INDEX_WRITE of a ring's index is `indexWrite`. -/
theorem runs_ringIndexWrite {i len : Field} {who : Writer} {v : Word} {pre : State → Prop} {post : State → State → Prop}
    (h : IsRingIndex i len) (hs : ∀ u, pre u → Served i.off u) (hp : ∀ u, pre u → post u (indexWrite who i.off v.toNat u)) :
    Runs (.ringIndexWrite · who i.off v) pre post := by
  refine runs_cmd (execRingIndexWrite · who i.off v) (fun _ _ => rfl) (fun _ _ => rfl) fun u hu => ?_
  simp only [h.lenAt, Option.isSome_some, if_true, writeReg_ringIndex who v.toNat h (hs u hu)]
  exact hp u hu

/-! ### The rule -/

/-- R454 for an index whose write starts no work. -/
def moveIndex (i len : Field) (x : Nat) (s : State) : State :=
  if s.get len ≤ x then s.flag F.SYS_ERR_RINGIDX else s.put i x

theorem flag_ringIdx_spec (u : State) : (u.flag F.SYS_ERR_RINGIDX).get F.SYS_ERR_RINGIDX = 1 ∧
    OnlyRegs [R.SYS_ERR] u (u.flag F.SYS_ERR_RINGIDX) :=
  ⟨get_flag_same rfl (by decide), onlyRegs_put (onlyRegs_refl _ u) _ _ (by decide)⟩

theorem moveIndex_spec {i len : Field} (h : IsRingIndex i len) (x : Nat) (hx : x < 2 ^ 16) (u : State) :
    if x < u.get len then (moveIndex i len x u).get i = x ∧ OnlyRegs [i.off] u (moveIndex i len x u)
    else (moveIndex i len x u).get F.SYS_ERR_RINGIDX = 1 ∧ OnlyRegs [R.SYS_ERR] u (moveIndex i len x u) := by
  unfold moveIndex
  split
  case isTrue hlt =>
    rw [if_neg (by omega)]
    refine ⟨?_, onlyRegs_put (onlyRegs_refl _ u) _ _ (by simp)⟩
    rw [h.lowHalf, get_put_same x rfl, Nat.mod_eq_of_lt hx]
  case isFalse hge =>
    rw [if_pos (by omega)]
    exact flag_ringIdx_spec u

/-! ### What `indexWrite` does, ring by ring -/

/-- The index of one of the chip's own rings whose write starts no work is moved; R240: a cipher unit's is moved by a Drover
while the unit is free or his. -/
theorem indexWrite_eq_moveIndex {i len : Field} {who : Writer} {s : State} (v : Nat) (h : IsRingIndex i len)
    (hb : i.off / 0x10000 ≠ 0x10)
    (hw : i.off ∉ [R.FTX_ACKRING_j_2 0, R.FTX_ACKRING_j_2 1, R.BBL_l_SEND_2 0, R.BBL_l_SEND_2 1])
    (ho : i.off / 0x10000 = 0xB → ∃ d : Fin 12, who = .drover d ∧
      (s.get (F.CIPH_u_CLAIM_OWNER ((i.off - 0xB0040) / 16 % 4)) = 0xF ∨
        s.get (F.CIPH_u_CLAIM_OWNER ((i.off - 0xB0040) / 16 % 4)) = d)) :
    indexWrite who i.off v s = moveIndex i len (bits v 0 16) s := by
  simp only [List.mem_cons, List.not_mem_nil, or_false, not_or] at hw
  obtain ⟨hj0, hj1, hl0, hl1⟩ := hw
  have hlow : s.put ⟨i.off, 0, 16⟩ (bits v 0 16) = s.put i (bits v 0 16) := by rw [← h.lowHalf]
  unfold indexWrite moveIndex
  rw [if_neg hb, if_neg hj0, if_neg hj1, if_neg hl0, if_neg hl1]
  by_cases hB : i.off / 0x10000 = 0xB
  · obtain ⟨d, rfl, ho | ho⟩ := ho hB <;> simp [h.lenAt, hlow, ho, ownerOf]
  · simp [h.lenAt, hlow, hB]

theorem indexWrite_plainIndex {i len : Field} (h : PlainIndex i len) {who : Writer} (v : Nat) {s : State}
    (ho : ∀ c < 4, i = F.CIPH_RING_u_WR c →
      ∃ d : Fin 12, who = .drover d ∧ (s.get (F.CIPH_u_CLAIM_OWNER c) = 0xF ∨ s.get (F.CIPH_u_CLAIM_OWNER c) = d)) :
    indexWrite who i.off v s = moveIndex i len (bits v 0 16) s := by
  have hr := isRingIndex_of_plainIndex h
  obtain ⟨n, hn, rfl, rfl⟩ | ⟨n, hn, rfl, rfl⟩ | ⟨n, hn, rfl, rfl⟩ | ⟨n, hn, rfl, rfl⟩ | ⟨n, hn, rfl, rfl⟩ |
    ⟨c, hc, rfl, rfl⟩ := h
  case inr.inr.inr.inr.inr =>
    have hunit : (0xB0048 + 16 * c - 0xB0040) / 16 % 4 = c := by omega
    refine indexWrite_eq_moveIndex v hr ?_ ?_ fun _ => by simpa only [F.CIPH_RING_u_WR, hunit] using ho c hc rfl
    all_goals interval_cases c <;> decide
  all_goals refine indexWrite_eq_moveIndex v hr ?_ ?_ fun hB => absurd hB ?_
  all_goals interval_cases n <;> decide

theorem indexWrite_dev (d : Fin 12) (r : Fin 16) (v : Nat) (s : State) :
    indexWrite (.drover d) (R.HST_RING_r_2 r) v s = devWrite d r (bits v 0 16) s := by
  have hblock : (0x100108 + 16 * r.val) / 0x10000 = 0x10 := by omega
  have hring : (0x100108 + 16 * r.val - 0x100100) / 16 % 16 = r := by omega
  simp only [indexWrite, R.HST_RING_r_2, hblock, hring, if_true, Fin.eta]

/-- R454: the index of a ring whose write starts work is judged first. -/
theorem indexWrite_workIndex_of_ge {i len : Field} (h : WorkIndex i len) (who : Writer) {v : Nat} {s : State}
    (hv : s.get len ≤ bits v 0 16) : indexWrite who i.off v s = s.flag F.SYS_ERR_RINGIDX := by
  obtain ⟨n, hn, rfl, rfl⟩ | ⟨n, hn, rfl, rfl⟩ := h
  all_goals interval_cases n <;> exact if_pos hv

theorem devWrite_of_ge {d : Fin 12} {r : Fin 16} {v : Nat} {s : State} (hv : s.get (F.HST_RING_r_LEN r) ≤ v) :
    devWrite d r v s = s.flag F.SYS_ERR_RINGIDX := if_pos hv

/-- Settles O6: a served write comes to `indexWrite`, which judges the index against LEN before it moves anything. -/
theorem ringIndexBelowLen : Obligations.RingIndexBelowLen := by
  refine ⟨fun i len who v hi _ => ?_, fun i len who v hi _ => ?_, fun d r v => ?_⟩
  · have h := isRingIndex_of_plainIndex hi
    refine runs_ringIndexWrite h (fun u hu => hu.1) fun u ⟨_, ho⟩ => ?_
    rw [indexWrite_plainIndex hi _ ho, bits_low]
    exact moveIndex_spec h _ (Nat.mod_lt _ (by decide)) u
  · refine runs_ringIndexWrite (isRingIndex_of_workIndex hi) (fun u hu => hu.1) fun u ⟨_, hge⟩ => ?_
    rw [indexWrite_workIndex_of_ge hi who ((bits_low v.toNat 16).symm ▸ hge)]
    exact flag_ringIdx_spec u
  · refine runs_write (execDevWrite · d r v) (fun _ _ => rfl) (fun _ _ => rfl)
      (by simp only [R.HST_RING_r_2]; omega) fun u ⟨hs, _, hge⟩ => ?_
    have hwrite :=
      calc writeReg (.drover d) (R.HST_RING_r_2 r) v.toNat u
        _ = indexWrite (.drover d) (R.HST_RING_r_2 r) v.toNat u := writeReg_ringIndex _ _ (isRingIndex_dev r) hs
        _ = devWrite d r (bits v.toNat 0 16) u := indexWrite_dev d r _ u
        _ = u.flag F.SYS_ERR_RINGIDX := devWrite_of_ge ((bits_low v.toNat 16).symm ▸ hge)
    rw [hwrite]
    exact flag_ringIdx_spec u

end Sys2Proof.Proofs

namespace Sys2Proof.Proofs

open Sys2Proof.Machine Sys2Proof.Claims

/-! ## Captures of the Tally (R26) -/

/-! ### Several fields stored at once -/

/-- What `puts` stores leaves alone every field that lies apart from all it stores. -/
theorem get_puts_apart {l : List (Field × Nat)} {g : Field} (hok : ∀ p ∈ l, p.1.ok = true)
    (hap : ∀ p ∈ l, p.1.apart g = true) (s : State) : (s.puts l).get g = s.get g := by
  induction l generalizing s with
  | nil => rfl
  | cons p l ih =>
    obtain ⟨hpok, hlok⟩ := List.forall_mem_cons.mp hok
    obtain ⟨hpap, hlap⟩ := List.forall_mem_cons.mp hap
    exact (ih hlok hlap (s.put p.1 p.2)).trans (get_put_apart p.2 hpok hpap)

/-- Where no two of the fields stored overlap, each reads back what it was given. -/
theorem get_puts_of_mem {l : List (Field × Nat)} (hok : ∀ p ∈ l, p.1.ok = true)
    (hap : l.Pairwise fun p q => q.1.apart p.1 = true) {f : Field} {v : Nat} (hf : (f, v) ∈ l) (s : State) :
    (s.puts l).get f = v % 2 ^ f.w := by
  induction l generalizing s with
  | nil => cases hf
  | cons p l ih =>
    obtain ⟨hpok, hlok⟩ := List.forall_mem_cons.mp hok
    obtain ⟨hpap, hlap⟩ := List.pairwise_cons.mp hap
    obtain rfl | hmem := List.mem_cons.mp hf
    · exact (get_puts_apart hlok hpap (s.put f v)).trans (get_put_same v hpok)
    · exact ih hlok hlap hmem (s.put p.1 p.2)

theorem onlyRegs_puts {offs : List Nat} {u : State} {l : List (Field × Nat)} (hl : ∀ p ∈ l, p.1.off ∈ offs) {t : State}
    (h : OnlyRegs offs u t) : OnlyRegs offs u (t.puts l) := by
  induction l generalizing t with
  | nil => exact h
  | cons p l ih =>
    obtain ⟨hp, hl⟩ := List.forall_mem_cons.mp hl
    exact ih hl (onlyRegs_put h p.1 p.2 hp)

/-! ### The capture bank -/

/-- The fields of capture bank `b` with what a capture stores in them. -/
def captureFields (b : Nat) (s : State) : List (Field × Nat) :=
  [(F.TICK_CAP_b_ASNL b, s.tally.asn % 2 ^ 32), (F.TICK_CAP_b_ASNH b, s.tally.asn / 2 ^ 32),
    (F.TICK_CAP_b_SLOT b, s.tally.slot), (F.TICK_CAP_b_SEQ b, (s.get (F.TICK_CAP_b_SEQ b) + 1) % 2 ^ 12),
    (F.TICK_CAP_b_SFN b, s.tally.sfn), (F.TICK_CAP_b_QUARTER b, s.tally.pos % 4),
    (F.TICK_CAP_b_GRAIN b, s.tally.pos / 4), (F.TICK_CAP_b_VALID b, 1)]

theorem captureTally_eq_puts (b : Nat) (s : State) : captureTally b s = s.puts (captureFields b s) := rfl

theorem captureFields_ok (b : Nat) (s : State) : ∀ p ∈ captureFields b s, p.1.ok = true := by
  simp [captureFields, Field.ok, F.TICK_CAP_b_ASNL, F.TICK_CAP_b_ASNH, F.TICK_CAP_b_SLOT, F.TICK_CAP_b_SEQ,
    F.TICK_CAP_b_SFN, F.TICK_CAP_b_QUARTER, F.TICK_CAP_b_GRAIN, F.TICK_CAP_b_VALID]

theorem captureFields_apart (b : Nat) (s : State) :
    (captureFields b s).Pairwise fun p q => q.1.apart p.1 = true := by
  simp [captureFields, Field.apart, F.TICK_CAP_b_ASNL, F.TICK_CAP_b_ASNH, F.TICK_CAP_b_SLOT, F.TICK_CAP_b_SEQ,
    F.TICK_CAP_b_SFN, F.TICK_CAP_b_QUARTER, F.TICK_CAP_b_GRAIN, F.TICK_CAP_b_VALID]

theorem captureFields_off (b : Nat) (s : State) : ∀ p ∈ captureFields b s, p.1.off ∈ bankRegs b := by
  simp [captureFields, bankRegs, F.TICK_CAP_b_ASNL, F.TICK_CAP_b_ASNH, F.TICK_CAP_b_SLOT, F.TICK_CAP_b_SEQ,
    F.TICK_CAP_b_SFN, F.TICK_CAP_b_QUARTER, F.TICK_CAP_b_GRAIN, F.TICK_CAP_b_VALID,
    R.TICK_CAP_b_0, R.TICK_CAP_b_1, R.TICK_CAP_b_2, R.TICK_CAP_b_3]

theorem get_captureTally {b : Nat} {s : State} {f : Field} {v : Nat} (hf : (f, v) ∈ captureFields b s) (hv : v < 2 ^ f.w) :
    (captureTally b s).get f = v := by
  rw [captureTally_eq_puts, get_puts_of_mem (captureFields_ok b s) (captureFields_apart b s) hf, Nat.mod_eq_of_lt hv]

/-- R26: each number of the Tally fits its field, so the bank holds it whole; the ASN is cut in two at bit 32. -/
theorem bankHolds_captureTally (b : Nat) {u : State} (h : TallyInRange u) : BankHolds b u (captureTally b u) := by
  obtain ⟨hpos, hslot, hasn, hsfn⟩ := h
  have hquarter : u.tally.pos % 4 < 2 ^ 2 := Nat.mod_lt _ (by decide)
  have hgrain : u.tally.pos / 4 < 2 ^ 18 := by omega
  have hlow : u.tally.asn % 2 ^ 32 < 2 ^ 32 := Nat.mod_lt _ (by decide)
  have hhigh : u.tally.asn / 2 ^ 32 < 2 ^ 8 := by omega
  have hseq : (u.get (F.TICK_CAP_b_SEQ b) + 1) % 2 ^ 12 < 2 ^ 12 := Nat.mod_lt _ (by decide)
  refine ⟨get_captureTally ?_ hquarter, get_captureTally ?_ hgrain, get_captureTally ?_ hslot, ?_,
    get_captureTally ?_ hsfn, get_captureTally ?_ (by decide : 1 < 2 ^ 1), get_captureTally ?_ hseq⟩
  case refine_4 =>
    rw [get_captureTally (f := F.TICK_CAP_b_ASNL b) (by simp [captureFields]) hlow,
      get_captureTally (f := F.TICK_CAP_b_ASNH b) (by simp [captureFields]) hhigh]
    exact Nat.mod_add_div _ _
  all_goals simp [captureFields]

theorem onlyRegs_captureTally (b : Nat) (u : State) : OnlyRegs (bankRegs b) u (captureTally b u) :=
  onlyRegs_puts (captureFields_off b u) (onlyRegs_refl _ u)

/-! ### The command -/

theorem fieldsAt_tickCapture : fieldsAt R.TICK_CAPTURE = some [⟨0, 1, .wc, 0⟩] := by decide +kernel

theorem writeBlock_tickCapture (who : Writer) (fs : List FieldSpec) (u : State) :
    writeBlock who R.TICK_CAPTURE 1 fs u = captureTally (captureBank who) u := rfl

/-- A write of TICK_CAPTURE.GO that the mode lets through captures the Tally into the writer's bank: no range rule (R12)
speaks of the register, neither a mirror nor the journal takes its command field, and it holds no block's CLRCNT. -/
theorem writeReg_tickCapture (who : Writer) {u : State} (hu : Writable u) :
    writeReg who R.TICK_CAPTURE 1 u = captureTally (captureBank who) u := by
  obtain ⟨hreset, hsafe⟩ := hu
  have hw : u.writable R.TICK_CAPTURE = true := by simp [State.writable, hreset, hsafe]
  have hb : u.barred who = false := by simp [State.barred, hsafe]
  have hjournalled : journalled R.TICK_CAPTURE ⟨0, 1, .wc, 0⟩ = false := by decide
  rw [writeReg_served hw hb fieldsAt_tickCapture (Or.inl (by decide)) (Or.inl (by decide))
    (Or.inr (by simp [hjournalled])) rfl rfl (Or.inl (by simp [changes, hjournalled])), writeBlock_tickCapture]
  rfl

/-- Settles O11: GO comes to `captureTally` on the bank of Drover or host, and that stores the whole Tally there alone. -/
theorem captureLatchesWholeTally : Obligations.CaptureLatchesWholeTally := by
  intro who hwho
  refine runs_write (execTickCapture · who) (fun _ _ => rfl) (fun _ _ => rfl) (by decide) fun u ⟨hu, htally⟩ => ?_
  rw [writeReg_tickCapture who hu]
  cases who with
  | drover n => exact ⟨bankHolds_captureTally n htally, onlyRegs_captureTally n u⟩
  | host => exact ⟨bankHolds_captureTally 12 htally, onlyRegs_captureTally 12 u⟩
  | remote => exact absurd rfl hwho

end Sys2Proof.Proofs

namespace Sys2Proof.Proofs

open Sys2Proof.Machine Sys2Proof.Claims

/-! ## Switching the Manifest (R49, R50, R53, R57) -/

/-! ### From the command to its operation -/

theorem fieldsAt_manLoad : fieldsAt R.MAN_LOAD = some [⟨0, 1, .wc, 0⟩, ⟨1, 1, .wc, 0⟩, ⟨2, 1, .wc, 0⟩] := by
  decide +kernel

theorem fieldsAt_manSwitch : fieldsAt R.MAN_SWITCH = some [⟨0, 1, .wc, 0⟩, ⟨1, 1, .wc, 0⟩] := by decide +kernel

theorem heldWord_manLoad (u : State) : u.heldWord R.MAN_LOAD = 0 := by rw [State.heldWord, fieldsAt_manLoad]; rfl

theorem heldWord_manSwitch (u : State) : u.heldWord R.MAN_SWITCH = 0 := by rw [State.heldWord, fieldsAt_manSwitch]; rfl

/-- R307: the ACTIVE journals no register of the MAN block. -/
theorem not_journalled_man {off : Nat} (h : off / 0x10000 = 2) (f : FieldSpec) : journalled off f = false := by
  simp [journalled, h]

/-- A write of MAN_LOAD or MAN_SWITCH that the mode lets through comes to the block's commands. -/
theorem writeReg_manCommand {off : Nat} (hoff : off = R.MAN_LOAD ∨ off = R.MAN_SWITCH) (v : Nat) {u : State}
    (hu : Writable u) : writeReg .host off v u = manWrite off v u := by
  obtain ⟨hreset, hsafe⟩ := hu
  have hw : u.writable off = true := by simp [State.writable, hreset, hsafe]
  have hb : u.barred .host = false := by simp [State.barred, hsafe]
  have hblock : off / 0x10000 = 2 := by obtain rfl | rfl := hoff <;> decide
  obtain ⟨fs, hfs⟩ : ∃ fs, fieldsAt off = some fs := by
    obtain rfl | rfl := hoff
    · exact ⟨_, fieldsAt_manLoad⟩
    · exact ⟨_, fieldsAt_manSwitch⟩
  have hrange : rangeFlag off v u = none := by simp [rangeFlag, hblock]
  have hserved := writeReg_served (v := v) hw hb hfs (Or.inl (by omega)) (Or.inl (by omega))
    (Or.inr (by simp [not_journalled_man hblock])) (by simp [hrange])
    (by obtain rfl | rfl := hoff <;> rfl) (Or.inl (by simp [changes, not_journalled_man hblock]))
  have hblockWrite : writeBlock .host off v fs u = manWrite off v u := by simp [writeBlock, hblock, hoff]
  rw [hserved, hblockWrite]
  obtain rfl | rfl := hoff <;> rfl

theorem manWrite_activate : manWrite R.MAN_LOAD (setBit 0 1) = manActivateOp := by
  funext u
  have h0 : bitOf (setBit 0 1) 0 = false := by decide
  have h1 : bitOf (setBit 0 1) 1 = true := by decide
  have h2 : bitOf (setBit 0 1) 2 = false := by decide
  simp [manWrite, onBit, h0, h1, h2]

theorem manWrite_arm : manWrite R.MAN_SWITCH (setBit 0 0) = manSwitchArmOp := by
  funext u
  have h0 : bitOf (setBit 0 0) 0 = true := by decide
  have h1 : bitOf (setBit 0 0) 1 = false := by decide
  simp [manWrite, onBit, R.MAN_SWITCH, R.MAN_LOAD, h0, h1]

theorem manWrite_cancel : manWrite R.MAN_SWITCH (setBit 0 1) = manSwitchCancelOp := by
  funext u
  have h0 : bitOf (setBit 0 1) 0 = false := by decide
  have h1 : bitOf (setBit 0 1) 1 = true := by decide
  simp [manWrite, onBit, R.MAN_SWITCH, R.MAN_LOAD, h0, h1]

section
variable {pre : State → Prop} {post : State → State → Prop} (hw : ∀ u, pre u → Writable u)
include hw

/-- MAN_ACTIVATE is `manActivateOp`. -/
theorem runs_manActivate (hp : ∀ u, pre u → post u (manActivateOp u)) : Runs (.manActivate ·) pre post := by
  refine runs_bit execManActivate (fun _ _ => rfl) (fun _ _ => rfl) (by decide) fun u hu => ?_
  rw [heldWord_manLoad, writeReg_manCommand (.inl rfl) _ (hw u hu), manWrite_activate]
  exact hp u hu

/-- MAN_SWITCH_ARM is `manSwitchArmOp`. -/
theorem runs_manSwitchArm (hp : ∀ u, pre u → post u (manSwitchArmOp u)) : Runs (.manSwitchArm ·) pre post := by
  refine runs_bit execManSwitchArm (fun _ _ => rfl) (fun _ _ => rfl) (by decide) fun u hu => ?_
  rw [heldWord_manSwitch, writeReg_manCommand (.inr rfl) _ (hw u hu), manWrite_arm]
  exact hp u hu

/-- MAN_SWITCH_CANCEL is `manSwitchCancelOp`. -/
theorem runs_manSwitchCancel (hp : ∀ u, pre u → post u (manSwitchCancelOp u)) :
    Runs (.manSwitchCancel ·) pre post := by
  refine runs_bit execManSwitchCancel (fun _ _ => rfl) (fun _ _ => rfl) (by decide) fun u hu => ?_
  rw [heldWord_manSwitch, writeReg_manCommand (.inr rfl) _ (hw u hu), manWrite_cancel]
  exact hp u hu

end

/-! ### Fields and frames -/

/-- A field reads the same where its register does. -/
theorem get_congr {s t : State} {f : Field} (h : t.reg f.off = s.reg f.off) : t.get f = s.get f := by
  unfold State.get; rw [h]

theorem on_eq_false {s : State} {f : Field} : s.on f = false ↔ s.get f = 0 := by simp [State.on]

theorem on_eq_true {s : State} {f : Field} : s.on f = true ↔ s.get f ≠ 0 := by simp [State.on]

/-- What `puts` stores changes registers alone. -/
theorem puts_rest (l : List (Field × Nat)) (s : State) : s.puts l = { s with regs := (s.puts l).regs } :=
  (onlyRegs_puts (offs := l.map (·.1.off)) (fun _ hp => List.mem_map_of_mem hp) (onlyRegs_refl _ s)).1

/-- `puts` leaves every register of none of its fields. -/
theorem reg_puts_ne {l : List (Field × Nat)} {o : Nat} (h : ∀ p ∈ l, p.1.off ≠ o) (s : State) :
    (s.puts l).reg o = s.reg o :=
  (onlyRegs_puts (offs := l.map (·.1.off)) (fun _ hp => List.mem_map_of_mem hp) (onlyRegs_refl _ s)).2 o
    fun hmem => by obtain ⟨p, hp, rfl⟩ := List.mem_map.mp hmem; exact h p hp rfl

theorem puts_ser (l : List (Field × Nat)) (s : State) : (s.puts l).ser = s.ser := by rw [puts_rest]

theorem inc_ser (f : Field) (s : State) : (s.inc f).ser = s.ser := rfl

theorem puts_man (l : List (Field × Nat)) (s : State) : (s.puts l).man = s.man := by rw [puts_rest]

theorem onlyRegs_out {l : List Nat} {u t : State} (h : OnlyRegs l u t) (x : List Out) :
    OnlyRegs l { u with out := x } { t with out := x } := ⟨by rw [h.1], h.2⟩

theorem signals_man {l : List Nat} {u t : State} (h : Signals l u t) (x : Man) :
    Signals l { u with man := x } { t with man := x } := ⟨by rw [h.1], h.2⟩

theorem signals_sf {l : List Nat} {u t : State} (h : Signals l u t) (x : Sf) :
    Signals l { u with sf := x } { t with sf := x } := ⟨by rw [h.1], h.2⟩

theorem signals_puts {offs : List Nat} {u : State} {l : List (Field × Nat)} (hl : ∀ p ∈ l, p.1.off ∈ offs) {t : State}
    (h : Signals offs u t) : Signals offs u (t.puts l) :=
  l.foldlRecOn _ h fun _ ht p hp => signals_put ht p.1 p.2 (.inl (hl p hp))

theorem get_of_signals {l : List Nat} {u t : State} (h : Signals l u t) {f : Field} (hl : f.off ∉ l)
    (hs : signalReg f.off = false) : t.get f = u.get f :=
  have ⟨_, _, hreg⟩ := h
  get_congr (hreg _ hl hs)

theorem leNat_lt (bs : List Byte) : leNat bs < 256 ^ bs.length := by
  induction bs with
  | nil => decide
  | cons b bs ih =>
    have hb := b.isLt
    simp only [leNat, List.length_cons, Nat.pow_succ]
    omega

theorem numAt_lt (bs : List Byte) (off n : Nat) : numAt bs off n < 256 ^ n :=
  (leNat_lt _).trans_le (Nat.pow_le_pow_right (by decide) (List.length_take_le _ _))

/-! ### The read of a slot (R197) -/

/-- The frame of a read of the Serai: corrections and errors show in the SER block and in the Serai itself, and they may
produce events and raise faults. -/
structure ReadFrame (u t : State) : Prop where
  rest : t = { u with regs := t.regs, evPend := t.evPend, ep := t.ep, out := t.out, faults := t.faults, ser := t.ser }
  reg : ∀ o, o / 0x10000 ≠ 9 → signalReg o = false → t.reg o = u.reg o

theorem ReadFrame.refl (u : State) : ReadFrame u u := ⟨rfl, fun _ _ _ => rfl⟩

theorem ReadFrame.man {u t : State} (h : ReadFrame u t) : t.man = u.man := by rw [h.rest]

theorem ReadFrame.get {u t : State} (h : ReadFrame u t) {f : Field} (hf : f.off / 0x10000 ≠ 9)
    (hs : signalReg f.off = false) : t.get f = u.get f := get_congr (h.reg _ hf hs)

theorem ReadFrame.signals {u t t' : State} (h : ReadFrame u t) (hs : Signals [] t t') : ReadFrame u t' :=
  have ⟨hrest, _, hreg⟩ := hs
  ⟨by rw [hrest, h.rest], fun o ho hsig => (hreg o (by simp) hsig).trans (h.reg o ho hsig)⟩

theorem ReadFrame.raiseFault {u t : State} (h : ReadFrame u t) (code src : Nat) : ReadFrame u (raiseFault code src t) :=
  h.signals (signals_raiseFault (signals_refl [] t) code src)

theorem ReadFrame.ser {u t : State} (h : ReadFrame u t) (x : Serai) : ReadFrame u { t with ser := x } :=
  ⟨by rw [h.rest], h.reg⟩

theorem ReadFrame.put {u t : State} (h : ReadFrame u t) {f : Field} (hf : f.off / 0x10000 = 9) (v : Nat) :
    ReadFrame u (t.put f v) := by
  refine ⟨by rw [h.rest]; rfl, fun o ho hs => ?_⟩
  rw [reg_put_ne t f v (by rintro rfl; exact ho hf)]
  exact h.reg o ho hs

theorem ReadFrame.inc {u t : State} (h : ReadFrame u t) {f : Field} (hf : f.off / 0x10000 = 9) : ReadFrame u (t.inc f) :=
  h.put hf _

theorem ReadFrame.puts {u t : State} (h : ReadFrame u t) {l : List (Field × Nat)}
    (hl : ∀ p ∈ l, p.1.off / 0x10000 = 9) : ReadFrame u (t.puts l) :=
  l.foldlRecOn _ h fun _ ht p hp => ht.put (hl p hp) p.2

theorem ReadFrame.lastUe {u t : State} (h : ReadFrame u t) (m g cause : Nat) : ReadFrame u (lastUe m g cause t) :=
  h.puts (by simp [F.SER_LASTUE_ADDR, F.SER_LASTUE_CAUSE, F.SER_LASTUE_MASTER])

theorem ReadFrame.spareStart {u t : State} (h : ReadFrame u t) (b r : Nat) : ReadFrame u (spareStart b r t) := by
  unfold Machine.spareStart
  split
  · exact h
  · split
    · exact (h.ser _).put (by decide) 1
    · exact (h.put (by decide) 1).signals (signals_produce (signals_refl [] _) _)

theorem ReadFrame.rowCorrected {u t : State} (h : ReadFrame u t) (b r : Nat) : ReadFrame u (rowCorrected b r t) := by
  unfold Machine.rowCorrected
  extract_lets n t1
  split
  · exact (h.ser _).spareStart b r
  · exact h.ser _

theorem ReadFrame.poisonGranule {u t : State} (h : ReadFrame u t) (g : Nat) : ReadFrame u (poisonGranule g t) := by
  unfold Machine.poisonGranule State.poke
  exact h.ser _

theorem ReadFrame.decodeG {u t : State} (h : ReadFrame u t) (m g : Nat) : ReadFrame u (decodeG m g t).2 := by
  unfold Machine.decodeG
  dsimp only
  split_ifs <;> dsimp only
  · exact (h.inc (f := F.SER_CNT_k_COUNT 3) (by decide)).lastUe m g 2
  · exact h
  · refine (((ReadFrame.inc ?_ (f := F.SER_CNT_k_COUNT 0) (by decide)).puts ?_).rowCorrected _ _).raiseFault _ _
    · exact h.ser _
    · simp [F.SER_LASTCE_ADDR, F.SER_LASTCE_BITS]
  · exact (((h.inc (f := F.SER_CNT_k_COUNT 1) (by decide)).lastUe m g 0).poisonGranule g).raiseFault _ _
  · exact ((((h.inc (f := F.SER_CNT_k_COUNT 2) (by decide)).lastUe m g 1).poisonGranule g).raiseFault _ _).spareStart _ _

theorem errOf_of_no_errs {s : State} (h : s.ser.errs = []) (g : Nat) : s.errOf g = 0 := by rw [State.errOf, h]; rfl

/-- With no error to correct, a granule is decoded and the Serai stands. -/
theorem decodeG_ser {s : State} (h : s.ser.errs = []) (m g : Nat) : (decodeG m g s).2.ser = s.ser := by
  unfold decodeG
  split
  · exact (puts_ser _ _).trans (inc_ser _ s)
  · dsimp only
    rw [if_pos (errOf_of_no_errs h g)]

/-- Without errors and poison to find, a decode changes nothing. -/
theorem decodeG_clean {s : State} (h : s.ser.errs = []) (hp : s.ser.poison = []) (m g : Nat) : (decodeG m g s).2 = s := by
  unfold decodeG
  rw [if_neg (by simp [hp])]
  dsimp only
  rw [if_pos (errOf_of_no_errs h g)]

/-- What every decode keeps, the read of a slot keeps. -/
theorem slotRead_rec {P : State → Prop} (hdecode : ∀ g t, P t → P (decodeG Master.unit g t).2) (n : Nat) {s : State}
    (h : P s) : P (slotRead n s) := by
  have hrange (off k : Nat) {t : State} (ht : P t) : P (decodeRange Master.unit off k t).2 :=
    (granules off k).foldlRecOn (motive := fun acc : Bool × State => P acc.2) _ ht fun acc hacc g _ => hdecode g acc.2 hacc
  exact hrange _ _ (hrange _ _ h)

theorem readFrame_slotRead {u t : State} (h : ReadFrame u t) (n : Nat) : ReadFrame u (slotRead n t) :=
  slotRead_rec (fun g _ ht => ht.decodeG Master.unit g) n h

theorem slotRead_ser {s : State} (h : s.ser.errs = []) (n : Nat) : (slotRead n s).ser = s.ser :=
  slotRead_rec (P := fun t => t.ser = s.ser) (fun g t ht => (decodeG_ser (by rw [ht, h]) _ g).trans ht) n rfl

theorem slotRead_clean {s : State} (h : s.ser.errs = []) (hp : s.ser.poison = []) (n : Nat) : slotRead n s = s :=
  slotRead_rec (P := fun t => t = s) (fun g t ht => by rw [ht]; exact decodeG_clean h hp _ g) n rfl

/-! ### The installation of a body (R54) -/

/-- The registers that tell which Manifest stands in which slot, and the mode. -/
def identityRegs : List Nat := [R.SYS_MODE, R.MAN_STAT, R.MAN_ACTIVE_ID, R.MAN_SHADOW_ID]

/-- What an installation stores lies past those registers, but for the seal duties. -/
abbrev Installed (o : Nat) : Prop := o = 0x10028 ∨ 0x20010 < o

theorem Installed.not_mem {o : Nat} (h : Installed o) : o ∉ identityRegs := by
  simp only [identityRegs, R.SYS_MODE, R.MAN_STAT, R.MAN_ACTIVE_ID, R.MAN_SHADOW_ID, List.mem_cons,
    List.not_mem_nil, or_false]
  omega

/-- The frame of an installation: the Serai stands, and so do the registers of the Manifests' identity and of the mode. -/
structure Installs (u t : State) : Prop where
  ser : t.ser = u.ser
  reg : ∀ o ∈ identityRegs, t.reg o = u.reg o

theorem Installs.refl (u : State) : Installs u u := ⟨rfl, fun _ _ => rfl⟩

theorem Installs.trans {u t t' : State} (h : Installs u t) (h' : Installs t t') : Installs u t' :=
  ⟨h'.ser.trans h.ser, fun o ho => (h'.reg o ho).trans (h.reg o ho)⟩

theorem Installs.get {u t : State} (h : Installs u t) {f : Field} (hf : f.off ∈ identityRegs) : t.get f = u.get f :=
  get_congr (h.reg _ hf)

theorem Installs.setReg {u t : State} (h : Installs u t) {o : Nat} (ho : Installed o) (v : Word) :
    Installs u (t.setReg o v) :=
  ⟨h.ser, fun p hp => (reg_setReg_ne t v (by rintro rfl; exact ho.not_mem hp)).trans (h.reg p hp)⟩

theorem Installs.put {u t : State} (h : Installs u t) {f : Field} (hf : Installed f.off) (v : Nat) :
    Installs u (t.put f v) := h.setReg hf _

theorem Installs.puts {u t : State} (h : Installs u t) {l : List (Field × Nat)} (hl : ∀ p ∈ l, Installed p.1.off) :
    Installs u (t.puts l) := l.foldlRecOn _ h fun _ ht p hp => ht.put (hl p hp) p.2

theorem Installs.forAll {α : Type} {u t : State} (h : Installs u t) (l : List α) {f : α → State → State}
    (hf : ∀ a ∈ l, ∀ s, Installs s (f a s)) : Installs u (forAll l f t) :=
  l.foldlRecOn _ h fun s hs a ha => hs.trans (hf a ha s)

theorem Installs.forN {u t : State} (h : Installs u t) (n : Nat) {f : Nat → State → State}
    (hf : ∀ i s, Installs s (f i s)) : Installs u (forN n f t) := h.forAll _ fun i _ s => hf i s

theorem Installs.forDrovers {u t : State} (h : Installs u t) {f : Fin 12 → State → State}
    (hf : ∀ n s, Installs s (f n s)) : Installs u (forDrovers f t) := h.forAll _ fun n _ s => hf n s

theorem Installs.man {u t : State} (h : Installs u t) (m : Man) : Installs u { t with man := m } := ⟨h.ser, h.reg⟩

theorem Installs.modDrv {u t : State} (h : Installs u t) (n : Fin 12) (f : Drover → Drover) : Installs u (t.modDrv n f) :=
  ⟨h.ser, h.reg⟩

theorem installs_installBays (b : List Byte) (s : State) : Installs s (installBays b s) :=
  (Installs.refl s).forAll _ fun r _ t => (Installs.refl t).puts (by
    simp [Installed, F.MAN_BAY_n_BASE, F.MAN_BAY_n_SIZE, F.MAN_BAY_n_SCRUB]; omega)

theorem installs_standRoute (r : RouteRow) (s : State) : Installs s (standRoute r s) := by
  unfold standRoute
  refine Installs.puts ?_ (by
    simp [Installed, F.EVT_CH_c_PROD, F.EVT_CH_c_CONS, F.EVT_CH_c_STANDING, F.EVT_CH_c_EN, F.EVT_CH_c_SWEN]; omega)
  have hlock : Installed (F.EVT_CH_c_LOCKED r.chan).off := .inr (by simp only [F.EVT_CH_c_LOCKED]; omega)
  split
  · exact (Installs.refl s).put hlock 1
  · exact (Installs.refl s).put hlock 0

theorem installs_installRoutes (l : List RouteRow) (s : State) : Installs s (installRoutes l s) := by
  refine Installs.forAll (Installs.forN (Installs.refl s) 64 fun c t => ?_) l fun r _ t => installs_standRoute r t
  split
  · exact (Installs.refl t).puts (by
      simp [Installed, F.EVT_CH_c_PROD, F.EVT_CH_c_CONS, F.EVT_CH_c_STANDING, F.EVT_CH_c_EN]; omega)
  · exact Installs.refl t

theorem installs_installEngine (b : List Byte) (s : State) : Installs s (installEngine b s) := by
  unfold installEngine
  extract_lets rows s1 mask s2 own s3 recs
  have h1 : Installs s s1 := (Installs.refl s).forAll _ fun r _ t => (Installs.refl t).puts (by
    simp [Installed, F.MAN_DRV_n_ROLE, F.MAN_DRV_n_ORD, F.MAN_DRV_n_SEAL, F.MAN_DRV_n_IMAGE]; omega)
  have h2 : Installs s s2 := h1.puts (by simp [Installed, F.TICK_NEEDSEAL_PREP, F.TICK_NEEDSEAL_RETIRE])
  have h3 : Installs s s3 := h2.forN 16 fun n t =>
    (Installs.refl t).put (.inr (by simp only [F.DMA_n_CFG_OWNER]; omega)) _
  exact (h3.man _).trans (installs_installRoutes _ _)

theorem installs_installShaper (b : List Byte) (s : State) : Installs s (installShaper b s) :=
  (Installs.refl s).forN 16 fun n t => (Installs.refl t).forN 4 fun w v =>
    (Installs.refl v).setReg (.inr (by omega)) _

theorem installs_installAir (b : List Byte) (s : State) : Installs s (installAir b s) :=
  ((Installs.refl s).man _).trans (installs_installShaper b _)

theorem installs_holdDrover (n : Fin 12) (s : State) : Installs s (holdDrover n s) := by
  unfold holdDrover dropWork
  exact ((Installs.refl s).modDrv n _).put (.inr (by simp only [F.DRV_n_STAT_STATE]; omega)) _

theorem installs_startDrover (n : Fin 12) (s : State) : Installs s (startDrover n s) := by
  unfold startDrover dropWork
  exact (((Installs.refl s).modDrv n _).modDrv n _).puts (by
    simp [Installed, F.DRV_n_STAT_STATE, F.DRV_n_PC_PC, F.DRV_n_STAT_INH]; omega)

theorem installs_holdOrStart (n : Fin 12) (s : State) : Installs s (holdOrStart n s) := by
  unfold holdOrStart
  split_ifs
  · exact installs_holdDrover n s
  · exact installs_startDrover n s
  · exact Installs.refl s

/-- Zeroing bays changes no register. -/
theorem zeroBays_reg (b : List Byte) (s : State) (o : Nat) : (zeroBays b s).reg o = s.reg o :=
  List.foldlRecOn (motive := fun t : State => t.reg o = s.reg o) _ _ rfl fun t ht r _ => by
    dsimp only
    split
    · exact ht
    · exact ht

/-! ### What an installation leaves in `Man` -/

theorem installShaper_man (b : List Byte) (s : State) : (installShaper b s).man = s.man :=
  List.foldlRecOn (motive := fun t : State => t.man = s.man) _ _ rfl fun _ ht _ _ =>
    List.foldlRecOn (motive := fun t : State => t.man = s.man) _ _ ht fun _ ht _ _ => ht

theorem installAir_man (b : List Byte) (s : State) : (installAir b s).man =
    { s.man with lanes := lanesOf b, plan := planOf b, centre := centreOf b, chipN := numAt (chipRec b) 0 1 } :=
  installShaper_man b _

theorem holdOrStart_man (n : Fin 12) (s : State) : (holdOrStart n s).man = s.man := by
  unfold holdOrStart
  split_ifs
  · rfl
  · exact puts_man _ _
  · rfl

theorem forDrovers_man {f : Fin 12 → State → State} (hf : ∀ n s, (f n s).man = s.man) (s : State) :
    (forDrovers f s).man = s.man :=
  List.foldlRecOn (motive := fun t : State => t.man = s.man) _ _ rfl fun t ht n _ => (hf n t).trans ht

/-! ### The exchange of the slots (R49) -/

/-- The fields that an exchange of the slots stores, with their values. -/
def exchangeFields (mid : Nat) (s : State) : List (Field × Nat) :=
  [(F.MAN_STAT_SHADOW, if s.on F.MAN_STAT_ACTIVE_VALID then 2 else 0),
    (F.MAN_SHADOW_ID_MID, if s.on F.MAN_STAT_ACTIVE_VALID then s.get F.MAN_ACTIVE_ID_MID else 0),
    (F.MAN_ACTIVE_ID_MID, mid), (F.MAN_STAT_ACTIVE_SLOT, 1 - s.get F.MAN_STAT_ACTIVE_SLOT), (F.MAN_STAT_ACTIVE_VALID, 1)]

theorem exchangeSlots_eq_puts (mid : Nat) (s : State) : exchangeSlots mid s = s.puts (exchangeFields mid s) := rfl

theorem exchangeFields_ok (mid : Nat) (s : State) : ∀ p ∈ exchangeFields mid s, p.1.ok = true := by
  simp [exchangeFields, Field.ok, F.MAN_STAT_SHADOW, F.MAN_SHADOW_ID_MID, F.MAN_ACTIVE_ID_MID, F.MAN_STAT_ACTIVE_SLOT,
    F.MAN_STAT_ACTIVE_VALID]

theorem exchangeFields_apart (mid : Nat) (s : State) :
    (exchangeFields mid s).Pairwise fun p q => q.1.apart p.1 = true := by
  simp [exchangeFields, Field.apart, F.MAN_STAT_SHADOW, F.MAN_SHADOW_ID_MID, F.MAN_ACTIVE_ID_MID, F.MAN_STAT_ACTIVE_SLOT,
    F.MAN_STAT_ACTIVE_VALID]

theorem get_exchangeSlots {mid : Nat} {s : State} {f : Field} {v : Nat} (hf : (f, v) ∈ exchangeFields mid s)
    (hv : v < 2 ^ f.w) : (exchangeSlots mid s).get f = v := by
  rw [exchangeSlots_eq_puts, get_puts_of_mem (exchangeFields_ok mid s) (exchangeFields_apart mid s) hf, Nat.mod_eq_of_lt hv]

theorem mode_exchangeSlots (mid : Nat) (s : State) : (exchangeSlots mid s).mode = s.mode :=
  get_congr (reg_puts_ne (by
    simp [F.MAN_STAT_SHADOW, F.MAN_SHADOW_ID_MID, F.MAN_ACTIVE_ID_MID, F.MAN_STAT_ACTIVE_SLOT, F.MAN_STAT_ACTIVE_VALID,
      F.SYS_MODE_MODE_CUR]) s)

/-- What an activation shows once the slots of `a` have exchanged their roles and each Drover is held or started. -/
structure SlotsExchanged (mid : Nat) (a t : State) : Prop where
  slot : t.get F.MAN_STAT_ACTIVE_SLOT = 1 - a.get F.MAN_STAT_ACTIVE_SLOT
  valid : t.get F.MAN_STAT_ACTIVE_VALID = 1
  mid : t.get F.MAN_ACTIVE_ID_MID = mid
  shadow : t.get F.MAN_STAT_SHADOW = if a.on F.MAN_STAT_ACTIVE_VALID = true then 2 else 0
  shadowMid : t.get F.MAN_SHADOW_ID_MID = if a.on F.MAN_STAT_ACTIVE_VALID = true then a.get F.MAN_ACTIVE_ID_MID else 0
  man : t.man = a.man
  mode : t.mode = a.mode
  ser : t.ser = a.ser

theorem slotsExchanged {mid : Nat} (hmid : mid < 2 ^ 32) (a : State) :
    SlotsExchanged mid a (forDrovers holdOrStart (exchangeSlots mid a)) := by
  have hstart := (Installs.refl (exchangeSlots mid a)).forDrovers installs_holdOrStart
  have hget {f : Field} {v : Nat} (hf : f.off ∈ identityRegs) (hmem : (f, v) ∈ exchangeFields mid a) (hv : v < 2 ^ f.w) :
      (forDrovers holdOrStart (exchangeSlots mid a)).get f = v := (hstart.get hf).trans (get_exchangeSlots hmem hv)
  constructor
  case slot => exact hget (by decide) (by simp [exchangeFields]) (Nat.sub_lt_succ 1 _)
  case valid => exact hget (by decide) (by simp [exchangeFields]) (by decide)
  case mid => exact hget (by decide) (by simp [exchangeFields]) hmid
  case shadow => exact hget (by decide) (by simp [exchangeFields]) (by split <;> decide)
  case shadowMid => exact hget (by decide) (by simp [exchangeFields]) (by split; exacts [get_lt _, by decide])
  case man => exact (forDrovers_man holdOrStart_man _).trans (puts_man _ a)
  case mode => exact (hstart.get (by decide)).trans (mode_exchangeSlots mid a)
  case ser => exact hstart.ser.trans (puts_ser _ a)

/-! ### MAN_ACTIVATE -/

/-- The body of the shadow, as the read of its slot gives it. -/
def shadowBody (u : State) : List Byte := (slotRead u.shadowSlot u).slotBody u.shadowSlot

/-- An activation up to the exchange of the slots: the shadow is read and its body installed. -/
def beforeExchange (u : State) : State :=
  installAir (shadowBody u) (installEngine (shadowBody u) (installBays (shadowBody u)
    ((slotRead u.shadowSlot u).when (u.on F.MAN_STAT_ACTIVE_VALID) (zeroBays (shadowBody u)))))

theorem manActivateOp_of_refused {u : State} (h : u.mode ≠ Mode.configure ∨ u.get F.MAN_STAT_SHADOW ≠ 2) :
    manActivateOp u = u.flag F.MAN_ERR_BADSTATE := by
  unfold manActivateOp
  rw [if_pos h]

theorem manActivateOp_of_verified {u : State} (h : ¬(u.mode ≠ Mode.configure ∨ u.get F.MAN_STAT_SHADOW ≠ 2)) :
    manActivateOp u = forDrovers holdOrStart (exchangeSlots (numAt (shadowBody u) 8 4) (beforeExchange u)) := by
  unfold manActivateOp
  rw [if_neg h]
  rfl

/-- What the bays' zeroing and the body's installation leave. -/
theorem installs_beforeExchange (u : State) :
    Installs ((slotRead u.shadowSlot u).when (u.on F.MAN_STAT_ACTIVE_VALID) (zeroBays (shadowBody u))) (beforeExchange u) :=
  ((installs_installBays _ _).trans (installs_installEngine _ _)).trans (installs_installAir _ _)

theorem beforeExchange_reg (u : State) {o : Nat} (ho : o ∈ identityRegs) : (beforeExchange u).reg o = u.reg o := by
  have hread : (slotRead u.shadowSlot u).reg o = u.reg o := by
    have hquiet : o / 0x10000 ≠ 9 ∧ signalReg o = false := by
      simp only [identityRegs, List.mem_cons, List.not_mem_nil, or_false] at ho
      obtain rfl | rfl | rfl | rfl := ho <;> decide
    exact (readFrame_slotRead (ReadFrame.refl u) _).reg o hquiet.1 hquiet.2
  rw [(installs_beforeExchange u).reg o ho, ← hread]
  unfold State.when
  split
  · exact zeroBays_reg _ _ o
  · rfl

theorem beforeExchange_ser {u : State} (hvalid : u.on F.MAN_STAT_ACTIVE_VALID = false) (herrs : u.ser.errs = []) :
    (beforeExchange u).ser = u.ser := by
  rw [(installs_beforeExchange u).ser, hvalid]
  simp only [State.when, Bool.false_eq_true, if_false, slotRead_ser herrs]

theorem beforeExchange_man (u : State) : (beforeExchange u).man.lanes = lanesOf (shadowBody u) ∧
    (beforeExchange u).man.plan = planOf (shadowBody u) ∧ (beforeExchange u).man.centre = centreOf (shadowBody u) := by
  simp only [beforeExchange, installAir_man, and_self]

/-- R49: what stands once the slots have exchanged their roles and the Drovers are held or started. -/
theorem activationExchangesSlots : Sys2Proof.Claims.ActivationExchangesSlots := by
  refine runs_manActivate (fun _ hu => hu) fun u _ => ?_
  split
  case isTrue href => exact manActivateOp_of_refused href
  case isFalse hver =>
    rw [manActivateOp_of_verified hver]
    have hslot : (beforeExchange u).get F.MAN_STAT_ACTIVE_SLOT = u.get F.MAN_STAT_ACTIVE_SLOT :=
      get_congr (beforeExchange_reg u (by decide))
    have hid : (beforeExchange u).get F.MAN_ACTIVE_ID_MID = u.get F.MAN_ACTIVE_ID_MID :=
      get_congr (beforeExchange_reg u (by decide))
    have hvalid : (beforeExchange u).on F.MAN_STAT_ACTIVE_VALID = u.on F.MAN_STAT_ACTIVE_VALID :=
      congrArg (· != 0) (get_congr (beforeExchange_reg u (by decide)))
    have hmode : (beforeExchange u).mode = u.mode := get_congr (beforeExchange_reg u (by decide))
    obtain ⟨hlanes, hplan, hcentre⟩ := beforeExchange_man u
    have h := slotsExchanged (numAt_lt (shadowBody u) 8 4) (beforeExchange u)
    exact ⟨by rw [h.slot, hslot], h.valid, h.mid, by rw [h.shadow, hvalid], by rw [h.shadowMid, hvalid, hid],
      by rw [h.man, hlanes, shadowBody], by rw [h.man, hplan, shadowBody], by rw [h.man, hcentre, shadowBody],
      h.mode.trans hmode, fun hnone herrs => h.ser.trans (beforeExchange_ser hnone herrs)⟩

/-! ### Broadcasts (R293) -/

theorem emit_packet_of_one_lead {s : State} (h : s.get F.CAR_STAT_TWOLEADS = 0) (port dest : Nat) (p : Packet) :
    s.emit (.packet port dest p) = { s with out := s.out ++ [.packet port dest p] } := by
  simp [State.emit, State.on, Out.onRing, h]

theorem emit_packet_of_two_leads {s : State} (h : s.get F.CAR_STAT_TWOLEADS ≠ 0) (port dest : Nat) (p : Packet) :
    s.emit (.packet port dest p) = s := by
  simp [State.emit, State.on, Out.onRing, h]

/-- A packet to every chip leaves by both ports, unless the chip shows two leads. -/
theorem sendAll_eq (p : Packet) (s : State) :
    s.sendAll p = { s with out := s.out ++ spoken s [.packet 0 0xFF p, .packet 1 0xFF p] } := by
  unfold State.sendAll spoken
  by_cases h : s.get F.CAR_STAT_TWOLEADS = 0
  · have h' : ({ s with out := s.out ++ [.packet 0 0xFF p] } : State).get F.CAR_STAT_TWOLEADS = 0 := h
    rw [emit_packet_of_one_lead h, emit_packet_of_one_lead h', if_pos h]
    simp
  · rw [emit_packet_of_two_leads h, emit_packet_of_two_leads h, if_neg h]
    simp

theorem broadcast_eq (b : Bcast) (s : State) : broadcast b s =
    ({ s with out := s.out ++ spoken s [.packet 0 0xFF (.bcast b), .packet 1 0xFF (.bcast b)] } : State).inc
      (F.CAR_CNT_k_COUNT 3) := by
  rw [broadcast, sendAll_eq]

theorem inc_man (f : Field) (s : State) : (s.inc f).man = s.man := rfl

theorem inc_out (f : Field) (s : State) : (s.inc f).out = s.out := rfl

theorem broadcast_man (b : Bcast) (s : State) : (broadcast b s).man = s.man := by
  rw [broadcast_eq, inc_man]

theorem get_broadcast {b : Bcast} {s : State} {f : Field} (hf : (F.CAR_CNT_k_COUNT 3).apart f = true) :
    (broadcast b s).get f = s.get f := by
  rw [broadcast_eq, get_inc_apart (by decide) hf]
  rfl

theorem broadcast_out (b : Bcast) (s : State) :
    (broadcast b s).out = s.out ++ spoken s [.packet 0 0xFF (.bcast b), .packet 1 0xFF (.bcast b)] := by
  rw [broadcast_eq, inc_out]

/-- Who speaks depends on CAR_STAT alone. -/
theorem spoken_congr {s t : State} (h : t.get F.CAR_STAT_TWOLEADS = s.get F.CAR_STAT_TWOLEADS) (l : List Out) :
    spoken t l = spoken s l := by
  unfold spoken; rw [h]

section
variable {l : List Nat} {u t : State} (h : OnlyRegs l { u with man := t.man } t) (b : Bcast)
include h

/-- What a broadcast sends after a command that changes registers, and `Man`, alone. -/
theorem broadcast_out_of_onlyRegs (hl : R.CAR_STAT ∉ l) :
    (broadcast b t).out = u.out ++ spoken u [.packet 0 0xFF (.bcast b), .packet 1 0xFF (.bcast b)] := by
  have hout : t.out = u.out := by rw [h.1]
  have hleads : t.get F.CAR_STAT_TWOLEADS = u.get F.CAR_STAT_TWOLEADS := get_congr (h.2 _ hl)
  rw [broadcast_out, hout, spoken_congr hleads]

theorem onlyRegs_broadcast (hl : R.CAR_CNT_k 3 ∈ l) :
    OnlyRegs l { u with man := (broadcast b t).man, out := (broadcast b t).out } (broadcast b t) := by
  have hput : OnlyRegs l { u with man := t.man, out := (broadcast b t).out } (broadcast b t) := by
    rw [broadcast_eq]
    exact onlyRegs_put (onlyRegs_out h _) _ _ hl
  rw [broadcast_man]
  exact hput

end

theorem signals_broadcast {l : List Nat} {u t : State} (h : Signals l u t) (hl : R.CAR_CNT_k 3 ∈ l) (b : Bcast) :
    Signals l u (broadcast b t) := by
  rw [broadcast_eq]
  exact signals_put (signals_out h _) _ _ (.inl hl)

/-! ### The arming of a switch (R50) -/

theorem superframesTo_eq_ahead (t : Nat) (s : State) : superframesTo t s = ahead t s := rfl

theorem switchMode_iff (m : Nat) :
    switchMode m = true ↔ m ∈ [Mode.standby, Mode.listen, Mode.serve, Mode.drain, Mode.shadow] := by
  simp only [switchMode, Bool.and_eq_true, decide_eq_true_eq, List.mem_cons, List.not_mem_nil, or_false]
  simp only [Mode.standby, Mode.listen, Mode.serve, Mode.drain, Mode.shadow]
  omega

theorem not_mayArm_iff (u : State) :
    ¬MayArm u ↔ (!switchMode u.mode || u.on F.MAN_STAT_ARMED || u.updCond != 0) = true := by
  rw [MayArm, ← switchMode_iff]
  cases switchMode u.mode <;> cases u.on F.MAN_STAT_ARMED <;> simp

theorem manSwitchArmOp_of_not_lead {u : State} (h : u.isLead = false) : manSwitchArmOp u = u := by
  simp [manSwitchArmOp, h]

theorem manSwitchArmOp_of_badState {u : State} (hlead : u.isLead = true) (h : ¬MayArm u) :
    manSwitchArmOp u = u.flag F.MAN_ERR_BADSTATE := by
  unfold manSwitchArmOp
  rw [if_neg (by simp [hlead]), if_pos ((not_mayArm_iff u).mp h)]

theorem manSwitchArmOp_of_tooSoon {u : State} (hlead : u.isLead = true) (h : MayArm u)
    (hsoon : superframesTo (u.get F.MAN_SWITCH_SFN_SFN) u < 4 ∨ 2 ^ 31 ≤ superframesTo (u.get F.MAN_SWITCH_SFN_SFN) u) :
    manSwitchArmOp u = u.flag F.MAN_ERR_TOOSOON := by
  unfold manSwitchArmOp
  rw [if_neg (by simp [hlead]), if_neg fun hbad => (not_mayArm_iff u).mpr hbad h]
  exact if_pos (by simpa [superframesTo_eq_ahead] using hsoon)

theorem manSwitchArmOp_of_inTime {u : State} (hlead : u.isLead = true) (h : MayArm u)
    (hsoon : 4 ≤ superframesTo (u.get F.MAN_SWITCH_SFN_SFN) u)
    (hlate : superframesTo (u.get F.MAN_SWITCH_SFN_SFN) u < 2 ^ 31) :
    manSwitchArmOp u = broadcast (.arm (u.get F.MAN_SWITCH_SFN_SFN)) (manArmed (u.get F.MAN_SWITCH_SFN_SFN) u) := by
  have hnot : ¬(superframesTo (u.get F.MAN_SWITCH_SFN_SFN) u < 4 ∨
      2 ^ 31 ≤ superframesTo (u.get F.MAN_SWITCH_SFN_SFN) u) := by omega
  unfold manSwitchArmOp
  rw [if_neg (by simp [hlead]), if_neg fun hbad => (not_mayArm_iff u).mpr hbad h]
  exact if_neg (by simpa [superframesTo_eq_ahead] using hnot)
theorem onlyRegs_man {l : List Nat} {u t : State} (h : OnlyRegs l u t) (x : Man) :
    OnlyRegs l { u with man := x } { t with man := x } := ⟨by rw [h.1], h.2⟩

theorem get_with_man (s : State) (x : Man) (f : Field) : ({ s with man := x } : State).get f = s.get f := rfl

/-- The fields in which a judgement of readiness shows (R51). -/
def judgedFields : List Field := [F.MAN_STAT_READY, F.MAN_ERR_CODE, F.MAN_ERR_SECTION]

/-- What the stores of those fields and the reads of the slots keep, a judgement of readiness keeps. -/
theorem judgeReady_rec {P : State → Prop} (hput : ∀ f ∈ judgedFields, ∀ v t, P t → P (t.put f v))
    (hread : ∀ n t, P t → P (slotRead n t)) {s : State} (h : P s) : P (judgeReady s) := by
  have hready (v : Nat) {t : State} (ht : P t) : P (t.put F.MAN_STAT_READY v) := hput _ (by simp [judgedFields]) v t ht
  have herr (c n : Nat) {t : State} (ht : P t) : P (t.puts [(F.MAN_ERR_CODE, c), (F.MAN_ERR_SECTION, n)]) :=
    hput _ (by simp [judgedFields]) n _ (hput _ (by simp [judgedFields]) c t ht)
  have hslots (n m : Nat) {t : State} (ht : P t) : P (slotRead n (slotRead m t)) := hread n _ (hread m t ht)
  unfold judgeReady
  extract_lets s0 t body
  have h0 : P s0 := hready 0 h
  have ht : P t := hslots _ _ h0
  split_ifs
  · exact h0
  · exact herr _ _ h0
  · exact herr _ _ ht
  · exact herr _ _ ht
  · exact ht
  · exact hready 1 ht

theorem judgeReady_man (s : State) : (judgeReady s).man = s.man :=
  judgeReady_rec (P := fun t => t.man = s.man) (fun _ _ _ _ ht => ht)
    (fun n t ht => (readFrame_slotRead (ReadFrame.refl t) n).man.trans ht) rfl

theorem get_judgeReady {f : Field} (hjudged : ∀ g ∈ judgedFields, g.apart f = true) (hser : f.off / 0x10000 ≠ 9)
    (hsignal : signalReg f.off = false) (s : State) : (judgeReady s).get f = s.get f :=
  judgeReady_rec (P := fun t => t.get f = s.get f)
    (fun g hg v t ht => (get_put_apart v (by revert g; decide) (hjudged g hg)).trans ht)
    (fun n t ht => ((readFrame_slotRead (ReadFrame.refl t) n).get hser hsignal).trans ht) rfl

/-- Without errors and poison to find, a judgement of readiness changes MAN_STAT and MAN_ERR alone. -/
theorem onlyRegs_judgeReady {l : List Nat} {u t : State} (h : OnlyRegs l u t) (hl : ∀ f ∈ judgedFields, f.off ∈ l)
    (herrs : u.ser.errs = []) (hpoison : u.ser.poison = []) : OnlyRegs l u (judgeReady t) := by
  refine judgeReady_rec (P := OnlyRegs l u) (fun f hf v t ht => onlyRegs_put ht f v (hl f hf)) (fun n t ht => ?_) h
  have hser : t.ser = u.ser := by rw [ht.1]
  rw [slotRead_clean (by rw [hser, herrs]) (by rw [hser, hpoison])]
  exact ht

/-- The fields that an arming stores, with their values. -/
def armFields (sfn : Nat) : List (Field × Nat) :=
  [(F.MAN_STAT_GO, 0), (F.MAN_STAT_NEXT, 0), (F.MAN_STAT_ARMED, 1), (F.MAN_SWITCH_SFN_SFN, sfn)]

theorem manArmed_eq (sfn : Nat) (s : State) : manArmed sfn s =
    judgeReady { s.puts (armFields sfn) with man := { s.man with armT := sfn, barOk := false, armAge := 0 } } := by
  unfold manArmed
  rw [← puts_man (armFields sfn) s]
  rfl

theorem manArmed_man (sfn : Nat) (s : State) :
    (manArmed sfn s).man = { s.man with armT := sfn, barOk := false, armAge := 0 } := by
  rw [manArmed_eq, judgeReady_man]

theorem get_manArmed {sfn : Nat} {f : Field} {v : Nat} (hf : (f, v) ∈ armFields sfn) (hv : v < 2 ^ f.w) (s : State) :
    (manArmed sfn s).get f = v := by
  have hok : ∀ p ∈ armFields sfn, p.1.ok = true := by
    simp [armFields, Field.ok, F.MAN_STAT_GO, F.MAN_STAT_NEXT, F.MAN_STAT_ARMED, F.MAN_SWITCH_SFN_SFN]
  have hapart : (armFields sfn).Pairwise fun p q => q.1.apart p.1 = true := by
    simp [armFields, Field.apart, F.MAN_STAT_GO, F.MAN_STAT_NEXT, F.MAN_STAT_ARMED, F.MAN_SWITCH_SFN_SFN]
  have hkept : (∀ g ∈ judgedFields, g.apart f = true) ∧ f.off / 0x10000 ≠ 9 ∧ signalReg f.off = false := by
    simp only [armFields, List.mem_cons, List.not_mem_nil, or_false, Prod.mk.injEq] at hf
    obtain ⟨rfl, -⟩ | ⟨rfl, -⟩ | ⟨rfl, -⟩ | ⟨rfl, -⟩ := hf <;> decide
  obtain ⟨hjudged, hser, hsignal⟩ := hkept
  rw [manArmed_eq, get_judgeReady hjudged hser hsignal, get_with_man, get_puts_of_mem hok hapart hf, Nat.mod_eq_of_lt hv]

/-- The registers that an arming on the lead changes, where no granule holds an error or poison. -/
def armRegs : List Nat := [R.MAN_STAT, R.MAN_SWITCH_SFN, R.MAN_ERR, R.CAR_CNT_k 3]

theorem onlyRegs_manArmed (sfn : Nat) {s : State} (herrs : s.ser.errs = []) (hpoison : s.ser.poison = []) :
    OnlyRegs armRegs { s with man := (manArmed sfn s).man } (manArmed sfn s) := by
  rw [manArmed_man, manArmed_eq]
  refine onlyRegs_judgeReady (onlyRegs_man (onlyRegs_puts ?_ (onlyRegs_refl _ s)) _) (by decide) herrs hpoison
  simp [armFields, armRegs, F.MAN_STAT_GO, F.MAN_STAT_NEXT, F.MAN_STAT_ARMED, F.MAN_SWITCH_SFN_SFN, R.MAN_STAT,
    R.MAN_SWITCH_SFN]

theorem get_arming {b : Bcast} {sfn : Nat} {f : Field} {v : Nat} (hcar : (F.CAR_CNT_k_COUNT 3).apart f = true)
    (hmem : (f, v) ∈ armFields sfn) (hv : v < 2 ^ f.w) (u : State) : (broadcast b (manArmed sfn u)).get f = v :=
  (get_broadcast hcar).trans (get_manArmed hmem hv u)

/-! ### The cancellation of a switch (R53, R57) -/

theorem manSwitchCancelOp_of_not_lead {u : State} (h : u.isLead = false) : manSwitchCancelOp u = u := by
  simp [manSwitchCancelOp, h]

theorem manSwitchCancelOp_of_not_armed {u : State} (h : u.on F.MAN_STAT_ARMED = false) : manSwitchCancelOp u = u := by
  simp [manSwitchCancelOp, h]

theorem manSwitchCancelOp_of_late {u : State} (hlead : u.isLead = true) (harmed : u.on F.MAN_STAT_ARMED = true)
    (h : u.on F.MAN_STAT_GO = true ∨ superframesTo u.man.armT u ≤ 2) :
    manSwitchCancelOp u = u.flag F.MAN_ERR_COMMITTED := by
  unfold manSwitchCancelOp
  rw [if_neg (by simp [hlead, harmed]), if_pos (by simpa [superframesTo_eq_ahead] using h)]

theorem manSwitchCancelOp_of_inTime {u : State} (hlead : u.isLead = true) (harmed : u.on F.MAN_STAT_ARMED = true)
    (hgo : u.on F.MAN_STAT_GO = false) (h : 2 < superframesTo u.man.armT u) :
    manSwitchCancelOp u = broadcast (.cancel 1 (u.get F.MAN_SWITCH_STAT_MISSING))
      (manCancel 1 (u.get F.MAN_SWITCH_STAT_MISSING) u) := by
  unfold manSwitchCancelOp
  rw [if_neg (by simp [hlead, harmed]), if_neg (by simpa [superframesTo_eq_ahead, hgo] using h)]

/-- The fields that a cancellation stores, with their values. -/
def cancelFields (cause missing : Nat) : List (Field × Nat) :=
  [(F.MAN_STAT_ARMED, 0), (F.MAN_STAT_GO, 0), (F.MAN_STAT_READY, 0), (F.MAN_STAT_NEXT, 0), (F.MAN_STAT_CANCELLED, 1),
    (F.MAN_SWITCH_STAT_CAUSE, cause), (F.MAN_SWITCH_STAT_MISSING, missing)]

theorem cancelFields_ok (cause missing : Nat) : ∀ p ∈ cancelFields cause missing, p.1.ok = true := by
  simp [cancelFields, Field.ok, F.MAN_STAT_ARMED, F.MAN_STAT_GO, F.MAN_STAT_READY, F.MAN_STAT_NEXT, F.MAN_STAT_CANCELLED,
    F.MAN_SWITCH_STAT_CAUSE, F.MAN_SWITCH_STAT_MISSING]

theorem cancelFields_apart (cause missing : Nat) :
    (cancelFields cause missing).Pairwise fun p q => q.1.apart p.1 = true := by
  simp [cancelFields, Field.apart, F.MAN_STAT_ARMED, F.MAN_STAT_GO, F.MAN_STAT_READY, F.MAN_STAT_NEXT,
    F.MAN_STAT_CANCELLED, F.MAN_SWITCH_STAT_CAUSE, F.MAN_SWITCH_STAT_MISSING]

/-- A cancellation of any cause but NOGO, which may also mark the rejoin of an isolated chip (R57). -/
theorem manCancel_of_armed {s : State} (harmed : s.on F.MAN_STAT_ARMED = true) {cause : Nat} (hcause : cause ≠ 4)
    (missing : Nat) : manCancel cause missing s =
      raiseVector 21 (sfUntie { s.puts (cancelFields cause missing) with man := { s.man with barOk := false } }) := by
  unfold manCancel
  rw [if_neg (by simp [harmed]), ← puts_man (cancelFields cause missing) s]
  simp [State.when, hcause, cancelFields]

/-- R76: a cancellation clears the arming of a schedule change tied to the switch. -/
theorem onlyRegs_sfUntie (s : State) : OnlyRegs [R.SF_STAT] { s with sf := (sfUntie s).sf } (sfUntie s) := by
  unfold sfUntie
  split
  · split
    · exact onlyRegs_put (onlyRegs_refl _ _) _ _ (by decide)
    · exact onlyRegs_refl _ s
  · exact onlyRegs_refl _ s

theorem get_sfUntie {f : Field} (hf : f.off ∉ [R.SF_STAT]) (s : State) : (sfUntie s).get f = s.get f :=
  get_congr ((onlyRegs_sfUntie s).2 _ hf)

theorem signals_sfUntie {l : List Nat} {u t : State} (h : Signals l u t) (hl : R.SF_STAT ∈ l) :
    Signals l { u with sf := (sfUntie t).sf } (sfUntie t) := by
  have hsf := signals_sf h
  unfold sfUntie
  split
  · split
    · exact signals_put (hsf _) _ _ (.inl hl)
    · exact hsf _
  · exact hsf _

theorem get_raiseVector {f : Field} (hf : signalReg f.off = false) (v : Fin 64) (s : State) :
    (raiseVector v s).get f = s.get f :=
  get_of_signals (signals_vector (signals_refl [] s) v) List.not_mem_nil hf

/-- What a command that signals makes of `Man` and `Sf` stands in the state it leaves. -/
theorem signals_own {l : List Nat} {u t : State} {m : Man} {f : Sf} (h : Signals l { u with man := m, sf := f } t) :
    Signals l { u with man := t.man, sf := t.sf } t := by
  have hman : t.man = m := by rw [h.1]
  have hsf : t.sf = f := by rw [h.1]
  rw [hman, hsf]
  exact h

theorem spoken_of_signals {l : List Nat} {u t : State} {m : Man} {f : Sf} (h : Signals l { u with man := m, sf := f } t)
    (hl : R.CAR_STAT ∉ l) (out : List Out) : spoken t out = spoken u out :=
  spoken_congr (get_of_signals (f := F.CAR_STAT_TWOLEADS) h hl (by decide)) out

/-- The registers that a cancellation on the lead changes, beside those that signal it. -/
def cancelRegs : List Nat := [R.MAN_STAT, R.MAN_SWITCH_STAT, R.SF_STAT, R.CAR_CNT_k 3]

theorem cancelFields_off (cause missing : Nat) : ∀ p ∈ cancelFields cause missing, p.1.off ∈ cancelRegs := by
  simp [cancelFields, cancelRegs, F.MAN_STAT_ARMED, F.MAN_STAT_GO, F.MAN_STAT_READY, F.MAN_STAT_NEXT,
    F.MAN_STAT_CANCELLED, F.MAN_SWITCH_STAT_CAUSE, F.MAN_SWITCH_STAT_MISSING, R.MAN_STAT, R.MAN_SWITCH_STAT]

section
variable {cause missing : Nat} {u : State} (harmed : u.on F.MAN_STAT_ARMED = true) (hcause : cause ≠ 4)
include harmed hcause

theorem get_manCancel {f : Field} {v : Nat} (hmem : (f, v) ∈ cancelFields cause missing) (hv : v < 2 ^ f.w) :
    (manCancel cause missing u).get f = v := by
  have hkept : f.off ∉ [R.SF_STAT] ∧ signalReg f.off = false := by
    simp only [cancelFields, List.mem_cons, List.not_mem_nil, or_false, Prod.mk.injEq] at hmem
    obtain ⟨rfl, -⟩ | ⟨rfl, -⟩ | ⟨rfl, -⟩ | ⟨rfl, -⟩ | ⟨rfl, -⟩ | ⟨rfl, -⟩ | ⟨rfl, -⟩ := hmem
    all_goals decide
  rw [manCancel_of_armed harmed hcause, get_raiseVector hkept.2, get_sfUntie hkept.1, get_with_man,
    get_puts_of_mem (cancelFields_ok _ _) (cancelFields_apart _ _) hmem, Nat.mod_eq_of_lt hv]

theorem get_cancelling {b : Bcast} {f : Field} {v : Nat} (hcar : (F.CAR_CNT_k_COUNT 3).apart f = true)
    (hmem : (f, v) ∈ cancelFields cause missing) (hv : v < 2 ^ f.w) :
    (broadcast b (manCancel cause missing u)).get f = v :=
  (get_broadcast hcar).trans (get_manCancel harmed hcause hmem hv)

theorem signals_manCancel : ∃ m f, Signals cancelRegs { u with man := m, sf := f } (manCancel cause missing u) := by
  rw [manCancel_of_armed harmed hcause]
  have hputs := signals_puts (cancelFields_off cause missing) (signals_refl cancelRegs u)
  exact ⟨_, _, signals_vector (signals_sfUntie (signals_man hputs _) (by decide)) 21⟩

end

/-! ### The statement -/

/-- MAN_SWITCH_ARM and MAN_SWITCH_CANCEL, branch by branch. -/
theorem switchesArmAndCancel : Sys2Proof.Claims.SwitchesArmAndCancel := by
  refine ⟨runs_manSwitchArm (fun _ ⟨hw, _⟩ => hw) fun u ⟨_, hlead⟩ => ⟨?armBadState, ?armTooSoon, ?armInTime⟩,
    runs_manSwitchCancel (fun _ ⟨hw, _⟩ => hw) fun u ⟨_, hlead⟩ => ⟨?cancelUnarmed, ?cancelLate, ?cancelInTime⟩,
    runs_manSwitchArm (fun _ ⟨hw, _⟩ => hw) fun u ⟨_, hlead⟩ => manSwitchArmOp_of_not_lead hlead,
    runs_manSwitchCancel (fun _ ⟨hw, _⟩ => hw) fun u ⟨_, hlead⟩ => manSwitchCancelOp_of_not_lead hlead⟩
  case armBadState => exact manSwitchArmOp_of_badState hlead
  case armTooSoon => exact manSwitchArmOp_of_tooSoon hlead
  case armInTime =>
    intro hmay hsoon hlate
    rw [manSwitchArmOp_of_inTime hlead hmay hsoon hlate]
    refine ⟨on_eq_true.mpr ?armed, on_eq_false.mpr ?go, on_eq_false.mpr ?next, ?sfn, ?man,
      fun herrs hpoison => ⟨?out, ?regs⟩⟩
    case armed => rw [get_arming (v := 1) (by decide) (by simp [armFields]) (by decide)]; decide
    case go => exact get_arming (by decide) (by simp [armFields]) (by decide) u
    case next => exact get_arming (by decide) (by simp [armFields]) (by decide) u
    case sfn => exact get_arming (by decide) (by simp [armFields]) (get_lt _) u
    case man => exact (broadcast_man _ _).trans (manArmed_man _ _)
    case out => exact broadcast_out_of_onlyRegs (onlyRegs_manArmed _ herrs hpoison) _ (by decide)
    case regs => exact onlyRegs_broadcast (onlyRegs_manArmed _ herrs hpoison) _ (by decide)
  case cancelUnarmed => exact manSwitchCancelOp_of_not_armed
  case cancelLate => exact manSwitchCancelOp_of_late hlead
  case cancelInTime =>
    intro harmed hgo hsoon
    rw [manSwitchCancelOp_of_inTime hlead harmed hgo hsoon]
    have hcause : (1 : Nat) ≠ 4 := by decide
    obtain ⟨m, f, hsignals⟩ := signals_manCancel (missing := u.get F.MAN_SWITCH_STAT_MISSING) harmed hcause
    refine ⟨on_eq_false.mpr ?armed, on_eq_true.mpr ?cancelled, ?cause,
      ⟨(manCancel 1 (u.get F.MAN_SWITCH_STAT_MISSING) u).out, ?out⟩, ?frame⟩
    case armed => exact get_cancelling harmed hcause (by decide) (by simp [cancelFields]) (by decide)
    case cancelled =>
      rw [get_cancelling (v := 1) harmed hcause (by decide) (by simp [cancelFields]) (by decide)]
      decide
    case cause => exact get_cancelling harmed hcause (by decide) (by simp [cancelFields]) (by decide)
    case out => rw [broadcast_out, spoken_of_signals hsignals (by decide)]
    case frame => exact signals_own (signals_broadcast hsignals (by decide) _)

/-- Settles O22: an activation exchanges the slots, and each command of a switch takes the branch its conditions name. -/
theorem switchesArmAndActivate : Obligations.SwitchesArmAndActivate := ⟨activationExchangesSlots, switchesArmAndCancel⟩

end Sys2Proof.Proofs

namespace Sys2Proof.Proofs

open Sys2Proof.Machine Sys2Proof.Claims

/-! ## Results of the A unit as bytes (R230) -/

theorem toSigned_toNat (x : Byte) : toSigned 8 x.toNat = x.toInt := by
  have := x.isLt
  unfold toSigned BitVec.toInt
  simp only [Nat.reduceSub, Nat.reducePow, Nat.mod_eq_of_lt this]
  split <;> split <;> omega

theorem ofNat_ofSigned (i : Int) : BitVec.ofNat 8 (ofSigned 8 i) = BitVec.ofInt 8 i := by
  apply BitVec.eq_of_toNat_eq
  unfold ofSigned
  simp [BitVec.toNat_ofInt]
  omega

theorem ofNat_mod_256 (v : Nat) : BitVec.ofNat 8 (v % 256) = BitVec.ofNat 8 v := by
  apply BitVec.eq_of_toNat_eq
  simp

theorem ofNat_shl (x n : Nat) : BitVec.ofNat 8 (x * 2 ^ n) = BitVec.ofNat 8 x <<< n := by
  apply BitVec.eq_of_toNat_eq
  simp [BitVec.toNat_shiftLeft, Nat.shiftLeft_eq]

theorem ofNat_shr {x : Nat} (hx : x < 256) (n : Nat) : BitVec.ofNat 8 (x / 2 ^ n) = BitVec.ofNat 8 x >>> n := by
  apply BitVec.eq_of_toNat_eq
  simp [BitVec.toNat_ushiftRight, Nat.shiftRight_eq_div_pow, Nat.mod_eq_of_lt hx,
    Nat.mod_eq_of_lt (lt_of_le_of_lt (Nat.div_le_self x (2 ^ n)) hx)]

theorem ofNat_rolByte (x : Byte) {n : Nat} (hn : n < 8) : BitVec.ofNat 8 (rolByte x.toNat n) = x.rotateLeft n := by
  have hx := x.isLt
  have hcarry : x.toNat * 2 ^ n / 256 = x.toNat / 2 ^ (8 - n) := by
    rw [show 256 = 2 ^ (8 - n) * 2 ^ n by rw [← pow_add]; norm_num [Nat.sub_add_cancel hn.le]]
    exact Nat.mul_div_mul_right _ _ (by positivity)
  have hapart : x <<< n &&& x >>> (8 - n) = 0#8 := by
    ext i hi
    by_cases h : i < n
    · simp [h]
    · simp [BitVec.getLsbD_of_ge x (8 - n + i) (by omega)]
  rw [BitVec.rotateLeft_def, Nat.mod_eq_of_lt hn, ← BitVec.add_eq_or_of_and_eq_zero _ _ hapart, rolByte, hcarry,
    ofNat_mod_256, BitVec.ofNat_add, ofNat_shl, ofNat_shr hx, BitVec.ofNat_toNat, BitVec.setWidth_eq]

theorem rotateLeft_eq_rotateRight (x : Byte) (n : Nat) : x.rotateLeft ((8 - n % 8) % 8) = x.rotateRight n := by
  have hn := Nat.mod_lt n (show 8 > 0 by decide)
  rw [BitVec.rotateLeft_def, BitVec.rotateRight_def]
  obtain h | h : n % 8 = 0 ∨ 0 < n % 8 := by omega
  · simp [h, BitVec.ushiftRight_eq_zero]
  · rw [Nat.mod_mod, Nat.mod_eq_of_lt (by omega : 8 - n % 8 < 8), Nat.sub_sub_self hn.le, BitVec.or_comm]

theorem ofNat_limitByte (x y : Byte) : BitVec.ofNat 8 (limitByte (toSigned 8 x.toNat + toSigned 8 y.toNat)) =
    BitVec.ofInt 8 (max (-128) (min 127 (x.toInt + y.toInt))) := by
  rw [limitByte, ofNat_ofSigned, toSigned_toNat, toSigned_toNat, satSigned, min_comm]
  rfl

theorem ofNat_sar (x : Byte) (n : Nat) : BitVec.ofNat 8 (ofSigned 8 (toSigned 8 x.toNat / 2 ^ n)) = x.sshiftRight n := by
  rw [ofNat_ofSigned, toSigned_toNat, BitVec.sshiftRight_eq, Int.shiftRight_eq_div_pow]
  norm_cast

theorem ofNat_toNat_byte (x : Byte) : BitVec.ofNat 8 x.toNat = x := by simp

theorem ofNat_maxs (x y : Byte) : BitVec.ofNat 8 (byMeasure (toSigned 8 y.toNat ≤ toSigned 8 x.toNat) x.toNat y.toNat) =
    if x.toInt ≤ y.toInt then y else x := by
  have heq : x.toInt = y.toInt → x = y := BitVec.eq_of_toInt_eq
  simp only [byMeasure, toSigned_toNat, decide_eq_true_eq]
  split
  · rw [ofNat_toNat_byte]
    split
    · exact heq (by omega)
    · rfl
  · rw [ofNat_toNat_byte, if_pos (by omega)]

/-- Outside a repeat the number of each opcode is the byte of its table (R230). -/
theorem ofNat_aluPlain : ∀ q ∈ aUnit.zipIdx, ∀ x y : Byte, BitVec.ofNat 8 (aluPlain q.2 x.toNat y.toNat) = q.1.2 x y := by
  simp only [aUnit, List.zipIdx_cons, List.zipIdx_nil, List.forall_mem_cons, List.not_mem_nil, false_imp_iff, implies_true,
    and_true, Nat.reduceAdd, aluPlain, ofNat_mod_256]
  refine ⟨?add, ?sub, ?and, ?or, ?xor, ofNat_limitByte, ?shl, ?shr, ?sar, ?rol, ?ror, ?min, ?max, ?mins, ofNat_maxs, ?addsu⟩
  all_goals intro x y
  case add => simp [BitVec.ofNat_add]
  case sub =>
    apply BitVec.eq_of_toNat_eq
    have hy := y.isLt
    simp only [BitVec.toNat_ofNat, BitVec.toNat_sub]
    omega
  case and => apply BitVec.eq_of_toNat_eq; simp
  case or => apply BitVec.eq_of_toNat_eq; simp
  case xor => apply BitVec.eq_of_toNat_eq; simp
  case shl => simp [ofNat_shl]
  case shr => simp [ofNat_shr x.isLt]
  case sar => exact ofNat_sar x _
  case rol => exact ofNat_rolByte x (Nat.mod_lt _ (by decide))
  case ror =>
    rw [ofNat_rolByte x (Nat.mod_lt _ (by decide)), ← rotateLeft_eq_rotateRight, Nat.mod_mod]
  case min =>
    rw [Nat.min_def]
    split <;> exact ofNat_toNat_byte _
  case max =>
    rw [Nat.max_def]
    split <;> exact ofNat_toNat_byte _
  case mins =>
    simp only [byMeasure, toSigned_toNat, decide_eq_true_eq]
    split <;> exact ofNat_toNat_byte _
  case addsu =>
    rw [Nat.min_def]
    split <;> simp [BitVec.ofNat_add]

/-- The opcode of an A-unit row and the byte of its table answer each other. -/
theorem mem_zipIdx_of_mem {p : Binary} (h : p ∈ aUnit) : ∃ op, (p, op) ∈ aUnit.zipIdx := by
  obtain ⟨op, hop⟩ := List.mem_iff_getElem?.mp h
  exact ⟨op, List.mk_mem_zipIdx_iff_getElem?.mpr hop⟩

theorem ofNat_aluPlain_nat {p : Binary} {op vx vy : Nat} (h : (p, op) ∈ aUnit.zipIdx) (hx : vx < 256) (hy : vy < 256) :
    BitVec.ofNat 8 (aluPlain op vx vy) = p.2 (BitVec.ofNat 8 vx) (BitVec.ofNat 8 vy) := by
  have := ofNat_aluPlain _ h (BitVec.ofNat 8 vx) (BitVec.ofNat 8 vy)
  rwa [BitVec.toNat_ofNat, BitVec.toNat_ofNat, Nat.mod_eq_of_lt hx, Nat.mod_eq_of_lt hy] at this

/-- The opcode of an A-unit row is its place in the table (R230). -/
theorem exec_aUnit : ∀ q ∈ aUnit.zipIdx, ∀ (n : Fin 12) (x y z : BitVec 19) (s : State),
    exec (q.1.1 n x y z []) s = .next (issueRow n ⟨1, q.2, x, y, z⟩ [] s) := by
  simp only [aUnit, List.zipIdx_cons, List.zipIdx_nil, List.forall_mem_cons, List.not_mem_nil, false_imp_iff, implies_true,
    and_true, Nat.reduceAdd]
  refine ⟨?_, ?_, ?_, ?_, ?_, ?_, ?_, ?_, ?_, ?_, ?_, ?_, ?_, ?_, ?_, ?_⟩ <;> exact fun _ _ _ _ _ => rfl

/-! ## The issue of a bundle (R210, R211) -/

/-! ### Changes of one Drover -/

variable {n : Fin 12} {u w : State}

@[simp] theorem modDrv_drovers_self (f : Drover → Drover) : (u.modDrv n f).drovers[n] = f u.drovers[n] := by
  simp [State.modDrv]

theorem modDrv_drovers_of_ne {k : Fin 12} (h : k ≠ n) (f : Drover → Drover) : (u.modDrv n f).drovers[k] = u.drovers[k] := by
  simp [State.modDrv, Fin.val_ne_of_ne h.symm]

@[simp] theorem modDrv_modDrv (f g : Drover → Drover) : (u.modDrv n f).modDrv n g = u.modDrv n fun d => g (f d) := by
  simp [State.modDrv]

theorem modDrv_congr {f g : Drover → Drover} (h : f u.drovers[n] = g u.drovers[n]) : u.modDrv n f = u.modDrv n g := by
  rw [State.modDrv, h, State.modDrv]

theorem modDrv_eq_self {f : Drover → Drover} (h : f u.drovers[n] = u.drovers[n]) : u.modDrv n f = u := by
  rw [State.modDrv, h]
  exact congrArg (fun ds => { u with drovers := ds }) (Vector.set_getElem_self n.isLt)

theorem modDrv_poke (f : Drover → Drover) (a : Nat) (bs : List Byte) :
    (u.modDrv n f).poke a bs = (u.poke a bs).modDrv n f := rfl

/-- A change of a Drover's local bytes alone, by these bytes alone. -/
structure RamOnly (f : Drover → Drover) : Prop where
  rest : ∀ d, f d = { d with ram := (f d).ram }
  ram : ∀ d e : Drover, d.ram = e.ram → (f d).ram = (f e).ram

theorem RamOnly.comp {f g : Drover → Drover} (hg : RamOnly g) (hf : RamOnly f) : RamOnly fun d => g (f d) where
  rest d := by
    rw [hg.rest, hf.rest]
  ram d e h := hg.ram _ _ (hf.ram d e h)

theorem RamOnly.with_issuing {f : Drover → Drover} (hf : RamOnly f) (d : Drover) (b : Bool) :
    f { d with issuing := b } = { f d with issuing := b } :=
  calc f { d with issuing := b }
    _ = { d with issuing := b, ram := (f { d with issuing := b }).ram } := hf.rest _
    _ = { d with issuing := b, ram := (f d).ram } := by rw [hf.ram { d with issuing := b } d rfl]
    _ = { f d with issuing := b } := by rw [hf.rest d]

theorem RamOnly.id : RamOnly fun d => d := ⟨fun _ => rfl, fun _ _ h => h⟩

theorem ramOnly_memStore (a : Nat) (bs : List Byte) : RamOnly fun d => { d with ram := memStore a bs d.ram } :=
  ⟨fun _ => rfl, fun d e h => by simp only [h]⟩

theorem ramOnly_applyRx (e : RxEffect) : RamOnly (·.applyRx e) where
  rest d := by cases e <;> rfl
  ram d d' h := by cases e <;> simp [Drover.applyRx, Drover.setRx, Drover.setByte, Drover.byte, h]

theorem ramOnly_bump (o : BitVec 19) : RamOnly (bump o) where
  rest d := by unfold bump; split <;> rfl
  ram d d' h := by
    unfold bump
    split <;> simp [Drover.setPair, Drover.setByte, Drover.pair, Drover.byte, h]

theorem ramOnly_bumps (os : List (BitVec 19)) : RamOnly fun d => os.foldl (fun d o => bump o d) d := by
  induction os with
  | nil => exact .id
  | cons o os ih => exact ih.comp (ramOnly_bump o)

/-! ### A Drover that issues -/

/-- Drover `n` is marked as one whose bundle is on its way. -/
def markIssuing (n : Fin 12) (u : State) : State := u.modDrv n fun d => { d with issuing := true }

theorem drv_markIssuing : (markIssuing n u).drovers[n] = { u.drovers[n] with issuing := true } := modDrv_drovers_self _

theorem modDrv_markIssuing {f : Drover → Drover} (hf : RamOnly f) :
    (markIssuing n u).modDrv n f = markIssuing n (u.modDrv n f) := by
  unfold markIssuing
  rw [modDrv_modDrv, modDrv_modDrv]
  exact modDrv_congr (hf.with_issuing _ _)

theorem put_markIssuing (x : Field) (v : Nat) : (markIssuing n u).put x v = markIssuing n (u.put x v) := rfl

theorem stored_markIssuing (a : Nat) (bs : List Byte) : stored n a bs (markIssuing n u) = markIssuing n (stored n a bs u) := by
  unfold stored
  split
  · exact modDrv_markIssuing (ramOnly_memStore a bs)
  · simp only [markIssuing, windowOff, modDrv_drovers_self, modDrv_poke]
    rfl

/-! ### The end of a bundle that falls through (R216, R237) -/

theorem byte_setByte_of_ne {a k : Nat} (h : k ≠ a) (d : Drover) (v : Nat) : (d.setByte a v).byte k = d.byte k := by
  rw [Drover.byte, Drover.setByte, sget_sset_ne _ _ _ h, Drover.byte]

/-- A change of a Drover that leaves RX.ACT and RD. -/
structure KeepsRepeat (f : Drover → Drover) : Prop where
  act : ∀ d, (f d).act = d.act
  rd : ∀ d, (f d).rd = d.rd

theorem keepsRepeat_of_bytes {f : Drover → Drover} (h : ∀ d, ∀ k, 0x1C ≤ k → k ≤ 0x1E → (f d).byte k = d.byte k) :
    KeepsRepeat f where
  act d := by rw [Drover.act, h d 0x1E (by decide) (by decide), Drover.act]
  rd d := by
    rw [Drover.rd, Drover.pair, h d 0x1C (by decide) (by decide), h d 0x1D (by decide) (by decide), Drover.rd, Drover.pair]

theorem keepsRepeat_memStore {a : Nat} {bs : List Byte} (h : a + bs.length ≤ 0x1B ∨ 0x100 ≤ a) :
    KeepsRepeat fun d => { d with ram := memStore a bs d.ram } :=
  keepsRepeat_of_bytes fun d k _ _ => by
    rw [Drover.byte, sget_memStore, if_neg (by omega), Drover.byte]

/-- The bits of RX below ACT. -/
theorem keepsRepeat_setRx {i : Nat} (hi : i < 2) (b : Bool) : KeepsRepeat (·.setRx i b) where
  act d := by
    obtain rfl | rfl : i = 0 ∨ i = 1 := by omega
    all_goals
      simp only [Drover.act, Drover.byte, Drover.setRx, Drover.setByte, sget_sset_self, BitVec.toNat_ofNat, bitOf]
      congr 1
      cases b <;> simp only [setBit, clrBit, setBits, Bool.false_eq_true, if_true, if_false] <;> omega
  rd d := by simp only [Drover.rd, Drover.pair, Drover.setRx, byte_setByte_of_ne, ne_eq, Nat.reduceEqDiff, not_false_eq_true,
    Nat.reduceAdd]

theorem keepsRepeat_applyRx (e : RxEffect) : KeepsRepeat (·.applyRx e) := by
  cases e with
  | none => exact ⟨fun _ => rfl, fun _ => rfl⟩
  | hit => exact keepsRepeat_setRx (by decide) true
  | cy c => exact keepsRepeat_setRx (by decide) c
  | spill v => exact keepsRepeat_of_bytes fun d k _ hk => byte_setByte_of_ne (by omega) d v

theorem byte_bump (o : BitVec 19) (d : Drover) {k : Nat} (hk : 0x18 ≤ k) : (bump o d).byte k = d.byte k := by
  have hpair (v : Nat) : (d.setPair (8 + 2 * (o.toNat % 65536 / 8192)) v).byte k = d.byte k := by
    rw [Drover.setPair, byte_setByte_of_ne (by omega), byte_setByte_of_ne (by omega)]
  unfold bump
  split
  · exact hpair _
  · exact hpair _
  · rfl

theorem byte_bumps {k : Nat} (hk : 0x18 ≤ k) : ∀ (os : List (BitVec 19)) (d : Drover),
    (os.foldl (fun d o => bump o d) d).byte k = d.byte k
  | [], _ => rfl
  | o :: os, d => (byte_bumps hk os _).trans (byte_bump o d hk)

theorem keepsRepeat_bumps (os : List (BitVec 19)) : KeepsRepeat fun d => os.foldl (fun d o => bump o d) d :=
  keepsRepeat_of_bytes fun d _ hk _ => byte_bumps (by omega) os d

theorem byte_stored {a k : Nat} {bs : List Byte} (h : a + bs.length ≤ 0x1B ∨ 0x100 ≤ a) (hk : 0x1B ≤ k)
    (hk' : k < 0x100) : (stored n a bs u).drovers[n].byte k = u.drovers[n].byte k := by
  unfold stored
  split
  · rw [modDrv_drovers_self, Drover.byte, sget_memStore, if_neg (by omega), Drover.byte]
  · rfl

/-- `w` is what the writes of a bundle leave of `u` that touch bytes of the Serai and of Drover `n` alone, and neither
RX.ACT nor RD. -/
structure Wrote (n : Fin 12) (u w : State) : Prop where
  drv : w.drovers[n] = { u.drovers[n] with ram := w.drovers[n].ram }
  others : ∀ k, k ≠ n → w.drovers[k] = u.drovers[k]
  act : w.drovers[n].act = u.drovers[n].act
  rd : w.drovers[n].rd = u.drovers[n].rd

theorem Wrote.refl : Wrote n u u := ⟨rfl, fun _ _ => rfl, rfl, rfl⟩

theorem Wrote.modDrv (h : Wrote n u w) {f : Drover → Drover} (hf : RamOnly f) (hk : KeepsRepeat f) :
    Wrote n u (w.modDrv n f) where
  drv := by
    rw [modDrv_drovers_self, hf.rest, h.drv]
  others k hne := (modDrv_drovers_of_ne hne f).trans (h.others k hne)
  act := by rw [modDrv_drovers_self, hk.act, h.act]
  rd := by rw [modDrv_drovers_self, hk.rd, h.rd]

theorem wrote_stored {a : Nat} {bs : List Byte} (h : a + bs.length ≤ 0x1B ∨ 0x100 ≤ a) : Wrote n u (stored n a bs u) := by
  unfold stored
  split
  · exact Wrote.refl.modDrv (ramOnly_memStore a bs) (keepsRepeat_memStore h)
  · exact ⟨rfl, fun _ _ => rfl, rfl, rfl⟩

theorem Wrote.step (h : Wrote n u w) (hstep : ∀ k : Fin 12, u.drovers[k].step = false) (k : Fin 12) :
    w.drovers[k].step = false := by
  by_cases hk : k = n
  · subst hk
    rw [h.drv]
    exact hstep k
  · rw [h.others k hk]
    exact hstep k

theorem unmarked {d : Drover} (hissuing : d.issuing = false) (hhalt : d.halt = false) :
    { d with issuing := false, halt := false } = d := by
  cases d
  cases hissuing
  cases hhalt
  rfl

theorem takeDue_none (h : u.drovers[n].due = []) : takeDue n u = none := by rw [takeDue, h]

/-- At the boundary the mark goes, and nothing else happens where neither HALT nor a vector waits. -/
theorem boundary_markIssuing (hissuing : w.drovers[n].issuing = false) (hhalt : w.drovers[n].halt = false)
    (hdue : w.drovers[n].due = []) : boundary n (markIssuing n w) = w := by
  have hmark : (markIssuing n w).modDrv n (fun d => { d with issuing := false, halt := false }) = w := by
    rw [markIssuing, modDrv_modDrv]
    exact modDrv_eq_self (unmarked hissuing hhalt)
  have hhalt' : (markIssuing n w).drovers[n].halt = false := by rw [drv_markIssuing, ← hhalt]
  unfold boundary
  dsimp only
  rw [hmark, hhalt', takeDue_none hdue]
  simp

theorem act_eq_acting (n : Fin 12) (u : State) : u.drovers[n].act = acting n u := by
  rw [Drover.act, acting, bitOf, Nat.testBit_eq_decide_div_mod_eq]
  rfl

theorem loopBack_of_noLoop (h : NoLoop n u) {d : Drover} (hact : d.act = u.drovers[n].act) (hrd : d.rd = u.drovers[n].rd)
    (next : Nat) : loopBack (pcOf n u) next d = (d, next) := by
  unfold loopBack
  rw [hact, hrd, act_eq_acting]
  refine if_neg fun hand => ?_
  obtain ⟨hrepeat, hend⟩ := Bool.and_eq_true_iff.mp hand
  rcases h with h | h
  · exact Bool.noConfusion (h.symm.trans hrepeat)
  · exact h (beq_iff_eq.mp hend)

/-- A bundle that falls through leaves what it wrote, with the PC past it. -/
theorem boundary_fall {next : Nat} (hready : Ready1 n u) (hloop : NoLoop n u) (hw : Wrote n u w) (hnext : next ≤ 8191) :
    boundary n (finish n (pcOf n u) next .fall (markIssuing n w)) = w.put (F.DRV_n_PC_PC n) next := by
  obtain ⟨-, -, hdue, hissuing, hhalt, -⟩ := hready
  have hact : (markIssuing n w).drovers[n].act = u.drovers[n].act := by rw [drv_markIssuing, ← hw.act]; rfl
  have hrd : (markIssuing n w).drovers[n].rd = u.drovers[n].rd := by rw [drv_markIssuing, ← hw.rd]; rfl
  rw [finish, complete, loopBack_of_noLoop hloop hact hrd]
  dsimp only
  rw [modDrv_eq_self rfl, goTo, if_pos hnext, put_markIssuing]
  exact boundary_markIssuing (by rw [put_drovers, hw.drv]; exact hissuing) (by rw [put_drovers, hw.drv]; exact hhalt)
    (by rw [put_drovers, hw.drv]; exact hdue)

/-! ### Operands that are read (R209, R226, R227) -/

theorem byte_lt (d : Drover) (a : Nat) : d.byte a < 256 := BitVec.isLt _

theorem windowOff_add {a i : Nat} (h : 0x8000 ≤ a ∧ a + i < 0xC000 ∨ 0xC000 ≤ a) :
    windowOff n (a + i) u = windowOff n a u + i := by
  unfold windowOff
  rcases h with h | h
  · rw [if_pos (by omega), if_pos (by omega)]
    omega
  · rw [if_neg (by omega), if_neg (by omega)]
    omega

/-- Each byte of a sound operand is sound. -/
theorem sound_byte {a w i : Nat} (h : Sound n a w u) (hi : i < w) : Sound n (a + i) 1 u := by
  rcases h with h | ⟨hwin, hpoison, herrs, hsafe, htandem, hheld, hend⟩
  · exact .inl (by omega)
  · refine .inr ⟨by omega, hpoison, herrs, hsafe, htandem, hheld, ?_⟩
    rw [windowOff_add (by omega)]
    omega

theorem placeOf_local {a : Nat} (h : a < 0x8000) (ws : Windows) : placeOf ws a = .loc a := if_pos h

/-- A window address below the register page leads to its place in the Serai. -/
theorem placeOf_window {a : Nat} (hlow : 0x8000 ≤ a) (hhigh : a < 0xF000) (h : windowOff n a u < serSize) :
    placeOf u.drovers[n].windows a = .serai (windowOff n a u) := by
  unfold placeOf
  rw [if_neg (by omega)]
  unfold windowOff at h ⊢
  split
  · rw [if_pos ‹_›] at h
    exact if_pos h
  · rw [if_neg ‹_›] at h
    exact if_pos h

theorem decodeG_no_poison (herrs : u.ser.errs = []) (hpoison : u.ser.poison = []) (m g : Nat) : (decodeG m g u).1 = false := by
  unfold decodeG
  rw [if_neg (by simp [hpoison])]
  dsimp only
  rw [if_pos (errOf_of_no_errs herrs g)]

/-- A read of sound storage changes nothing but the list of the granules read. -/
theorem seraiByte_clean {r : Reading} (herrs : r.st.ser.errs = []) (hpoison : r.st.ser.poison = []) (off : Nat) :
    ∃ seen, seraiByte n off r = (r.st.byte off, { r with seen := seen }) := by
  unfold seraiByte
  dsimp only
  split
  · exact ⟨r.seen, rfl⟩
  · refine ⟨r.seen ++ [off / 16], ?_⟩
    rw [decodeG_clean herrs hpoison, decodeG_no_poison herrs hpoison, Bool.or_false]

theorem readPlace_sound {r : Reading} {a : Nat} (h : Sound n a 1 r.st) :
    ∃ seen, readPlace n (placeOf r.st.drovers[n].windows a) r = (cell n r.st a, { r with seen := seen }) := by
  unfold cell
  rcases h with h | ⟨hwin, hpoison, herrs, -, -, -, hend⟩
  · rw [placeOf_local (by omega), if_pos (by omega)]
    exact ⟨r.seen, rfl⟩
  · rw [placeOf_window (by omega) (by omega) (by unfold serSize; omega), if_neg (by omega)]
    exact seraiByte_clean herrs hpoison _

theorem readPlaces_sound {s : State} : ∀ (as : List Nat), (∀ a ∈ as, Sound n a 1 s) → ∀ r : Reading, r.st = s →
    ∃ seen, readPlaces n (as.map (placeOf s.drovers[n].windows)) r = (as.map (cell n s), { r with seen := seen })
  | [], _, r, _ => ⟨r.seen, rfl⟩
  | a :: as, h, r, hr => by
    subst hr
    obtain ⟨seen, ha⟩ := readPlace_sound (h a (by simp))
    obtain ⟨seen', has⟩ := readPlaces_sound as (fun b hb => h b (by simp [hb])) { r with seen := seen } rfl
    refine ⟨seen', ?_⟩
    simp only [List.map_cons, readPlaces, ha, has]

/-- The bytes of a sound operand are read as they stand. -/
theorem readPlaces_operand {a w : Nat} (h : Sound n a w u) {r : Reading} (hr : r.st = u) :
    ∃ seen, readPlaces n (placesOf u.drovers[n].windows a w) r =
      ((List.range w).map fun i => cell n u (a + i), { r with seen := seen }) := by
  have hplaces : placesOf u.drovers[n].windows a w = ((List.range w).map (a + ·)).map (placeOf u.drovers[n].windows) := by
    rw [placesOf, List.map_map]
    refine List.map_congr_left fun i hi => ?_
    have hlow : a + i < 65536 := by rcases sound_byte h (List.mem_range.mp hi) with h | ⟨h, -⟩ <;> omega
    rw [Nat.mod_eq_of_lt hlow]
    rfl
  obtain ⟨seen, hread⟩ := readPlaces_sound ((List.range w).map (a + ·)) (by
    intro b hb
    obtain ⟨i, hi, rfl⟩ := List.mem_map.mp hb
    exact sound_byte h (List.mem_range.mp hi)) r hr
  exact ⟨seen, by rw [hplaces, hread, List.map_map]; rfl⟩

/-- The signed displacement of a pointer (R226). -/
theorem toNat_disp {p low : Nat} (hlow : low < 8192) : (((p : Int) + toSigned 13 low) % 65536).toNat =
    (if low < 4096 then p + low else p + 65536 - (8192 - low)) % 65536 := by
  unfold toSigned
  simp only [Nat.reduceSub, Nat.reducePow, Nat.mod_eq_of_lt hlow]
  split <;> split <;> omega

/-- An operand that names an address decodes to a form with that effective address. -/
theorem effAddr_of_at {o : BitVec 19} {r : Reading} {a : Nat} (h : At n o a r.st) :
    ∃ p seen, decodeOperand o = some p ∧ p.isImm = false ∧
      effAddr n r.st.drovers[n] p r = (a, { r with seen := seen }) := by
  have hlow : o.toNat % 65536 % 8192 < 8192 := Nat.mod_lt _ (by decide)
  obtain ⟨m, hm⟩ : ∃ m, o.toNat / 65536 = m := ⟨_, rfl⟩
  simp only [At, hm] at h
  simp only [decodeOperand, hm]
  split at h
  case h_1 => exact ⟨_, r.seen, rfl, rfl, by rw [effAddr, h]⟩
  case h_2 => exact ⟨_, r.seen, rfl, rfl, by rw [effAddr, h, Drover.p, toNat_disp hlow]⟩
  case h_3 => exact ⟨_, r.seen, rfl, rfl, by rw [effAddr, h, Drover.p]⟩
  case h_4 => exact ⟨_, r.seen, rfl, rfl, by rw [effAddr, h, Drover.p]⟩
  case h_5 =>
    obtain ⟨hindex, ha⟩ := h
    exact ⟨_, r.seen, if_pos (by omega), rfl, by rw [effAddr, ha, Drover.p, Drover.g]⟩
  case h_6 =>
    obtain ⟨hsound, ha⟩ := h
    obtain ⟨seen, hread⟩ := readPlaces_operand hsound rfl
    refine ⟨_, seen, rfl, rfl, ?_⟩
    simp only [effAddr, hread, ha]
    rfl
  case h_7 => exact h.elim

/-- What an operand of one byte reads as (R227). -/
theorem reads_one {o : BitVec 19} {v : Nat} : Reads n o 1 v u ↔
    o.toNat / 65536 = 1 ∧ v = o.toNat % 256 ∨ ∃ a, At n o a u ∧ Sound n a 1 u ∧ v = cells n a 1 u := by
  simp [Reads]

/-- An operand of one byte that is read. -/
theorem readOperand_src {o : BitVec 19} {r : Reading} {v : Nat} (h : Reads n o 1 v r.st) :
    ∃ x seen, readOperand n r.st.drovers[n] (.src 1) o r = (x, { r with seen := seen }) ∧ x.v = v := by
  rcases reads_one.mp h with ⟨hmode, rfl⟩ | ⟨a, hat, hsound, rfl⟩
  · have hdecode : decodeOperand o = some (.imm (o.toNat % 65536)) := by simp only [decodeOperand, hmode]
    refine ⟨_, r.seen, by rw [readOperand, hdecode], ?_⟩
    simp [immBytes, leBytes, leNat]
  · obtain ⟨p, seen, hdecode, himm, haddr⟩ := effAddr_of_at hat
    obtain ⟨seen', hread⟩ := readPlaces_operand hsound (r := { r with seen := seen }) rfl
    refine ⟨⟨_, a, placesOf r.st.drovers[n].windows a 1⟩, seen', ?_, rfl⟩
    cases p
    case imm => cases himm
    all_goals
      rw [readOperand, hdecode]
      simp only [haddr, Nat.reduceEqDiff, if_false, hread]
      rfl

/-- An operand of one byte that is written. -/
theorem readOperand_dst {o : BitVec 19} {r : Reading} {a : Nat} (h : At n o a r.st) :
    ∃ seen, readOperand n r.st.drovers[n] (.dst 1) o r =
      (⟨0, a, placesOf r.st.drovers[n].windows a 1⟩, { r with seen := seen }) := by
  obtain ⟨p, seen, hdecode, himm, haddr⟩ := effAddr_of_at h
  refine ⟨seen, ?_⟩
  cases p
  case imm => cases himm
  all_goals
    rw [readOperand, hdecode]
    simp only [haddr, Nat.reduceEqDiff, if_false]

theorem roleOk_src {o : BitVec 19} {v : Nat} (h : Reads n o 1 v u) : roleOk (.src 1) o = true := by
  rcases reads_one.mp h with ⟨hmode, -⟩ | ⟨a, hat, -⟩
  · simp [roleOk, decodeOperand, hmode]
  · obtain ⟨p, -, hdecode, -⟩ := effAddr_of_at (r := ⟨u, false, [], false⟩) hat
    simp [roleOk, hdecode]

theorem roleOk_dst {o : BitVec 19} {a : Nat} (h : At n o a u) : roleOk (.dst 1) o = true := by
  obtain ⟨p, -, hdecode, himm, -⟩ := effAddr_of_at (r := ⟨u, false, [], false⟩) h
  simp [roleOk, hdecode, himm]

theorem readCount_le (r : Role) (o : BitVec 19) : readCount r o ≤ 2 := by
  have hown : readCount.own r ≤ 1 := by cases r <;> simp [readCount.own]
  unfold readCount
  split <;> omega

theorem cells_one_lt (a : Nat) : cells n a 1 u < 256 := by
  simpa [cells] using leNat_lt ((List.range 1).map fun i => cell n u (a + i))

theorem reads_lt {o : BitVec 19} {v : Nat} (h : Reads n o 1 v u) : v < 256 := by
  rcases reads_one.mp h with ⟨-, rfl⟩ | ⟨a, -, -, rfl⟩
  · exact Nat.mod_lt _ (by decide)
  · exact cells_one_lt a

/-! ### A byte that is written -/

/-- No protection stands before open storage below the MANIFEST bay (R42, R47, R48, R156, R310). -/
theorem writeBlocked_open {m off : Nat} (h : Open off 1 u) : writeBlocked m off u = none := by
  obtain ⟨⟨-, -, hsafe, htandem, -, hend⟩, hledger⟩ := h
  have hsize : ¬serSize ≤ off := by unfold serSize; omega
  have hslot (k : Nat) : inSlot k off = false := by
    rw [inSlot, slotBase, decide_eq_false (by omega), Bool.false_and]
  have hmirror : u.isMirror = false := by rw [State.isMirror, htandem, Bool.false_and]
  have hgroup : (u.inBay Bay.ledger off && decide (1 ≤ (off - u.bayBase Bay.ledger) / 16 % 16) &&
      decide ((off - u.bayBase Bay.ledger) / 16 % 16 ≤ 6)) = false := by
    cases hbay : u.inBay Bay.ledger off with
    | false => rfl
    | true =>
      have := hledger off le_rfl (Nat.lt_succ_self off) hbay
      simp only [Bool.true_and, Bool.and_eq_false_iff, decide_eq_false_iff_not]
      omega
  unfold writeBlocked
  simp only [if_neg hsize, hsafe, hslot, hmirror, hgroup, Bool.false_and, Bool.and_false, Bool.false_eq_true, if_false]

theorem journals_false (htandem : u.tandem = false) : u.journals = false := by
  rw [State.journals, State.isActive, htandem]
  rfl

theorem clear_of_clean (hpoison : u.ser.poison = []) (herrs : u.ser.errs = []) (g : Nat) :
    { u with ser := { u.ser with poison := ndel g u.ser.poison, errs := sdel g u.ser.errs } } = u := by
  rw [hpoison, herrs]
  change { u with ser := { u.ser with poison := [], errs := [] } } = u
  rw [← hpoison, ← herrs]

/-- A byte stored in sound memory outside a Tandem changes that byte alone. -/
theorem storeG_clean {m off : Nat} {b : Byte} (hpoison : u.ser.poison = []) (herrs : u.ser.errs = [])
    (htandem : u.tandem = false) : storeG m off [b] u = u.poke off [b] := by
  have hclear := clear_of_clean (u := u.poke off [b]) hpoison herrs (off / 16)
  have hread : (if u.ser.poison.contains (off / 16) then (true, u) else decodeG m (off / 16) u) = (false, u) := by
    rw [hpoison]
    exact Prod.ext (decodeG_no_poison herrs hpoison m _) (decodeG_clean herrs hpoison m _)
  have hjournals : (u.poke off [b]).journals = false := journals_false htandem
  unfold storeG
  simp only [List.length_cons, List.length_nil, Nat.reduceAdd, Nat.reduceBEq, Bool.false_eq_true, if_false, hread, hclear]
  rw [journal_off hjournals, ite_self]

/-- A write to open storage below the MANIFEST bay lands (R156, R193). -/
theorem serWrite_open {m off : Nat} {b : Byte} (h : Open off 1 u) : serWrite m off [b] u = u.poke off [b] := by
  have hsplit : splitG 2 off [b] = [(off, [b])] := by
    obtain ⟨k, hk⟩ : ∃ k, 16 - off % 16 = k + 1 := ⟨15 - off % 16, by omega⟩
    simp [splitG, hk]
  have hblocked := writeBlocked_open (m := m) h
  obtain ⟨⟨hpoison, herrs, -, htandem, ⟨hheld, -⟩, -⟩, -⟩ := h
  have hroom : u.noRoom m off = false := by rw [State.noRoom, journals_false htandem]; rfl
  have hwaits : u.waitsRoom m = false := by rw [State.waitsRoom, hheld]; rfl
  unfold serWrite
  rw [show [b].length / 16 + 2 = 2 by simp, hsplit]
  show writeG m off [b] u = _
  unfold writeG
  rw [hblocked]
  dsimp only
  rw [hroom, hwaits]
  exact storeG_clean hpoison herrs htandem

theorem placesOf_byte {a : Nat} (h : a < 65536) (ws : Windows) : placesOf ws a 1 = [placeOf ws a] := by
  simp [placesOf, List.range_one, Nat.mod_eq_of_lt h]

/-- G, P, RC and the local RAM hold every bit that is written (R209). -/
theorem setLocalByte_plain {a : Nat} (h : a + 1 ≤ 0x1B ∨ 0x100 ≤ a) (b : Byte) :
    setLocalByte n a b u = u.modDrv n fun d => { d with ram := memStore a [b] d.ram } := by
  have hmask : BitVec.ofNat 8 (b.toNat &&& engineMask a) = b := by
    rw [engineMask, if_neg (by omega), if_neg (by omega), show 0xFF = 2 ^ 8 - 1 from rfl,
      Nat.and_two_pow_sub_one_of_lt_two_pow b.isLt]
    exact ofNat_toNat_byte b
  unfold setLocalByte
  rw [if_neg (by omega), if_neg (by omega), if_neg (by omega), if_neg (by omega), if_neg (by omega), if_neg (by omega), hmask]
  rfl

/-- A byte written where it holds is stored (R209, R227). -/
theorem writeVal_byte {a : Nat} (h : Holds n a 1 u) (v : Nat) :
    writeVal n (placesOf u.drovers[n].windows a 1) v u = stored n a [BitVec.ofNat 8 v] u := by
  obtain ⟨hopen, hplain⟩ := h
  have hlow : a < 65536 := by rcases hopen with h | ⟨h, -⟩ <;> omega
  rw [placesOf_byte hlow, stored]
  change writePlaces n [(placeOf u.drovers[n].windows a, BitVec.ofNat 8 v)] u = _
  rcases hopen with hlocal | ⟨hwin, hopen⟩
  · rw [placeOf_local (by omega), if_pos (by omega), writePlaces, writePlaces, setLocalByte_plain hplain]
  · have ⟨⟨_, _, _, _, _, hend⟩, _⟩ := hopen
    rw [placeOf_window (by omega) (by omega) (by unfold serSize; omega), if_neg (by omega), writePlaces, writePlaces.go]
    exact serWrite_open hopen

/-! ### What the mark leaves -/

theorem localByte_markIssuing (a : Nat) : localByte n a (markIssuing n u) = localByte n a u := by
  unfold localByte estWord
  rw [drv_markIssuing]
  rfl

theorem windowOff_markIssuing (a : Nat) : windowOff n a (markIssuing n u) = windowOff n a u := by
  unfold windowOff
  rw [drv_markIssuing]
  rfl

theorem cell_markIssuing (a : Nat) : cell n (markIssuing n u) a = cell n u a := by
  unfold cell
  rw [localByte_markIssuing, windowOff_markIssuing]
  rfl

theorem cells_markIssuing (a w : Nat) : cells n a w (markIssuing n u) = cells n a w u := by
  unfold cells
  simp only [cell_markIssuing]

theorem sound_markIssuing (a w : Nat) : Sound n a w (markIssuing n u) = Sound n a w u := by
  unfold Sound InPart
  rw [windowOff_markIssuing]
  rfl

theorem holds_markIssuing (a w : Nat) : Holds n a w (markIssuing n u) = Holds n a w u := by
  unfold Holds InPart
  rw [windowOff_markIssuing]
  rfl

theorem byte_markIssuing (k : Nat) : (markIssuing n u).drovers[n].byte k = u.drovers[n].byte k := by
  rw [drv_markIssuing]
  rfl

theorem at_markIssuing (o : BitVec 19) (a : Nat) : At n o a (markIssuing n u) = At n o a u := by
  simp only [At, Drover.pair, byte_markIssuing, cells_markIssuing, sound_markIssuing]

theorem reads_markIssuing (o : BitVec 19) (w v : Nat) : Reads n o w v (markIssuing n u) = Reads n o w v u := by
  simp only [Reads, at_markIssuing, cells_markIssuing, sound_markIssuing]

/-! ### The bundle -/

/-- The pointer change of an operand, as it is decoded, is the one that its mode names (R228). -/
theorem stepPointers_operand (o : BitVec 19) (d : Drover) :
    stepPointers ((decodeOperand o).bind Operand.step).toList d = bump o d := by
  obtain ⟨m, hm⟩ : ∃ m, o.toNat / 65536 = m := ⟨_, rfl⟩
  have hlow : o.toNat % 65536 % 8192 = o.toNat % 8192 := by omega
  simp only [decodeOperand, bump, hm, hlow]
  split
  case h_6 => split <;> rfl
  case h_8 => split <;> trivial
  all_goals rfl

/-- The pointer changes of a syllable are those of its operands (R228). -/
theorem stepPointers_operands (d : Drover) (os : List (BitVec 19)) :
    stepPointers (os.filterMap fun o => (decodeOperand o).bind Operand.step) d = os.foldl (fun d o => bump o d) d := by
  induction os generalizing d with
  | nil => rfl
  | cons o os ih =>
    rw [List.foldl_cons, ← ih, ← stepPointers_operand, List.filterMap_cons]
    cases (decodeOperand o).bind Operand.step <;> rfl

theorem pc_of_ready (h : Ready1 n u) : pcOf n u < 8191 := by
  obtain ⟨-, -, -, -, -, -, -, -, -, hpc⟩ := h
  exact hpc

theorem step_of_ready (h : Ready1 n u) (k : Fin 12) : u.drovers[k].step = false := by
  obtain ⟨-, -, -, -, -, -, hstep, -⟩ := h
  exact hstep k

theorem canIssue_of_ready (h : Ready1 n u) : canIssue n u = true := by
  obtain ⟨hrun, ⟨haborted, hheld⟩, -, -, -, -, -, hirq, hbrk, -⟩ := h
  have hinterrupt : interruptReady n u = false := by
    unfold interruptReady
    rcases hirq with h | h | h <;>
      simp only [h, Bool.and_false, Bool.false_and, Bool.not_true, bne_self_eq_false]
  have hbreak : (u.on (F.DRV_n_CTL_BRKEN n) && u.get (F.DRV_n_BRK_ADDR n) == u.get (F.DRV_n_PC_PC n)) = false :=
    Bool.and_eq_false_iff.mpr (hbrk.imp_right beq_eq_false_iff_ne.mpr)
  unfold canIssue
  rw [hrun, hheld, hinterrupt, hbreak, bne_iff_ne.mpr haborted]
  rfl

/-- A bundle that traps nowhere, reads without poison and asks for no transfer leaves what its syllables wrote, its pointers
moved and the PC past it. -/
theorem issueBundle_fall {b : List Syl} {rs : List Ready} {seen : List Nat} {os : List (BitVec 19)} (hready : Ready1 n u)
    (hloop : NoLoop n u) (hstatic : staticTrap (u.on (F.DRV_n_STAT_PERS n)) (pcOf n u) b = 0)
    (hstring : b.any (·.isString) = false)
    (hread : readBundle n (markIssuing n u).drovers[n] (u.on (F.DRV_n_STAT_PERS n)) b ⟨markIssuing n u, false, [], false⟩ =
      (rs, ⟨markIssuing n u, false, seen, false⟩))
    (hend : bundleEnd (u.on (F.DRV_n_STAT_PERS n)) u.debugLocked rs = .fall)
    (hwrite : rs.foldl (sylWrite n (markIssuing n u).drovers[n] (u.on (F.DRV_n_STAT_PERS n))) (markIssuing n u) =
      markIssuing n w)
    (hw : Wrote n u w) (hnext : pcOf n u + b.length ≤ 8191)
    (hsteps : b.flatMap (Syl.steps (u.on (F.DRV_n_STAT_PERS n))) = os.filterMap fun o => (decodeOperand o).bind Operand.step) :
    issueBundle n b u = passTo n os (pcOf n u + b.length) w := by
  have hstart : startString (pcOf n u) b (markIssuing n u).drovers[n] = (b, (markIssuing n u).drovers[n]) := by
    rw [startString, hstring, if_pos (by simp)]
  have hissuing : (markIssuing n w).drovers[n].issuing = true := by rw [drv_markIssuing]
  have hbumps : (markIssuing n w).modDrv n (stepPointers (b.flatMap (Syl.steps (u.on (F.DRV_n_STAT_PERS n))))) =
      markIssuing n (w.modDrv n fun d => os.foldl (fun d o => bump o d) d) := by
    rw [← modDrv_markIssuing (ramOnly_bumps os), hsteps]
    exact modDrv_congr (stepPointers_operands _ os)
  have hmark : (u.modDrv n fun d => { d with issuing := true }) = markIssuing n u := rfl
  unfold issueBundle
  dsimp only
  rw [hmark, ← pcOf, hstatic, if_neg (by simp), hstart]
  dsimp only
  rw [modDrv_eq_self rfl, hread]
  dsimp only
  rw [hend, hwrite, hbumps]
  simp only [hissuing, endTrap, Bool.not_true, Bool.false_eq_true, if_false, ne_eq, not_true_eq_false]
  exact boundary_fall hready hloop (hw.modDrv (ramOnly_bumps os) (keepsRepeat_bumps os)) hnext

/-! ## Syllables of the A unit (R230) -/

/-- A byte that an operand names is written (R227). -/
theorem names_one {o : BitVec 19} {a : Nat} : Names n o 1 a u ↔ At n o a u ∧ Holds n a 1 u := by
  simp [Names]

/-- What an operand names of the engine registers is G, P and RC (R209). -/
theorem plain_of_names {o : BitVec 19} {a : Nat} (h : Names n o 1 a u) : a + 1 ≤ 0x1B ∨ 0x100 ≤ a := by
  obtain ⟨-, -, hplain⟩ := names_one.mp h
  exact hplain

theorem staticTrap_aUnit {rec_ : Bool} {pc op vx vy a : Nat} {x y z : BitVec 19} (hpc : pc < 8191) (hx : Reads n x 1 vx u)
    (hy : Reads n y 1 vy u) (hz : At n z a u) : staticTrap rec_ pc [⟨1, op, x, y, z⟩] = 0 := by
  have hreads := readCount_le (.src 1) x
  have hreads' := readCount_le (.src 1) y
  have hreads'' := readCount_le (.dst 1) z
  have hlegal : Syl.legal rec_ ⟨1, op, x, y, z⟩ = true := by
    simp only [Syl.legal, roles, roleOk_src hx, roleOk_src hy, roleOk_dst hz, Bool.and_self]
  have hcounts : Syl.counts rec_ ⟨1, op, x, y, z⟩ =
      (readCount (.src 1) x + readCount (.src 1) y + readCount (.dst 1) z, 1) := rfl
  unfold staticTrap
  rw [if_neg (by rw [List.length_singleton]; omega), if_neg (by simp [hcounts, unitsRise]; omega), if_neg (by simp [hlegal])]

/-- The one syllable of the A unit is read: its operands' values, and nothing but the list of the granules read changes. -/
theorem readBundle_aUnit {rec_ : Bool} {op vx vy a : Nat} {x y z : BitVec 19} (hx : Reads n x 1 vx u) (hy : Reads n y 1 vy u)
    (hz : At n z a u) : ∃ (xv yv : Val) (seen : List Nat), xv.v = vx ∧ yv.v = vy ∧
      readBundle n u.drovers[n] rec_ [⟨1, op, x, y, z⟩] ⟨u, false, [], false⟩ =
        ([⟨⟨1, op, x, y, z⟩, xv, yv, ⟨0, a, placesOf u.drovers[n].windows a 1⟩⟩], ⟨u, false, seen, false⟩) := by
  obtain ⟨xv, seenx, hreadx, hxv⟩ := readOperand_src (r := ⟨u, false, [], false⟩) hx
  obtain ⟨yv, seeny, hready, hyv⟩ := readOperand_src (r := ⟨u, false, seenx, false⟩) hy
  obtain ⟨seen, hreadz⟩ := readOperand_dst (r := ⟨u, false, seeny, false⟩) hz
  refine ⟨xv, yv, seen, hxv, hyv, ?_⟩
  simp only [readBundle, roles, hreadx, hready, hreadz]

theorem wrote_aUnit {a : Nat} (hplain : a + 1 ≤ 0x1B ∨ 0x100 ≤ a) (b : Byte) (e : RxEffect) :
    Wrote n u ((stored n a [b] u).modDrv n (·.applyRx e)) :=
  (wrote_stored hplain).modDrv (ramOnly_applyRx e) (keepsRepeat_applyRx e)

/-- What a syllable of the A unit writes. -/
theorem sylWrite_aUnit {rec_ : Bool} {d : Drover} {op : Nat} {x y z : BitVec 19} {xv yv zv : Val} :
    sylWrite n d rec_ u ⟨⟨1, op, x, y, z⟩, xv, yv, zv⟩ =
      (writeVal n zv.ps (alu op xv.v yv.v d.act d.cy d.spill).1 u).modDrv n
        (·.applyRx (alu op xv.v yv.v d.act d.cy d.spill).2) := rfl

section

variable {op vx vy a : Nat} {x y z : BitVec 19} (hready : Ready1 n u) (hloop : NoLoop n u) (hx : Reads n x 1 vx u)
  (hy : Reads n y 1 vy u) (hz : Names n z 1 a u)

include hready hloop hx hy hz

/-- A syllable of the A unit, alone in its bundle, stores its result and what it does to RX (R230, R238). -/
theorem issueBundle_aUnit {v : Nat} {e : RxEffect}
    (hresult : alu op vx vy u.drovers[n].act u.drovers[n].cy u.drovers[n].spill = (v, e)) :
    issueBundle n [⟨1, op, x, y, z⟩] u = passTo n [x, y, z] (pcOf n u + 1)
      ((stored n a [BitVec.ofNat 8 v] u).modDrv n (·.applyRx e)) := by
  obtain ⟨hat, hholds⟩ := names_one.mp hz
  have hpc := pc_of_ready hready
  rw [← reads_markIssuing] at hx hy
  rw [← at_markIssuing] at hat
  have hwrote := wrote_aUnit (n := n) (u := u) hholds.2 (BitVec.ofNat 8 v) e
  rw [← holds_markIssuing] at hholds
  obtain ⟨xv, yv, seen, rfl, rfl, hread⟩ := readBundle_aUnit (rec_ := u.on (F.DRV_n_STAT_PERS n)) (op := op) hx hy hat
  refine issueBundle_fall (b := [⟨1, op, x, y, z⟩]) hready hloop (staticTrap_aUnit hpc hx hy hat) rfl hread rfl ?_ hwrote hpc
    (List.flatMap_singleton _ _)
  rw [List.foldl_cons, List.foldl_nil]
  have halu : alu op xv.v yv.v (markIssuing n u).drovers[n].act (markIssuing n u).drovers[n].cy
      (markIssuing n u).drovers[n].spill = (v, e) := by rw [drv_markIssuing]; exact hresult
  rw [sylWrite_aUnit, halu, writeVal_byte hholds, stored_markIssuing, modDrv_markIssuing (ramOnly_applyRx e)]

/-- The row of a syllable of the A unit, alone in its bundle. -/
theorem issueRow_aUnit {v : Nat} {e : RxEffect}
    (hresult : alu op vx vy u.drovers[n].act u.drovers[n].cy u.drovers[n].spill = (v, e)) :
    issueRow n ⟨1, op, x, y, z⟩ [] u = passTo n [x, y, z] (pcOf n u + 1)
      ((stored n a [BitVec.ofNat 8 v] u).modDrv n (·.applyRx e)) := by
  have hwrote := (wrote_aUnit (n := n) (u := u) (plain_of_names hz) (BitVec.ofNat 8 v) e).modDrv (ramOnly_bumps [x, y, z])
    (keepsRepeat_bumps [x, y, z])
  rw [issueRow, if_pos (canIssue_of_ready hready)]
  change runSteps 12 (issueBundle n [⟨1, op, x, y, z⟩] u) = _
  rw [issueBundle_aUnit hready hloop hx hy hz hresult]
  exact runSteps_idle 12 (hwrote.step (step_of_ready hready))

/-- A row whose result does not depend on the repeat writes the byte of its table and leaves RX. -/
theorem issues_plain {p : Binary} (hp : (p, op) ∈ aUnit.zipIdx)
    (hplain : alu op vx vy u.drovers[n].act u.drovers[n].cy u.drovers[n].spill = (aluPlain op vx vy, .none)) :
    ∃ t, exec (p.1 n x y z []) u = .next t ∧
      t = passTo n [x, y, z] (pcOf n u + 1) (stored n a [p.2 (BitVec.ofNat 8 vx) (BitVec.ofNat 8 vy)] u) := by
  refine ⟨_, exec_aUnit _ hp n x y z u, ?_⟩
  rw [issueRow_aUnit hready hloop hx hy hz hplain, ofNat_aluPlain_nat hp (reads_lt hx) (reads_lt hy), modDrv_eq_self rfl]

/-- A repeat-aware row in a repeat writes its result and what it passes on in RX (R238). -/
theorem issues_aware {c : Instr} (hc : ∀ s, exec c s = .next (issueRow n ⟨1, op, x, y, z⟩ [] s)) (hact : acting n u = true)
    {v : Nat} {e : RxEffect}
    (hresult : aluRepeat op vx vy u.drovers[n].cy u.drovers[n].spill = (v, e)) {b : Byte} (hb : BitVec.ofNat 8 v = b)
    {f : Drover → Drover} (hf : ∀ d : Drover, d.byte 0x1E = u.drovers[n].byte 0x1E → d.applyRx e = f d) :
    ∃ t, exec c u = .next t ∧ t = passTo n [x, y, z] (pcOf n u + 1) ((stored n a [b] u).modDrv n f) := by
  subst hb
  have halu : alu op vx vy u.drovers[n].act u.drovers[n].cy u.drovers[n].spill = (v, e) := by
    rw [act_eq_acting, hact, alu, if_pos rfl, hresult]
  refine ⟨_, hc u, ?_⟩
  rw [issueRow_aUnit hready hloop hx hy hz halu]
  exact congrArg _ (modDrv_congr (hf _ (byte_stored (plain_of_names hz) (by decide) (by decide))))

end

/-! ### Results in a repeat (R238) -/

/-- Opcodes that are not repeat-aware. -/
theorem alu_of_not_aware {op : Nat} (h : op ∉ [0, 1, 6, 7]) (vx vy : Nat) (act cy : Bool) (spill : Nat) :
    alu op vx vy act cy spill = (aluPlain op vx vy, .none) := by
  simp only [List.mem_cons, List.not_mem_nil, or_false, not_or] at h
  obtain ⟨h0, h1, h6, h7⟩ := h
  unfold alu aluRepeat
  cases act with
  | false => rfl
  | true =>
    rw [if_pos rfl]
    dsimp only
    split
    exacts [absurd rfl h0, absurd rfl h1, absurd rfl h6, absurd rfl h7, rfl]

/-- The opcodes that are repeat-aware are those of ADD, SUB, SHL and SHR (R230). -/
theorem aware_mem {n : Fin 12} {x y z : BitVec 19} : ∀ q ∈ aUnit.zipIdx, q.2 ∈ [0, 1, 6, 7] →
    q.1.1 n x y z [] ∈ [Instr.add n x y z [], Instr.sub n x y z [], Instr.shl n x y z [], Instr.shr n x y z []] := by
  simp only [aUnit, List.zipIdx_cons, List.zipIdx_nil, List.forall_mem_cons, List.not_mem_nil, false_imp_iff, implies_true,
    and_true, Nat.reduceAdd]
  simp

theorem aluRepeat_add (x y : Nat) (cy : Bool) (spill : Nat) :
    aluRepeat 0 x y cy spill = ((x + y + b2n cy) % 256, .cy (255 < x + y + b2n cy)) := rfl

theorem aluRepeat_sub (x y : Nat) (cy : Bool) (spill : Nat) :
    aluRepeat 1 x y cy spill = ((x + 512 - y - b2n cy) % 256, .cy (x < y + b2n cy)) := rfl

theorem aluRepeat_shl (x y : Nat) (cy : Bool) (spill : Nat) :
    aluRepeat 6 x y cy spill = ((x * 2 ^ (y % 8) ||| spill / 2 ^ (8 - y % 8)) % 256, .spill x) := rfl

theorem aluRepeat_shr (x y : Nat) (cy : Bool) (spill : Nat) :
    aluRepeat 7 x y cy spill = (x / 2 ^ (y % 8) ||| spill * 2 ^ (8 - y % 8) % 256, .spill x) := rfl

theorem cy_eq (d : Drover) : b2n d.cy = d.byte 0x1E % 2 := by
  unfold b2n Drover.cy bitOf
  have := Nat.mod_two_eq_zero_or_one (d.byte 0x1E)
  rcases this with h | h <;> simp [h]

theorem b2n_decide (q : Prop) [Decidable q] : b2n (decide q) = if q then 1 else 0 := by
  unfold b2n
  by_cases h : q <;> simp [h]

/-- The carry out of a sum of two bytes and a carry. -/
theorem b2n_carry {r : Nat} (h : r < 512) : b2n (decide (255 < r)) = r / 256 := by
  rw [b2n_decide]
  split <;> omega

/-- CY is bit 0 of RX. -/
theorem applyRx_cy (d : Drover) (c : Bool) : d.applyRx (.cy c) = d.setByte 0x1E (d.byte 0x1E / 2 * 2 + b2n c) := by
  unfold Drover.applyRx Drover.setRx
  cases c <;> simp [setBit, clrBit, setBits, b2n, Nat.mod_one, add_comm]

/-! ### The statement -/

/-- Settles O34: each A-unit row comes to `issueRow_aUnit`, whose result is the table's byte, and in a repeat the one that takes
CY or SPILL and leaves them. -/
theorem arithmeticWritesResults : Obligations.ArithmeticWritesResults := by
  refine ⟨?plain, ?unaware, ?add, ?sub, ?shl, ?shr⟩
  case plain =>
    rintro p n x y z vx vy a hp u ⟨hready, hact, hx, hy, hz⟩
    obtain ⟨op, hop⟩ := mem_zipIdx_of_mem hp
    refine issues_plain hready (.inl hact) hx hy hz hop ?_
    rw [act_eq_acting, hact]
    rfl
  case unaware =>
    rintro p n x y z vx vy a hp hnot u ⟨hready, hloop, hx, hy, hz⟩
    obtain ⟨op, hop⟩ := mem_zipIdx_of_mem hp
    exact issues_plain hready hloop hx hy hz hop
      (alu_of_not_aware (fun h => hnot (aware_mem _ hop h)) _ _ _ _ _)
  case add =>
    rintro n x y z vx vy a u ⟨hready, hact, hloop, hx, hy, hz⟩
    have hvx := reads_lt hx
    have hvy := reads_lt hy
    refine issues_aware hready hloop hx hy hz (fun _ => rfl) hact (aluRepeat_add _ _ _ _) ?_ fun d hd => ?_
    · rw [ofNat_mod_256, cy_eq]
    · rw [applyRx_cy, hd, cy_eq, b2n_carry (by omega)]
  case sub =>
    rintro n x y z vx vy a u ⟨hready, hact, hloop, hx, hy, hz⟩
    refine issues_aware hready hloop hx hy hz (fun _ => rfl) hact (aluRepeat_sub _ _ _ _) ?_ fun d hd => ?_
    · rw [ofNat_mod_256, cy_eq, Nat.add_comm vx]
    · rw [applyRx_cy, hd, cy_eq, b2n_decide]
  case shl =>
    rintro n x y z vx vy a u ⟨hready, hact, hloop, hx, hy, hz⟩
    refine issues_aware hready hloop hx hy hz (fun _ => rfl) hact (aluRepeat_shl _ _ _ _) ?_ fun d _ => rfl
    rw [ofNat_mod_256, BitVec.ofNat_or, ofNat_shl, Drover.spill, ofNat_shr (byte_lt _ _)]
  case shr =>
    rintro n x y z vx vy a u ⟨hready, hact, hloop, hx, hy, hz⟩
    refine issues_aware hready hloop hx hy hz (fun _ => rfl) hact (aluRepeat_shr _ _ _ _) ?_ fun d _ => rfl
    rw [BitVec.ofNat_or, ofNat_shr (reads_lt hx), ofNat_mod_256, ofNat_shl, Drover.spill]

end Sys2Proof.Proofs

namespace Sys2Proof.Proofs

open Sys2Proof.Machine Sys2Proof.Claims

/-! ## Shaping (R255 to R267) -/

/-! ### Bytes of the store as lists and as numbers -/

theorem leNat_leBytes (n v : Nat) : leNat (leBytes n v) = v % 256 ^ n := by
  induction n generalizing v with
  | zero => simp [leBytes, leNat, Nat.mod_one]
  | succ n ih => rw [leBytes, leNat, BitVec.toNat_ofNat, ih, Nat.pow_succ' (m := 256), Nat.mod_mul (a := 256)]

@[simp] theorem length_leBytes (n v : Nat) : (leBytes n v).length = n := by
  induction n generalizing v with
  | zero => rfl
  | succ n ih => rw [leBytes, List.length_cons, ih]

@[simp] theorem length_bytesAt (s : State) (a n : Nat) : (s.bytesAt a n).length = n := by simp [State.bytesAt]

theorem getElem_bytesAt {s : State} {a n i : Nat} (h : i < (s.bytesAt a n).length) : (s.bytesAt a n)[i] = s.byte (a + i) := by
  simp [State.bytesAt]

theorem bytesAt_congr {s t : State} {a n : Nat} (h : ∀ i < n, t.byte (a + i) = s.byte (a + i)) :
    t.bytesAt a n = s.bytesAt a n := List.map_congr_left fun i hi => h i (List.mem_range.mp hi)

theorem bytesAt_append (s : State) (a n m : Nat) : s.bytesAt a n ++ s.bytesAt (a + n) m = s.bytesAt a (n + m) := by
  simp [State.bytesAt, List.range_add, Nat.add_assoc]

/-- A part of a range of bytes. -/
theorem bytesAt_slice (s : State) {a n k m : Nat} (h : k + m ≤ n) : ((s.bytesAt a n).drop k).take m = s.bytesAt (a + k) m :=
  List.ext_getElem (by simp; omega) fun i _ _ => by simp [getElem_bytesAt, Nat.add_assoc]

theorem numAt_bytesAt (s : State) {a n k m : Nat} (h : k + m ≤ n) : numAt (s.bytesAt a n) k m = num (a + k) m s := by
  rw [numAt, bytesAt_slice s h, num]

theorem num_lt (a n : Nat) (s : State) : num a n s < 256 ^ n := by simpa [num] using leNat_lt (s.bytesAt a n)

theorem num_congr {s t : State} {a n : Nat} (h : ∀ i < n, t.byte (a + i) = s.byte (a + i)) : num a n t = num a n s := by
  rw [num, bytesAt_congr h, num]

theorem byte_poke_apart {s : State} {k a : Nat} {bs : List Byte} (h : Apart k bs.length a 1) : (s.poke k bs).byte a = s.byte a := by
  rw [byte_poke, if_neg (by omega)]

theorem bytesAt_poke (s : State) (a : Nat) (bs : List Byte) : (s.poke a bs).bytesAt a bs.length = bs :=
  List.ext_getElem (by simp) fun i hi _ => by
    rw [getElem_bytesAt, byte_poke, if_pos (by simp at hi; omega), Nat.add_sub_cancel_left, List.getElem_eq_getD]

theorem memStore_append (a : Nat) (bs cs : List Byte) (m : List (Nat × Byte)) :
    memStore a (bs ++ cs) m = memStore (a + bs.length) cs (memStore a bs m) := by
  induction bs generalizing a m with
  | nil => rfl
  | cons b bs ih => rw [List.cons_append, memStore, ih, memStore, List.length_cons, Nat.add_assoc, Nat.add_comm 1]

theorem poke_append (s : State) (a : Nat) (bs cs : List Byte) : s.poke a (bs ++ cs) = (s.poke a bs).poke (a + bs.length) cs := by
  simp only [State.poke, memStore_append]

/-- Rewriting a range as it stands but for a part of it changes that part alone. -/
theorem byte_poke_patch {s u : State} {a n k x : Nat} {bs : List Byte} (hk : k + bs.length ≤ n)
    (h : ∀ i < n, s.byte (a + i) = u.byte (a + i)) :
    (s.poke a (patch (u.bytesAt a n) k bs)).byte x = (s.poke (a + k) bs).byte x := by
  have hlen : (patch (u.bytesAt a n) k bs).length = n := by simp [patch]; omega
  rw [byte_poke, byte_poke, hlen]
  by_cases hin : a ≤ x ∧ x < a + n
  · obtain ⟨i, rfl⟩ : ∃ i, x = a + i := ⟨x - a, by omega⟩
    rw [if_pos hin, Nat.add_sub_cancel_left, ← List.getElem_eq_getD (h := by omega)]
    unfold patch
    by_cases hlow : i < k
    · rw [if_neg (by omega), h i (by omega), List.getElem_append_left (by simp; omega), List.getElem_append_left (by simp; omega),
        List.getElem_take, getElem_bytesAt]
    · by_cases hmid : i < k + bs.length
      · rw [if_pos (by omega), List.getElem_append_left (by simp; omega), List.getElem_append_right (by simp; omega),
          List.getElem_eq_getD (fallback := 0)]
        congr 1
        simp
        omega
      · rw [if_neg (by omega), h i (by omega), List.getElem_append_right (by simp; omega), List.getElem_drop, getElem_bytesAt]
        congr 2
        simp
        omega
  · rw [if_neg hin, if_neg (by omega)]

/-! ### Plain storage is read and written as it stands (R193, R197) -/

theorem storage_part {u : State} {a n k m : Nat} (h : Storage a n u) (hk : k + m ≤ a + n) : Storage k m u := by
  obtain ⟨hpoison, herrs, hsafe, htandem, hheld, hend⟩ := h
  exact ⟨hpoison, herrs, hsafe, htandem, hheld, by omega⟩

theorem open_part {u : State} {a n k m : Nat} (h : Open a n u) (hk : a ≤ k ∧ k + m ≤ a + n) : Open k m u :=
  ⟨storage_part h.1 hk.2, fun x hx hx' => h.2 x (by omega) (by omega)⟩

theorem decodeRange_clean {u : State} (herrs : u.ser.errs = []) (hpoison : u.ser.poison = []) (m a n : Nat) :
    decodeRange m a n u = (false, u) :=
  (granules a n).foldlRecOn (motive := fun acc : Bool × State => acc = (false, u)) _ rfl fun acc hacc g _ => by
    rw [hacc]
    simp only [decodeG_no_poison herrs hpoison, decodeG_clean herrs hpoison, Bool.or_false]

theorem serRead_storage {u : State} {a n : Nat} (h : Storage a n u) (m k w : Nat) :
    serRead m k w u = (u.bytesAt k w, false, u) := by
  obtain ⟨hpoison, herrs, -, -, ⟨hheld, -⟩, -⟩ := h
  unfold serRead
  rw [decodeRange_clean herrs hpoison]
  simp [State.bytesFor, hheld]

/-- Bytes stored in sound memory outside a Tandem change those bytes alone. -/
theorem storeG_bytes {u : State} {m a : Nat} {bs : List Byte} (hpoison : u.ser.poison = []) (herrs : u.ser.errs = [])
    (htandem : u.tandem = false) : storeG m a bs u = u.poke a bs := by
  have hclear := clear_of_clean (u := u.poke a bs) hpoison herrs (a / 16)
  have hdecode : (if u.ser.poison.contains (a / 16) then (true, u) else decodeG m (a / 16) u) = (false, u) := by
    rw [hpoison]
    exact Prod.ext (decodeG_no_poison herrs hpoison m _) (decodeG_clean herrs hpoison m _)
  have hjournals : (u.poke a bs).journals = false := journals_false htandem
  unfold storeG
  simp only [hdecode, ite_self, Bool.false_eq_true, if_false, hclear]
  rw [journal_off hjournals, ite_self]

theorem writeG_open {u : State} {m a : Nat} (h : Open a 1 u) (bs : List Byte) : writeG m a bs u = u.poke a bs := by
  have hblocked := writeBlocked_open (m := m) h
  obtain ⟨⟨hpoison, herrs, -, htandem, ⟨hheld, -⟩, -⟩, -⟩ := h
  have hroom : u.noRoom m a = false := by rw [State.noRoom, journals_false htandem]; rfl
  have hwaits : u.waitsRoom m = false := by rw [State.waitsRoom, hheld]; rfl
  unfold writeG
  rw [hblocked]
  dsimp only
  rw [hroom, hwaits]
  exact storeG_bytes hpoison herrs htandem

/-- The pieces of a write land one after the other. -/
theorem forAll_splitG {m fuel a : Nat} {bs : List Byte} {u : State} (h : Open a bs.length u)
    (hfuel : a % 16 + bs.length ≤ 16 * fuel) : forAll (splitG fuel a bs) (fun p s => writeG m p.1 p.2 s) u = u.poke a bs := by
  induction fuel generalizing a bs u with
  | zero =>
    obtain rfl : bs = [] := List.length_eq_zero_iff.mp (by omega)
    rfl
  | succ fuel ih =>
    cases bs with
    | nil => rfl
    | cons b bs =>
      obtain ⟨k, hk⟩ : ∃ k, 16 - a % 16 = k := ⟨_, rfl⟩
      have hcut : (b :: bs).take k ++ (b :: bs).drop k = b :: bs := List.take_append_drop k _
      generalize hcs : b :: bs = cs at *
      have hpos : 0 < cs.length := by rw [← hcs]; exact Nat.succ_pos _
      have hsplit : splitG (fuel + 1) a cs = (a, cs.take k) :: splitG fuel (a + k) (cs.drop k) := by
        rw [← hcs, splitG, hk]
        exact List.cons_ne_nil b bs
      have hrest : (u.poke a (cs.take k)).poke (a + k) (cs.drop k) = u.poke a cs := by
        by_cases hle : k ≤ cs.length
        · rw [← hcut, poke_append, List.length_take, Nat.min_eq_left hle, hcut]
        · rw [List.drop_eq_nil_of_le (by omega), List.take_of_length_le (by omega)]
          rfl
      rw [hsplit, ← hrest]
      change forAll (splitG fuel (a + k) (cs.drop k)) _ (writeG m a (cs.take k) u) = _
      rw [writeG_open (open_part h (by omega))]
      by_cases hle : k ≤ cs.length
      · refine ih (u := u.poke a (cs.take k)) (open_part (u := u) h ?_) ?_ <;> rw [List.length_drop] <;> omega
      · rw [List.drop_eq_nil_of_le (by omega)]
        cases fuel <;> rfl

theorem serWrite_bytes {u : State} {m a : Nat} {bs : List Byte} (h : Open a bs.length u) : serWrite m a bs u = u.poke a bs :=
  forAll_splitG h (by omega)

/-! ### Events leave the Serai as it stands -/

theorem msixRaise_ser (v : Fin 64) (s : State) : (msixRaise v s).ser = s.ser := by
  unfold msixRaise
  split
  · split
    · rfl
    · rw [Proofs.inc_ser, emit_ser]
  · rfl

theorem raiseVector_ser (v : Fin 64) (s : State) : (raiseVector v s).ser = s.ser := by
  unfold raiseVector
  dsimp only
  split
  · rfl
  · split
    · rw [emit_ser, msixRaise_ser, bitOn_ser]
    · rw [msixRaise_ser, bitOn_ser]

theorem when_ser {c : Bool} {f : State → State} (hf : ∀ s, (f s).ser = s.ser) (s : State) : (s.when c f).ser = s.ser := by
  cases c with
  | false => rfl
  | true => exact hf s

theorem tmrLatch_ser (n : Nat) (s : State) : (tmrLatch n s).ser = s.ser := by
  unfold tmrLatch
  dsimp only
  rw [flag_ser, put_ser, when_ser fun t => flag_ser t _]

theorem tmrCapture_ser (n : Nat) (s : State) : (tmrCapture n s).ser = s.ser := by
  unfold tmrCapture
  dsimp only
  split
  · rw [tmrLatch_ser, tmrLatch_ser]
  · exact tmrLatch_ser n s

theorem consume_ser (k : Consumer) (s : State) : (consume k s).ser = s.ser := by
  cases k with
  | none => rfl
  | drover n i => exact bitOn_ser s _ i
  | vector v => exact raiseVector_ser v s
  | tally => exact puts_ser _ s
  | timer n => exact when_ser (tmrCapture_ser n) s
  | relay c => rfl

theorem loopDrop_ser (c o k : Nat) (s : State) : (loopDrop c o k s).ser = s.ser := by
  rw [loopDrop, flag_ser, Proofs.inc_ser, puts_ser]

theorem deliver_ser (e : Ev) (s : State) : (deliver e s).2.ser = s.ser := by
  unfold deliver
  split
  · split
    · rfl
    · dsimp only
      split
      · exact loopDrop_ser _ _ _ s
      · split
        · exact loopDrop_ser _ _ _ s
        · exact Proofs.inc_ser _ s
    · split
      · split
        · exact Proofs.inc_ser _ s
        · rfl
      · exact (Proofs.inc_ser _ _).trans (consume_ser _ s)
  · rfl

theorem mergeEv_ser (es acc : List Ev) (s : State) : (mergeEv es acc s).2.ser = s.ser := by
  induction es generalizing acc s with
  | nil => rfl
  | cons e es ih =>
    unfold mergeEv
    split
    · exact ih _ s
    · exact (ih _ _).trans (Proofs.inc_ser _ s)

theorem fabric_ser (fuel : Nat) (es : List Ev) (s : State) : (fabric fuel es s).ser = s.ser := by
  induction fuel generalizing es s with
  | zero => rfl
  | succ fuel ih =>
    have hcycle (p : List Ev × State) (l : List Ev) : (l.foldl (fun (acc : List Ev × State) e =>
        (acc.1 ++ (deliver e acc.2).1.toList, (deliver e acc.2).2)) p).2.ser = p.2.ser :=
      l.foldlRecOn (motive := fun acc : List Ev × State => acc.2.ser = p.2.ser) _ rfl
        fun acc hacc e _ => (deliver_ser e acc.2).trans hacc
    unfold fabric
    dsimp only
    split
    · exact (hcycle _ _).trans (mergeEv_ser es [] s)
    · exact (ih _ _).trans ((hcycle _ _).trans (mergeEv_ser es [] s))

theorem produce_ser (p : Nat) (s : State) : (produce p s).ser = s.ser := by
  unfold produce
  split
  · rfl
  · exact fabric_ser _ _ s

/-! ### What a command of SHP leaves before its end -/

/-- The writes of `l` to the store, the first of the list made last. -/
def pokes : List (Nat × List Byte) → State → State
  | [], s => s
  | p :: l, s => (pokes l s).poke p.1 p.2

/-- The counters and the shown tokens of SHP. -/
abbrev ShpShown (o : Nat) : Prop := 0xC0140 ≤ o ∧ o < 0xC01C0

/-- `w` is `u` but for the writes `l` to the store, the class tokens, and the counters and shown tokens at `offs`. -/
structure Ran (offs : List Nat) (l : List (Nat × List Byte)) (u w : State) : Prop where
  rest : w = { u with regs := w.regs, tok := w.tok, ser := { u.ser with mem := w.ser.mem } }
  reg : ∀ o ∉ offs, w.reg o = u.reg o
  shown : ∀ o ∈ offs, ShpShown o
  byte : ∀ a, w.byte a = (pokes l u).byte a

section
variable {offs : List Nat} {l : List (Nat × List Byte)} {u w : State}

theorem Ran.refl (hoffs : ∀ o ∈ offs, ShpShown o) : Ran offs [] u u := ⟨rfl, fun _ _ => rfl, hoffs, fun _ => rfl⟩

theorem Ran.put (h : Ran offs l u w) {f : Field} (hf : f.off ∈ offs) (v : Nat) : Ran offs l u (w.put f v) := by
  refine ⟨?_, fun o ho => ?_, h.shown, h.byte⟩
  · rw [h.rest]
    rfl
  · rw [reg_put_ne w f v (by rintro rfl; exact ho hf)]
    exact h.reg o ho

theorem Ran.inc (h : Ran offs l u w) {f : Field} (hf : f.off ∈ offs) : Ran offs l u (w.inc f) := h.put hf _

theorem Ran.setTokens (h : Ran offs l u w) {c : Nat} (hc : R.SHP_TOK_n c ∈ offs) (v : Nat) :
    Ran offs l u (setTokens c v w) := by
  refine Ran.put (w := { w with tok := w.tok.set c v }) ⟨?_, h.reg, h.shown, h.byte⟩ hc _
  rw [h.rest]

theorem Ran.get (h : Ran offs l u w) {f : Field} (hf : ¬ShpShown f.off) : w.get f = u.get f :=
  get_congr (h.reg _ fun hmem => hf (h.shown _ hmem))

theorem Ran.signals (h : Ran offs l u w) {offs' : List Nat} (hsub : ∀ o ∈ offs, o ∈ offs') :
    Signals offs' { u with ser := w.ser, tok := w.tok } w :=
  ⟨by rw [h.rest], keepsButLog_refl w, fun o ho _ => h.reg o fun hmem => ho (hsub o hmem)⟩

theorem Ran.tan (h : Ran offs l u w) : w.tan = u.tan := by rw [h.rest]

theorem Ran.bayBase (h : Ran offs l u w) {c : Nat} (hc : c < 8) : w.bayBase c = u.bayBase c := by
  rw [State.bayBase, h.get (by simp only [F.MAN_BAY_n_BASE]; omega), State.bayBase]

theorem Ran.baySize (h : Ran offs l u w) {c : Nat} (hc : c < 8) : w.baySize c = u.baySize c := by
  rw [State.baySize, h.get (by simp only [F.MAN_BAY_n_SIZE]; omega), State.baySize]

theorem Ran.ledger (h : Ran offs l u w) (node : Nat) : w.ledger node = u.ledger node := by
  rw [State.ledger, h.bayBase (by decide), State.ledger]

/-- What was open stays open. -/
theorem Ran.open_ (h : Ran offs l u w) {a n : Nat} (ha : Open a n u) : Open a n w := by
  obtain ⟨⟨hpoison, herrs, hsafe, htandem, ⟨hheld, hstalled⟩, hend⟩, hledger⟩ := ha
  have hser : w.ser = { u.ser with mem := w.ser.mem } := by rw [h.rest]
  have hfaults : w.faults = u.faults := by rw [h.rest]
  refine ⟨⟨by rw [hser, hpoison], by rw [hser, herrs], by rw [hfaults, hsafe], ?_, ?_, hend⟩, fun x hx hx' hbay => ?_⟩
  · rw [State.tandem, State.on, h.get (by decide)]
    exact htandem
  · rw [Unheld, h.tan]
    exact ⟨hheld, hstalled⟩
  · rw [State.inBay, h.bayBase (by decide), h.baySize (by decide)] at hbay
    rw [h.bayBase (by decide)]
    exact hledger x hx hx' hbay

/-- A write to open storage. -/
theorem Ran.serWrite (h : Ran offs l u w) {m a : Nat} {bs : List Byte} (ha : Open a bs.length u) :
    Ran offs ((a, bs) :: l) u (serWrite m a bs w) := by
  rw [serWrite_bytes (h.open_ ha)]
  refine ⟨?_, h.reg, h.shown, fun x => ?_⟩
  · rw [h.rest]
    rfl
  · rw [byte_poke, h.byte, pokes, byte_poke]

/-- A write elsewhere leaves a byte as it stood. -/
theorem byte_pokes_apart {a : Nat} (h : ∀ p ∈ l, Apart p.1 p.2.length a 1) : (pokes l u).byte a = u.byte a := by
  induction l with
  | nil => rfl
  | cons p l ih =>
    obtain ⟨hp, hl⟩ := List.forall_mem_cons.mp h
    rw [pokes, byte_poke_apart hp, ih hl]

theorem Ran.byte_apart (h : Ran offs l u w) {a : Nat} (ha : ∀ p ∈ l, Apart p.1 p.2.length a 1) : w.byte a = u.byte a :=
  (h.byte a).trans (byte_pokes_apart ha)

/-- A write that puts back a range of `u` as it stood but for a part of it. -/
theorem Ran.serWrite_patch (h : Ran offs l u w) {m a n k : Nat} {bs : List Byte} (ha : Open a n u) (hk : k + bs.length ≤ n)
    (hl : ∀ p ∈ l, Apart p.1 p.2.length a n) :
    Ran offs ((a + k, bs) :: l) u (Machine.serWrite m a (patch (u.bytesAt a n) k bs) w) := by
  have hlen : (patch (u.bytesAt a n) k bs).length = n := by simp [patch]; omega
  have hwhole := h.serWrite (m := m) (bs := patch (u.bytesAt a n) k bs) (hlen.symm ▸ ha)
  refine ⟨hwhole.rest, hwhole.reg, hwhole.shown, fun x => (hwhole.byte x).trans ?_⟩
  refine byte_poke_patch hk fun i hi => byte_pokes_apart fun p hp => ?_
  have := hl p hp
  omega

/-- A write of two runs of bytes is two writes. -/
theorem Ran.split {a : Nat} {bs cs : List Byte} (h : Ran offs ((a, bs ++ cs) :: l) u w) :
    Ran offs ((a + bs.length, cs) :: (a, bs) :: l) u w :=
  ⟨h.rest, h.reg, h.shown, fun x => by rw [h.byte, pokes, poke_append]; rfl⟩

/-- Of writes to places apart each is found as it was made. -/
theorem bytesAt_pokes {a : Nat} {bs : List Byte} (hl : l.Pairwise fun p q => Apart p.1 p.2.length q.1 q.2.length)
    (hmem : (a, bs) ∈ l) : (pokes l u).bytesAt a bs.length = bs := by
  induction l with
  | nil => cases hmem
  | cons p l ih =>
    obtain ⟨hp, hl⟩ := List.pairwise_cons.mp hl
    rw [pokes]
    rcases List.mem_cons.mp hmem with rfl | hmem
    · exact bytesAt_poke _ a bs
    · refine (bytesAt_congr fun i hi => byte_poke_apart ?_).trans (ih hl hmem)
      have := hp _ hmem
      dsimp only at this
      omega

theorem Ran.num_of_mem (h : Ran offs l u w) {a n v : Nat} (hl : l.Pairwise fun p q => Apart p.1 p.2.length q.1 q.2.length)
    (hmem : (a, leBytes n v) ∈ l) : num a n w = v % 256 ^ n := by
  have hfound := bytesAt_pokes (u := u) hl hmem
  rw [length_leBytes] at hfound
  rw [num, bytesAt_congr fun i _ => h.byte (a + i), hfound, leNat_leBytes]

end

/-! ### The end of a command (R262, R263) -/

theorem numAt_bytesAt_zero (s : State) {a n m : Nat} (h : m ≤ n) : numAt (s.bytesAt a n) 0 m = num a m s :=
  numAt_bytesAt s (by omega)

theorem signalReg_shp {o : Nat} (h : o / 0x10000 = 0xC) : signalReg o = false := by
  have hsig (p : Nat) (hp : p / 0x10000 ≠ 0xC) : o ≠ p := by rintro rfl; exact hp h
  unfold signalReg
  simp only [Bool.or_eq_false_iff, Bool.and_eq_false_iff, List.contains_eq_mem, decide_eq_false_iff_not, beq_eq_false_iff_ne,
    List.any_eq_false, List.mem_range, beq_iff_eq]
  refine ⟨⟨⟨⟨?_, by omega⟩, fun n hn => hsig _ ?_⟩, by omega⟩, by omega⟩
  · simp [hsig R.SYS_FAULT_CUR (by decide), hsig R.SYS_FAULT_PEND (by decide), hsig R.SYS_FAULT_LOST (by decide),
      hsig (R.HST_VPEND_h 0) (by decide), hsig (R.HST_VPEND_h 1) (by decide), hsig (R.HST_CNT_k 2) (by decide)]
  · simp only [R.DRV_n_EVPEND]
    omega

/-- The result of a command in bytes, with the class's tokens `tok` (R262). -/
def resultBytes (a : ShpAnswer) (tok : Nat) : List Byte :=
  leBytes 1 a.status ++ [0] ++ leBytes 2 a.count ++ leBytes 4 a.head ++ leBytes 4 (tok / 256) ++ leBytes 4 a.ntok

@[simp] theorem length_resultBytes (a : ShpAnswer) (tok : Nat) : (resultBytes a tok).length = 16 := by simp [resultBytes]

/-- A command that left `w` has ended with answer `a`: its result stands at the entry, and nothing else of the store, no
token and no other register but those that signal differs from `w`. -/
structure ShpEnded (a : ShpAnswer) (c j off : Nat) (offs : List Nat) (l : List (Nat × List Byte)) (u w t : State) : Prop where
  ends : ShpEnds a.status a.count a.head a.ntok c j off u t
  only : ∀ at_ : Nat → Prop, (∀ x, ¬at_ x → ∀ p ∈ l, Apart p.1 p.2.length x 1) → ShpOnly offs j off at_ u t
  tan : t.tan = u.tan
  tok : t.tok = w.tok
  byte : ∀ x, Apart (off + 16) 16 x 1 → t.byte x = w.byte x
  get : ∀ f : Field, f.off ≠ R.SHP_RING_j_3 j → signalReg f.off = false → t.get f = w.get f
  ring : j < 2

section
variable {op fl node arg j off c : Nat} {offs : List Nat} {l : List (Nat × List Byte)} {u w t : State} {a : ShpAnswer}

theorem shpEnd_eq (ha : a.status ≠ shBadop) (hop : num off 1 u = op) (hfl : num (off + 1) 1 u = fl) :
    shpEnd j off (u.bytesAt off 16) a w = produce (Prod.shpDone j) ((shpRing j).pop (serWrite Master.unit (off + 16)
      (resultBytes a (w.tok.getD (fl % 8 + if op = 4 then 8 else 0) 0)) w)) := by
  have hstatus : (a.status == shBadop) = false := beq_false_of_ne ha
  unfold shpEnd
  rw [numAt_bytesAt_zero u (by decide), numAt_bytesAt u (by decide), hop, hfl, hstatus]
  rfl

/-- RD advances, and within its ring (R262). -/
theorem pop_shpRing (hj : u.get (shpRing j).rd < u.get (shpRing j).len) (h : Ran offs l u w) (hj2 : j < 2) :
    Popped (shpRing j) u ((shpRing j).pop w) := by
  have hrd : w.get (shpRing j).rd = u.get (shpRing j).rd := h.get (by simp only [shpRing, F.SHP_RING_j_RD]; omega)
  have hlen : w.get (shpRing j).len = u.get (shpRing j).len := h.get (by simp only [shpRing, F.SHP_RING_j_LEN]; omega)
  have hlt : u.get (shpRing j).len < 2 ^ 16 := get_lt (shpRing j).len
  rw [Popped, URing.pop, hrd, hlen, Nat.max_eq_right (by omega), get_put_same _ rfl]
  have := Nat.mod_lt (u.get (shpRing j).rd + 1) (show u.get (shpRing j).len > 0 by omega)
  exact Nat.mod_eq_of_lt (by simp only [shpRing, F.SHP_RING_j_RD] at *; omega)

/-- The ring's done event signals, and no more. -/
theorem signals_shpDone (j : Nat) (s : State) : Signals [] s (produce (Prod.shpDone j) s) := signals_produce (signals_refl [] s) _

theorem byte_end (j x v : Nat) (s : State) : (produce (Prod.shpDone j) (s.put (F.SHP_RING_j_RD j) x)).byte v = s.byte v := by
  rw [State.byte, produce_ser, put_ser, State.byte]

theorem tok_end (j x : Nat) (s : State) : (produce (Prod.shpDone j) (s.put (F.SHP_RING_j_RD j) x)).tok = s.tok := by
  obtain ⟨hrest, -, -⟩ := signals_shpDone j (s.put (F.SHP_RING_j_RD j) x)
  rw [hrest, put_tok]

theorem tan_end (j x : Nat) (s : State) : (produce (Prod.shpDone j) (s.put (F.SHP_RING_j_RD j) x)).tan = s.tan := by
  obtain ⟨hrest, -, -⟩ := signals_shpDone j (s.put (F.SHP_RING_j_RD j) x)
  rw [hrest, put_tan]

theorem get_end {f : Field} (hf : f.off ≠ R.SHP_RING_j_3 j) (hs : signalReg f.off = false) (x : Nat) (s : State) :
    (produce (Prod.shpDone j) (s.put (F.SHP_RING_j_RD j) x)).get f = s.get f :=
  (get_of_signals (signals_shpDone j _) List.not_mem_nil hs).trans (get_put_off s x hf)

theorem signals_end (h : Ran offs l u w) (x : Nat) :
    let t := produce (Prod.shpDone j) (w.put (F.SHP_RING_j_RD j) x)
    Signals (R.SHP_RING_j_3 j :: offs) { u with ser := t.ser, tok := t.tok } t := by
  dsimp only
  rw [produce_ser, put_ser, tok_end]
  exact signals_produce (signals_put (h.signals fun _ => List.mem_cons_of_mem _) _ x (.inl List.mem_cons_self)) _

/-- Every command that is not refused as BADOP ends like this. -/
theorem shpEnd_ended (hentry : ShpEntry op fl node arg j off u) (hc : (fl % 8 + if op = 4 then 8 else 0) = c)
    (h : Ran offs l u w) (ha : a.status ≠ shBadop) :
    ShpEnded a c j off offs l u w (shpEnd j off (u.bytesAt off 16) a w) := by
  obtain ⟨-, ⟨hj, -, -⟩, hrd, hop, hfl, -, -, -, -, -, -, hopen, -, -, -⟩ := hentry
  rw [shpEnd_eq ha hop hfl, hc]
  have hresult : Open (off + 16) (resultBytes a (w.tok.getD c 0)).length u := open_part hopen (by simp)
  have hran := h.serWrite (m := Master.unit) hresult
  rw [serWrite_bytes (h.open_ hresult)] at hran ⊢
  have hpopped := pop_shpRing hrd hran hj
  obtain ⟨x, hx⟩ : ∃ x, x = ((w.poke (off + 16) (resultBytes a (w.tok.getD c 0))).get (shpRing j).rd + 1) %
    max 1 ((w.poke (off + 16) (resultBytes a (w.tok.getD c 0))).get (shpRing j).len) := ⟨_, rfl⟩
  rw [URing.pop, ← hx] at hpopped ⊢
  have hapart (y : Nat) (hy : Apart (off + 16) 16 y 1) :
      (w.poke (off + 16) (resultBytes a (w.tok.getD c 0))).byte y = w.byte y :=
    byte_poke_apart (by rwa [length_resultBytes])
  have hrdSignal : signalReg (shpRing j).rd.off = false := signalReg_shp (by simp only [shpRing, F.SHP_RING_j_RD]; omega)
  refine ⟨⟨?_, ?_⟩, fun at_ hat => ⟨signals_end hran x, fun y hy hnot => ?_⟩, ?_, ?_, fun y hy => ?_, fun f hf hs => ?_, hj⟩
  · refine (bytesAt_congr fun i _ => byte_end j x (off + 16 + i) _).trans ?_
    rw [shpRing, tok_end]
    exact (length_resultBytes a _) ▸ bytesAt_poke w (off + 16) (resultBytes a (w.tok.getD c 0))
  · exact (get_of_signals (signals_shpDone j _) List.not_mem_nil hrdSignal).trans hpopped
  · exact (byte_end j x y _).trans ((hapart y hy).trans (h.byte_apart (hat y hnot)))
  · exact (tan_end j x _).trans h.tan
  · exact tok_end j x _
  · exact (byte_end j x y _).trans (hapart y hy)
  · exact get_end hf hs x _

theorem ShpEnded.num (h : ShpEnded a c j off offs l u w t) {x n : Nat} (hx : Apart (off + 16) 16 x n) : num x n t = num x n w :=
  num_congr fun i hi => h.byte (x + i) (by omega)

theorem ShpEnded.num_written (h : ShpEnded a c j off offs l u w t) (hw : Ran offs l u w) {x n v : Nat}
    (hl : l.Pairwise fun p q => Apart p.1 p.2.length q.1 q.2.length) (hx : Apart (off + 16) 16 x n)
    (hmem : (x, leBytes n v) ∈ l) : Claims.num x n t = v % 256 ^ n := (h.num hx).trans (hw.num_of_mem hl hmem)

theorem ShpEnded.bayBase (h : ShpEnded a c j off offs l u w t) (hw : Ran offs l u w) {b : Nat} (hb : b < 2) :
    t.bayBase b = u.bayBase b := by
  have hget : t.get (F.MAN_BAY_n_BASE b) = w.get (F.MAN_BAY_n_BASE b) := by
    refine h.get _ (by simp only [F.MAN_BAY_n_BASE, R.SHP_RING_j_3]; omega) ?_
    interval_cases b <;> decide
  rw [← hw.bayBase (by omega), State.bayBase, hget, State.bayBase]

/-- What SHP shows of counters and tokens stands as the command left it. -/
theorem ShpEnded.get_shown (h : ShpEnded a c j off offs l u w t) {f : Field} (hf : ShpShown f.off) : t.get f = w.get f := by
  have := h.ring
  exact h.get f (by simp only [R.SHP_RING_j_3]; omega) (signalReg_shp (by omega))

/-- A command that counts. -/
theorem ShpEnded.count {k : Nat} (h : ShpEnded a c j off offs l u (w.inc (F.SHP_CNT_k_COUNT k)) t) (hk : k < 8)
    (hw : w.get (F.SHP_CNT_k_COUNT k) = u.get (F.SHP_CNT_k_COUNT k)) : ShpCount k u t := by
  rw [ShpCount, h.get_shown (by simp only [ShpShown, F.SHP_CNT_k_COUNT]; omega), get_inc_same rfl, hw]
  rfl

/-! ### The entry that is served (R255, R262, R263) -/

theorem nextOf_entry {r : Nat → URing} (h : NextEntry r j off u) : nextOf r u = some (j, off) := by
  obtain ⟨hj, hnext, hfirst⟩ := h
  unfold nextOf
  obtain rfl | rfl : j = 0 ∨ j = 1 := by omega
  · rw [hnext]
  · rw [hfirst rfl, hnext]
    rfl

theorem node_of_entry (h : ShpEntry op fl node arg j off u) :
    Storage (u.ledger node) 256 u ∧ Apart off 32 (u.ledger node) 256 := by
  obtain ⟨-, -, -, -, -, -, -, -, -, -, -, -, hstorage, hoff, -⟩ := h
  exact ⟨hstorage, hoff⟩

theorem shpCommand_entry (h : ShpEntry op fl node arg j off u) : shpCommand op u =
    shpEnd j off (u.bytesAt off 16) (shpRun (u.bytesAt off 16) u).1 (shpRun (u.bytesAt off 16) u).2 := by
  obtain ⟨hruns, hnext, -, hop, -, -, -, hbad, -, -, -, hopen, -, -, -⟩ := h
  unfold shpCommand
  rw [if_neg (by simp [hruns]), nextOf_entry hnext]
  dsimp only
  rw [serRead_storage hopen.1]
  dsimp only
  rw [serRead_storage hopen.1]
  dsimp only
  rw [bytesAt_append, hbad, numAt_bytesAt_zero u (by decide), hop]
  simp

/-- A command that need not wait is carried out. -/
theorem orStall_of_tan {k : Nat} {f : State → State} (htan : (f u).tan = u.tan) (hu : Unheld u) : orStall k f u = f u := by
  obtain ⟨-, hstalled⟩ := hu
  unfold orStall
  dsimp only
  rw [htan, if_pos le_rfl, hstalled]
  rfl

theorem shpServe_ended (hentry : ShpEntry op fl node arg j off u) (hc : (fl % 8 + if op = 4 then 8 else 0) = c)
    (hrun : shpRun (u.bytesAt off 16) u = (a, w)) (h : Ran offs l u w) (ha : a.status ≠ shBadop) :
    ShpEnded a c j off offs l u w (shpServe op u) := by
  have hcommand : shpCommand op u = shpEnd j off (u.bytesAt off 16) a w := by rw [shpCommand_entry hentry, hrun]
  have hended := shpEnd_ended hentry hc h ha
  rw [← hcommand] at hended
  obtain ⟨-, -, -, -, -, -, -, -, -, -, -, ⟨⟨-, -, -, -, hunheld, -⟩, -⟩, -, -, -⟩ := hentry
  rwa [shpServe, orStall_of_tan hended.tan hunheld]

/-- The granule of a node's entry that holds the queue word of class `c` (R204). -/
def queueGranule (node c : Nat) (u : State) : List Byte := u.bytesAt (u.ledger node + 176 + c / 4 * 16) 16

/-- A sound entry is carried out by its operation, with what stands in the node's entry. -/
theorem shpRun_entry (h : ShpEntry op fl node arg j off u) : shpRun (u.bytesAt off 16) u =
    if op = 4 then shpPolice node (fl % 8) arg u
    else if op = 1 then shpEnq node (fl % 8) arg (queueGranule node (fl % 8) u) u
    else if op = 2 then shpAdmit node (fl % 8) (bits fl 4 2) (bitOf fl 3) (bits arg 0 18) (bits arg 18 5 + 1)
      (u.bytesAt (u.ledger node) 16) (queueGranule node (fl % 8) u) u
    else Machine.shpDone node (fl % 8) (queueGranule node (fl % 8) u) u := by
  obtain ⟨-, -, -, hop, hfl, hnode, harg, -, hlast, hbay, hstate, -, hstorage, -, -⟩ := h
  have hok : nodeOk node u = true := by simp [nodeOk, hlast, hbay]
  have hstate' : bits (numAt (u.bytesAt (u.ledger node) 16) 10 1) 0 3 ≠ 0 := by
    rw [numAt_bytesAt u (by decide)]
    rwa [State.ledgerState, numAt_bytesAt_zero u (by decide)] at hstate
  unfold shpRun
  rw [numAt_bytesAt_zero u (by decide), numAt_bytesAt u (by decide), numAt_bytesAt u (by decide), numAt_bytesAt u (by decide),
    hop, hfl, hnode, harg]
  dsimp only
  simp only [hok, serRead_storage hstorage, Bool.not_true, Bool.false_eq_true, if_false, if_neg hstate', queueGranule]

end

/-! ### The queues of a node (R204, R206, R264, R266) -/

section
variable {node c e j off tail n q v : Nat} {offs : List Nat} {l : List (Nat × List Byte)} {u w t : State}

/-- In a node's entry the granules from 7 on are no security group (R156). -/
theorem open_ledger (h : Storage (u.ledger node) 256 u) {k m : Nat} (hk : 112 ≤ k) (hm : k + m ≤ 256) :
    Open (u.ledger node + k) m u := by
  refine ⟨storage_part h (by omega), fun a ha ha' _ => .inr ?_⟩
  unfold State.ledger at ha ha'
  omega

theorem bits_queue (htail : tail < 2 ^ 20) (hn : n < 2 ^ 12) :
    qTail (tail + 2 ^ 20 * n) = tail ∧ qCount (tail + 2 ^ 20 * n) = n := by
  unfold qTail qCount bits
  omega

theorem count_lt (h : Queue node c tail n u) : n < 2 ^ 12 := by
  obtain ⟨hword, -⟩ := h
  have := num_lt (queueAt node c u) 4 u
  omega

theorem queueAt_eq (node c : Nat) (u : State) : u.ledger node + 176 + c / 4 * 16 + 4 * (c % 4) = queueAt node c u := by
  rw [queueAt]
  omega

/-- The queue word that a command finds in the granule. -/
theorem queueWord_eq (h : Queue node c tail n u) : numAt (queueGranule node c u) (4 * (c % 4)) 4 = tail + 2 ^ 20 * n := by
  rw [queueGranule, numAt_bytesAt u (by omega), queueAt_eq, h.1]

theorem queue_read (h : Queue node c tail n u) : qTail (numAt (queueGranule node c u) (4 * (c % 4)) 4) = tail ∧
    qCount (numAt (queueGranule node c u) (4 * (c % 4)) 4) = n := by
  rw [queueWord_eq h]
  exact bits_queue h.2 (count_lt h)

theorem qEntry_free (h : EntryFree e node off u) : u.qEntry e = some (entryAt e u) := by
  obtain ⟨hbay, -, -, -⟩ := h
  rw [State.qEntry, if_pos hbay, entryAt]

theorem readEntry_free (h : EntryFree e node off u) : readEntry e u = (.inr (u.bytesAt (entryAt e u) 16), u) := by
  have hplace := qEntry_free h
  obtain ⟨-, hopen, -, -⟩ := h
  rw [readEntry, hplace]
  simp only [serRead_storage hopen.1, Bool.false_eq_true, if_false]

theorem linkNext_entry (e : Nat) (u : State) : linkNext (u.bytesAt (entryAt e u) 16) = nextOfEntry e u := by
  rw [linkNext, numAt_bytesAt_zero u (by decide), bits_low, nextOfEntry]

/-- A queue entry of `u` is written back with another LINK. -/
theorem Ran.writeEntry (h : Ran offs l u w) (he : EntryFree e node off u)
    (hl : ∀ p ∈ l, Apart p.1 p.2.length (entryAt e u) 16) :
    Ran offs ((entryAt e u, leBytes 4 v) :: l) u (writeEntry e (patch (u.bytesAt (entryAt e u) 16) 0 (leBytes 4 v)) w) := by
  have hplace : w.qEntry e = some (entryAt e u) := by
    rw [← qEntry_free he, State.qEntry, h.baySize (by decide), h.bayBase (by decide), State.qEntry]
  obtain ⟨-, hopen, -, -⟩ := he
  have hwrote := h.serWrite_patch (m := Master.unit) (k := 0) (bs := leBytes 4 v) hopen (by simp) hl
  rw [Nat.add_zero] at hwrote
  rw [Machine.writeEntry, hplace]
  exact hwrote

/-- A queue word of `u` is written back. -/
theorem Ran.writeQueue (h : Ran offs l u w) (hs : Storage (u.ledger node) 256 u) (hc : c < 8)
    (hl : ∀ p ∈ l, Apart p.1 p.2.length (u.ledger node) 256) :
    Ran offs ((queueAt node c u, leBytes 4 q) :: l) u (writeQueue node c (queueGranule node c u) q w) := by
  have hopen : Open (u.ledger node + 176 + c / 4 * 16) 16 u :=
    (Nat.add_assoc _ _ _).symm ▸ open_ledger hs (k := 176 + c / 4 * 16) (by omega) (by omega)
  unfold Machine.writeQueue
  rw [h.ledger, ← queueAt_eq]
  refine h.serWrite_patch hopen (by rw [length_leBytes]; omega) fun p hp => ?_
  have := hl p hp
  omega

theorem ShpEnded.entryAt {a : ShpAnswer} (h : ShpEnded a c j off offs l u w t) (hw : Ran offs l u w) (e : Nat) :
    Claims.entryAt e t = Claims.entryAt e u := by
  rw [Claims.entryAt, h.bayBase hw (by decide), Claims.entryAt]

theorem ShpEnded.queueAt {a : ShpAnswer} {k : Nat} (h : ShpEnded a k j off offs l u w t) (hw : Ran offs l u w) (node c : Nat) :
    Claims.queueAt node c t = Claims.queueAt node c u := by
  rw [Claims.queueAt, State.ledger, h.bayBase hw (by decide), Claims.queueAt, State.ledger]

/-- The queue word of class `c` lies in the node's entry. -/
theorem queueAt_in_ledger (hc : c < 8) : u.ledger node ≤ queueAt node c u ∧ queueAt node c u + 4 ≤ u.ledger node + 256 := by
  rw [queueAt]
  omega

/-! ### ENQ (R264) -/

/-- LINK of an entry appended to class `c` with NEXT `nx`: its FLAGS stand. -/
def ownLink (e c nx : Nat) (u : State) : Nat := nx + c * 2 ^ 20 + num (entryAt e u) 4 u / 2 ^ 24 * 2 ^ 24

theorem ownLink_lt {nx : Nat} (hc : c < 8) (hnx : nx < 2 ^ 20) : ownLink e c nx u < 256 ^ 4 := by
  have := num_lt (entryAt e u) 4 u
  unfold ownLink
  omega

/-- LINK of an entry with another NEXT. -/
def relink (e nx : Nat) (u : State) : Nat := num (entryAt e u) 4 u / 2 ^ 20 * 2 ^ 20 + nx

theorem relink_lt {nx : Nat} (hnx : nx < 2 ^ 20) : relink e nx u < 256 ^ 4 := by
  have := num_lt (entryAt e u) 4 u
  unfold relink
  omega

theorem withNext_entry {nx : Nat} (hnx : nx < 2 ^ 20) : withNext (u.bytesAt (entryAt e u) 16) nx =
    patch (u.bytesAt (entryAt e u) 16) 0 (leBytes 4 (relink e nx u)) := by
  rw [withNext, numAt_bytesAt_zero u (by decide), setBits, relink]
  congr 2
  omega

theorem flags_entry (e : Nat) (u : State) :
    bits (numAt (u.bytesAt (entryAt e u) 16) 0 4) 24 8 = num (entryAt e u) 4 u / 2 ^ 24 := by
  have := num_lt (entryAt e u) 4 u
  rw [numAt_bytesAt_zero u (by decide), bits]
  omega

section
variable (hq : Queue node c tail n u) (he : EntryFree e node off u) (hnode : num (entryAt e u + 10) 2 u = node)
include hq he hnode

theorem shpEnq_full (hfull : u.get (F.SHP_QMAX c) = n) :
    shpEnq node c e (queueGranule node c u) u = (⟨shFull, n, 0, 0⟩, u.inc (F.SHP_CNT_k_COUNT 7)) := by
  rw [shpEnq, readEntry_free he]
  simp only [queue_read hq, numAt_bytesAt u (by decide : 10 + 2 ≤ 16), hnode, hfull, ne_eq, not_true_eq_false, if_false, if_true]

theorem shpEnq_first (hfree : u.get (F.SHP_QMAX c) ≠ n) (hn : n = 0) : shpEnq node c e (queueGranule node c u) u =
    (⟨shDone, 1, 0, 0⟩, writeQueue node c (queueGranule node c u) (e + (n + 1) * 2 ^ 20)
      (writeEntry e (patch (u.bytesAt (entryAt e u) 16) 0 (leBytes 4 (ownLink e c e u))) u)) := by
  rw [shpEnq, readEntry_free he]
  simp only [queue_read hq, numAt_bytesAt u (by decide : 10 + 2 ≤ 16), hnode, hfree, ne_eq, not_true_eq_false, if_false,
    flags_entry, if_pos hn, ownLink]

theorem shpEnq_next (hfree : u.get (F.SHP_QMAX c) ≠ n) (hn : n ≠ 0) (htail : EntryFree tail node off u) (hne : tail ≠ e)
    (he20 : e < 2 ^ 20) : shpEnq node c e (queueGranule node c u) u =
    (⟨shDone, n + 1, 0, 0⟩, writeQueue node c (queueGranule node c u) (e + (n + 1) * 2 ^ 20)
      (writeEntry tail (patch (u.bytesAt (entryAt tail u) 16) 0 (leBytes 4 (relink tail e u)))
        (writeEntry e (patch (u.bytesAt (entryAt e u) 16) 0 (leBytes 4 (ownLink e c (nextOfEntry tail u) u))) u))) := by
  rw [shpEnq, readEntry_free he]
  simp only [queue_read hq, numAt_bytesAt u (by decide : 10 + 2 ≤ 16), hnode, hfree, ne_eq, not_true_eq_false, if_false,
    flags_entry, if_neg hn, readEntry_free htail, linkNext_entry, if_neg hne, withNext_entry he20, ownLink]

end

end

section
variable {node c e j off tail n : Nat} {u : State}

/-- SHP counts one command. -/
theorem ran_inc {k : Nat} (hk : k < 8) (u : State) : Ran [R.SHP_CNT_k k] [] u (u.inc (F.SHP_CNT_k_COUNT k)) :=
  (Ran.refl (by simp only [List.mem_singleton, forall_eq, ShpShown, R.SHP_CNT_k]; omega)).inc List.mem_cons_self

/-- With no write to the store every byte but the result's stands. -/
theorem nothing_written {at_ : Nat → Prop} (x : Nat) : ¬at_ x → ∀ p ∈ ([] : List (Nat × List Byte)), Apart p.1 p.2.length x 1 :=
  fun _ _ hp => absurd hp List.not_mem_nil

theorem entries_apart {e e' : Nat} (h : e ≠ e') : Apart (entryAt e u) 16 (entryAt e' u) 16 := by
  unfold entryAt
  omega

/-- The queue word of the node lies apart from a free queue entry and from the command's entry. -/
theorem queueAt_apart (hc : c < 8) (he : EntryFree e node off u) : Apart (entryAt e u) 16 (queueAt node c u) 4 := by
  obtain ⟨-, -, -, hledger⟩ := he
  have := queueAt_in_ledger (node := node) (u := u) hc
  omega

theorem queueAt_apart_result (hc : c < 8) (h : Apart off 32 (u.ledger node) 256) :
    Apart (off + 16) 16 (queueAt node c u) 4 := by
  have := queueAt_in_ledger (node := node) (u := u) hc
  omega

theorem entryAt_apart_ledger (he : EntryFree e node off u) : Apart (entryAt e u) 4 (u.ledger node) 256 := by
  obtain ⟨-, -, -, hledger⟩ := he
  omega

theorem entryAt_apart_result (he : EntryFree e node off u) : Apart (off + 16) 16 (entryAt e u) 4 := by
  obtain ⟨-, -, hoff, -⟩ := he
  omega

/-- ENQ with the queue at QMAX. -/
theorem enq_full (hentry : ShpEntry 1 c node e j off u) (hc : c < 8) (hq : Queue node c tail n u)
    (he : EntryFree e node off u) (hnode : num (entryAt e u + 10) 2 u = node) (hfull : n = u.get (F.SHP_QMAX c)) :
    ShpEnds 5 n 0 0 c j off u (shpServe 1 u) ∧ ShpCount 7 u (shpServe 1 u) ∧
      ShpOnly [R.SHP_CNT_k 7] j off (fun _ => False) u (shpServe 1 u) := by
  have hrun := shpRun_entry hentry
  rw [if_neg (by decide), if_pos rfl, Nat.mod_eq_of_lt hc, shpEnq_full hq he hnode hfull.symm] at hrun
  have hended := shpServe_ended hentry (Nat.mod_eq_of_lt hc) hrun (ran_inc (by decide) u) (show shFull ≠ shBadop by decide)
  exact ⟨hended.ends, hended.count (by decide) rfl, hended.only _ nothing_written⟩

/-- A queue word that is written back with tail `e` and `m` frames is the queue's. -/
theorem queue_written {a : ShpAnswer} {k m : Nat} {offs : List Nat} {l : List (Nat × List Byte)} {w t : State}
    (hended : ShpEnded a k j off offs l u w t) (hran : Ran offs l u w) (hc : c < 8) (hoff : Apart off 32 (u.ledger node) 256)
    (hl : l.Pairwise fun p q => Apart p.1 p.2.length q.1 q.2.length)
    (hmem : (queueAt node c u, leBytes 4 (e + m * 2 ^ 20)) ∈ l) (he : e < 2 ^ 20) : Queue node c e (m % 4096) t := by
  refine ⟨?_, he⟩
  rw [hended.queueAt hran, hended.num_written hran hl (queueAt_apart_result hc hoff) hmem]
  omega

/-- ENQ to an empty queue: the entry points to itself. -/
theorem enq_first (hentry : ShpEntry 1 c node e j off u) (hc : c < 8) (he20 : e < 2 ^ 20) (hq : Queue node c tail n u)
    (he : EntryFree e node off u) (hnode : num (entryAt e u + 10) 2 u = node) (hfree : n ≠ u.get (F.SHP_QMAX c)) (hn : n = 0) :
    ShpEnds 1 (n + 1) 0 0 c j off u (shpServe 1 u) ∧ Queue node c e ((n + 1) % 4096) (shpServe 1 u) ∧
      num (entryAt e u) 4 (shpServe 1 u) = ownLink e c e u ∧
      ∀ at_ : Nat → Prop, (∀ x, ¬at_ x → Apart (queueAt node c u) 4 x 1 ∧ Apart (entryAt e u) 4 x 1) →
        ShpOnly [] j off at_ u (shpServe 1 u) := by
  obtain ⟨hstorage, hoff⟩ := node_of_entry hentry
  have hrun := shpRun_entry hentry
  rw [if_neg (by decide), if_pos rfl, Nat.mod_eq_of_lt hc, shpEnq_first hq he hnode hfree.symm hn] at hrun
  have hlink := (Ran.refl (offs := []) (u := u) (by simp)).writeEntry (v := ownLink e c e u) he (by simp)
  have hran := hlink.writeQueue (q := e + (n + 1) * 2 ^ 20) hstorage hc (by simpa using entryAt_apart_ledger he)
  have hended := shpServe_ended hentry (Nat.mod_eq_of_lt hc) hrun hran (show shDone ≠ shBadop by decide)
  have hpair : [(queueAt node c u, leBytes 4 (e + (n + 1) * 2 ^ 20)), (entryAt e u, leBytes 4 (ownLink e c e u))].Pairwise
      fun p q => Apart p.1 p.2.length q.1 q.2.length := by
    have := queueAt_apart hc he
    simp
    omega
  subst hn
  refine ⟨hended.ends, queue_written hended hran hc hoff hpair List.mem_cons_self he20, ?_, fun at_ hat => hended.only at_ ?_⟩
  · exact (hended.num_written hran hpair (entryAt_apart_result he) (by simp)).trans (Nat.mod_eq_of_lt (ownLink_lt hc he20))
  · simpa using hat

/-- ENQ behind the tail: the entry points to the head, and the tail to the entry. -/
theorem enq_next (hentry : ShpEntry 1 c node e j off u) (hc : c < 8) (he20 : e < 2 ^ 20) (hq : Queue node c tail n u)
    (he : EntryFree e node off u) (hnode : num (entryAt e u + 10) 2 u = node) (hfree : n ≠ u.get (F.SHP_QMAX c)) (hn : n ≠ 0)
    (htail : EntryFree tail node off u) (hne : tail ≠ e) :
    ShpEnds 1 (n + 1) 0 0 c j off u (shpServe 1 u) ∧ Queue node c e ((n + 1) % 4096) (shpServe 1 u) ∧
      num (entryAt e u) 4 (shpServe 1 u) = ownLink e c (nextOfEntry tail u) u ∧
      num (entryAt tail u) 4 (shpServe 1 u) = relink tail e u ∧
      ∀ at_ : Nat → Prop,
        (∀ x, ¬at_ x → Apart (queueAt node c u) 4 x 1 ∧ Apart (entryAt tail u) 4 x 1 ∧ Apart (entryAt e u) 4 x 1) →
        ShpOnly [] j off at_ u (shpServe 1 u) := by
  obtain ⟨hstorage, hoff⟩ := node_of_entry hentry
  have hrun := shpRun_entry hentry
  rw [if_neg (by decide), if_pos rfl, Nat.mod_eq_of_lt hc, shpEnq_next hq he hnode hfree.symm hn htail hne he20] at hrun
  have hnx : nextOfEntry tail u < 2 ^ 20 := Nat.mod_lt _ (by decide)
  have hapart := entries_apart (u := u) hne
  have hlink := (Ran.refl (offs := []) (u := u) (by simp)).writeEntry (v := ownLink e c (nextOfEntry tail u) u) he (by simp)
  have hback := hlink.writeEntry (v := relink tail e u) htail (by simp; omega)
  have hran := hback.writeQueue (q := e + (n + 1) * 2 ^ 20) hstorage hc
    (by simpa using ⟨entryAt_apart_ledger htail, entryAt_apart_ledger he⟩)
  have hended := shpServe_ended hentry (Nat.mod_eq_of_lt hc) hrun hran (show shDone ≠ shBadop by decide)
  have hpair : [(queueAt node c u, leBytes 4 (e + (n + 1) * 2 ^ 20)), (entryAt tail u, leBytes 4 (relink tail e u)),
      (entryAt e u, leBytes 4 (ownLink e c (nextOfEntry tail u) u))].Pairwise
      fun p q => Apart p.1 p.2.length q.1 q.2.length := by
    have := queueAt_apart hc he
    have := queueAt_apart hc htail
    simp
    omega
  refine ⟨hended.ends, queue_written hended hran hc hoff hpair List.mem_cons_self he20, ?_, ?_, fun at_ hat => hended.only at_ ?_⟩
  · exact (hended.num_written hran hpair (entryAt_apart_result he) (by simp)).trans (Nat.mod_eq_of_lt (ownLink_lt hc hnx))
  · exact (hended.num_written hran hpair (entryAt_apart_result htail) (by simp)).trans (Nat.mod_eq_of_lt (relink_lt he20))
  · simpa using hat

/-- ENQ below QMAX, whether the queue holds frames or not. -/
theorem enq_appends (hentry : ShpEntry 1 c node e j off u) (hc : c < 8) (he20 : e < 2 ^ 20) (hq : Queue node c tail n u)
    (he : EntryFree e node off u) (hnode : num (entryAt e u + 10) 2 u = node) (hfree : n ≠ u.get (F.SHP_QMAX c))
    (htail : n ≠ 0 → EntryFree tail node off u ∧ tail ≠ e) :
    ShpEnds 1 (n + 1) 0 0 c j off u (shpServe 1 u) ∧ Queue node c e ((n + 1) % 4096) (shpServe 1 u) ∧
      num (entryAt e u) 4 (shpServe 1 u) = ownLink e c (if n = 0 then e else nextOfEntry tail u) u ∧
      (n ≠ 0 → num (entryAt tail u) 4 (shpServe 1 u) = relink tail e u) ∧
      ShpOnly [] j off (fun a => ¬Apart (queueAt node c u) 4 a 1 ∨ ¬Apart (entryAt e u) 4 a 1 ∨
        (n ≠ 0 ∧ ¬Apart (entryAt tail u) 4 a 1)) u (shpServe 1 u) := by
  by_cases hn : n = 0
  · obtain ⟨hends, hqueue, hlink, honly⟩ := enq_first hentry hc he20 hq he hnode hfree hn
    rw [if_pos hn]
    exact ⟨hends, hqueue, hlink, fun h => absurd hn h, honly _ fun x hx => by omega⟩
  · obtain ⟨htail, hne⟩ := htail hn
    obtain ⟨hends, hqueue, hlink, hback, honly⟩ := enq_next hentry hc he20 hq he hnode hfree hn htail hne
    rw [if_neg hn]
    exact ⟨hends, hqueue, hlink, fun _ => hback, honly _ fun x hx => by omega⟩

/-! ### DONE (R266) -/

theorem shpDone_empty (hq : Queue node c tail n u) (hn : n = 0) :
    Machine.shpDone node c (queueGranule node c u) u = (⟨shEmpty, 0, 0, 0⟩, u) := by
  rw [Machine.shpDone]
  simp only [queue_read hq, if_pos hn]

theorem shpDone_last (hq : Queue node c tail n u) (htail : EntryFree tail node off u) (hn : n = 1) :
    Machine.shpDone node c (queueGranule node c u) u = (⟨shDone, n - 1, nextOfEntry tail u, 0⟩,
      writeQueue node c (queueGranule node c u) (tail + (n - 1) * 2 ^ 20) u) := by
  rw [Machine.shpDone]
  subst hn
  simp only [queue_read hq, readEntry_free htail, linkNext_entry, Nat.one_ne_zero, if_false, if_true]

theorem shpDone_next (hq : Queue node c tail n u) (htail : EntryFree tail node off u)
    (hhead : EntryFree (nextOfEntry tail u) node off u) (hn : 2 ≤ n) :
    Machine.shpDone node c (queueGranule node c u) u = (⟨shDone, n - 1, nextOfEntry tail u, 0⟩,
      writeQueue node c (queueGranule node c u) (tail + (n - 1) * 2 ^ 20)
        (writeEntry tail (patch (u.bytesAt (entryAt tail u) 16) 0
          (leBytes 4 (relink tail (nextOfEntry (nextOfEntry tail u) u) u))) u)) := by
  have hnx : nextOfEntry (nextOfEntry tail u) u < 2 ^ 20 := Nat.mod_lt _ (by decide)
  rw [Machine.shpDone]
  simp only [queue_read hq, readEntry_free htail, readEntry_free hhead, linkNext_entry, withNext_entry hnx,
    if_neg (show n ≠ 0 by omega), if_neg (show n ≠ 1 by omega)]

theorem shpRun_done (hentry : ShpEntry 3 c node 0 j off u) (hc : c < 8) :
    shpRun (u.bytesAt off 16) u = Machine.shpDone node c (queueGranule node c u) u := by
  rw [shpRun_entry hentry, if_neg (by decide), if_neg (by decide), if_neg (by decide), Nat.mod_eq_of_lt hc]

theorem done_empty (hentry : ShpEntry 3 c node 0 j off u) (hc : c < 8) (hq : Queue node c tail n u) (hn : n = 0) :
    ShpEnds 4 0 0 0 c j off u (shpServe 3 u) ∧ ShpOnly [] j off (fun _ => False) u (shpServe 3 u) := by
  have hrun := shpRun_done hentry hc
  rw [shpDone_empty hq hn] at hrun
  have hended := shpServe_ended hentry (Nat.mod_eq_of_lt hc) hrun (Ran.refl (offs := []) (by simp))
    (show shEmpty ≠ shBadop by decide)
  exact ⟨hended.ends, hended.only _ nothing_written⟩

/-- DONE of the last frame leaves the queue's entries as they stand. -/
theorem done_last (hentry : ShpEntry 3 c node 0 j off u) (hc : c < 8) (hq : Queue node c tail n u)
    (htail : EntryFree tail node off u) (hn : n = 1) :
    ShpEnds 1 (n - 1) (nextOfEntry tail u) 0 c j off u (shpServe 3 u) ∧ Queue node c tail (n - 1) (shpServe 3 u) ∧
      ∀ at_ : Nat → Prop, (∀ x, ¬at_ x → Apart (queueAt node c u) 4 x 1) → ShpOnly [] j off at_ u (shpServe 3 u) := by
  obtain ⟨hstorage, hoff⟩ := node_of_entry hentry
  have hrun := shpRun_done hentry hc
  rw [shpDone_last hq htail hn] at hrun
  have hran := (Ran.refl (offs := []) (u := u) (by simp)).writeQueue (q := tail + (n - 1) * 2 ^ 20) hstorage hc (by simp)
  have hended := shpServe_ended hentry (Nat.mod_eq_of_lt hc) hrun hran (show shDone ≠ shBadop by decide)
  have hqueue := queue_written hended hran hc hoff (List.pairwise_singleton _ _) List.mem_cons_self hq.2
  rw [Nat.mod_eq_of_lt (by omega)] at hqueue
  exact ⟨hended.ends, hqueue, fun at_ hat => hended.only at_ (by simpa using hat)⟩

/-- DONE of a frame with others behind it: the tail points past the head. -/
theorem done_next (hentry : ShpEntry 3 c node 0 j off u) (hc : c < 8) (hq : Queue node c tail n u)
    (htail : EntryFree tail node off u) (hhead : EntryFree (nextOfEntry tail u) node off u) (hn : 2 ≤ n) :
    ShpEnds 1 (n - 1) (nextOfEntry tail u) 0 c j off u (shpServe 3 u) ∧ Queue node c tail (n - 1) (shpServe 3 u) ∧
      nextOfEntry tail (shpServe 3 u) = nextOfEntry (nextOfEntry tail u) u ∧
      ∀ at_ : Nat → Prop, (∀ x, ¬at_ x → Apart (queueAt node c u) 4 x 1 ∧ Apart (entryAt tail u) 4 x 1) →
        ShpOnly [] j off at_ u (shpServe 3 u) := by
  obtain ⟨hstorage, hoff⟩ := node_of_entry hentry
  have hcount := count_lt hq
  have hrun := shpRun_done hentry hc
  rw [shpDone_next hq htail hhead hn] at hrun
  obtain ⟨nx, hnx⟩ : ∃ nx, nx = nextOfEntry (nextOfEntry tail u) u := ⟨_, rfl⟩
  have hnx20 : nx < 2 ^ 20 := hnx ▸ Nat.mod_lt _ (by decide)
  rw [← hnx] at hrun ⊢
  have hlink := (Ran.refl (offs := []) (u := u) (by simp)).writeEntry (v := relink tail nx u) htail (by simp)
  have hran := hlink.writeQueue (q := tail + (n - 1) * 2 ^ 20) hstorage hc (by simpa using entryAt_apart_ledger htail)
  have hended := shpServe_ended hentry (Nat.mod_eq_of_lt hc) hrun hran (show shDone ≠ shBadop by decide)
  have hpair : [(queueAt node c u, leBytes 4 (tail + (n - 1) * 2 ^ 20)), (entryAt tail u, leBytes 4 (relink tail nx u))].Pairwise
      fun p q => Apart p.1 p.2.length q.1 q.2.length := by
    have := queueAt_apart hc htail
    simp
    omega
  have hqueue := queue_written hended hran hc hoff hpair List.mem_cons_self hq.2
  rw [Nat.mod_eq_of_lt (by omega)] at hqueue
  have hword : num (entryAt tail u) 4 (shpServe 3 u) = relink tail nx u :=
    (hended.num_written hran hpair (entryAt_apart_result htail) (by simp)).trans (Nat.mod_eq_of_lt (relink_lt hnx20))
  refine ⟨hended.ends, hqueue, ?_, fun at_ hat => hended.only at_ (by simpa using hat)⟩
  rw [nextOfEntry, hended.entryAt hran, hword, relink]
  omega

/-- DONE of a queue that holds frames. -/
theorem done_removes (hentry : ShpEntry 3 c node 0 j off u) (hc : c < 8) (hq : Queue node c tail n u) (hn : n ≠ 0)
    (htail : EntryFree tail node off u) (hhead : 2 ≤ n → EntryFree (nextOfEntry tail u) node off u) :
    ShpEnds 1 (n - 1) (nextOfEntry tail u) 0 c j off u (shpServe 3 u) ∧ Queue node c tail (n - 1) (shpServe 3 u) ∧
      (2 ≤ n → nextOfEntry tail (shpServe 3 u) = nextOfEntry (nextOfEntry tail u) u) ∧
      ShpOnly [] j off (fun a => ¬Apart (queueAt node c u) 4 a 1 ∨ (2 ≤ n ∧ ¬Apart (entryAt tail u) 4 a 1)) u
        (shpServe 3 u) := by
  by_cases hlast : n = 1
  · obtain ⟨hends, hqueue, honly⟩ := done_last hentry hc hq htail hlast
    exact ⟨hends, hqueue, fun h => absurd h (by omega), honly _ fun x hx => by omega⟩
  · have hmore : 2 ≤ n := by omega
    obtain ⟨hends, hqueue, hlink, honly⟩ := done_next hentry hc hq htail (hhead hmore) hmore
    exact ⟨hends, hqueue, fun _ => hlink, honly _ fun x hx => by omega⟩

end

/-! ### Admission (R258, R259, R265) -/

theorem on_iff_one {f : Field} (hw : f.w = 1) (s : State) : s.on f = true ↔ s.get f = 1 := by
  have hlt := get_lt (s := s) f
  rw [hw] at hlt
  rw [on_eq_true]
  omega

section
variable {node c phy start span stop j off tail n fl arg : Nat} {ack : Bool} {u : State}

/-- The model's test of R259 on the granules that admission reads. -/
theorem downHeld_iff : u.downHeld (u.bytesAt (u.ledger node) 16) (u.bytesAt (u.ledger node + 112) 32) = true ↔ HeldDown node u := by
  unfold State.downHeld
  rw [numAt_bytesAt u (by decide), numAt_bytesAt u (by decide), HeldDown, drift]
  simp only [bitOf, Nat.testBit_eq_decide_div_mod_eq, ntLost, Bool.or_eq_true, Bool.and_eq_true, beq_iff_eq, Bool.not_eq_true',
    decide_eq_true_eq, decide_eq_false_iff_not, beq_eq_false_iff_ne, ne_eq, or_assoc, and_assoc]

/-- The airtimes of R258, for the three PHYs. -/
theorem frameEndAt_eq (hphy : phy < 3) (start len : Nat) (ack : Bool) (u : State) :
    u.frameEndAt start phy len ack = Claims.frameEnd start phy len ack u := by
  unfold State.frameEndAt Claims.frameEnd ackAir airtime octet
  interval_cases phy <;> rfl

theorem inGate_iff : u.inGate c start stop = true ↔ FitsGate c start stop u := by
  simp only [State.inGate, Bool.and_eq_true, Bool.or_eq_true, decide_eq_true_eq, beq_iff_eq, FitsGate]

/-! What admission answers, by what stands in the way of the queue's head. -/

theorem shpAdmit_empty (hq : Queue node c tail n u) (hn : n = 0) (g0 : List Byte) :
    shpAdmit node c phy ack start span g0 (queueGranule node c u) u = (⟨shEmpty, 0, 0, 0⟩, u) := by
  rw [shpAdmit]
  simp only [queue_read hq, if_pos hn]

theorem shpAdmit_held (hs : Storage (u.ledger node) 256 u) (hq : Queue node c tail n u) (hn : n ≠ 0)
    (htail : EntryFree tail node off u) (hheld : HeldDown node u) :
    shpAdmit node c phy ack start span (u.bytesAt (u.ledger node) 16) (queueGranule node c u) u =
      (⟨shHeld, n, nextOfEntry tail u, 0⟩, u.inc (F.SHP_CNT_k_COUNT 1)) := by
  rw [shpAdmit]
  simp only [queue_read hq, if_neg hn, serRead_storage hs, Bool.false_eq_true, if_false, readEntry_free htail, linkNext_entry,
    downHeld_iff.mpr hheld, if_true]

/-- What a passing admission of `len` bytes leaves: it is counted, and a shaped class pays. -/
def charged (c len : Nat) (u : State) : State :=
  if u.get (F.SHP_CLASS_n_EN c) = 1 then setTokens c (u.tokens c - 256 * len) (u.inc (F.SHP_CNT_k_COUNT 0))
  else u.inc (F.SHP_CNT_k_COUNT 0)

theorem shpAdmit_head (hs : Storage (u.ledger node) 256 u) (hq : Queue node c tail n u) (hn : n ≠ 0)
    (htail : EntryFree tail node off u) (hhead : EntryFree (nextOfEntry tail u) node off u) (hheld : ¬HeldDown node u)
    (hphy : phy < 3) {h len : Nat} (hh : h = nextOfEntry tail u) (hlen : len = num (entryAt h u + 8) 2 u)
    (hstop : stop = Claims.frameEnd start phy len ack u) :
    shpAdmit node c phy ack start span (u.bytesAt (u.ledger node) 16) (queueGranule node c u) u =
      if ¬stop + 800 ≤ span * u.slotLen then (⟨shNofit, n, h, 0⟩, u.inc (F.SHP_CNT_k_COUNT 4))
      else if ¬FitsGate c start stop u then (⟨shGate, n, h, 0⟩, u.inc (F.SHP_CNT_k_COUNT 3))
      else if ¬(u.get (F.SHP_CLASS_n_EN c) = 1 → 256 * len ≤ u.tok.getD c 0) then
        (⟨shTokens, n, h, 0⟩, u.inc (F.SHP_CNT_k_COUNT 2))
      else (⟨shDone, n, h, 0⟩, charged c len u) := by
  subst hh hlen hstop
  rw [shpAdmit]
  simp only [queue_read hq, if_neg hn, serRead_storage hs, Bool.false_eq_true, if_false, readEntry_free htail, linkNext_entry,
    downHeld_iff, if_neg hheld, readEntry_free hhead, numAt_bytesAt u (by decide : 8 + 2 ≤ 16), frameEndAt_eq hphy, Bool.not_eq_true',
    ← Bool.not_eq_true, inGate_iff, on_iff_one (f := F.SHP_CLASS_n_EN c) rfl, not_le, State.tokens, charged]
  by_cases hshaped : u.get (F.SHP_CLASS_n_EN c) = 1
  · simp only [hshaped, if_true, forall_const, not_le]
  · simp only [hshaped, if_false, false_imp_iff, not_true_eq_false]

/-- FLAGS and ARG of an entry give back what they were made of (R262). -/
theorem admission_fields (hc : c < 8) (hphy : phy < 3) (hspan : 1 ≤ span) (hspan' : span ≤ 32) (hstart : start < 2 ^ 18) :
    let fl := c + (if ack then 8 else 0) + 16 * phy
    let arg := start + 2 ^ 18 * (span - 1)
    fl % 8 = c ∧ bits fl 4 2 = phy ∧ bitOf fl 3 = ack ∧ bits arg 0 18 = start ∧ bits arg 18 5 + 1 = span := by
  dsimp only
  refine ⟨?_, ?_, ?_, ?_, ?_⟩
  · split <;> omega
  · unfold bits
    split <;> omega
  · unfold bitOf
    cases ack
    · exact beq_false_of_ne (by simp only [Bool.false_eq_true, if_false]; omega)
    · exact beq_iff_eq.mpr (by simp only [if_true]; omega)
  · unfold bits
    omega
  · unfold bits
    omega

theorem shpRun_admission (hentry : ShpEntry 2 fl node arg j off u) : shpRun (u.bytesAt off 16) u =
    shpAdmit node (fl % 8) (bits fl 4 2) (bitOf fl 3) (bits arg 0 18) (bits arg 18 5 + 1) (u.bytesAt (u.ledger node) 16)
      (queueGranule node (fl % 8) u) u := by
  rw [shpRun_entry hentry, if_neg (by decide), if_neg (by decide), if_pos rfl]

theorem admission_empty (hentry : ShpEntry 2 fl node arg j off u) (hfl : fl % 8 = c) (hq : Queue node c tail n u) (hn : n = 0) :
    ShpEnds 4 0 0 0 c j off u (shpServe 2 u) ∧ ShpOnly [] j off (fun _ => False) u (shpServe 2 u) := by
  have hrun := shpRun_admission hentry
  rw [hfl, shpAdmit_empty hq hn] at hrun
  have hended := shpServe_ended hentry hfl hrun (Ran.refl (offs := []) (by simp)) (show shEmpty ≠ shBadop by decide)
  exact ⟨hended.ends, hended.only _ nothing_written⟩

theorem admission_held (hentry : ShpEntry 2 fl node arg j off u) (hfl : fl % 8 = c) (hq : Queue node c tail n u) (hn : n ≠ 0)
    (htail : EntryFree tail node off u) (hheld : HeldDown node u) :
    ShpEnds 6 n (nextOfEntry tail u) 0 c j off u (shpServe 2 u) ∧ ShpCount 1 u (shpServe 2 u) ∧
      ShpOnly [R.SHP_CNT_k 1] j off (fun _ => False) u (shpServe 2 u) := by
  obtain ⟨hstorage, -⟩ := node_of_entry hentry
  have hrun := shpRun_admission hentry
  rw [hfl, shpAdmit_held hstorage hq hn htail hheld] at hrun
  have hended := shpServe_ended hentry hfl hrun (ran_inc (by decide) u) (show shHeld ≠ shBadop by decide)
  exact ⟨hended.ends, hended.count (by decide) rfl, hended.only _ nothing_written⟩

/-- An admission that is refused after it has found the head counts the refusal and charges nothing. -/
theorem admission_refused {st k h : Nat} (hentry : ShpEntry 2 fl node arg j off u) (hfl : fl % 8 = c) (hst : st ≠ shBadop)
    (hk : k < 8) (hrun : shpRun (u.bytesAt off 16) u = (⟨st, n, h, 0⟩, u.inc (F.SHP_CNT_k_COUNT k))) :
    ShpEnds st n h 0 c j off u (shpServe 2 u) ∧ ShpCount k u (shpServe 2 u) ∧ (shpServe 2 u).tok = u.tok ∧
      ShpOnly [R.SHP_CNT_k k] j off (fun _ => False) u (shpServe 2 u) := by
  have hended := shpServe_ended hentry hfl hrun (ran_inc hk u) hst
  exact ⟨hended.ends, hended.count hk rfl, hended.tok.trans (inc_tok u _), hended.only _ nothing_written⟩

theorem ran_charged (hc : c < 8) (len : Nat) (u : State) : Ran [R.SHP_CNT_k 0, R.SHP_TOK_n c] [] u (charged c len u) := by
  have hcount : Ran [R.SHP_CNT_k 0, R.SHP_TOK_n c] [] u (u.inc (F.SHP_CNT_k_COUNT 0)) := by
    refine (Ran.refl ?_).inc List.mem_cons_self
    simp [ShpShown, R.SHP_CNT_k, R.SHP_TOK_n]
    omega
  unfold charged
  split
  · exact hcount.setTokens (by simp) _
  · exact hcount

theorem tok_setTokens (c v : Nat) (s : State) : (setTokens c v s).tok = s.tok.set c v := by rw [setTokens, put_tok]

theorem get_tok_setTokens (c v : Nat) (s : State) : (setTokens c v s).get (F.SHP_TOK_n_TOK c) = v / 256 % 2 ^ 24 := by
  rw [setTokens, get_put_same _ rfl]
  rfl

/-- SHP's counters stand below the tokens it shows. -/
theorem get_count_setTokens {k : Nat} (hk : k < 8) (c v : Nat) (s : State) :
    (setTokens c v s).get (F.SHP_CNT_k_COUNT k) = s.get (F.SHP_CNT_k_COUNT k) := by
  rw [setTokens, get_put_off _ _ (by simp only [F.SHP_CNT_k_COUNT, F.SHP_TOK_n_TOK]; omega)]
  rfl

/-- What a class is left with, and what SHP shows of it and counts. -/
theorem charged_spec (c len : Nat) (u : State) :
    (charged c len u).get (F.SHP_CNT_k_COUNT 0) = (u.inc (F.SHP_CNT_k_COUNT 0)).get (F.SHP_CNT_k_COUNT 0) ∧
    (charged c len u).tok =
      (if u.get (F.SHP_CLASS_n_EN c) = 1 then u.tok.set c (u.tok.getD c 0 - 256 * len) else u.tok) ∧
    (u.get (F.SHP_CLASS_n_EN c) = 1 →
      (charged c len u).get (F.SHP_TOK_n_TOK c) = (u.tok.getD c 0 - 256 * len) / 256 % 2 ^ 24) := by
  unfold charged
  by_cases hshaped : u.get (F.SHP_CLASS_n_EN c) = 1
  · rw [if_pos hshaped, if_pos hshaped]
    refine ⟨get_count_setTokens (by decide) c _ _, ?_, fun _ => get_tok_setTokens c _ _⟩
    rw [tok_setTokens, inc_tok, State.tokens]
  · rw [if_neg hshaped, if_neg hshaped]
    exact ⟨rfl, inc_tok u _, fun h => absurd h hshaped⟩

theorem admission_passes {h len : Nat} (hentry : ShpEntry 2 fl node arg j off u) (hfl : fl % 8 = c) (hc : c < 8)
    (hrun : shpRun (u.bytesAt off 16) u = (⟨shDone, n, h, 0⟩, charged c len u)) :
    ShpEnds 1 n h 0 c j off u (shpServe 2 u) ∧ ShpCount 0 u (shpServe 2 u) ∧
      (shpServe 2 u).tok = (if u.get (F.SHP_CLASS_n_EN c) = 1 then u.tok.set c (u.tok.getD c 0 - 256 * len) else u.tok) ∧
      (u.get (F.SHP_CLASS_n_EN c) = 1 →
        (shpServe 2 u).get (F.SHP_TOK_n_TOK c) = (u.tok.getD c 0 - 256 * len) / 256 % 2 ^ 24) ∧
      ShpOnly [R.SHP_CNT_k 0, R.SHP_TOK_n c] j off (fun _ => False) u (shpServe 2 u) := by
  have hended := shpServe_ended hentry hfl hrun (ran_charged hc len u) (show shDone ≠ shBadop by decide)
  obtain ⟨hcount, htok, hshown⟩ := charged_spec c len u
  refine ⟨hended.ends, ?_, hended.tok.trans htok, fun hshaped => ?_, hended.only _ nothing_written⟩
  · rw [ShpCount, hended.get_shown (by decide), hcount, get_inc_same rfl]
    rfl
  · rw [hended.get_shown (by simp only [ShpShown, F.SHP_TOK_n_TOK]; omega), hshown hshaped]

end

/-! ### POLICE (R260, R261) -/

/-- SHAPE of the node's entry. -/
def shapeAt (node : Nat) (u : State) : Nat := u.ledger node + 240

theorem shapeAt_eq (node : Nat) (u : State) : u.ledger node + 240 = shapeAt node u := rfl

/-- The node's tokens with the credit of the time since its last charge (R260). -/
def credited (node : Nat) (u : State) : Nat :=
  if u.bytesAt (shapeAt node u) 8 = List.replicate 8 0 ∨ u.tally.asn < num (shapeAt node u + 3) 5 u then
    256 * u.get F.SHP_NODEPOL_NBURST
  else min (256 * u.get F.SHP_NODEPOL_NBURST) (num (shapeAt node u) 3 u +
    (2 * ((u.tally.asn - num (shapeAt node u + 3) 5 u) * u.slotLen * u.get F.SHP_NODEPOL_NRATE) + 31250) / 62500)

/-- SHAPE with `left` tokens, charged now. -/
def shapeStored (node left : Nat) (u : State) : State :=
  u.poke (shapeAt node u) (leBytes 3 left ++ leBytes 5 u.tally.asn)

/-- The frames of uplink class `c` are charged to the node's policer. -/
abbrev NodeTested (c : Nat) (u : State) : Prop := u.get F.SHP_NODEPOL_NRATE ≠ 0 ∧ u.get (F.SHP_NPOL (8 + c)) = 1

/-- Uplink class `c` is shaped. -/
abbrev ClassTested (c : Nat) (u : State) : Prop := u.get (F.SHP_CLASS_n_EN (8 + c)) = 1

section
variable {node c len left j off : Nat} {offs : List Nat} {u : State}

theorem zeroAt_iff (s : State) (a : Nat) : zeroAt (s.bytesAt a 8) 0 8 = true ↔ s.bytesAt a 8 = List.replicate 8 0 := by
  rw [zeroAt, bytesAt_slice s (by decide), Nat.add_zero, List.eq_replicate_iff]
  simp only [List.all_eq_true, beq_iff_eq, length_bytesAt, true_and]

theorem nodeTokens_eq (node : Nat) (u : State) : u.nodeTokens (u.bytesAt (shapeAt node u) 8) = credited node u := by
  unfold State.nodeTokens credited roundDiv
  simp only [zeroAt_iff, numAt_bytesAt u (by decide : 3 + 5 ≤ 8), numAt_bytesAt_zero u (by decide : 3 ≤ 8)]

theorem nodeTest_eq (c : Nat) (u : State) :
    (u.get F.SHP_NODEPOL_NRATE != 0 && u.on (F.SHP_NPOL (8 + c))) = decide (NodeTested c u) := by
  rw [Bool.eq_iff_iff, Bool.and_eq_true, bne_iff_ne, on_iff_one rfl, decide_eq_true_iff]

theorem classTest_eq (c : Nat) (u : State) : u.on (F.SHP_CLASS_n_EN (8 + c)) = decide (ClassTested c u) := by
  rw [Bool.eq_iff_iff, on_iff_one rfl, decide_eq_true_iff]

/-- Who can pay where he is asked to passes the test. -/
theorem pays_of_imp {p : Prop} [Decidable p] {need tokens : Nat} (h : p → need ≤ tokens) :
    (decide p && decide (tokens < need)) = false := by
  simp only [Bool.and_eq_false_imp, decide_eq_true_eq, decide_eq_false_iff_not, not_lt]
  exact h

theorem writeShape (hs : Storage (u.ledger node) 256 u) (left : Nat) :
    serWrite Master.unit (shapeAt node u) (leBytes 3 left ++ leBytes 5 u.tally.asn) u = shapeStored node left u :=
  serWrite_bytes (open_part (open_ledger hs (k := 240) (m := 8) (by decide) (by decide)) (by simp [shapeAt]))

/-- The tokens that POLICE leaves the node. -/
def nodeLeft (node c len : Nat) (u : State) : Nat :=
  if NodeTested c u then credited node u - 256 * len else credited node u

section
variable (hs : Storage (u.ledger node) 256 u)
include hs

/-- The node cannot pay (R261). -/
theorem shpPolice_policed (hnode : NodeTested c u) (hpoor : credited node u < 256 * len) : shpPolice node c len u =
    (⟨shPoliced, 0, 0, credited node u / 256⟩, (shapeStored node (credited node u) u).inc (F.SHP_CNT_k_COUNT 5)) := by
  rw [shpPolice]
  simp only [serRead_storage hs, shapeAt_eq, nodeTokens_eq, nodeTest_eq, classTest_eq, decide_eq_true hnode, decide_eq_true hpoor,
    writeShape hs, Bool.and_true, Bool.false_eq_true, if_true, if_false, shPoliced, shDone, Nat.reduceEqDiff, false_and]

/-- The node can pay, or is not asked to; its class cannot. -/
theorem shpPolice_tokens (hnode : NodeTested c u → 256 * len ≤ credited node u) (hclass : ClassTested c u)
    (hpoor : u.tok.getD (8 + c) 0 < 256 * len) : shpPolice node c len u =
    (⟨shTokens, 0, 0, credited node u / 256⟩, (shapeStored node (credited node u) u).inc (F.SHP_CNT_k_COUNT 6)) := by
  have hpass := pays_of_imp hnode
  rw [shpPolice]
  simp only [serRead_storage hs, shapeAt_eq, nodeTokens_eq, nodeTest_eq, classTest_eq, hpass, decide_eq_true hclass, State.tokens,
    decide_eq_true hpoor, writeShape hs, Bool.and_true, Bool.false_eq_true, if_true, if_false, shPoliced, shTokens, shDone,
    Nat.reduceEqDiff, false_and]

/-- Node and class pay, each that is asked to. -/
theorem shpPolice_passes (hnode : NodeTested c u → 256 * len ≤ credited node u)
    (hclass : ClassTested c u → 256 * len ≤ u.tok.getD (8 + c) 0) : shpPolice node c len u =
    (⟨shDone, 0, 0, nodeLeft node c len u / 256⟩,
      if ClassTested c u then setTokens (8 + c) (u.tok.getD (8 + c) 0 - 256 * len) (shapeStored node (nodeLeft node c len u) u)
      else shapeStored node (nodeLeft node c len u) u) := by
  have hpass := pays_of_imp hnode
  have hpays := pays_of_imp hclass
  have htok (left : Nat) : (shapeStored node left u).tok = u.tok := poke_tok u _ _
  rw [shpPolice, nodeLeft]
  simp only [serRead_storage hs, shapeAt_eq, nodeTokens_eq, nodeTest_eq, classTest_eq, hpass, hpays, State.tokens, writeShape hs,
    Bool.false_eq_true, if_false, shPoliced, shTokens, shDone, true_and, decide_eq_true_eq, htok, OfNat.one_ne_ofNat]

end

/-- SHAPE holds the tokens left and the present ASN. -/
theorem ran_shapeStored (hs : Storage (u.ledger node) 256 u) (hoffs : ∀ o ∈ offs, ShpShown o) (left : Nat) :
    Ran offs [(shapeAt node u + 3, leBytes 5 u.tally.asn), (shapeAt node u, leBytes 3 left)] u (shapeStored node left u) := by
  have hopen : Open (shapeAt node u) (leBytes 3 left ++ leBytes 5 u.tally.asn).length u :=
    open_part (open_ledger hs (k := 240) (m := 8) (by decide) (by decide)) (by simp [shapeAt])
  have hran := ((Ran.refl hoffs).serWrite (m := Master.unit) hopen).split
  rwa [writeShape hs, length_leBytes] at hran

/-- What every POLICE leaves of SHAPE, and that of the store it changes no more. -/
structure PoliceEnded (a : ShpAnswer) (node c left j off : Nat) (offs toks : List Nat) (u t : State) : Prop where
  ends : ShpEnds a.status a.count a.head a.ntok (8 + c) j off u t
  asn : num (shapeAt node u + 3) 5 t = u.tally.asn
  left : left < 2 ^ 24 → num (shapeAt node u) 3 t = left
  tok : t.tok = toks
  only : ShpOnly offs j off (fun a => ¬Apart (shapeAt node u) 8 a 1) u t

theorem shpServe_police {a : ShpAnswer} {w : State} (hentry : ShpEntry 4 c node len j off u) (hc : c < 8)
    (hasn : u.tally.asn < 2 ^ 40) (hrun : shpPolice node c len u = (a, w)) (ha : a.status ≠ shBadop)
    (hran : Ran offs [(shapeAt node u + 3, leBytes 5 u.tally.asn), (shapeAt node u, leBytes 3 left)] u w) :
    ShpEnded a (8 + c) j off offs [(shapeAt node u + 3, leBytes 5 u.tally.asn), (shapeAt node u, leBytes 3 left)] u w
      (shpServe 4 u) ∧ PoliceEnded a node c left j off offs w.tok u (shpServe 4 u) := by
  obtain ⟨-, hoff⟩ := node_of_entry hentry
  have hserve := shpRun_entry hentry
  rw [if_pos rfl, Nat.mod_eq_of_lt hc, hrun] at hserve
  have hclass : (c % 8 + if 4 = 4 then 8 else 0) = 8 + c := by
    rw [if_pos rfl]
    omega
  have hended := shpServe_ended hentry hclass hserve hran ha
  have hpair : [(shapeAt node u + 3, leBytes 5 u.tally.asn), (shapeAt node u, leBytes 3 left)].Pairwise
      fun p q => Apart p.1 p.2.length q.1 q.2.length := by
    simp
    omega
  have hshape : Apart (off + 16) 16 (shapeAt node u) 8 := by
    unfold shapeAt
    omega
  refine ⟨hended, hended.ends, ?_, fun hleft => ?_, hended.tok, hended.only _ fun x hx => ?_⟩
  · exact (hended.num_written hran hpair (by omega) (by simp)).trans (Nat.mod_eq_of_lt hasn)
  · exact (hended.num_written hran hpair (by omega) (by simp)).trans (Nat.mod_eq_of_lt hleft)
  · have hapart := not_not.mp hx
    simp
    omega

section
variable (hentry : ShpEntry 4 c node len j off u) (hc : c < 8) (hasn : u.tally.asn < 2 ^ 40)
include hentry hc hasn

/-- A POLICE that is refused counts the refusal and leaves the node its credit. -/
theorem police_refused {st k : Nat} (hst : st ≠ shBadop) (hk : k < 8) (hrun : shpPolice node c len u =
      (⟨st, 0, 0, credited node u / 256⟩, (shapeStored node (credited node u) u).inc (F.SHP_CNT_k_COUNT k))) :
    ShpCount k u (shpServe 4 u) ∧ PoliceEnded ⟨st, 0, 0, credited node u / 256⟩ node c (credited node u) j off
      [R.SHP_CNT_k k] u.tok u (shpServe 4 u) := by
  obtain ⟨hstorage, -⟩ := node_of_entry hentry
  have hshown : ∀ o ∈ [R.SHP_CNT_k k], ShpShown o := by
    simp only [List.mem_singleton, forall_eq, ShpShown, R.SHP_CNT_k]
    omega
  have hran := (ran_shapeStored hstorage hshown (credited node u)).inc (f := F.SHP_CNT_k_COUNT k) List.mem_cons_self
  obtain ⟨hended, hpolice⟩ := shpServe_police hentry hc hasn hrun hst hran
  refine ⟨hended.count hk (poke_get u _ _ _), hpolice.ends, hpolice.asn, hpolice.left, ?_, hpolice.only⟩
  rw [hpolice.tok, inc_tok, shapeStored, poke_tok]

theorem police_passes (hnode : NodeTested c u → 256 * len ≤ credited node u)
    (hclass : ClassTested c u → 256 * len ≤ u.tok.getD (8 + c) 0) :
    PoliceEnded ⟨shDone, 0, 0, nodeLeft node c len u / 256⟩ node c (nodeLeft node c len u) j off [R.SHP_TOK_n (8 + c)]
      (if ClassTested c u then u.tok.set (8 + c) (u.tok.getD (8 + c) 0 - 256 * len) else u.tok) u (shpServe 4 u) := by
  obtain ⟨hstorage, -⟩ := node_of_entry hentry
  have hshown : ∀ o ∈ [R.SHP_TOK_n (8 + c)], ShpShown o := by
    simp only [List.mem_singleton, forall_eq, ShpShown, R.SHP_TOK_n]
    omega
  have hrun := shpPolice_passes hstorage hnode hclass
  have hstored := ran_shapeStored hstorage hshown (nodeLeft node c len u)
  by_cases hshaped : ClassTested c u
  · rw [if_pos hshaped] at hrun ⊢
    obtain ⟨-, hpolice⟩ := shpServe_police hentry hc hasn hrun (show shDone ≠ shBadop by decide)
      (hstored.setTokens List.mem_cons_self _)
    refine ⟨hpolice.ends, hpolice.asn, hpolice.left, ?_, hpolice.only⟩
    rw [hpolice.tok, tok_setTokens, shapeStored, poke_tok]
  · rw [if_neg hshaped] at hrun ⊢
    obtain ⟨-, hpolice⟩ := shpServe_police hentry hc hasn hrun (show shDone ≠ shBadop by decide) hstored
    exact ⟨hpolice.ends, hpolice.asn, hpolice.left, hpolice.tok.trans (poke_tok u _ _), hpolice.only⟩

end

end

/-! ### The statement -/

/-- Settles O43: each command comes to its operation on what its entry names (`shpRun_entry`), whose outcomes stand above, case
by case; what it leaves shows in the state after its end (`shpServe_ended`). -/
theorem shapingServesTheQueues : Obligations.ShapingServesTheQueues := by
  refine ⟨?enq, ?done, ?head, ?noHead, ?police⟩
  case enq =>
    intro node c e j off tail n hc he20
    exact runs_cmd execEnq (fun _ _ => rfl) (fun _ _ => rfl) fun u ⟨hentry, hq, he, hnode, htail⟩ =>
      ⟨fun hfree => enq_appends hentry hc he20 hq he hnode hfree htail, enq_full hentry hc hq he hnode⟩
  case done =>
    intro node c j off tail n hc
    exact runs_cmd execShpDone (fun _ _ => rfl) (fun _ _ => rfl) fun u ⟨hentry, hq, htail, hhead⟩ =>
      ⟨done_empty hentry hc hq, fun hn => done_removes hentry hc hq hn (htail hn) fun hmore => (hhead hmore).1⟩
  case head =>
    intro node c phy start span j off tail n ack hc hphy hspan hspan' hstart
    refine runs_cmd execShpAdmit (fun _ _ => rfl) (fun _ _ => rfl) fun u ⟨hentry, hq, hn, hheld, htail, hhead⟩ => ?_
    obtain ⟨hstorage, -⟩ := node_of_entry hentry
    obtain ⟨hfl, hfields⟩ := admission_fields (ack := ack) hc hphy hspan hspan' hstart
    obtain ⟨hphyField, hackField, hstartField, hspanField⟩ := hfields
    have hrun := shpRun_admission hentry
    rw [hfl, hphyField, hackField, hstartField, hspanField,
      shpAdmit_head hstorage hq hn htail hhead hheld hphy rfl rfl rfl] at hrun
    intro h len stop fitsCell pays
    refine ⟨fun hcell => ?_, fun hcell hgate => ?_, fun hcell hgate hpoor => ?_, fun hcell hgate hpays => ?_⟩
    · rw [if_pos hcell] at hrun
      exact admission_refused hentry hfl (by decide) (by decide) hrun
    · rw [if_neg (not_not.mpr hcell), if_pos hgate] at hrun
      exact admission_refused hentry hfl (by decide) (by decide) hrun
    · rw [if_neg (not_not.mpr hcell), if_neg (not_not.mpr hgate), if_pos hpoor] at hrun
      exact admission_refused hentry hfl (by decide) (by decide) hrun
    · rw [if_neg (not_not.mpr hcell), if_neg (not_not.mpr hgate), if_neg (not_not.mpr hpays)] at hrun
      exact admission_passes hentry hfl hc hrun
  case noHead =>
    intro node c fl arg j off tail n hfl
    exact runs_cmd execShpAdmit (fun _ _ => rfl) (fun _ _ => rfl) fun u ⟨hentry, hq, hhead⟩ =>
      ⟨admission_empty hentry hfl hq, fun hn =>
        have ⟨htail, hheld⟩ := hhead hn
        admission_held hentry hfl hq hn htail hheld⟩
  case police =>
    intro node c len j off hc _
    refine runs_cmd execPolice (fun _ _ => rfl) (fun _ _ => rfl) fun u ⟨hentry, hasn⟩ => ?_
    obtain ⟨hstorage, -⟩ := node_of_entry hentry
    intro at_ full tok tested shaped nodePays classPays left
    by_cases hnode : nodePays
    · by_cases hclass : classPays
      · have hleft : left = nodeLeft node c len u := by
          by_cases htested : tested
          · exact (if_pos ⟨hnode, hclass, htested⟩).trans (if_pos htested).symm
          · exact (if_neg fun ⟨_, _, h⟩ => htested h).trans (if_neg htested).symm
        have hpolice := police_passes hentry hc hasn hnode hclass
        rw [hleft]
        exact ⟨hpolice.asn, hpolice.left, fun _ => ⟨hpolice.ends, hpolice.tok, hpolice.only⟩, fun h => absurd hnode h,
          fun _ h => absurd hclass h⟩
      · have hleft : left = credited node u := if_neg fun ⟨_, h, _⟩ => hclass h
        obtain ⟨hshaped, hpoor⟩ := Classical.not_imp.mp hclass
        obtain ⟨hcount, hpolice⟩ := police_refused hentry hc hasn (by decide) (by decide)
          (shpPolice_tokens hstorage hnode hshaped (not_le.mp hpoor))
        rw [hleft]
        exact ⟨hpolice.asn, hpolice.left, fun ⟨_, h⟩ => absurd h hclass, fun h => absurd hnode h,
          fun _ _ => ⟨hpolice.ends, hcount, hpolice.tok, hpolice.only⟩⟩
    · have hleft : left = credited node u := if_neg fun ⟨h, _⟩ => hnode h
      obtain ⟨htested, hpoor⟩ := Classical.not_imp.mp hnode
      obtain ⟨hcount, hpolice⟩ := police_refused hentry hc hasn (by decide) (by decide)
        (shpPolice_policed hstorage htested (not_le.mp hpoor))
      rw [hleft]
      exact ⟨hpolice.asn, hpolice.left, fun ⟨h, _⟩ => absurd h hnode,
        fun _ => ⟨hpolice.ends, hcount, hpolice.tok, hpolice.only⟩, fun h => absurd h hnode⟩

end Sys2Proof.Proofs
